-- ==== Sys2Proof/Word.lean ====
section
/-! DEFINITION. The plain word types of the model. A register that the manual numbers and masks is a bit vector;
a count, an index or a dictionary value is a natural number, bounded by the operation that writes it. -/

namespace Sys2Proof

/-- One byte, as the memories and records of the module hold it. -/
abbrev Byte := BitVec 8

/-- A 64-bit register: a word-cell register, a crossing register, a probe latch. -/
abbrev Word64 := BitVec 64

end Sys2Proof
end

