-- ==== Sys2Proof/Payload.lean ====
section
/-! DEFINITION. The operands of the commands that carry more than numbers: what a frame, a record or a measurement brings
to the block from outside. The outcome of a cryptographic check (a tag, a signature, a digest) is part of the operand that
is checked, since the spec names the algorithm and the key stays outside the model. -/

namespace Sys2Proof

/-- One SDO service step (R34). A segmented or block transfer is a begin and an end; an expedited one is a single step.
The entry is named by index × 256 + sub-index. -/
inductive SdoOp where
  | upload (key : Nat)
  | download (key : Nat) (data : List Byte)
  | beginUpload (key : Nat)
  | beginDownload (key : Nat)
  | endTransfer (data : List Byte)
  | abort
deriving DecidableEq, Repr

/-- One reading of every sensor of Table 2-3, as raw 16-bit words in sub-index order: 0x2F10:01-1E and 0x2F11:01-05. -/
structure SensorSample where
  temps : List Nat
  supply : List Nat
deriving DecidableEq, Repr

/-- The firmware image that lies in the scratchpad (R46), as its header gives it. -/
structure FirmwareImage where
  version : Nat
  security : Nat
  length : Nat
  digest : Nat
deriving DecidableEq, Repr

/-- The verdicts on a firmware image (R47): its digest and its signature. -/
structure FirmwareChecks where
  digestOk : Bool
  signatureOk : Bool
deriving DecidableEq, Repr

/-- What an access asks for (R460): a read, a write, LR, SC or AMO. -/
inductive AccessOp where
  | read | write | lr | sc | amo
deriving DecidableEq, Repr

/-- The access needs R; it needs W; it needs A. -/
def AccessOp.reads : AccessOp → Bool
  | .read => true
  | .write => false
  | .lr => true
  | .sc => false
  | .amo => true

def AccessOp.writes : AccessOp → Bool
  | .read => false
  | .write => true
  | .lr => false
  | .sc => true
  | .amo => true

def AccessOp.atomic : AccessOp → Bool
  | .read => false
  | .write => false
  | .lr => true
  | .sc => true
  | .amo => true

/-- A system-class access (R459): requester index of Table 19-5, what it asks for, its address and its bytes (of a read, only
their number counts; of an AMO, they are those that it stores). `tagOk` is the verdict of the tag check of a control line (R469). -/
structure SysAccess where
  req : Nat
  op : AccessOp
  addr : Nat
  data : List Byte
  tagOk : Bool
deriving DecidableEq, Repr

/-- An access through the upper half of an E-die window (R155, R157). -/
inductive MemOp where
  | read (length : Nat)
  | write (data : List Byte)
deriving DecidableEq, Repr

/-- Physical lanes of die-link bundles: bundle and lane. -/
abbrev LaneList := List (Nat × Nat)

/-- What a march found (R158, R164): failing rows as (die × 1,536 + bank, row), banks with a failing spare row in use,
failing HBM lines as (stack, line address), and its run time in µs. -/
structure MarchResult where
  rows : List (Nat × Nat)
  badSpares : List Nat
  lines : List (Nat × Nat)
  duration : Nat
deriving DecidableEq, Repr

/-- A stream frame (R256): its 32 header bytes, its payload as it travels, and the 32 bytes of its frame end. -/
structure StreamFrame where
  header : List Byte
  payload : List Byte
  frameEnd : List Byte
deriving DecidableEq, Repr

/-- A rising edge of SS_CLK or PS_CLK, or a byte that the load DMA reads (R252, R255): whether SS_CS_N or PS_VALID_N is low, or the
function has bus mastering enabled; the data lands, or the byte; whether another module holds PS_WAIT_N low; and the half bytes that
the hub has taken from the receive buffer since the edge before. -/
structure PortEdge where
  enabled : Bool
  data : Nat
  busWait : Bool
  drained : Nat
deriving DecidableEq, Repr

/-- Upsets: each the number of a word or register, and the bits of it that flip. -/
abbrev BitFlips := List (Nat × Nat)

/-- A frame group as the fixer finds it (R280, R285): its code in Table 11-1, E-die, tile, and step, cluster or engine; the upsets
that have struck it since it was last checked, each a word index of the group and the bits that flip (a tier word is 64 bits with its
parity above them); and the upsets that strike it again between the rewriting of a repair and its read-back. -/
structure FrameGroup where
  kind : Nat
  die : Nat
  tile : Nat
  item : Nat
  flips : BitFlips
  stuck : BitFlips
deriving DecidableEq, Repr

/-- A write to a CSR of a core by its software: the mode it runs in, the CSR's number and the value that the CSR takes. -/
structure CsrWrite where
  priv : Nat
  csr : Nat
  value : Nat
deriving DecidableEq, Repr

/-- One CSR instruction on an operation CSR (R299): the CSR writes that the core has executed since its last one, in order; its privilege
(3 M, 1 S, 0 U), whether it is CSRRW, and rs1. -/
structure CsrUse where
  before : List CsrWrite
  priv : Nat
  csrrw : Bool
  operand : Nat
deriving DecidableEq, Repr

/-- A ring packet (R325): its 64-bit header, and in its payload what a request asks for, the address and the bytes that it names, and
the data that it carries. Its source forms the check byte. [DESIGN CHOICE, unsafe: log 48] -/
structure RingPacket where
  header : Nat
  op : AccessOp
  address : Nat
  size : Nat
  data : Nat
deriving DecidableEq, Repr

/-- A ring packet at a stop, and the bits that its header and its check byte show wrong there (R326). -/
structure RingArrival where
  packet : RingPacket
  flips : Nat
deriving DecidableEq, Repr

/-- A Sync, in ps as the ports take it (R402): it leaves the master and arrives here. -/
structure PtpSync where
  sent : Int
  received : Int
deriving DecidableEq, Repr

/-- A delay measurement, in ps as the ports take it (R402): the request leaves here and arrives at the other end; the peer's response
leaves there and arrives here (peer-to-peer only). -/
structure PtpDelay where
  requestSent : Int
  requestReceived : Int
  responseSent : Int
  responseReceived : Int
deriving DecidableEq, Repr

/-- The stamps of one Sync exchange. -/
structure PtpStamps where
  syncSent : Int
  syncReceived : Int
  requestSent : Int
  requestReceived : Int
  responseSent : Int
  responseReceived : Int
deriving DecidableEq, Repr

/-- An Announce message (R401): its domain number, its transport (Table 16-2), and the rank of the master that it offers, lower being
better. -/
structure Announce where
  domain : Nat
  transport : Nat
  rank : Nat
deriving DecidableEq, Repr

/-- An access by the guest die (R346): what it asks for, its guest address and its bytes, as in `SysAccess`. -/
structure GuestAccess where
  op : AccessOp
  addr : Nat
  data : List Byte
deriving DecidableEq, Repr

/-- The time over which a guest power is averaged (R349). -/
inductive PowerSpan where
  | tenMilliseconds | oneMillisecond | tenMicroseconds
deriving DecidableEq, Repr

/-- What a core's trace source observes (R377, R379). Privileges are 3 M, 1 S, 0 U. -/
inductive TraceEvent where
  /-- A conditional branch retires; `first` is the first instruction retired after the core's previous program-flow record. -/
  | branch (priv first : Nat) (taken : Bool)
  | indirect (priv source target : Nat)
  | trap (epc cause newPriv oldPriv tval : Nat)
  /-- A load or store of 2^logSize bytes at a physical address; `atomic` marks LR and a successful SC. -/
  | load (addr logSize : Nat) (atomic : Bool) (value : Nat)
  | store (addr logSize : Nat) (atomic : Bool) (value : Nat)
  | amo (addr logSize old new : Nat)
deriving DecidableEq, Repr

/-- The instruction that a counter overflow samples (R391), and the selector `mhpmeventk` that the core's software has
written (R389); `tagged` says that a tagged instruction has retired since the last sample. -/
structure RetiredInstr where
  selector : Nat
  address : Nat
  encoding : Nat
  latency : Nat
  tagged : Bool
deriving DecidableEq, Repr

/-- A 66-bit block as a lane brings it (R432): its sync header, the 58 scrambled bits that came before its 64, those 64 as they came, the
first in bit 0 of each, and how many codewords of rate 4 were corrected since the block before. -/
structure WireBlock where
  header : Nat
  before : Nat
  bits : Nat
  corrected : Nat
deriving DecidableEq, Repr

/-- A block on a lane. -/
structure LaneWire where
  lane : Nat
  block : WireBlock
deriving DecidableEq, Repr

/-- The fill in blocks of a pinned lane's elastic buffer, found in a step (R439). -/
structure BufferFind where
  fill : Nat
  atStep : Nat
deriving DecidableEq, Repr

/-- A write of a register of BAR4 (R445). -/
structure BaseWrite where
  offset : Nat
  value : Nat
deriving DecidableEq, Repr

/-- How a lane's bring-up ended (R435, R438, R470): the rate code reached, none where the 2.5 Gb/s stage failed; the stage that
failed; the round trip in ps that stage 5 measured where it pinned the lane, and the depth in blocks at which it pinned the elastic
buffer; the verdict on the check group; invalid headers of the last test; control blocks discarded and codewords corrected meanwhile. `edges` is the count of reference edges that stage 5 has aligned with the far end
(R129). -/
structure BringUpResult where
  rate : Option Nat
  failedStage : Option Nat
  roundTrip : Option Nat
  depth : Nat
  edges : Option Nat
  keyOk : Bool
  headerErrors : Nat
  discarded : Nat
  corrected : Nat
deriving DecidableEq, Repr

/-- What a domain peer tells (R128 to R130, R197): the point of a stall, a stop, a SYNC vote of scope 1 or a demand is given as
cycle and step; a start names the count of reference edges and the target cycle of a Step (R129, R202); `latency` says whether a
lane of the peer has a native latency above its Λ. -/
inductive Notice where
  | stall (cycle slot : Nat)
  | release (cycle slot : Nat)
  | stop (cycle step : Nat)
  | vote (event cycle step : Nat)
  | point (p cycle step : Nat)
  | start (edge : Nat) (target : Option Nat)
  | latency (bad : Bool)
  | held (member : Nat)
deriving DecidableEq, Repr

/-- The boundary-scan cells of a pin (R456): its driver's enable and its value. -/
structure ScanCell where
  drive : Bool
  value : Bool
deriving DecidableEq, Repr

/-- Instructions of the debug port (R456, R457). -/
inductive TapInstr where
  | bypass | idcode | dbgacc | samplePreload | extest | scan
deriving DecidableEq, Repr

/-- An instruction shifted into the debug port, with the boundary-scan cells shifted in for it. -/
structure TapScan where
  instr : TapInstr
  cells : List ScanCell
deriving DecidableEq, Repr

/-- The straps sampled at power-on (R35, R254, R411, R477): CAN_ID, BV_A to BV_F (bit b for 3.3 V), PSEL, and whether RSTPROF is high. -/
structure Straps where
  nodeId : Nat
  voltage : Nat
  select : Nat
  fullProfile : Bool
deriving DecidableEq, Repr

/-- What surrounds the starts that follow a power-on: the chassis reference against the oscillator in ppb, none where it is missing
(R394); whether the random source passes its health tests (R466); and the bundle lanes that show errors when every bundle trains
(R335). -/
structure StartEnvironment where
  chassis : Option Int
  entropyOk : Bool
  failing : LaneList
deriving DecidableEq, Repr

/-- A clock that fails or locks again (R334, R485): loop of Table 13-5 of a die (8 for the hub), the reference, or the 32.768 kHz
oscillator. -/
inductive ClockSource where
  | loop (die loop : Nat)
  | reference
  | oscillator
deriving DecidableEq, Repr

end Sys2Proof
end

