-- ==== Sys2Proof/Syntax.lean ====
section
/-! DEFINITION. The commands of the block: one constructor per row of spec/opcode_table.json, with the row's operands. A
`req` operand is the requester's index of Table 19-5; a `key` is index × 256 + sub-index of a dictionary entry. -/

namespace Sys2Proof

/-- A command to the block, or an event at it. -/
inductive Instr where
  /-- DICTIONARY_WRITE (R26): A write to a dictionary entry that has no row of its own is accepted, or is refused with one fault logged. -/
  | dictionaryWrite (req : Nat) (offset : Nat) (width : Nat) (value : Nat)
  /-- SDO_TRANSFER (R34): An SDO transfer over CAN reads or writes an entry atomically, and a mirror write to the same entry waits for it to end. -/
  | sdoTransfer (op : SdoOp)
  /-- RPDO_RECEIVED (R36): A received RPDO writes its mapped mirrored entries. -/
  | rpdoReceived (n : Nat) (data : Nat)
  /-- NMT_STOP (R37): NMT Stop ends PDO and SDO service; heartbeat and NMT continue. -/
  | nmtStop (node : Nat)
  /-- NMT_START (R37): NMT Start acts as CiA 301 states. -/
  | nmtStart (node : Nat)
  /-- NMT_ENTER_PREOPERATIONAL (R37): NMT Enter pre-operational acts as CiA 301 states. -/
  | nmtEnterPreoperational (node : Nat)
  /-- NMT_RESET_COMMUNICATION (R37): NMT Reset communication reloads entries 0x1000 to 0x1FFF and restarts the CAN layer with the CAN settings. -/
  | nmtResetCommunication (node : Nat)
  /-- NMT_RESET_NODE (R37): NMT Reset node is a software reset request, or is ignored and logged under MINIMAL or during a device halt. -/
  | nmtResetNode (node : Nat)
  /-- HEARTBEAT (R37): On expiry of the heartbeat period the module sends a heartbeat. -/
  | heartbeat
  /-- FAST_CLOCK_STOP (R40): After 10 ms without an access in DORMANT or STANDBY the fast clock stops. -/
  | fastClockStop
  /-- SENSOR_UPDATE (R41): At each sensor period the controller updates the sensor values and acts on the thresholds. -/
  | sensorUpdate (sample : SensorSample)
  /-- STORE_PARAMETERS (R28): Writing the save signature to 0x1010:01 saves every persistent entry for the next start. -/
  | storeParameters (req : Nat)
  /-- RESTORE_DEFAULTS (R28): Writing the load signature to 0x1011:01 discards the saved values from the next start. -/
  | restoreDefaults (req : Nat)
  /-- LOG_READ_SELECT (R45): Writing a sequence number to 0x2F20:03 places that log entry's four words in 0x2F20:04 to 0x2F20:07. -/
  | logReadSelect (req : Nat) (seq : Nat)
  /-- FIRMWARE_CHECK_AND_WRITE (R47): The check-and-write command verifies the firmware image and writes it to the inactive slot. -/
  | firmwareCheckAndWrite (req : Nat) (image : FirmwareImage) (checks : FirmwareChecks)
  /-- FIRMWARE_WRITE_COMPLETE (R47): The slot write and its read-back end, and the status becomes done or failed. -/
  | firmwareWriteComplete (readBackOk : Bool)
  /-- FIRMWARE_ACTIVATE (R48): The activate command marks the inactive slot as preferred for the next start. -/
  | firmwareActivate (req : Nat)
  /-- START_ATTEMPT (R51): The boot ROM loads a slot, checks its signature and rollback rule, and enters the firmware. -/
  | startAttempt (signatureOk : Bool)
  /-- START_RETRY_WAIT_EXPIRY (R51): The wait after a failed start attempt ends, and the boot ROM tries the other slot. -/
  | startRetryWaitExpiry
  /-- FIRMWARE_START_COMPLETE (R50): The firmware reports start-complete to the boot ROM, and the start succeeds. -/
  | firmwareStartComplete
  /-- FIRMWARE_START_TIMEOUT (R50): No start-complete arrives within 2 s, and the attempt fails. -/
  | firmwareStartTimeout
  /-- MGMT_WATCHDOG_EXPIRY (R50): The controller watchdog expires within 10 s of entry, and the attempt counts as failed. -/
  | mgmtWatchdogExpiry
  /-- NOP (R90): A nib NOP writes nothing and outputs 0. -/
  | nop (atStep : Nat) (nib : Nat)
  /-- EVAL (R90): The nib evaluates four operands and writes the value to its rolling address and output bit. -/
  | eval (atStep : Nat) (nib : Nat)
  /-- SEND (R90): The nib evaluates four operands and drives the value on its output bit only. -/
  | send (atStep : Nat) (nib : Nat)
  /-- STORE (R91): The nib evaluates three operands and writes the value to a state-file bit, its rolling address and its output bit. -/
  | store (atStep : Nat) (nib : Nat)
  /-- PROBE (R92): The nib evaluates three operands and also writes the value to a tile probe lane. -/
  | probe (atStep : Nat) (nib : Nat)
  /-- SYNC (R93): A SYNC with value 1 casts a stop vote with its event number and scope. -/
  | sync (atStep : Nat) (nib : Nat)
  /-- ENQ (R96): The ENQ group of a descriptor forms one request, and the port issues it after P2. -/
  | enq (atStep : Nat) (port : Nat) (desc : Nat)
  /-- WAIT (R100): WAITs read the head answer of a descriptor, write it out, and the port removes the head entry. -/
  | wait (atStep : Nat) (port : Nat) (desc : Nat)
  /-- INTERCONNECT_ARRIVAL (R107): A routed value arrives in P3 of step s + t − 1 and sets its arrival-valid bit. -/
  | interconnectArrival (atStep : Nat) (nib : Nat) (rx : Nat) (lane : Option Bool)
  /-- STAGING_SAMPLE (R126): At P0 of step L − 4 the staging register is sampled into the hold register. -/
  | stagingSample
  /-- SEGMENT_TOKEN_CHECK (R173): At the end of each 16-step segment each tile compares its token count with its budget and logs any overdraw. -/
  | segmentTokenCheck (segment : Nat)
  /-- WORD_CELL_TOKEN_INTERVAL (R174): At the end of each 10 ns interval each tile compares its word-cell tokens with W[u]. -/
  | wordCellTokenInterval
  /-- CYCLE_BOUNDARY (R106): At the end of step L − 1 the module clears arrival bits, copies the latches, checks stop causes and advances the cycle count. -/
  | cycleBoundary
  /-- CYCLE_LIMIT_REACHED (R202): The boundary that ends the Step's target cycle stops the array for HOLD. -/
  | cycleLimitReached
  /-- CROSSING_LATCH_LOAD (R125): 4 step periods after a boundary the word-cell side of the crossing and probe latches is loaded. -/
  | crossingLatchLoad
  /-- WAIT_DECISION_POINT (R117): At step w − D each port checks the answers its WAITs will read, and raises a stall notice if any is absent. -/
  | waitDecisionPoint (slot : Nat)
  /-- DESIGN_ANSWER_ARRIVAL (R133): A read answer reaches its issuing port, and the port may raise the stall release. -/
  | designAnswerArrival (port : Nat) (desc : Nat) (latencyNs : Nat)
  /-- WRITE_ACK_ARRIVAL (R148): A write acknowledgement removes the write entry from its queue. -/
  | writeAckArrival (port : Nat) (desc : Nat) (latencyNs : Nat)
  /-- STALL_RESUME (R117): D step periods after the last absent answer arrives, the array resumes with P0 of the wait slot. -/
  | stallResume (periods : Nat)
  /-- STALL_TIMEOUT (R119): A stall that reaches StallLimit gets all-zero answers, logs 0x4108, resumes and stops the array. -/
  | stallTimeout
  /-- WRITE_STALL_TIMEOUT (R150): A write stall that reaches StallLimit logs 0x5104, and the array stays frozen. -/
  | writeStallTimeout
  /-- MEMORY_REQUEST_RECEIVED (R144): An HBM or DDR5 controller performs a request in port order, serving the design class ahead of the system class. -/
  | memoryRequestReceived (port : Nat)
  /-- DDR5_RETRAINING (R153): A DDR5 channel retrains in service after its temperature has changed by 20 °C. -/
  | ddr5Retraining (channel : Nat)
  /-- RUN (R195): The Run command enters RUN without a cycle limit. -/
  | run (req : Nat)
  /-- RUN_AT (R214): The RunAt command arms a start at a global time. -/
  | runAt (req : Nat)
  /-- RUN_AT_FIRE (R214): At D periods before the target edge the armed RunAt issues its internal run command, or fails. -/
  | runAtFire
  /-- DOMAIN_START_EDGE (R129): At the agreed reference edge every domain member begins step 0. -/
  | domainStartEdge
  /-- STEP (R202): The Step command runs CycleLimit cycles and then holds. -/
  | step (req : Nat)
  /-- HOLD (R195): The Hold command raises a holding stop, or enters HOLD from LOADED. -/
  | hold (req : Nat) (atStep : Nat)
  /-- HOLD_REPORT (R200): Once completions, cache write-back and crossing quiesce have ended, the module reports HOLD. -/
  | holdReport
  /-- PARK (R195): The Park command moves from HOLD to LOADED. -/
  | park (req : Nat)
  /-- SERVICE (R195): The Service command enters SERVICE. -/
  | service (req : Nat)
  /-- LEAVE (R195): The Leave command moves from SERVICE to LOADED when an image is committed. -/
  | leave (req : Nat)
  /-- STANDBY (R208): The Standby command saves slot 0 if needed, quiesces the cores and enters STANDBY. -/
  | standby (req : Nat)
  /-- DORMANT (R208): The Dormant command saves slot 0 if needed and enters DORMANT. -/
  | dormant (req : Nat)
  /-- WAKE (R209): The Wake command leaves STANDBY or DORMANT and restores slot 0 where it was saved. -/
  | wake (req : Nat)
  /-- CANCEL (R195): The Cancel command disarms a RunAt. -/
  | cancel (req : Nat)
  /-- ROOM_RESUME (R199): Once every room source has room again, the module resumes as if given a run command. -/
  | roomResume
  /-- SAVE (R205): The Save command writes the design state and the chosen arenas into the slot. -/
  | save (req : Nat)
  /-- SAVE_COMPLETE (R208): The contact-sheet save ends, and the status becomes done. -/
  | saveComplete
  /-- RESTORE (R206): The Restore command checks the slot and image, then writes the saved design state. -/
  | restore (req : Nat) (failure : Option Nat)
  /-- RESTORE_COMPLETE (R206): The restore ends in HOLD with DesignStateValid set. -/
  | restoreComplete
  /-- DISCARD (R205): The Discard command empties or releases a slot. -/
  | discard (req : Nat)
  /-- ADOPT (R207): The Adopt command checks BodyLength and marks a slot full. -/
  | adopt (req : Nat)
  /-- SHEET_HEADER_WRITE (R207): A header written to SheetHeader reserves DDR5 for the slot's body. -/
  | sheetHeaderWrite (req : Nat) (header : List Byte)
  /-- MARK_CONTROL_WRITE (R212): A write of MarkControl arms a cycle mark and clears MarkDone. -/
  | markControlWrite (req : Nat) (value : Nat)
  /-- BOUNDARY_RECORD_READ (R211): A read of BoundaryCycleLow latches the rest of the cycle-start record. -/
  | boundaryRecordRead (req : Nat)
  /-- CYCLE_COUNT_READ (R106): A read of CycleCountLow latches the high word into CycleCountHigh. -/
  | cycleCountRead (req : Nat)
  /-- SYSTEM_CLASS_ACCESS (R459): A system-class access is checked against its requester's rights table and reaches its target, or is denied or unmapped. -/
  | systemClassAccess (access : SysAccess)
  /-- APERTURE_WRITE (R80): A write through the nib-state aperture forces state in HOLD, or is refused with 0x5011. -/
  | apertureWrite (req : Nat) (die : Nat) (offset : Nat) (data : List Byte)
  /-- WORD_CELL_RECORD_WRITE (R235): A write to a word-cell record forces a burst-domain cell in HOLD, or is refused with 0x5012. -/
  | wordCellRecordWrite (req : Nat) (die : Nat) (offset : Nat) (data : List Byte)
  /-- DESIGN_MEMORY_WINDOW_ACCESS (R157): An access through the upper window half reaches design memory or a tier page through the remote-data cache. -/
  | designMemoryWindowAccess (req : Nat) (die : Nat) (offset : Nat) (op : MemOp)
  /-- REMOTE_CACHE_FLUSH (R156): Writing 1 to RemoteCacheFlush writes back and invalidates the die's remote-data cache. -/
  | remoteCacheFlush (req : Nat) (die : Nat)
  /-- MARCH_DESTRUCTIVE_ON_DIE (R161): March command 1 runs a destructive march of the on-die banks. -/
  | marchDestructiveOnDie (req : Nat)
  /-- MARCH_DESTRUCTIVE_ALL (R161): March command 2 runs a destructive march of the on-die banks and HBM. -/
  | marchDestructiveAll (req : Nat)
  /-- MARCH_PRESERVING_ON_DIE (R161): March command 3 runs a preserving march of the on-die banks. -/
  | marchPreservingOnDie (req : Nat)
  /-- MARCH_PRESERVING_ALL (R161): March command 4 runs a preserving march of the on-die banks and HBM. -/
  | marchPreservingAll (req : Nat)
  /-- MARCH_COMPLETE (R164): A march ends, remaps failing rows, and records failures. -/
  | marchComplete (result : MarchResult)
  /-- WC_PASS (R219): A word cell executes PASS. -/
  | wcPass (cell : Nat)
  /-- WC_ADD (R219): A word cell executes ADD. -/
  | wcAdd (cell : Nat)
  /-- WC_SUB (R219): A word cell executes SUB. -/
  | wcSub (cell : Nat)
  /-- WC_AND (R219): A word cell executes AND. -/
  | wcAnd (cell : Nat)
  /-- WC_OR (R219): A word cell executes OR. -/
  | wcOr (cell : Nat)
  /-- WC_XOR (R219): A word cell executes XOR. -/
  | wcXor (cell : Nat)
  /-- WC_NOT (R219): A word cell executes NOT. -/
  | wcNot (cell : Nat)
  /-- WC_SHL (R219): A word cell executes SHL. -/
  | wcShl (cell : Nat)
  /-- WC_SHR (R219): A word cell executes SHR. -/
  | wcShr (cell : Nat)
  /-- WC_SAR (R219): A word cell executes SAR. -/
  | wcSar (cell : Nat)
  /-- WC_ROL (R219): A word cell executes ROL. -/
  | wcRol (cell : Nat)
  /-- WC_MULLO (R219): A word cell executes MULLO and draws 6 tokens. -/
  | wcMullo (cell : Nat)
  /-- WC_MULHU (R219): A word cell executes MULHU and draws 6 tokens. -/
  | wcMulhu (cell : Nat)
  /-- WC_MULHS (R219): A word cell executes MULHS and draws 6 tokens. -/
  | wcMulhs (cell : Nat)
  /-- WC_EQ (R219): A word cell executes EQ. -/
  | wcEq (cell : Nat)
  /-- WC_LTU (R219): A word cell executes LTU. -/
  | wcLtu (cell : Nat)
  /-- WC_LTS (R219): A word cell executes LTS. -/
  | wcLts (cell : Nat)
  /-- WC_MINU (R219): A word cell executes MINU. -/
  | wcMinu (cell : Nat)
  /-- WC_MAXU (R219): A word cell executes MAXU. -/
  | wcMaxu (cell : Nat)
  /-- WC_SEL (R219): A word cell executes SEL. -/
  | wcSel (cell : Nat)
  /-- WC_BIT (R219): A word cell executes BIT. -/
  | wcBit (cell : Nat)
  /-- WC_POP (R219): A word cell executes POP. -/
  | wcPop (cell : Nat)
  /-- WC_INC (R219): A word cell executes INC. -/
  | wcInc (cell : Nat)
  /-- WC_NOP (R219): A word cell executes NOP and only sequences. -/
  | wcNop (cell : Nat)
  /-- WC_RESULT_LAND (R220): A word-cell result and flag land λ edges after the entry executed. -/
  | wcResultLand (cell : Nat)
  /-- CROSSING_STROBE_SET (R232): At the second cell-clock edge after a latch load the cell's crossing strobe is set. -/
  | crossingStrobeSet (cell : Nat)
  /-- STAGING_BYTE_WRITE (R233): CrossStage edges after an XW entry, its byte is written to the crossing staging register. -/
  | stagingByteWrite (cell : Nat)
  /-- RELEASE_WRITE_ENABLE (R237): At I/O clock edge 16 of a staged release the write enables turn on. -/
  | releaseWriteEnable
  /-- RELEASE_CLOCK_START (R237): At I/O clock edge 32 the resets deassert and the cell clocks start with PC at 0. -/
  | releaseClockStart
  /-- PROBE_SELECT_WRITE (R239): A new probe select takes effect at the next I/O clock edge. -/
  | probeSelectWrite (req : Nat) (mux : Nat) (value : Nat)
  /-- BRIDGE_BEAT_RECEIVED (R241): A bridge engine takes a beat from its lanes into its receive FIFO, or drops it when the FIFO is full. -/
  | bridgeBeatReceived (engine : Nat) (blocks : List Nat)
  /-- BRIDGE_BEAT_DELIVERED (R241): BridgeRx cycles after the engine takes a beat, it reaches the cells. -/
  | bridgeBeatDelivered (engine : Nat)
  /-- BRIDGE_BEAT_TRANSMITTED (R241): BridgeTx cycles after a push, the beat reaches the lanes. -/
  | bridgeBeatTransmitted (engine : Nat)
  /-- PAUSE_RECEIVED (R441): A received PAUSE stops the named engine from sending data blocks within 200 ns. -/
  | pauseReceived (wire : LaneWire)
  /-- RESUME_RECEIVED (R441): A received RESUME lets the named engine send again. -/
  | resumeReceived (wire : LaneWire)
  /-- CREDIT_RETURN_ARRIVAL (R316): A freed type-1 credit reaches its channel port, which may withdraw its room stop. -/
  | creditReturnArrival (slot : Nat)
  /-- DMA_COMMAND (R255): DmaCommand starts the load DMA reading a stream from host memory. -/
  | dmaCommand (req : Nat) (value : Nat)
  /-- STREAM_HEADER_FRAME (R258): A stream-header frame starts a stream after S1 checks of mode, space, key and cipher. -/
  | streamHeaderFrame (port : Nat) (edges : List PortEdge)
  /-- DATA_FRAME (R261): A data frame is checked, decrypted and tag-checked, and staged at its offset. -/
  | dataFrame (port : Nat) (head : List PortEdge) (body : List PortEdge)
  /-- TRAILER_FRAME (R262): The trailer frame ends the stream; coverage, key digest and signature are checked, then the load checks begin. -/
  | trailerFrame (port : Nat) (head : List PortEdge) (body : List PortEdge)
  /-- LOAD_CHECKS_COMPLETE (R189): The load checks end and either refuse the stream or begin the commit. -/
  | loadChecksComplete (readBackFailure : Option Nat)
  /-- COMMIT_COMPLETE (R269): The commit ends after the staged release, and the module is in LOADED. -/
  | commitComplete
  /-- LOAD_ABORT (R266): Writing 1 to LoadAbort refuses the stream with 0x320A. -/
  | loadAbort (req : Nat)
  /-- STREAM_TIMEOUT (R266): No frame arrives for LoadTimeout, and the stream is refused. -/
  | streamTimeout
  /-- FIXER_GROUP_CHECK (R285): The fixer checks one frame group against its golden signature and repairs it if it differs. -/
  | fixerGroupCheck (group : FrameGroup) (sourceTagOk : Bool)
  /-- PROTECTED_SET_CHECK (R289): Every 100 ms the controller checks the fixer's protected set and resets the fixer on a mismatch. -/
  | protectedSetCheck (flips : BitFlips)
  /-- FIXER_ENABLE_WRITE (R284): A write to FixerEnable turns scrubbing off or on at the end of the current group. -/
  | fixerEnableWrite (req : Nat) (value : Nat)
  /-- CORE_RELEASE_WRITE (R295): Setting bits of CoreRelease releases cores from reset at the start address. -/
  | coreReleaseWrite (req : Nat) (value : Nat)
  /-- HOST_EVENT (R296): Writing bit k of HostEvent raises event line 24 + k on every core. -/
  | hostEvent (req : Nat) (value : Nat)
  /-- CHRECV (R313): chrecv hands out the oldest unreceived visible message. -/
  | chrecv (core : Nat) (csr : CsrUse)
  /-- CHRELEASE (R313): chrelease marks a received entry released and frees entries from the oldest. -/
  | chrelease (core : Nat) (csr : CsrUse)
  /-- CHRESERVE (R313): chreserve takes the next free entry in ring order. -/
  | chreserve (core : Nat) (csr : CsrUse)
  /-- CHPOST (R313): chpost marks a reserved entry posted and makes it visible in reservation order. -/
  | chpost (core : Nat) (csr : CsrUse)
  /-- CHCOUNT (R299): chcount returns the occupied and free entries of a channel. -/
  | chcount (core : Nat) (csr : CsrUse)
  /-- SCHASK (R302): schask applies its disposition and dispatches the best eligible READY thread, or blocks. -/
  | schask (core : Nat) (csr : CsrUse)
  /-- SCHWAIT (R315): schwait blocks the running thread on a channel condition with an optional timeout. -/
  | schwait (core : Nat) (csr : CsrUse)
  /-- SCHDELAY (R308): schdelay makes the running thread DELAYED until a tick or a cycle. -/
  | schdelay (core : Nat) (csr : CsrUse)
  /-- SCHCREATE (R299): schcreate creates a thread with a priority and an affinity. -/
  | schcreate (core : Nat) (csr : CsrUse)
  /-- SCHSET_READY (R299): schset action 0 makes a SUSPENDED thread READY. -/
  | schsetReady (core : Nat) (csr : CsrUse)
  /-- SCHSET_SUSPEND (R299): schset action 1 suspends a thread. -/
  | schsetSuspend (core : Nat) (csr : CsrUse)
  /-- SCHSET_PRIORITY (R303): schset action 2 sets a thread's priority. -/
  | schsetPriority (core : Nat) (csr : CsrUse)
  /-- SCHSET_AFFINITY (R299): schset action 3 sets a thread's affinity. -/
  | schsetAffinity (core : Nat) (csr : CsrUse)
  /-- SCHSET_FREE (R299): schset action 4 frees a thread that is not running. -/
  | schsetFree (core : Nat) (csr : CsrUse)
  /-- SCHSET_STATE (R299): schset action 5 returns a thread's state only. -/
  | schsetState (core : Nat) (csr : CsrUse)
  /-- CHCREATE (R312): chcreate creates a software-to-software channel. -/
  | chcreate (core : Nat) (csr : CsrUse)
  /-- CHDESTROY (R312): chdestroy destroys a run-time channel, discards its messages and wakes its waiters. -/
  | chdestroy (core : Nat) (csr : CsrUse)
  /-- SCHIPI (R296): schipi raises a supervisor software interrupt on the cores of a mask. -/
  | schipi (core : Nat) (csr : CsrUse)
  /-- SCHCUR (R299): schcur returns the core's running thread. -/
  | schcur (core : Nat) (csr : CsrUse)
  /-- CHANNEL_DESTROY (R312): Writing 1 to ChannelDestroy destroys the selected run-time channel. -/
  | channelDestroy (req : Nat)
  /-- TICK (R307): The tick count advances, and due delays and wait timeouts make their threads READY. -/
  | tick
  /-- CORE_LOCKUP (R301): A machine double trap halts the core and logs 0x4140. -/
  | coreLockup (core : Nat) (mepc : Nat) (mcause : Nat)
  /-- RING_PACKET (R324): A ring stop forwards or ejects a packet, checking its header. -/
  | ringPacket (ring : Nat) (stop : Nat) (arrival : RingArrival)
  /-- DOMAIN_WAKE_ANSWER (R332): The woken domain answers, and the stop delivers the held packets. -/
  | domainWakeAnswer (domain : Nat)
  /-- DOMAIN_WAKE_TIMEOUT (R333): A domain that does not answer within 2 µs gets error completions for its held requests. -/
  | domainWakeTimeout (domain : Nat)
  /-- DOMAIN_SLEEP (R332): A controller idle for 10 µs outside RUN enters power-down. -/
  | domainSleep (domain : Nat)
  /-- REQUEST_TIMEOUT (R327): A system-class request unanswered for 100 µs gets an error completion from the hub. -/
  | requestTimeout (tag : Nat)
  /-- DIE_PLL_UNLOCK (R334): A die loop loses lock, logs 0x2201, and is a clock failure. -/
  | diePllUnlock (die : Nat) (loop : Nat)
  /-- LANE_MARGIN_LOW (R336): A die-link lane below LaneMarginLimit for 1 ms is replaced by a spare, or is reported. -/
  | laneMarginLow (bundle : Nat) (lane : Nat)
  /-- DIE_LANE_LOST (R337): A data lane that loses lock reads 0, logs 0x6202 and stops the array. -/
  | dieLaneLost (bundle : Nat) (lane : Nat) (atStep : Nat)
  /-- BUNDLE_RETRAIN (R340): Writing 1 to BundleRetrain in SERVICE trains every bundle again. -/
  | bundleRetrain (req : Nat)
  /-- GUEST_ACCESS (R346): A guest access passes the firewall windows and rate limits, or is denied. -/
  | guestAccess (access : GuestAccess)
  /-- GUEST_APERTURE_READ (R348): A guest read of the channel aperture performs a channel operation on an allowed handle. -/
  | guestApertureRead (address : Nat)
  /-- GUEST_WINDOW_WRITE (R346): A write to a guest window entry is accepted, or refused when it maps outside the allowed regions. -/
  | guestWindowWrite (req : Nat) (window : Nat) (sub : Nat) (value : Nat)
  /-- GUEST_DESCRIPTOR_RECEIVED (R344): The guest's 256-byte descriptor arrives over the sideband. -/
  | guestDescriptorReceived (descriptor : List Byte)
  /-- GUEST_POWER_REPORT (R349): The guest's power report is checked against its limit, and may stop the array or cut power. -/
  | guestPowerReport (span : PowerSpan) (deciwatts : Nat)
  /-- GUEST_POWER_ENABLE_WRITE (R349): A write to GuestPowerEnable switches GUEST_VDD. -/
  | guestPowerEnableWrite (req : Nat) (value : Nat)
  /-- GUEST_SLEEP_REQUEST (R332): The guest requests sleep over the sideband. -/
  | guestSleepRequest
  /-- GUEST_LINK_LOST (R350): The guest link goes down, and outstanding requests get error completions. -/
  | guestLinkLost
  /-- SAMPLER_ARM (R360): SamplerCommand 1 arms a sampler after its checks and bandwidth grant. -/
  | samplerArm (req : Nat) (sampler : Nat)
  /-- SAMPLER_DISARM (R360): SamplerCommand 2 disarms a sampler. -/
  | samplerDisarm (req : Nat) (sampler : Nat)
  /-- SAMPLER_FORCE_TRIGGER (R361): SamplerCommand 3 forces a trigger at the next I/O clock edge. -/
  | samplerForceTrigger (req : Nat) (sampler : Nat)
  /-- TRIGGER_UNIT_FIRE (R356): A trigger unit reaches its Count of qualifying events and fires. -/
  | triggerUnitFire
  /-- HOLDOFF_EXPIRY (R356): A unit's hold-off period ends. -/
  | holdoffExpiry (unit : Nat)
  /-- STREAM_READ_POINTER_WRITE (R364): Software advances StreamReadPointer and frees room in the DDR5 ring. -/
  | streamReadPointerWrite (req : Nat) (sampler : Nat) (value : Nat)
  /-- STREAM_DRAIN (R364): The drain moves samples into the DDR5 ring while it has room, and may withdraw the room stop. -/
  | streamDrain (sampler : Nat)
  /-- TRIGGER_OUTPUT_PULSE_END (R369): A trigger or star output's Width expires, and the output deasserts. -/
  | triggerOutputPulseEnd (output : Nat)
  /-- TRACE_ENABLE_WRITE (R387): A change of TraceEnable starts the sources, or stops them and empties the FIFOs. -/
  | traceEnableWrite (req : Nat) (value : Nat)
  /-- TRACE_RECORD_OFFER (R382): A source offers a trace record to its FIFO, which takes or drops it. -/
  | traceRecordOffer (source : Nat) (record : TraceEvent)
  /-- SYNC_RECORD_PERIOD (R376): SyncPeriod expires, and a Sync record is written. -/
  | syncRecordPeriod
  /-- BLOTTER_READ_POINTER_WRITE (R385): Software moves the blotter read pointer within the unread span. -/
  | blotterReadPointerWrite (req : Nat) (value : Nat)
  /-- CORE_SLEEP (R388): After 128 ns in WFI or schask a core sleeps and offers Sleep records. -/
  | coreSleep (core : Nat)
  /-- CORE_WAKE (R388): A sleeping core wakes and offers Wake records. -/
  | coreWake (core : Nat)
  /-- CORE_COUNTER_OVERFLOW (R390): A core counter wraps, sets its overflow bit, and may notify or sample. -/
  | coreCounterOverflow (core : Nat) (counter : Nat) (retired : RetiredInstr)
  /-- MODULE_COUNTER_WRAP (R392): A module counter wraps and sets its overflow bit. -/
  | moduleCounterWrap (counter : Nat)
  /-- TIME_READ (R397): A read of TimeSecondsLow latches the rest of the time base. -/
  | timeRead (req : Nat)
  /-- PTP_SYNC_RECEIVED (R403): A Sync exchange yields an offset, and the time base is corrected, stepped or locked. -/
  | ptpSyncReceived (port : Nat) (sync : PtpSync) (delay : PtpDelay) (rate : Int)
  /-- PTP_MASTER_LOST (R405): Three Announce intervals without Announce lose the port's master. -/
  | ptpMasterLost (port : Nat)
  /-- HOLDOVER_EXPIRY (R398): Holdover longer than HoldoverLimit makes the time base unlocked. -/
  | holdoverExpiry
  /-- OFFSET_UNLOCK_EXPIRY (R398): An offset above UnlockThreshold for 1 s makes the time base unlocked. -/
  | offsetUnlockExpiry
  /-- SET_TIME_COMMAND (R400): SetTimeCommand steps the time base to the set value. -/
  | setTimeCommand (req : Nat)
  /-- REFERENCE_LOST (R395): The chassis reference is lost or out of tolerance, which is a clock failure. -/
  | referenceLost
  /-- PULSE_ARM (R407): Setting the arm bit of PulseControl arms a generator or refuses it. -/
  | pulseArm (req : Nat) (generator : Nat) (value : Nat)
  /-- PULSE_STOP (R407): Clearing the arm bit stops the generator at once. -/
  | pulseStop (req : Nat) (generator : Nat) (value : Nat)
  /-- PULSE_LEADING_EDGE (R408): At a leading target the output asserts, event line 8 + g rises and the edge is recorded. -/
  | pulseLeadingEdge (generator : Nat)
  /-- PULSE_TRAILING_EDGE (R406): At a trailing target the output returns inactive, and the generator may become done. -/
  | pulseTrailingEdge (generator : Nat)
  /-- PIN_CONFIG_WRITE (R413): A write to PinConfig sets the pin's configuration and may switch the pin. -/
  | pinConfigWrite (req : Nat) (pin : Nat) (value : Nat)
  /-- PIN_RELEASE (R421): A write to PinRelease releases held or safe pins. -/
  | pinRelease (req : Nat) (bank : Nat) (value : Nat)
  /-- SAFE_COMMAND (R422): Writing 1 to SafeCommand applies SafeState to every pin. -/
  | safeCommand (req : Nat)
  /-- SAFE_REQ (R422): SAFE_REQ high applies SafeState to every pin. -/
  | safeReq (level : Bool)
  /-- PIN_INPUT_CHANGE (R418): A pin's filtered level changes and feeds its input function, pattern units and counter. -/
  | pinInputChange (pin : Nat) (levels : List Bool)
  /-- WAKE_PIN_EDGE (R419): A rising edge of WAKE0 or WAKE1 in STANDBY or DORMANT acts as Wake. -/
  | wakePinEdge (pin : Nat)
  /-- EDGE_COUNT_CLEAR (R428): Writing 0 to an edge counter clears it and its sticky bit. -/
  | edgeCountClear (req : Nat) (counter : Nat)
  /-- LANE_BRING_UP (R435): LaneCommand 1 brings a lane up through the stages of Table 18-3. -/
  | laneBringUp (req : Nat) (lane : Nat)
  /-- LANE_BRING_UP_DONE (R435): A lane's bring-up ends up at a rate, or down with 0x8101. -/
  | laneBringUpDone (lane : Nat) (result : BringUpResult)
  /-- LANE_TRAIN_RETRY (R435): Every 100 ms a down lane is brought up again. -/
  | laneTrainRetry (lane : Nat)
  /-- LANE_BIT_SLIP (R436): A write to LaneBitSlip shifts the block boundary by one bit. -/
  | laneBitSlip (req : Nat) (lane : Nat) (invalidHeaders : Nat)
  /-- LANE_LOST (R437): A lane that loses block lock or signal is lost, logs 0x8102 and is brought up again. -/
  | laneLost (lane : Nat)
  /-- DOMAIN_LINK_LOST (R131): A domain lane loses its pinned latency or lock, logs 0x6210 and stops every member. -/
  | domainLinkLost (lane : Nat) (find : BufferFind)
  /-- LANE_NOTICE_RECEIVED (R130): A NOTICE block brings a peer's stall, release, stop or point demand. -/
  | laneNoticeReceived (lane : Nat) (notice : Notice)
  /-- LANE_DARK_COMMAND (R442): LaneCommand 2 sends DARK and puts a lane in the dark state. -/
  | laneDarkCommand (req : Nat) (lane : Nat)
  /-- DARK_BLOCK_RECEIVED (R443): A received DARK block puts a lane with use none dark, or is answered with NEG. -/
  | darkBlockReceived (wire : LaneWire)
  /-- DARK_IDLE_TIMEOUT (R442): LaneDarkIdle ms without data blocks put an unused lane dark. -/
  | darkIdleTimeout (lane : Nat)
  /-- LANE_SIGNAL_DETECT (R443): A dark lane's detector sees a signal, and the lane returns to its last rate. -/
  | laneSignalDetect (lane : Nat) (restored : Bool)
  /-- WINDOW_BASE_WRITE (R445): A write to WindowBase in BAR4 moves BAR2's window, or is ignored. -/
  | windowBaseWrite (write : BaseWrite)
  /-- LIFE_CYCLE_CHANGE (R448): A purpose-1 record wipes, erases keys and blows the state fuses, then resets. -/
  | lifeCycleChange (req : Nat) (record : List Byte)
  /-- DEBUG_LEVEL_RAISE (R454): A purpose-2 record raises the debug level up to the ceiling. -/
  | debugLevelRaise (req : Nat) (record : List Byte)
  /-- REVOKE_DIGEST (R452): A purpose-3 record revokes a stream-signing digest. -/
  | revokeDigest (req : Nat) (record : List Byte)
  /-- PROVISION (R450): A Provision record fuses one key item in DEVELOP. -/
  | provision (req : Nat) (item : List Byte) (value : List Byte)
  /-- KEY_LOAD (R451): A KeyLoad record writes a plaintext or wrapped key to battery slot 1 or 2. -/
  | keyLoad (req : Nat) (head : List Byte) (key : List Byte)
  /-- KEY_ERASE (R451): A KeyLoad record with bit 7 set erases a battery slot. -/
  | keyErase (req : Nat) (record : List Byte)
  /-- DEBUG_LEVEL_LOWER (R454): A write to DebugLevel lowers the level and may resume halted cores. -/
  | debugLevelLower (req : Nat) (value : Nat)
  /-- DBGACC_READ (R457): A DBGACC read issues one 32-bit read as requester 0x02. -/
  | dbgaccRead (address : Nat)
  /-- DBGACC_WRITE (R457): A DBGACC write issues one 32-bit write as requester 0x02. -/
  | dbgaccWrite (address : Nat) (data : Nat)
  /-- DBGACC_RESET_REQUEST (R457): A DBGACC reset request asks for a CORE or SYS reset. -/
  | dbgaccResetRequest (data : Nat)
  /-- TAP_INSTRUCTION (R456): A TAP instruction is selected, and leaving EXTEST holds every pin. -/
  | tapInstruction (scan : TapScan)
  /-- DBG_REQ (R458): A DBG_REQ pulse halts every released core at level open. -/
  | dbgReq
  /-- RIGHTS_TABLE_WRITE (R461): A write to a rights table takes effect for later accesses, or is refused. -/
  | rightsTableWrite (req : Nat) (table : Nat) (entries : List Nat)
  /-- RIGHTS_LOCK_WRITE (R461): Writing 1 to RightsLock locks the rights tables. -/
  | rightsLockWrite (req : Nat)
  /-- TAMPER_EVENT (R465): TAMPER_N low for 2 µs erases keys, wipes the secure part and halts the device. -/
  | tamperEvent
  /-- ATTEST_REQUEST (R473): A nonce written to AttestRequest produces a signed report. -/
  | attestRequest (req : Nat) (nonce : List Byte)
  /-- POWER_ON (R482): VIN rising starts a POR and the start-up sequence. -/
  | powerOn (straps : Straps) (environment : StartEnvironment)
  /-- BROWN_OUT (R478): VIN below 4.30 V retires the session key and causes an internal POR under FULL. -/
  | brownOut
  /-- ALWAYS_ON_LOSS (R486): VIN below 3.50 V stops the always-on domain, and battery memory moves to VBAT. -/
  | alwaysOnLoss
  /-- PIN_RESET (R478): RST_N low for 1 µs causes a SYS reset. -/
  | pinReset
  /-- WATCHDOG_EXPIRY (R480): The module watchdog expires, logs 0x1102 and resets under FULL. -/
  | watchdogExpiry
  /-- WATCHDOG_REFRESH (R480): Writing 0xA5 to WatchdogRefresh restarts the count. -/
  | watchdogRefresh (req : Nat)
  /-- RESET_REQUEST_CORE (R481): ResetRequest 1 requests a CORE reset 100 µs later. -/
  | resetRequestCore (req : Nat)
  /-- RESET_REQUEST_SYS (R481): ResetRequest 2 requests a SYS reset 100 µs later. -/
  | resetRequestSys (req : Nat)
  /-- REQUESTED_RESET_TAKEN (R481): 100 µs after a reset request, the requested reset takes place. -/
  | requestedResetTaken
  /-- CLOCK_FAILURE (R485): A loop, the reference or the 32.768 kHz oscillator fails, causing a SYS reset or a hold. -/
  | clockFailure (source : ClockSource)
  /-- ESCALATION_WAIT_EXPIRY (R502): The wait before an escalated internal POR ends, and stage 1 begins. -/
  | escalationWaitExpiry
  /-- BLOCK_RESET_CORE (R483): A block reset of one idle core holds it in reset. -/
  | blockResetCore (req : Nat) (core : Nat)
  /-- BLOCK_RESET_BRIDGE_ENGINE (R483): A block reset of an idle bridge engine empties its FIFOs. -/
  | blockResetBridgeEngine (req : Nat) (engine : Nat)
  /-- BLOCK_RESET_TRIGGER_ENGINE (R483): A block reset of the idle trigger engine disables its units. -/
  | blockResetTriggerEngine (req : Nat)
  /-- BLOCK_RESET_ETHERNET_PORT (R483): A block reset of an idle Ethernet port reinitialises it. -/
  | blockResetEthernetPort (req : Nat) (port : Nat)
  /-- BLOCK_RESET_RELEASE (R484): After 1 µs, and once its clock is stable, the block leaves reset. -/
  | blockResetRelease (clockStable : Bool)
  /-- POWER_AVERAGE_INTERVAL (R489): Each 10 ms the input power average is compared with PowerCeiling. -/
  | powerAverageInterval (deciwatts : Nat)
  /-- FAULT_ACKNOWLEDGE (R496): Writing 1 to FaultAcknowledge ends every active Image and Stop fault. -/
  | faultAcknowledge (req : Nat)
  /-- AUDIT_COMMAND (R505): Writing 1 to AuditCommand starts a check of every conservation guarantee. -/
  | auditCommand (req : Nat)
  /-- AUDIT_COMPLETE (R506): The audit ends, sets AuditResult, and logs any broken guarantee. -/
  | auditComplete
  /-- GUEST_LINK_UP (R343): The guest link finishes training on all four UCIe modules at the highest common rate and comes up, which ends fault 0x6402. -/
  | guestLinkUp (rateGT : Nat)
  /-- CANOPEN_SYNC_RECEIVED (R36): A CANopen SYNC message taken by the SYNC consumer makes the module transmit its synchronous TPDOs of mirrored entries. -/
  | canopenSyncReceived
  /-- TRIG_LINE_CHANGE (R353): A chassis TRIG or STAR_IN line changes level, is seen after two I/O clock edges in the line word, and arms or disarms the trigger units that read it. -/
  | trigLineChange (line : Nat) (level : Bool)
  /-- MACHINE_TIMER_INTERRUPT (R293): A core's time reaches its mtimecmp, a machine timer interrupt becomes pending, and a core blocked in schask completes with bit 62 set. -/
  | machineTimerInterrupt (core : Nat)
  /-- BATTERY_SLOT_LOST (R451): VBAT falls below 2.0 V while VIN is absent, the battery key slots 1 and 2 are lost, and 0x7311 is logged at the next start. -/
  | batterySlotLost
  /-- BROWN_OUT_RECOVERY (R478): VIN rises back above 4.40 V after a brown-out, and under FULL the module raises an internal POR. -/
  | brownOutRecovery
  /-- LIFE_CYCLE_SYS_RESET (R448): 10 ms after an accepted life-cycle change reports done, the module performs a SYS reset in the new state. -/
  | lifeCycleSysReset
  /-- BUNDLE_RETRAIN_COMPLETE (R340): A bundle retrain ends, sets each BundleState to full, half or failed, and may change TravelTableVersion. -/
  | bundleRetrainComplete (failing : LaneList)
  /-- SECURE_WIPE_COMPLETE (R463): The wipe of the secure scratchpad ends, and accesses to the secure part are served again, reading zero. -/
  | secureWipeComplete
  /-- PTP_ANNOUNCE_RECEIVED (R401): An Announce message received on a port gives it a master and may change the best master and the time-source port. -/
  | ptpAnnounceReceived (port : Nat) (announce : Announce)
  /-- LOOP_LOCKED_AGAIN (R485): Under MINIMAL, a failed loop or the reference locks again, and every block it held is released once its clock is stable. -/
  | loopLockedAgain (source : ClockSource)
  /-- SAMPLE_CLOCK_EDGE (R358): At an edge of the I/O clock or of an FCLK, an armed sampler on that clock takes a sample and writes it, or decimates it. -/
  | sampleClockEdge (sampler : Nat)
deriving DecidableEq, Repr

end Sys2Proof
end

