-- ==== Sys2Proof/Decode.lean ====
section
/-! DEFINITION. Commands from words. The opcode table of this hardware gives no row any bits: its commands are register accesses,
protocol operations and events, not words that are fetched. So no word spells a command. -/

namespace Sys2Proof

/-- The command that a word of the opcode table spells: none, since no row of the table gives bits. -/
def decodeTableWord (_nbits _w : Nat) : Option Instr := none

end Sys2Proof
end

