-- ==== Sys2Proof/Machine/Bits.lean ====
section
/-! DEFINITION. Bit fields, saturating counts and little-endian bytes: the helpers that the rules of every chapter
use (R7: bit 0 is the least significant bit). -/

namespace Sys2Proof.Machine

/-- The field of `n` bits whose lowest bit is bit `lo` of `x`. -/
def bits (x lo n : Nat) : Nat := x >>> lo % 2 ^ n

/-- Bit `k` of `x`. -/
def bit (x k : Nat) : Bool := x.testBit k

/-- 1 for true, 0 for false. -/
def b2n (b : Bool) : Nat := if b then 1 else 0

/-- Set or clear bit `k` of `x`. -/
def setBit (x k : Nat) (v : Bool) : Nat :=
  if x.testBit k = v then x else x ^^^ 2 ^ k

/-- `x` with `v` in the field of `n` bits from bit `lo`. -/
def setBits (x lo n v : Nat) : Nat :=
  x - (bits x lo n) * 2 ^ lo + (v % 2 ^ n) * 2 ^ lo

/-- The greatest value of an UNSIGNED32 counter. -/
def max32 : Nat := 0xFFFFFFFF

/-- Add to a saturating UNSIGNED32 counter. [DEDUCED, unsafe: log 29] -/
def sat32 (x d : Nat) : Nat := if x + d ≤ max32 then x + d else max32

/-- The little-endian bytes of `x`, `n` of them. -/
def toBytes : (n x : Nat) → List Byte
  | 0, _ => []
  | n + 1, x => BitVec.ofNat 8 x :: toBytes n (x / 256)

/-- The number that little-endian bytes spell. -/
def ofBytes : List Byte → Nat
  | [] => 0
  | b :: bs => b.toNat + 256 * ofBytes bs

/-- The signed reading of an `n`-bit value (INTEGER8 to INTEGER64 of Table 2-1). -/
def signed (n x : Nat) : Int := if x % 2 ^ n < 2 ^ (n - 1) then (x % 2 ^ n : Nat) else (x % 2 ^ n : Nat) - (2 ^ n : Nat)

/-- The `n`-bit two's-complement word of an integer. -/
def unsigned (n : Nat) (x : Int) : Nat := (x % (2 ^ n : Nat)).toNat

/-- Replace element `i` of a list; nothing where the list has no such element. -/
def listSet {α : Type} : List α → Nat → α → List α
  | [], _, _ => []
  | _ :: xs, 0, v => v :: xs
  | x :: xs, i + 1, v => x :: listSet xs i v

/-- The value 1 in every bit of `l`: the mask of a set of bit numbers. -/
def maskOf (l : List Nat) : Nat := l.foldl (fun m k => m ||| 2 ^ k) 0

/-! ### CRC-64 (R280, R341) -/

/-- One bit of the CRC-64 of ECMA-182. -/
def crc64Bit (c : Nat) : Nat := if bit c 63 then (2 * c) % 2 ^ 64 ^^^ 0x42F0E1EBA9EA3693 else 2 * c

/-- `n` bits of it; the test, which always holds, makes Lean evaluate each step before the next. -/
def crc64Bits : (n c : Nat) → Nat
  | 0, c => c
  | n + 1, c => if crc64Bit c < 2 ^ 64 then crc64Bits n (crc64Bit c) else 0

/-- Bytes of it. -/
def crc64Bytes (c : Nat) : List Byte → Nat
  | [] => c
  | b :: bs =>
    if crc64Bits 8 (c ^^^ b.toNat * 2 ^ 56) < 2 ^ 64 then crc64Bytes (crc64Bits 8 (c ^^^ b.toNat * 2 ^ 56)) bs else 0

/-- CRC-64 with the ECMA-182 polynomial, which starts from 0. [DESIGN CHOICE, unsafe: log 44] -/
def crc64 (bs : List Byte) : Nat := crc64Bytes 0 bs

/-- The `n` bits that a function gives, bit 0 first. -/
def ofBits (n : Nat) (f : Nat → Bool) : Nat := maskOf ((List.range n).filter f)

end Sys2Proof.Machine
end

