-- ==== Sys2Proof/Config.lean ====
section
/-! DEFINITION. What the spec leaves open, as constants with no body: nothing in Lean can evaluate them or prove a value
of them, so a claim that mentions one holds whatever it is. Each has its row in the assumption log. -/

namespace Sys2Proof.Config

/-- Log code of a change of mode (R43 gives none). [DESIGN CHOICE, safe: log 13] -/
opaque modeChangeCode : Nat

/-- Log code of a firmware-update event (R43 gives none). [DESIGN CHOICE, safe: log 13] -/
opaque firmwareEventCode : Nat

/-- A fresh unstated value: `freeWord n` is the n-th value drawn; State.free counts the draws. [DESIGN CHOICE, safe: log 11] -/
opaque freeWord : Nat → BitVec 64

/-- The 64-byte SHA3-512 digest of a byte string (R46, R262). [DESIGN CHOICE, safe: log 17] -/
opaque sha3Bits : List Byte → BitVec 512

/-- It as a number. [DESIGN CHOICE, safe: log 17] -/
def sha3 (bs : List Byte) : Nat := (sha3Bits bs).toNat

/-- The key stream of AES-256 in Galois counter mode under a key and a 96-bit IV: byte i (R260). [DESIGN CHOICE, safe: log 17] -/
opaque gcmStream : Nat → List Byte → Nat → Byte

/-- The 16-byte tag of AES-256-GCM: key, IV, additional authenticated data, ciphertext (R260). [DESIGN CHOICE, safe: log 17] -/
opaque gcmTag : Nat → List Byte → List Byte → List Byte → List Byte

/-- ML-DSA-87 verification: verifying key, message digest, signature (R259, R262). [DESIGN CHOICE, safe: log 17] -/
opaque mlDsa : List Byte → Nat → List Byte → Bool

/-- The base travel-time table version of a grade (8, 4 or 2) and the steppings of its dies (R113).
[DESIGN CHOICE, safe: log 17] -/
opaque baseTravelTable : Nat → List Nat → Nat

/-- The argument of a log entry whose contents the spec names but does not lay out: fault code and the values named.
[DESIGN CHOICE, safe: log 12] -/
opaque packArg : Nat → List Nat → Nat

/-- The bytes of a record or domain whose contents the spec names but does not lay out: what it is and the values named.
[DESIGN CHOICE, safe: log 12] -/
opaque packBytes : Nat → List Nat → List Byte

/-- The check byte of a ring header: the spec names the kind of code and gives no matrix (R326). [DESIGN CHOICE, unsafe: log 48] -/
opaque headerCode : Nat → BitVec 8

/-- A header with three or more bits wrong looks to the check like one that it can correct (R326). [DESIGN CHOICE, unsafe: log 48] -/
opaque headerAliased : Nat → Nat → Bool

/-- The payload bits of a ring packet, from bit 72 of its first flit on: the spec lays out the header only (R325).
[DESIGN CHOICE, unsafe: log 48] -/
opaque ringPayload : Nat → Nat → Nat → Nat → Nat

/-- The bit that pin lane i holds after a beat: the spec gives a beat no order on pin lanes (R240, R414).
[DESIGN CHOICE, safe: log 16] -/
opaque pinLaneBit : List Nat → Nat → Bool

/-- The DDR5 channel that serves a physical address, given the channels fitted (the spec gives no interleave).
[DESIGN CHOICE, safe: log 16] -/
opaque ddrChannel : Nat → Nat → Nat

/-- A route beyond the crossbar as an image names it: source step, source and destination nib, receive address, port, path class
(0 tile switch, 1 die network, 2 ring bundle, 3 hub relay, 4 out over a lane, 5 in over a lane), lane, whether the hub bundle of the
source module is degraded, and the bit-slots claimed. [DESIGN CHOICE, safe: log 14] -/
structure RouteRecord where
  step : Nat
  src : Nat
  dst : Nat
  rx : Nat
  port : Nat
  cls : Nat
  lane : Nat
  farDegraded : Bool
  slots : List Nat

/-- Routes beyond the crossbar that the static interconnect of an image sets up, read from its bytes (offset, byte); the spec
gives them no layout. [DESIGN CHOICE, safe: log 14] -/
opaque routeTable : List (Nat × Byte) → List RouteRecord

/-- The direction of each data lane of a bundle that an image sets (R111), read from its bytes; the spec gives it no layout. True is
towards the east neighbour, or up to the hub. [DESIGN CHOICE, safe: log 14] -/
opaque laneDirections : List (Nat × Byte) → Nat → List Bool

/-- Where the loader would place a block of a number of bytes in the general scratchpad, given the blocks in use (R184,
R188). [DESIGN CHOICE, safe: log 15] -/
opaque scratchPlace : List (Nat × Nat) → Nat → Nat

/-- Where the firmware would place a sheet body in the DDR5 data regions, given the bodies in use and its length (R208).
[DESIGN CHOICE, safe: log 15] -/
opaque bodyPlace : List (Nat × Nat) → Nat → Nat

/-- Edges of the reference by which member 0 names the start of a domain later than the least lead of 1 ms (R129).
[DESIGN CHOICE, unsafe: log 84] -/
opaque startLead : Nat

/-- The outcome of a cryptographic check on bytes that arrive as a plain transfer of a domain or command entry, by the entry's index:
the spec names the algorithm, the keys stay outside the model. [DESIGN CHOICE, safe: log 10] -/
opaque verdict : Nat → List Byte → Bool

/-- The AES key unwrap of RFC 3394: the key that 40 bytes carry under a wrapping key, none where the integrity check fails (R451).
[DESIGN CHOICE, safe: log 10] -/
opaque unwrapKey : Nat → List Byte → Option Nat

/-- The fields of a firmware image's header (R46), which the spec does not lay out: 0 version, 1 security version, 2 length, 3 digest.
[DESIGN CHOICE, safe: log 10] -/
opaque firmwareField : List Byte → Nat → Nat

end Sys2Proof.Config
end

