-- ==== Sys2Proof/Machine/Sparse.lean ====
section
/-! DEFINITION. Large arrays (memories, instruction tiers, register files of every nib) as plain data: a list of
(key, value) pairs in ONE canonical form, keys strictly rising and no value equal to what an unlisted key reads as.
Equal contents are therefore equal lists. What an unlisted key reads as is the function `d` of each array. -/

namespace Sys2Proof.Machine

/-- A sparse array over `α`: (key, value), keys strictly rising. -/
abbrev Sparse (α : Type) := List (Nat × α)

/-- Read key `k`; `d` gives what an unlisted key reads as. -/
def Sparse.get {α : Type} (d : Nat → α) : Sparse α → Nat → α
  | [], k => d k
  | (j, v) :: m, k => if k = j then v else if k < j then d k else Sparse.get d m k

/-- Store `v` at key `k` in the raw list, keeping the keys rising. -/
def Sparse.put {α : Type} : Sparse α → Nat → α → Sparse α
  | [], k, v => [(k, v)]
  | (j, w) :: m, k, v =>
    if k = j then (k, v) :: m else if k < j then (k, v) :: (j, w) :: m else (j, w) :: Sparse.put m k v

/-- Remove key `k` from the raw list. -/
def Sparse.erase {α : Type} : Sparse α → Nat → Sparse α
  | [], _ => []
  | (j, w) :: m, k => if k = j then m else if k < j then (j, w) :: m else (j, w) :: Sparse.erase m k

/-- Write `v` at key `k`: the value an unlisted key reads as removes the entry, so the form stays canonical. -/
def Sparse.set {α : Type} [DecidableEq α] (d : Nat → α) (m : Sparse α) (k : Nat) (v : α) : Sparse α :=
  if v = d k then Sparse.erase m k else Sparse.put m k v

/-- Every key of the list is at least `lo`, the keys rise strictly, and no value is the unlisted one. -/
def Sparse.wfFrom {α : Type} [DecidableEq α] (d : Nat → α) : Nat → Sparse α → Bool
  | _, [] => true
  | lo, (j, v) :: m => decide (lo ≤ j) && (decide (v ≠ d j) && Sparse.wfFrom d (j + 1) m)

/-- The canonical form holds. -/
def Sparse.wf {α : Type} [DecidableEq α] (d : Nat → α) (m : Sparse α) : Bool := Sparse.wfFrom d 0 m

/-- Write a run of values from key `k` on. -/
def Sparse.setRun {α : Type} [DecidableEq α] (d : Nat → α) (m : Sparse α) (k : Nat) : List α → Sparse α
  | [] => m
  | v :: vs => Sparse.setRun d (Sparse.set d m k v) (k + 1) vs

/-- Read `n` values from key `k` on. -/
def Sparse.getRun {α : Type} (d : Nat → α) (m : Sparse α) (k : Nat) : Nat → List α
  | 0 => []
  | n + 1 => Sparse.get d m k :: Sparse.getRun d m (k + 1) n

/-- The canonical form of any list of pairs: each pair is written in turn, from the last. -/
def Sparse.canon {α : Type} [DecidableEq α] (d : Nat → α) : List (Nat × α) → Sparse α
  | [] => []
  | (k, v) :: m => Sparse.set d (Sparse.canon d m) k v

/-- Keep only the keys of which `p` holds: the rest read as unlisted again. -/
def Sparse.keep {α : Type} (p : Nat → Bool) (m : Sparse α) : Sparse α := m.filter fun e => p e.1

end Sys2Proof.Machine
end

