-- ==== Sys2Proof/Machine/State.lean ====
section
/-! DEFINITION. The state of the module as plain data: everything the spec gives the block, chapter by chapter, with the
queue of waiting commands, and `State.reset`, the module as a POR from power-on leaves it at the end of its recovery
(R194, R475, R476, R500). Large arrays are sparse lists in one canonical form (Machine/Sparse.lean). -/

namespace Sys2Proof.Machine

/-! ### The part (R2, R11, R341, R477): fixed facts of one module, changed by no command -/

/-- The three grades (Table 0-1). -/
inductive Grade where
  | e8 | e4 | e2
deriving DecidableEq, Repr

/-- The reset-source profile (R477). -/
inductive Profile where
  | minimal | full
deriving DecidableEq, Repr

/-- The descriptor ROM of a die (Table 13-7); its reserved bytes are 0. -/
structure DieRom where
  magic : Nat
  /-- 1 E-die, 2 hub. -/
  kind : Nat
  stepping : Nat
  feature : Nat
  serial : Nat
  /-- Native latencies of unit classes 0 to 9. -/
  native : List Nat
  crc : Nat
deriving DecidableEq, Repr

/-- What is fixed for one module: its grade and guest (R2), the descriptor ROMs of its dies (R341), the profile fuse and
strap (R477), and the DDR5 fitted (Table 1-6). -/
structure Part where
  grade : Grade
  /-- G1: the guest site is populated. -/
  guest : Bool
  /-- The descriptor ROM of E-die d, and that of the hub. -/
  roms : List DieRom
  hubRom : DieRom
  /-- `ResetProfileFuse`: 0 unblown, 1 MINIMAL, 2 FULL. -/
  profileFuse : Nat
  /-- DDR5 populated, in GiB; 0 with no RDIMMs. -/
  ddrGiB : Nat
  /-- DDR5 channels fitted, 0 to 4. -/
  ddrChannels : Nat
  /-- The hub revision and serial number of 0x1018 (R39). -/
  hubRevision : Nat
  hubSerial : Nat
deriving DecidableEq, Repr

/-! ### What a requester is answered (R20, R22, R26, R32, R52, R472) -/

/-- The answer that the last command gave its requester. -/
inductive Answer where
  /-- No requester waits for an answer. -/
  | none
  /-- The access completed; a read returned these bytes, a CSR operation this value (little-endian). -/
  | ok (value : Nat)
  /-- An error completion of a read or write: Unsupported Request to the host, an access fault to a core (R20). -/
  | error
  /-- The STORE/AMO access fault of a core: LR, SC or an AMO outside the cacheable regions (R294). -/
  | amoFault
  /-- Completer Abort (R52, R472). -/
  | completerAbort
  /-- An SDO abort over CAN (R26). -/
  | sdoAbort
  /-- A write dropped at the mirror (R26). -/
  | dropped
  /-- The mirror write waits for the CAN transfer in progress (R34). -/
  | deferred
  /-- An illegal-instruction exception of a core (R299). -/
  | illegal
  /-- The access waits: a domain wakes, a firewall window has too few tokens (R332, R347). -/
  | waiting
deriving DecidableEq, Repr

/-! ### Management controller, CAN and firmware (chapter 02) -/

/-- NMT states of CiA 301 (R37). -/
inductive NmtState where
  | stopped | preOperational | operational
deriving DecidableEq, Repr

/-- A frame the module has put on the CAN bus. -/
inductive CanFrame where
  /-- Boot-up, after NMT reset communication (CiA 301). -/
  | bootUp
  /-- Heartbeat with the NMT state (R37). -/
  | heartbeat (nmt : NmtState)
  /-- EMCY: error code, error register, fault code, argument bits 23-0 (R38). -/
  | emcy (errorCode register code arg : Nat)
  /-- A TPDO with its mapped bytes (Table 2-2). -/
  | tpdo (n : Nat) (data : List Byte)
  /-- An SDO answer: the bytes read. -/
  | sdoData (data : List Byte)
  /-- An SDO download confirmed. -/
  | sdoDone
  /-- An SDO abort (R26). -/
  | sdoAbort
deriving DecidableEq, Repr

/-- The SDO transfer in progress (R34): the entry, whether it is a download, and the bytes read at its begin. -/
structure SdoTransfer where
  key : Nat
  download : Bool
  snapshot : List Byte
deriving DecidableEq, Repr

/-- The CAN interface (R35 to R38). -/
structure Can where
  /-- Node ID sampled at power-on, 0 to 127. -/
  nodeId : Nat
  nmt : NmtState
  /-- Settings in force: nominal rate in kb/s, CAN FD, data rate in kb/s (R36). -/
  rate : Nat
  fd : Bool
  dataRate : Nat
  sdo : Option SdoTransfer
  /-- Mirror writes held by R34, oldest first: requester, key, value. -/
  held : List (Nat × Nat × Nat)
  /-- Frames sent, oldest first. -/
  sent : List CanFrame
  /-- SYNC messages received since the CAN layer started (Table 2-2). -/
  syncs : Nat
deriving DecidableEq, Repr

/-- A firmware slot's content (R46). -/
structure FwSlot where
  version : Nat
  security : Nat
  length : Nat
  digest : Nat
deriving DecidableEq, Repr

/-- Where the start of the firmware stands (R50, R51, R482). -/
inductive BootPhase where
  /-- VIN absent: nothing runs (R486). -/
  | off
  /-- The wait before an escalated internal POR (R502). -/
  | escalationWait
  /-- The boot ROM is about to make an attempt. -/
  | attempt
  /-- The firmware is entered and has not reported start-complete. -/
  | entered
  /-- The boot ROM waits before trying the other slot. -/
  | retryWait
  /-- Start-complete; the march of R160 or another stage before 10 still runs. -/
  | starting
  /-- Stage 10 is reached: the recovery has ended (R500). -/
  | ready
deriving DecidableEq, Repr

/-- Firmware slots, boot ROM and update (R46 to R52). -/
structure Boot where
  phase : BootPhase
  slotA : Option FwSlot
  slotB : Option FwSlot
  /-- 0 for A, 1 for B. -/
  preferred : Nat
  /-- The slot being tried, or running. -/
  slot : Nat
  /-- Attempts of the present start, and attempts since power-on (R42, R52). -/
  attempts : Nat
  attemptsSincePowerOn : Nat
  /-- Position in the wait sequence 1, 2, 4, ... 64 s (R51), and the uptime at which the wait in progress began. -/
  waitStep : Nat
  waitStart : Nat
  /-- Uptime at which the firmware was entered (R50). -/
  enteredAt : Nat
  /-- `RollbackCounter`: fuses blown, 0 to 63 (R49). -/
  rollback : Nat
  /-- The image that a busy check-and-write puts in the inactive slot (R47). -/
  writing : Option FwSlot
  /-- 0x2F30:04: 0 idle, 1 busy, 2 done, 3 failed (R29). -/
  status : Nat
deriving DecidableEq, Repr

/-- The controller's own state (R40, R42). -/
structure Mgmt where
  fastClock : Bool
  /-- Nanoseconds since the last POR, internal POR included (R44). -/
  uptime : Nat
  /-- 0x1010/0x1011 (R28): the saved persistent values and, when a command was written since the last start, what the
  next start does with them. -/
  saved : Option (List (Nat × Nat))
  savedDomains : List (Nat × List Byte)
deriving DecidableEq, Repr

/-! ### Event log and active faults (chapters 02 and 21) -/

/-- Severities of Table 2-4. -/
inductive Severity where
  | information | warning | error | fatal
deriving DecidableEq, Repr

/-- Recovery classes of Table 21-1, in code order. -/
inductive FaultClass where
  | note | refused | image | stop | blocked | self | reset | void | halt
deriving DecidableEq, Repr

/-- One entry of the event log (Table 2-4). -/
structure LogEntry where
  global : Bool
  time : Nat
  code : Nat
  source : Nat
  severity : Severity
  arg : Nat
deriving DecidableEq, Repr

/-- One active fault (R495). -/
structure ActiveFault where
  code : Nat
  source : Nat
  cls : FaultClass
  arg : Nat
deriving DecidableEq, Repr

/-- One detail record (R524). -/
structure Detail where
  seq : Nat
  code : Nat
  cycle : Nat
  d1 : Nat
  d2 : Nat
deriving DecidableEq, Repr

/-- The log, the active faults and the audit (R43 to R45, R495, R501, R505, R524). -/
structure Log where
  /-- The working log, oldest first, at most 1,024 entries. -/
  entries : List LogEntry
  /-- 0x2F20:01, the sequence number of the newest entry; 0 after a clear. -/
  newest : Nat
  overwritten : Nat
  sticky : Bool
  /-- 0x2F20:03. -/
  select : Nat
  /-- The persistent log, oldest first, at most 4,096 entries, and its overwritten count. -/
  persistent : List LogEntry
  persistentOverwritten : Nat
  /-- Active faults in the order of first logging. -/
  active : List ActiveFault
  faultsLogged : Nat
  details : List Detail
  escalations : Nat
  /-- A device halt, or a condition outside specification, since the last power-on (R504, R507). -/
  lapsed : Bool
  /-- 0x5100:02-04. -/
  auditStatus : Nat
  auditResult : Nat
  auditUnchecked : Nat
deriving DecidableEq, Repr

/-! ### The emulation array (chapters 03 to 06) -/

/-- A stored word with its four parity bits; parity bit j covers bits 16j to 16j+15 (R56, R72). -/
structure TierWord where
  word : BitVec 64
  parity : BitVec 4
deriving DecidableEq, Repr

/-- The all-zero NOP word (R56). -/
def TierWord.zero : TierWord := ⟨0, 0⟩

/-- The elements of one nib (Table 3-1). The data memory holds the rolling window at 0-767 and the receive window at
768-1,023. -/
structure Nib where
  data : BitVec 1024
  valid : BitVec 256
  carry : BitVec 256
  file : BitVec 256
  /-- The instruction latch: the word that the last fetch delivered, with the parity it was stored with (R56, R57). -/
  latch : TierWord
  out : Bool
deriving DecidableEq, Repr

/-- A nib with every element zero: what a nib that nothing has written holds (R81, R82). -/
def Nib.zero : Nib := ⟨0, 0, 0, 0, TierWord.zero, false⟩

/-- The crossing of one cluster (R76, R125, R126): registers, latch, its word-cell side, staging and hold. -/
structure Cluster where
  crossOut : BitVec 64
  crossIn : BitVec 64
  outLatch : BitVec 64
  outSide : BitVec 64
  staging : BitVec 64
  hold : BitVec 64
deriving DecidableEq, Repr

def Cluster.zero : Cluster := ⟨0, 0, 0, 0, 0, 0⟩

/-- The probe lanes of one tile, the probe latch and its word-cell side (R92, R125), and the token counts of the
current segment and word-cell interval (R173, R174). -/
structure Tile where
  lanes : BitVec 64
  latch : BitVec 64
  side : BitVec 64
  tokens : Nat
  wcTokens : Nat
deriving DecidableEq, Repr

def Tile.zero : Tile := ⟨0, 0, 0, 0, 0⟩

/-- A value in flight in the static interconnect, delivered over a tile-switch port to a receive address in P3 of its step of its
cycle (R70, R107), or leaving over a Zulon lane to another module of the domain at that step. -/
structure Flight where
  id : Nat
  nib : Nat
  rx : Nat
  /-- Port 2 or 3 of the nib (R70). -/
  port : Nat
  cycle : Nat
  step : Nat
  value : Bool
  /-- The lane it leaves by, when it goes to another module. -/
  laneOut : Option Nat
  /-- The lane over which the value of another module is still to come. -/
  laneIn : Option Nat
deriving DecidableEq, Repr

/-- One claim of a slot in a step of a cycle (R110, R114): the unit that finds a collision there (8 for the hub), the
kind and location of Table 21-10, on a bundle the direction (east, or up to the hub), and the flight that claims. -/
structure Claim where
  finder : Nat
  kind : Nat
  location : Nat
  forward : Bool
  cycle : Nat
  step : Nat
  flight : Nat
deriving DecidableEq, Repr

/-- Path classes beyond the crossbar (Table 5-2); a Zulon path is a `laneOut` route of its source module and a `laneIn` route of
its destination module. -/
inductive PathClass where
  | tileSwitch | dieNetwork | ringBundle | hubRelay | laneOut | laneIn
deriving DecidableEq, Repr

/-- One scheduled route of the committed image: the output of nib `src` at step `step` travels over port `port` to receive address
`rx` of nib `dst` (module nib numbers). `slots` are the bit-slots that it claims, in the order of Table 5-5 (of a die-network link
the whole location of Table 21-10); `farExtra` the steps that a degraded hub bundle of the source module adds to a `laneIn` route
(R112). [DESIGN CHOICE, safe: log 14] -/
structure Route where
  step : Nat
  src : Nat
  dst : Nat
  rx : Nat
  port : Nat
  cls : PathClass
  lane : Nat
  farExtra : Nat
  slots : List Nat
deriving DecidableEq, Repr

/-- A delivery pending in P3 of the open step: to a receive address of a nib, or to a crossing-out bit. -/
inductive Delivery where
  | receive (nib rx : Nat) (value : Bool)
  | crossOut (cluster bit : Nat) (value : Bool)
deriving DecidableEq, Repr

/-- A collision of the open step (R115): the unit that finds it, kind and location of Table 21-10, receive address. -/
structure Collision where
  finder : Nat
  kind : Nat
  location : Nat
  rx : Nat
deriving DecidableEq, Repr

/-- A queue entry of a descriptor (R139, R146 to R149). -/
structure QEntry where
  /-- The request passed without being issued (R101): the calendar counts it, no memory answers. -/
  missing : Bool
  /-- Word offset and write data. -/
  offset : Nat
  data : Nat
  /-- Performed in memory (R144); the answer is then fixed. -/
  performed : Bool
  /-- The answer or acknowledgement has reached the port. -/
  present : Bool
  answer : Nat
  /-- Absolute issue position: cycle and step. -/
  cycle : Nat
  step : Nat
  /-- The class window at the issue step, in steps (R153). -/
  window : Nat
  /-- A zero answer that R119 supplied for a request not yet issued; guarantee 2 does not count it. -/
  standIn : Bool
deriving DecidableEq, Repr

/-- A request of a port on its way to a controller, in port order (R144): descriptor and sequence. -/
structure PortRequest where
  desc : Nat
  offset : Nat
  data : Nat
  cycle : Nat
  step : Nat
deriving DecidableEq, Repr

/-- The calendar of one descriptor (R100): ENQ steps with their enable member, and WAIT slots. -/
structure Calendar where
  enq : List (Nat × Bool)
  waits : List Nat
deriving DecidableEq, Repr

def Calendar.empty : Calendar := ⟨[], []⟩

/-- One queue port's descriptor with its queue (R139, R140, R146 to R150): key = port × 64 + descriptor. -/
structure Queue where
  /-- The 128-bit descriptor of Table 6-3 with Base relocated. -/
  desc : BitVec 128
  entries : List QEntry
  calendar : Calendar
  /-- P and M of R148. -/
  p : Nat
  m : Nat
  /-- Answers to discard when they arrive, their entries having been replaced (R119). -/
  discard : Nat
  /-- Requests not yet issued whose WAIT has already read the zero answer of R119. -/
  skip : Nat
  /-- The write stall of R149 is raised; it reached StallLimit (R150). -/
  stalled : Bool
  timedOut : Bool
deriving DecidableEq, Repr

def Queue.empty : Queue := ⟨0, [], Calendar.empty, 0, 0, 0, 0, false, false⟩

/-- A stall: the wait slot before which the array freezes, in its cycle, and the queues it waits for (R117, R149). -/
structure Stall where
  cycle : Nat
  slot : Nat
  /-- Queue keys whose answers are absent. -/
  reads : List Nat
  /-- Queue keys whose write occupancy is too high. -/
  writes : List Nat
  /-- Stalls of domain peers before this slot that they have not released (R130). -/
  peers : Nat
deriving DecidableEq, Repr

/-- A stop cause on its way to its boundary (R120): the boundary that ends `cycle`. -/
structure PendingStop where
  bit : Nat
  cycle : Nat
  /-- Cycle and step it counts as raised at, the die (8 for the hub) and its fault code; 0 for none (R499). -/
  raisedCycle : Nat
  raisedStep : Nat
  die : Nat
  fault : Nat
deriving DecidableEq, Repr

/-- A step-clock point demand with its source (`State.demands` codes it) and the boundary at which it takes effect (R123). -/
structure PendingPoint where
  cycle : Nat
  source : Nat
  point : Nat
deriving DecidableEq, Repr

/-- A notice this module has sent to its domain peers (R130). -/
inductive NoticeOut where
  | stall (cycle slot : Nat)
  | release (cycle slot : Nat)
  | stop (cycle step : Nat)
  /-- A SYNC vote of scope 1, with its event number. -/
  | vote (event cycle step : Nat)
  /-- The slowest point that this member demands. -/
  | point (p cycle step : Nat)
  /-- The start that member 0 names: the count of reference edges, and the target cycle of a Step (R129, R202). -/
  | start (edge : Nat) (target : Option Nat)
  /-- A lane of this member has, or no longer has, a native latency above its Λ (R128). -/
  | latency (bad : Bool)
  /-- This member has reported HOLD (R197). -/
  | held
deriving DecidableEq, Repr

/-- The execution of the array in RUN (R199, R200). -/
inductive ArrayRun where
  /-- Not in RUN: the step clock is gated. -/
  | gated
  /-- RUN entered; a domain member waits for its start edge (R129). -/
  | awaitingEdge
  | running
  /-- Stopped for room in RUN (R199). -/
  | stoppedForRoom
  /-- A holding cause has taken effect; HOLD is not reported yet (R200). -/
  | enteringHold
deriving DecidableEq, Repr

/-- Execution state of the array: the step schedule, its stops and its stalls (chapter 05). -/
structure Sched where
  run : ArrayRun
  /-- 64-bit cycle count and the latch of `CycleCountHigh` (R106). -/
  cycle : Nat
  cycleHigh : Nat
  /-- The step of the cycle; `opened` once its P0 has begun. -/
  step : Nat
  opened : Bool
  /-- Nibs that have executed the open step, and port descriptors whose groups have. -/
  done : List Nat
  groups : List Nat
  /-- Deliveries pending in P3 of the open step. -/
  p3 : List Delivery
  /-- Stalls ahead of the array or in force, the earliest first. -/
  stalls : List Stall
  stops : List PendingStop
  /-- Sources that have raised a room cause and have no room yet: cause bit and source number (R199). -/
  rooms : List (Nat × Nat)
  /-- Target cycle of a Step (R202): the cycle whose boundary stops the array. -/
  target : Option Nat
  points : List PendingPoint
  /-- Demands whose notice has reached every die: source and point (R124). -/
  inForce : List (Nat × Nat)
  /-- Point in effect (R104). -/
  point : Nat
  /-- Slots decided in this cycle or the next: cycle and slot. -/
  decided : List (Nat × Nat)
  /-- Absent answers that `LateAnswers` has counted: queue key and wait slot in absolute steps (R153). -/
  lateCounted : List (Nat × Nat)
  /-- The running cycle has begun (R210); the crossing staging of the cycle has been sampled (R126). -/
  begun : Bool
  sampled : Bool
  /-- Step-clock points that the domain peers demand, by the lane of the notice (R130). -/
  peerPoints : List (Nat × Nat)
  /-- The step at whose P0 the latches of the last boundary reach their word-cell side, until they have (R125). -/
  latchDue : Option Nat
deriving DecidableEq, Repr

/-- A dependent read before arrival in the open step (R62): die-local nib, operand 0 to 3, receive address. -/
structure EarlyRead where
  die : Nat
  nib : Nat
  operand : Nat
  rx : Nat
deriving DecidableEq, Repr

/-- What the log limits of one cycle remember (R62, R101, R115, R145, R173): findings of the open step not yet logged, and
the dies, units and ports that have logged in this cycle. -/
structure CycleLog where
  early : List EarlyRead
  earlyDies : List Nat
  collisions : List Collision
  collisionUnits : List Nat
  waitPorts : List Nat
  rangePorts : List Nat
  tokenDies : List Nat
deriving DecidableEq, Repr

def CycleLog.empty : CycleLog := ⟨[], [], [], [], [], [], []⟩

/-- The array and its network. -/
structure NibArray where
  /-- Key: module nib number. -/
  nibs : Sparse Nib
  /-- Key: (die × 4,096 + step) × 131,072 + die-local nib identifier. -/
  words : Sparse TierWord
  /-- Key: ((die × 4,096 + step) × 2,048 + cluster) × 48 + route word. -/
  routeWords : Sparse TierWord
  /-- Key: die × 2,048 + tile × 32 + cluster. -/
  clusters : Sparse Cluster
  /-- Key: die × 64 + tile. -/
  tiles : Sparse Tile
  flights : List Flight
  claims : List Claim
  routes : List Route
  sched : Sched
  cyclog : CycleLog
  /-- Key: port × 64 + descriptor; port = die × 256 + tile × 4 + port. -/
  queues : Sparse Queue
  /-- Requests on their way to HBM or DDR5, in port order. Key: port. -/
  requests : Sparse (List PortRequest)
  /-- SyncEventMask, 256 bits (R95), and the votes of the cycles still running: cycle, event, scope. -/
  syncMask : Nat
  votes : List (Nat × Nat × Nat)
  /-- Upper tiers powered (R68). -/
  upperPowered : Bool
  /-- Flight numbers given out. -/
  flightCount : Nat
deriving DecidableEq, Repr

/-! ### Run control (chapter 08) -/

/-- Operating modes, Table 8-1. -/
inductive Mode where
  | dormant | standby | loaded | run | hold | service
deriving DecidableEq, Repr

/-- A module time: seconds, nanoseconds, fraction in 2^-16 ns, and its source bit (R210). -/
structure Stamp where
  seconds : Nat
  ns : Nat
  fraction : Nat
  global : Bool
deriving DecidableEq, Repr

def Stamp.zero : Stamp := ⟨0, 0, 0, false⟩

/-- Run control (R192 to R203, R209 to R214). -/
structure RunCtl where
  mode : Mode
  valid : Bool
  /-- RunCommandStatus and the command that is busy. -/
  status : Nat
  stopCause : Nat
  stopFault : Nat
  /-- The armed RunAt: its target and the cycle limit it was written with (R214). -/
  runAt : Option (Nat × Nat × Nat)
  /-- Mode in which Standby was written, and whether it saved slot 0 (R209). -/
  wakeMode : Mode
  savedSlot0 : Bool
  /-- A Wake is restoring slot 0: the mode changes once the fabric is released (R209, R237). -/
  waking : Bool
  /-- Domain indices of the other members that are in RUN (R197). -/
  peersRunning : List Nat
  /-- Domain lanes over which a peer has told of a native latency above its Λ (R128). -/
  peerMismatch : List Nat
  /-- The count of reference edges at which the domain starts (R129). -/
  startEdge : Nat
  /-- A domain lane has been lost, and this member has neither been restored nor committed anew since (R131). -/
  domainLost : Bool
  /-- Run commands accepted: what "per run command" counts (R195). -/
  commands : Nat
  /-- Requesters whose 0x6104 has been logged since the last run command (R334). -/
  timeoutLogged : List Nat
  /-- Cycle-start record (R210), and its latched copy 0x2140 (R211). -/
  lastCycle : Nat
  lastStart : Stamp
  latchedCycle : Nat
  latchedStart : Stamp
  /-- The mark (R212): control, armed cycle, time, done. -/
  markArmed : Bool
  markTime : Stamp
  markDone : Bool
deriving DecidableEq, Repr

/-! ### Memories, march and contact sheets (chapters 06 and 08) -/

/-- The march engines (R158 to R164). -/
structure March where
  /-- MarchStatus; the value of the busy command, 1 to 4, and whether it is the march at start (R160). -/
  status : Nat
  kind : Nat
  atStart : Bool
  failedBanks : Nat
  failedLines : Nat
  duration : Nat
  /-- First 64 failing addresses of each die (0-7) and stack (8-11). -/
  record : List (Nat × Nat)
  /-- Unavailable banks, as die × 1,536 + bank, and rows remapped per die. -/
  unavailable : List Nat
  /-- Remapped rows: die × 1,536 + bank, row. -/
  remapped : List (Nat × Nat)
deriving DecidableEq, Repr

/-- A line of a remote-data cache (R155): die, die-local line offset, its 64 bytes, dirty. [DEDUCED, unsafe: log 76] -/
structure CacheLine where
  die : Nat
  offset : Nat
  data : List Byte
  dirty : Bool
deriving DecidableEq, Repr

/-- Memories of the module (Table 1-5). -/
structure Memories where
  /-- Scratchpad, blotter, acquisition SRAM, HBM and DDR5, by physical address (Table 1-6). -/
  bytes : Sparse Byte
  /-- On-die banks: die × 2^28 + die-local design-memory offset (R136). -/
  onDie : Sparse Byte
  /-- Remote-data caches (R155). -/
  cache : List CacheLine
  march : March
  /-- Banks that a port owns since the last commit, as die × 1,536 + bank: the others are powered off (R137). None before a first
  commit since POR. -/
  owned : Option (List Nat)
  /-- In-service retrainings of the DDR5 channels, as channel numbers (R153). -/
  retrained : List Nat
deriving DecidableEq, Repr

/-! ### Reset, supply and thermal control (chapter 20) -/

/-- Reset controller and supply (R475 to R487, R500 to R502). -/
structure ResetCtl where
  /-- ResetCause, LastResetLevel, ResetCount. -/
  cause : Nat
  lastLevel : Nat
  count : Nat
  /-- The level whose recovery is in progress: 1 CORE, 2 SYS, 3 POR, 4 internal POR (R500). -/
  recovery : Option Nat
  /-- A requested reset on its way: level and source bit (R481). -/
  request : Option (Nat × Nat)
  /-- Consecutive escalated internal PORs (R502), and the source bit of the one that waits. -/
  escalatedRun : Nat
  waitingSource : Nat
  /-- VIN at or above the always-on threshold; VIN below the brown-out threshold (R486). -/
  vin : Bool
  brownOut : Bool
  /-- DDR5 refused after a brown-out under MINIMAL or a failed random source (R466, R478). -/
  ddrRefused : Bool
  /-- Clocks that have failed under MINIMAL and not locked again (R485). -/
  failedLoops : List ClockSource
  /-- Blocks of Table 20-4 held in reset, oldest first, and blocks whose release waits for a stable clock. -/
  blockHeld : List Nat
  blockWaiting : List Nat
  blockStatus : Nat
  releasesDelayed : Nat
  /-- Count of the module watchdog in ns (R480). -/
  watchdogCount : Nat
  /-- Interval counts and log limits of R489. -/
  excursions : Nat
  powerLogged : Bool
  /-- BlockResetRequest and profile as sampled at power-on (R477). -/
  profile : Profile
  /-- What surrounds a start, as the last power-on found it. -/
  env : StartEnvironment
  /-- A clock failure has raised the reset in progress: automatic mode takes the oscillator (R395). -/
  clockReset : Bool
  /-- Faults of severity error or fatal in the commit in progress (R270, R501). -/
  commitFaults : Nat
deriving DecidableEq, Repr

/-- Sensors and thermal demands (R41, R490 to R493). Raw values are the 16-bit words of Table 2-3. -/
structure Thermal where
  temps : List Nat
  supply : List Nat
  /-- Demands raised: element code and point (R491). -/
  raised : List (Nat × Nat)
  events : Nat
  /-- The critical condition of R492 holds; 0x1203 has been logged (R492); an HBM stack above 95 °C (R153). -/
  critical : Bool
  /-- Elements that stood at their critical limit at the last update: 0-23 as R491 codes them, 24 the hub, 25 + k HBM stack k. -/
  reached : List Nat
  limitLogged : Bool
  hotStacks : List Nat
deriving DecidableEq, Repr

/-! ### Time (chapter 16) -/

/-- An Ethernet port (Table 16-2 and 0x2330 + p). -/
structure PtpPort where
  /-- The master heard by Announce and its rank in the data-set comparison (lower wins). -/
  master : Option Nat
  pathDelay : Nat
  syncReceived : Nat
  linkUp : Bool
  /-- The port state is INITIALIZING, after a block reset (Table 20-4). -/
  initializing : Bool
deriving DecidableEq, Repr

/-- The time base, its reference and its two ports (R394 to R405). -/
structure TimeBase where
  /-- The time in units of 2^-32 ns, the step of `RateAdjust` (R396). -/
  units : Nat
  latchedSecondsHigh : Nat
  latchedNs : Nat
  latchedFraction : Nat
  /-- Table 16-1. -/
  state : Nat
  /-- A step has been made since entry to state 0, 1 or 4. -/
  stepped : Bool
  /-- A step under R403 has been made since POR, SYS reset or Wake (R404). -/
  acquired : Bool
  sourcePort : Nat
  rate : Int
  /-- The offset last measured, in ps. -/
  offset : Int
  stepCount : Nat
  /-- Offsets collected towards the median (R403), in ps, newest first. -/
  offsets : List Int
  /-- Consecutive Sync intervals below LockThreshold. -/
  below : Nat
  ports : List PtpPort
  /-- ReferenceInUse: 1 chassis, 2 oscillator (R394), and ReferenceOffset. -/
  refInUse : Nat
  refOffset : Int
  /-- Edges of the 100 MHz reference counted since the counts were aligned (R129). -/
  edges : Nat
deriving DecidableEq, Repr

/-- A pulse generator (R406 to R408): 0x2340 + g:08, S in units of the time base, the number of the next pulse, and whether a pulse is
out. -/
structure Pulse where
  state : Nat
  start : Nat
  next : Nat
  active : Bool
deriving DecidableEq, Repr

def Pulse.idle : Pulse := ⟨0, 0, 0, false⟩

/-! ### Transactor cores (chapter 12) -/

/-- `CoreState` (0x2C10). -/
inductive CoreRun where
  | reset | running | blocked | wfi | debugHalt | lockedUp
deriving DecidableEq, Repr, Inhabited

/-- What the module holds of one transactor core (R293 to R301): its registers beyond these belong to RISC-V software.
[PRESUMED, unsafe: log 42] -/
structure Core where
  state : CoreRun
  /-- Running thread, if any. -/
  thread : Option Nat
  /-- 0x5D0 `sevpend` and 0x5D1 `seven` (R296). -/
  sevpend : Nat
  seven : Nat
  /-- Bit 16 of `sip`, the preemption request (R297), and SSIP raised by `schipi`. -/
  preempt : Bool
  ssip : Bool
  /-- Privilege mode: 3 machine, 1 supervisor, 0 user (R292). -/
  priv : Nat
  /-- Machine and supervisor CSRs that the core's software writes, by number: status, delegation, enables, `stimecmp`, `satp`, PMP (Table
  12-1, R297). -/
  csr : Sparse Nat
  /-- `schcfg`: the UCH bit that opens 0x800-0x804 to user mode (R299). -/
  uch : Bool
  /-- Program counter at release (R295), and `mepc`/`mcause` of a lock-up (R301). -/
  pc : Nat
  mepc : Nat
  mcause : Nat
  /-- The core sleeps (R388). -/
  asleep : Bool
  /-- rd of the last operation CSR that completed (R299). -/
  result : Nat
  /-- 0x7C0 `mtimecmp` (R293). -/
  mtimecmp : Nat
  /-- What a core halted by debug was doing: it resumes there (R454, R458). -/
  before : CoreRun
  /-- `mhpmevent3`-10 and `mhpmcounter3`-10 (R292, R389). -/
  hpmEvent : List Nat
  hpmCounter : List Nat
deriving DecidableEq, Repr, Inhabited

/-- Thread states (Table 12-4). -/
inductive ThreadState where
  | free | suspended | ready | running | delayed | waiting
deriving DecidableEq, Repr

/-- A thread's scheduling record (R298). -/
structure Thread where
  state : ThreadState
  priority : Nat
  affinity : Nat
  /-- Wake reason of Table 12-6. -/
  reason : Nat
  /-- Core that runs it, while RUNNING. -/
  core : Nat
  /-- The core whose next `schask` suspends it: `schset` action 1 was written while that core ran it (R299). -/
  suspendNext : Option Nat
  /-- Handle of the wait, while WAITING. -/
  handle : Nat
deriving DecidableEq, Repr

def Thread.free : Thread := ⟨.free, 0, 0, 0, 0, none, 0⟩

/-- The scheduler (R298 to R309). -/
structure Scheduler where
  threads : Sparse Thread
  /-- READY threads; those of one priority stand in the order of its ready list (R303). -/
  ready : List Nat
  /-- Delay lists (R309): wake key and thread, sorted, equal keys in order of insertion. -/
  tickList : List (Nat × Nat)
  cycleList : List (Nat × Nat)
  /-- Tick count (R307). -/
  ticks : Nat
  /-- Cores released before STANDBY or DORMANT (R320). -/
  releasedBefore : List Nat
deriving DecidableEq, Repr

/-- A channel entry that is not free (R313). -/
inductive SlotState where
  | reserved | posted | received | released
deriving DecidableEq, Repr

/-- A live channel (R310 to R319). -/
structure Channel where
  type : Nat
  declared : Bool
  depth : Nat
  bytes : Nat
  buffer : Nat
  /-- Ring position of the oldest entry that is not free, and the states of those entries in ring order. -/
  head : Nat
  slots : List SlotState
  /-- Credits held by the port of a type-1 channel, and credits on their way to it (R319). -/
  credits : Nat
  inFlight : Nat
  posted : Nat
  freed : Nat
  /-- WAITING threads with their condition, in the order in which they began to wait (R315). -/
  waiters : List (Nat × Nat)
  /-- Bound port: die × 128 + tile × 2 + port. -/
  port : Option Nat
deriving DecidableEq, Repr

/-- All channels (R311). -/
structure Channels where
  /-- Live channels by slot. -/
  live : List (Nat × Channel)
  /-- Generation of each slot; an unlisted slot has generation 1. -/
  gens : Sparse Nat
  /-- Slots reserved by the committed image (R184), with their declaration index. -/
  declared : List Nat
  /-- `ChannelSelect` of each requester (R322). -/
  selects : Sparse Nat
deriving DecidableEq, Repr

/-! ### The word-cell fabric (chapter 09) -/

/-- A result on its way to its registers (R220): destination 0-3 T, 4 OUT, 5 none; the flag it sets; edges left. -/
structure Landing where
  dst : Nat
  value : BitVec 32
  flag : Option Bool
  left : Nat
deriving DecidableEq, Repr

/-- One word cell (Table 9-1). -/
structure WordCell where
  t0 : BitVec 32
  t1 : BitVec 32
  t2 : BitVec 32
  t3 : BitVec 32
  out : BitVec 32
  flag : Bool
  pc : Nat
  /-- Crossing strobe (R232), and the edges counted since each load that has not set it yet. -/
  strobe : Bool
  sinceLoad : List Nat
  /-- Results in the pipeline, oldest first. -/
  landings : List Landing
  /-- Crossing bytes on their way to the staging register (R233): byte and edges left, oldest first. -/
  stagings : List (Nat × Nat)
  /-- Pad registers of the four inputs: 33-bit values sampled at the last edges, newest first (R227). -/
  pipes : List (List Nat)
  /-- Edges that the burst in progress still delivers (R230). -/
  burst : Nat
  /-- Edges of the track flag that clocks its spine which the cell has had (R228). -/
  flagEdges : Nat
  /-- The flag at the last edges, newest first, on its way to the trigger engine (R353). -/
  trail : List Bool
deriving DecidableEq, Repr

def WordCell.zero : WordCell := ⟨0, 0, 0, 0, 0, false, 0, false, [], [], [], [[], [], [], []], 0, 0, []⟩

/-- A BridgeFrame (Table 9-10) of an engine: its die, tile and 128-bit body. -/
structure BridgeBinding where
  die : Nat
  tile : Nat
  body : Nat
deriving DecidableEq, Repr

/-- A bridge engine (R240 to R244, R441). A beat is its words. -/
structure BridgeEngine where
  binding : Option BridgeBinding
  tx : List (List Nat)
  rx : List (List Nat)
  /-- Oldest receive beats that have reached the tile port (R241). -/
  delivered : Nat
  /-- A pause has been sent and no resume since; a pause has been received and no resume since. -/
  pauseSent : Bool
  paused : Bool
  /-- Beats pushed since the last load of the crossing latches (R244). -/
  pushed : Nat
  /-- 0x8121 has been logged since the last run command. -/
  overflowLogged : Bool
  /-- The engine waits for a stable clock after a block reset (R485). -/
  held : Bool
  /-- Beats that have reached the lanes, oldest first, and how many since commit (R440). -/
  sent : List (List Nat)
  beats : Nat
deriving DecidableEq, Repr

def BridgeEngine.idle : BridgeEngine := ⟨none, [], [], 0, false, false, 0, false, false, [], 0⟩

/-- A channel port (R245 to R247): beats of the message in progress, messages completed since the last load. -/
structure ChannelPort where
  beats : Nat
  completed : Nat
  /-- The handle's type does not fit the port: the message stays in it (R186). -/
  mismatch : Bool
deriving DecidableEq, Repr

def ChannelPort.idle : ChannelPort := ⟨0, 0, false⟩

/-- A probe multiplexer of the hub (R239): the select in effect, its samples at the last I/O clock edges, newest first, the I/O clock
cycles for which the output still holds its previous value, and the output. -/
structure ProbeMux where
  select : Nat
  samples : List Bool
  hold : Nat
  out : Bool
deriving DecidableEq, Repr

def ProbeMux.off : ProbeMux := ⟨0, [], 0, false⟩

/-- The word-cell fabric. -/
structure Fabric where
  /-- ClusterFrame bodies (key die × 2,048 + tile × 32 + cluster) and TileFrame bodies (die × 64 + tile), as numbers. -/
  clusterFrames : Sparse Nat
  tileFrames : Sparse Nat
  /-- FCLK0-15: the 16-bit fields of the ModuleFrame. -/
  fclk : List Nat
  /-- Key: die × 16,384 + cell. -/
  cells : Sparse WordCell
  /-- Last release stage of each tile, 0 isolated (key die × 64 + tile). -/
  release : Sparse Nat
  /-- Border wires parked at isolation (R236): global output ports 0-15, then trigger outputs 0-3, the 64 probe lanes, and the flags of
  the 64 tracks that the probe multiplexers select. -/
  parked : Sparse (List Nat)
  /-- Rising edges of the flag of each track since its tile was last held in reset (R228). Key: (die × 64 + tile) × 64 + track. -/
  trackEdges : Sparse Nat
  probes : List ProbeMux
  engines : List BridgeEngine
  /-- Key: (die × 64 + tile) × 2 + port. -/
  ports : Sparse ChannelPort
  /-- Delay registers: pad of class k on die d at d × 10 + k (R177). -/
  delays : List Nat
deriving DecidableEq, Repr

/-! ### The committed image (chapter 07) -/

/-- A lane of a schedule domain, as the image names it: lane and pinned latency in steps (R127, R128). -/
structure DomainLane where
  lane : Nat
  latency : Nat
deriving DecidableEq, Repr

/-- The terms of the committed image that the hardware keeps (R167, R191). -/
structure Image where
  grade : Nat
  feature : Nat
  compiler : Nat
  imageId : List Byte
  travelTable : Nat
  latency : List Nat
  guestUse : Bool
  guestAllowance : Nat
  /-- Schedule length L (R105). -/
  length : Nat
  domainSize : Nat
  domainIndex : Nat
  domainLanes : List DomainLane
  hbmArenaSize : Nat
  deepArenaSize : Nat
  hbmBase : Nat
  deepBase : Nat
  /-- P_image in 0.1 W (R172). -/
  budget : Nat
  /-- B[u][g], key u × 256 + g, and W[u] (R170, R173, R174); u = die × 64 + tile. -/
  segmentBudget : Sparse Nat
  cellBudget : Sparse Nat
  /-- Tokens of the schedule in one cycle (R175). -/
  tokensPerCycle : Nat
  bindingAddress : Nat
  bindingLength : Nat
  /-- The committed digest (R276). -/
  digest : Nat
deriving DecidableEq, Repr

/-- Token counts of the running cycle and of the last one (R173 to R175). -/
structure Tokens where
  drawn : Nat
  withheld : Nat
  drawnLast : Nat
  withheldLast : Nat
  overdraws : Nat
  /-- The overdraw has been logged since the last run command. -/
  logged : List Nat
deriving DecidableEq, Repr

/-! ### The fixer (chapter 11) -/

/-- Frame groups of Table 11-1. -/
inductive FrameKind where
  | tierRow | carryMask | descriptor | clusterFrame | tileFrame | bridgeFrame | moduleFrame | pads
deriving DecidableEq, Repr

/-- One frame group: its kind, die, tile, and step, cluster or engine. -/
structure FrameGroupId where
  kind : FrameKind
  die : Nat
  tile : Nat
  item : Nat
deriving DecidableEq, Repr

/-- Golden contents and the fixer's registers (R280 to R291). The golden signature of a group is the CRC-64 of its golden contents, which
the store holds. -/
structure Fixer where
  goldenWords : Sparse TierWord
  goldenRoutes : Sparse TierWord
  /-- Carry masks by module nib number; descriptors as relocated by queue key. -/
  goldenCarry : Sparse Nat
  goldenDescriptors : Sparse Nat
  goldenClusters : Sparse Nat
  goldenTiles : Sparse Nat
  goldenEngines : List (Option BridgeBinding)
  goldenFclk : List Nat
  goldenProbes : List Nat
  goldenDelays : List Nat
  /-- The fixer scrubs (R284). -/
  running : Bool
  /-- Groups whose repair has failed and that have not matched since (R286). -/
  failed : List FrameGroupId
  /-- The pass (R283): groups that each engine has checked (E-dies 0 to 7, then the hub), groups found to differ, whether 0x3305 has been
  logged in it, and the uptime at its start. -/
  checked : List Nat
  differing : Nat
  warned : Bool
  passStart : Nat
  /-- Upsets that stand in the registers of the protected set, each the number of a register and the bits flipped (R289), and whether the
  fixer is being reset (R291). -/
  controlFlips : List (Nat × Nat)
  resetting : Bool
  /-- The last 64 records of Table 11-2, oldest first. -/
  records : List Nat
deriving DecidableEq, Repr

/-! ### Die links (chapter 13) -/

/-- A die-link bundle (R335 to R340). -/
structure Bundle where
  /-- BundleState: 0 not fitted, 1 full width, 2 half width, 3 failed, 4 training. -/
  state : Nat
  /-- Its bit of the half-width mask of `TravelTableVersion`. -/
  half : Bool
  /-- Physical lane (0-543) that carries each of the 512 or 256 positions. -/
  lanes : List Nat
  /-- Physical lanes out of service, and positions whose lane is lost and reads 0 until its replacement. -/
  failed : List Nat
  dead : List Nat
  /-- Weak lanes being replaced (R336): position, spare, and the cycle boundaries until the receiver takes the spare. -/
  moving : List (Nat × Nat × Nat)
  /-- Direction of each data lane as the committed image sets it: true towards the east neighbour, or up to the hub (R111). -/
  directions : List Bool
  repaired : Nat
  lost : Nat
  firstCycle : Option Nat
deriving DecidableEq, Repr

/-- The guest die and its firewall (R343 to R350). -/
structure Guest where
  /-- GuestState of 0x3800:02. -/
  state : Nat
  linkRate : Nat
  power : Nat
  descriptor : List Byte
  /-- A power cut waits for a write of 0 and then 1 (R349); the 0 has been written. -/
  cut : Bool
  zeroWritten : Bool
  /-- Windows whose denial has been logged since the last run command (8 for an access outside every window). -/
  logged : List Nat
  /-- Tokens of each window in thousandths of a byte, and accepted requests that wait for tokens, oldest first, with their window. -/
  tokens : List Nat
  waiting : List (Nat × GuestAccess)
deriving DecidableEq, Repr
/-! ### Trace (chapter 15) -/

/-- A trace record (Table 15-2, Table 15-4). -/
structure TraceRec where
  source : Nat
  kind : Nat
  timeKind : Nat
  gap : Nat
  ext : Nat
  time : Nat
  payload : Nat
  /-- Nanoseconds since POR at which it was offered. -/
  offered : Nat
deriving DecidableEq, Repr

/-- Program flow of one core (R377, R378): the last PfBranches and the repeats counted; the branches collected since the last record, as
the address of the first instruction, how many, and their directions. -/
structure PfState where
  last : Option (Nat × Nat × Nat)
  repeats : Nat
  first : Nat
  count : Nat
  history : Nat
deriving DecidableEq, Repr

def PfState.none : PfState := ⟨Option.none, 0, 0, 0, 0⟩

/-- The trace subsystem (R372 to R388). -/
structure Trace where
  /-- Trace clock TC. -/
  tc : Nat
  /-- FIFO of each source, oldest first. -/
  fifos : Sparse (List TraceRec)
  /-- Records of each source dropped since the last one its FIFO accepted. -/
  gaps : Sparse Nat
  /-- A drop has been logged since `TraceEnable` rose. -/
  dropLogged : Bool
  writeP : Nat
  readP : Nat
  /-- Source last served at priority 0 to 3. -/
  served : List Nat
  pf : Sparse PfState
deriving DecidableEq, Repr

/-! ### Security (chapter 19) -/

/-- Life-cycle states (Table 19-1). -/
inductive LifeCycle where
  | blank | develop | deploy | returned | ended
deriving DecidableEq, Repr

/-- Keys, levels and tables (R447 to R473). -/
structure Security where
  lifeCycle : LifeCycle
  /-- Debug level in effect, 0 closed to 3 factory. -/
  level : Nat
  /-- Stream keys of slots 0 and 1 and the lane key of slot 2 (Table 19-2); slot 0 invalidated. -/
  slot0 : Option Nat
  slot0Invalid : Bool
  slot1 : Option Nat
  slot2 : Option Nat
  /-- Stream-signing digests 1-4, the owner's and Yelrov's, and the firmware-signing digest. -/
  digests : List (Option Nat)
  /-- Digest slots revoked. -/
  revoked : List Nat
  ownerDigest : Option Nat
  yelrovDigest : Nat
  firmwareDigest : Nat
  identitySeed : Option Nat
  nonce : Nat
  /-- 0x2602:01. -/
  authStatus : Nat
  rightsLock : Bool
  /-- Rights tables that software has written: requester and 16 entries; the others hold their default grants. -/
  tables : List (Nat × List Nat)
  /-- Requesters whose denial, and whose level refusal, has been logged (R455, R462). -/
  deniedLogged : List Nat
  levelLogged : List Nat
  /-- HaltCause, and the halt in force (R471). -/
  haltCause : Nat
  halted : Bool
  /-- The wipe of the secure scratchpad is in progress (R463). -/
  wiping : Bool
  /-- ScrambleKeyId; a session key is in place (R466). -/
  keyId : Nat
  sessionKey : Bool
  /-- Battery-backed: a tamper event with VIN absent (R465), and slots lost with the battery (R451). -/
  tamperRecorded : Bool
  batteryLost : Bool
  /-- The SYS reset of step 5 of R448 is due. -/
  resetDue : Bool
  /-- The attestation report (Table 19-8 up to 0x08F, R473). -/
  report : List Byte
  tap : TapInstr
  /-- Boundary-scan cells of the pins as the last SAMPLE/PRELOAD or EXTEST left them: driver enable and value of pin n (R456). -/
  boundary : List ScanCell
  /-- DBGACC: status, address, data (R457). -/
  dbgStatus : Nat
  dbgAddress : Nat
  dbgData : Nat
deriving DecidableEq, Repr


/-! ### The loader (chapter 10) -/

/-- A plaintext image in the staging area; an unlisted byte is zero. -/
structure Staged where
  bytes : Sparse Byte
  length : Nat
deriving DecidableEq, Repr

/-- What a slave port has seen of the stream on it: its StreamId, the next StreamSeq, the bytes delivered so far, and
whether every frame so far continued the numbering (R256). -/
structure PortTrack where
  id : Nat
  next : Nat
  position : Nat
  ok : Bool
deriving DecidableEq, Repr

def PortTrack.none : PortTrack := ⟨0, 0, 0, false⟩

/-- What a first frame has discarded or disarmed: a stream of another port whose first frame comes in the same I/O clock cycle may
still displace it (R214, R254, R265). -/
structure Displaced where
  retained : Option Staged
  chain : List Staged
  runAt : Option (Nat × Nat × Nat)
deriving DecidableEq, Repr

/-- The stream being taken (R257, R258). -/
structure Stream where
  port : Nat
  id : Nat
  partialImage : Bool
  encrypted : Bool
  /-- KeySlot and StreamNonce (R260). -/
  keySlot : Nat
  nonce : Nat
  frameCount : Nat
  taken : Nat
  /-- VerifyKeyDigest. -/
  keyDigest : Nat
  image : Staged
  /-- Offset and length of the data frames taken. -/
  pieces : List (Nat × Nat)
  /-- The frames taken, whole and in order, up to the last data frame: what the stream digest runs over (R259). -/
  digested : List Byte
  /-- I/O clock edge at which the first frame came, and what it displaced. -/
  openedAt : Nat
  displaced : Displaced
deriving DecidableEq, Repr

/-- The loader and its staging areas (R251 to R279). -/
structure Loader where
  /-- 0x2400:01, 03 and the 64-bit offset of 06 and 07. -/
  state : Nat
  fault : Nat
  offset : Nat
  stream : Option Stream
  /-- Key: port code. -/
  tracks : Sparse PortTrack
  /-- Bytes in the receive buffers of the serial and the parallel port, by port code, in half bytes (R253). -/
  buffered : Sparse Nat
  /-- StreamIds of which no further frame is taken (R254, R257, R263). -/
  ignored : List Nat
  /-- The retained full image (R265) and the chain of partial images (R276). -/
  retained : Option Staged
  chain : List Staged
  /-- 0x2402:06, and the bus address and the bytes that the load DMA reads next (R255). -/
  dmaStatus : Nat
  dmaAddress : Nat
  dmaLeft : Nat
  /-- Straps PSEL0 to PSEL3. -/
  select : Nat
deriving DecidableEq, Repr

/-! ### Contact sheets (chapter 08) -/

/-- The design state of R192 as a sheet holds it. The layout of a body is left to the grade (R207), so the model keeps its contents. -/
structure DesignState where
  /-- Nibs without instruction latch and carry mask. -/
  nibs : Sparse Nib
  clusters : Sparse Cluster
  tiles : Sparse Tile
  flights : List Flight
  claims : List Claim
  /-- Queue entries, with the answers still to discard, by queue key. -/
  queues : List (Nat × List QEntry × Nat × Nat)
  /-- Word cells of burst domains. -/
  cells : Sparse WordCell
  cycle : Nat
  onDie : Sparse Byte
  /-- Arena bytes, by offset in the arena. -/
  hbm : Sparse Byte
  deep : Sparse Byte
deriving DecidableEq, Repr, Inhabited

/-- A slot of 0x2120:03 (R205 to R208). -/
structure Sheet where
  full : Bool
  reserved : Bool
  header : List Byte
  /-- What a Save has written as the body; none for a body that software has written. The bytes stand in DDR5. -/
  body : Option DesignState
  address : Nat
  length : Nat
deriving DecidableEq, Repr

def Sheet.empty : Sheet := ⟨false, false, [], none, 0, 0⟩

/-! ### Zulon lanes (chapter 18) -/

/-- A block of a lane: the control blocks of Table 18-2 with their fields, and a data block (R432, R433). -/
inductive LaneBlock where
  | idle
  | align (lane edges : Nat)
  | neg (rate : Nat) (deterministic : Bool)
  | train (rate : Nat)
  | pause (engine : Nat)
  | resume (engine : Nat)
  | notice (kind argument : Nat)
  | dark
  | data (bits : Nat)
deriving DecidableEq, Repr

/-- A Zulon lane (Table 18-7). -/
structure Lane where
  /-- `LaneState`: 0 not fitted, 1 down, 2 training, 3 up, 4 pinned, 5 dark. -/
  state : Nat
  rate : Nat
  blockLock : Bool
  /-- The bring-up in progress leaves the slips to the host (R436); it returns from the dark state (R443). -/
  manual : Bool
  fromDark : Bool
  headerErrors : Nat
  /-- Λn of the last stage 5, in steps; 0 when none has been measured. -/
  native : Nat
  /-- The check group of the last stage 5 did not decode (R470). -/
  keyMismatch : Bool
  /-- The lane has lost its pinned latency as a domain lane and has not been trained since (R131). -/
  lostPin : Bool
  blockErrors : Nat
  fecCorrected : Nat
  losses : Nat
  /-- Blocks at which the elastic buffer is pinned (R438). -/
  depth : Nat
  /-- Data blocks of bridge beats, and control blocks that a rule has the lane send, oldest first (R440 to R443). -/
  sent : List LaneBlock
deriving DecidableEq, Repr

/-- A lane that the grade does not fit. -/
def Lane.unfitted : Lane := ⟨0, 0, false, false, false, 0, 0, false, false, 0, 0, 0, 0, []⟩

/-- The PCI Express function (R444, R445). [DEDUCED, unsafe: log 74] -/
structure HostLink where
  windowBase : Nat
  /-- MSI-X vectors sent, oldest first: vector k is event line k of Table 12-3. -/
  vectors : List Nat
deriving DecidableEq, Repr

/-! ### Pins (chapter 17) -/

/-- What a pad shows: its driver (0 off, 1 push-pull, 2 open-drain), its value, its pull, drive and slew. -/
structure Pad where
  mode : Nat
  value : Bool
  pull : Nat
  drive : Nat
  slew : Bool
deriving DecidableEq, Repr, Inhabited

/-- A pin that switches (R424): the pad shown when it began, the state it switches from and to drive in the same Mode, and the I/O
clock edges since. -/
structure Switch where
  pin : Nat
  shown : Pad
  direct : Bool
  edges : Nat
deriving DecidableEq, Repr

/-- The filter of a pin (R418): the I/O clock edges that it passes over before its next sample, its last sample, and how many samples in a
row have shown it, at most 3. -/
structure PinFilter where
  skip : Nat
  last : Bool
  run : Nat
deriving DecidableEq, Repr

def PinFilter.fresh : PinFilter := ⟨0, false, 0⟩

/-- The pin block (R411 to R430). -/
structure Pins where
  /-- Straps BV_A to BV_F: bit b for 3.3 V. Fused pull codes of the banks. -/
  voltage : Nat
  fusedPull : Nat
  /-- Filtered levels before InvertIn, bit n for pin n (R418). -/
  filtered : Nat
  filters : List (Nat × PinFilter)
  /-- Held pins with the pad state they keep (R421). -/
  held : List (Nat × Pad)
  /-- Pins in safe state with the pad that it gave them (R422). -/
  safe : List (Nat × Pad)
  /-- The pads that sleep gave the pins (R420); none while the module is awake. -/
  asleep : Option (List Pad)
  switching : List Switch
  /-- Pins whose shared outputs have been logged (R417). -/
  sharedLogged : List Nat
  /-- Levels of the input functions, bit f for InFunc f (R419). -/
  functions : Nat
  /-- Functions whose feeding pin has changed, with the samples in a row that the new pin's filter has since taken alike (R419). -/
  settling : List (Nat × Nat)
  /-- Software outputs as the last I/O clock edge took them, bit n for pin n (R416). -/
  software : Nat
  /-- Pattern units: 0 off, 1 disarmed, 2 armed (R425 to R427). -/
  patterns : List Nat
deriving DecidableEq, Repr

/-! ### Trigger and acquisition (chapter 14) -/

/-- A trigger unit (R354 to R357). -/
structure TrigUnit where
  /-- Armed for a rising and for a falling event (mode 3 tracks them separately; the other modes use the first). -/
  armed : Bool
  armedFall : Bool
  /-- Qualifying events since the last firing. -/
  count : Nat
  /-- Holding off, and what is left: I/O clock cycles (kind 1), events (kind 2) or crossing loads (kind 3). -/
  holding : Bool
  left : Nat
deriving DecidableEq, Repr

def TrigUnit.fresh : TrigUnit := ⟨false, false, 0, false, 0⟩

/-- A sampler (R358 to R368). -/
structure Sampler where
  armed : Bool
  triggered : Bool
  complete : Bool
  aborted : Bool
  /-- Disarmed in stream mode: it completes once its buffer has drained. -/
  draining : Bool
  sequence : Nat
  /-- Decimation exponent, and the share held in units of 2^-15 kB/s. -/
  k : Nat
  share : Nat
  /-- Clock edges since the arm, kept samples, samples drained. -/
  edges : Nat
  kept : Nat
  drained : Nat
  /-- Units that have fired since the arm, and a forced trigger that waits for the next I/O clock edge (R361). -/
  fired : Nat
  forcing : Bool
  /-- The trigger: index t, units that fired at its instant, forced, time and cycle. -/
  t : Nat
  cause : Nat
  forced : Bool
  time : Stamp
  cycle : Nat
  armTime : Stamp
  /-- Write pointer of the ring. -/
  writePointer : Nat
  /-- The two stages of its synchroniser on an FCLK: the trigger-output words that they hold (R358). -/
  stages : List Nat × List Nat
deriving DecidableEq, Repr

def Sampler.fresh : Sampler :=
  ⟨false, false, false, false, false, 0, 0, 0, 0, 0, 0, 0, false, 0, 0, false, Stamp.zero, 0, Stamp.zero, 0, ([], [])⟩

/-- A trigger output (R369): the I/O clock edges until each assertion that is on its way, and the I/O clock cycles for which it stays
asserted. -/
structure TrigOutput where
  coming : List Nat
  left : Nat
deriving DecidableEq, Repr

def TrigOutput.idle : TrigOutput := ⟨[], 0⟩

/-- What is on its way to the trigger units (Table 14-2). -/
structure TrigPath where
  /-- I/O clock edges since the last crossing load, at most 3; the probe words and the cycle that the load before it carried. -/
  age : Nat
  oldSides : List (Nat × BitVec 64)
  oldCycle : Nat
  /-- TRIG and STAR_IN lines: their level at the last I/O clock edge, and as the units see it. -/
  lineLast : Nat
  lineSeen : Nat
  /-- Trigger outputs of tiles, 4 bits each: held in the stretcher, captured at the last edge, seen by the units. -/
  stretched : List (Nat × Nat)
  captured : List (Nat × Nat)
  shown : List (Nat × Nat)
  /-- Outputs of the pulse generators at the last two edges, newer first (R369). -/
  pulses : Nat × Nat
deriving DecidableEq, Repr

def TrigPath.fresh : TrigPath := ⟨3, [], 0, 0, 0, [], [], [], (0, 0)⟩

/-- The trigger engine (R352 to R371). -/
structure Trigger where
  units : List TrigUnit
  samplers : List Sampler
  /-- TRIG0-7, then STAR_OUT0-1. -/
  outputs : List TrigOutput
  /-- Bits 7-0: TRIG lines that another card asserts; 9-8: STAR_IN. -/
  lines : Nat
  /-- The cycle whose values the last crossing load carries (R352). -/
  loadedCycle : Nat
  path : TrigPath
deriving DecidableEq, Repr

/-! ### Rings (R323 to R333) -/

/-- What a stop's wake buffer holds: a ring packet, or a system-class access. -/
inductive Held where
  | packet (p : RingPacket)
  | access (a : SysAccess)
deriving DecidableEq, Repr

/-- A packet at a stop: in the injection queue of its source, or in the flit buffers of a virtual channel of its ring (R330); `waited`
counts the ring cycles for which its link has carried other flits (R329). -/
structure Transit where
  ring : Nat
  stop : Nat
  channel : Nat
  injecting : Bool
  waited : Nat
  packet : RingPacket
deriving DecidableEq, Repr

/-- The arbiter of the link by which a ring leaves a stop (R329): its last packet came from the injection queue, and the ring cycles
since it last served a starving packet, at most 16. -/
structure LinkTurn where
  ring : Nat
  stop : Nat
  injected : Bool
  since : Nat
deriving DecidableEq, Repr

/-- Slots of the calendar of a link that a bridge engine owns (R331). -/
structure RingSlots where
  engine : Nat
  ring : Nat
  stop : Nat
  slots : List Nat
deriving DecidableEq, Repr

/-- A system-class request that waits for its answer (R327). -/
structure Outstanding where
  tag : Nat
  requester : Nat
  address : Nat
deriving DecidableEq, Repr

/-- The rings, and the domains that sleep behind their stops: HBM controllers 0-3, DDR5 controllers 4-7, the guest 8.
[DESIGN CHOICE, unsafe: log 48] -/
structure Rings where
  /-- Credits taken and returned since POR (R330). -/
  granted : Nat
  returned : Nat
  /-- Packets at the stops, in the order in which they reached them. -/
  transit : List Transit
  /-- Links that have carried a packet. -/
  links : List LinkTurn
  /-- Reserved slots of the enabled bridge engines (R331). -/
  calendar : List RingSlots
  /-- Packets that stops have delivered to their owners, oldest first: stop and header. -/
  ejected : List (Nat × Nat)
  sleeping : List Nat
  held : List (Nat × Held)
  outstanding : List Outstanding
  /-- Answers that came later than their commands, oldest first: requester and answer. -/
  completions : List (Nat × Answer)
deriving DecidableEq, Repr

/-! ### The whole state -/

/-- Where the behaviour ends (R10): the one way a command stops the model. -/
inductive Fault where
  /-- SENSOR_UPDATE raises it: VIN above 18 V, or a junction below −55 °C (R507); the module reports nothing there and the
  spec gives no behaviour. Safe: the model stops where the hardware may do anything. -/
  | outsideSpecification
deriving DecidableEq, Repr

/-- No meaning. -/
inductive Refusal where
  /-- Raised only by Dispatch, for a command that has no meaning yet. Safe. -/
  | notModelled (mnemonic : String)
deriving DecidableEq, Repr

/-- The state of the block. -/
structure State where
  /-- Commands waiting, first in, first out. -/
  pending : List Instr
  answer : Answer
  part : Part
  /-- Dictionary settings that have no other home: key = index × 256 + sub-index; an unlisted key reads as its default. -/
  dict : List (Nat × Nat)
  mgmt : Mgmt
  can : Can
  boot : Boot
  log : Log
  arr : NibArray
  run : RunCtl
  mem : Memories
  rst : ResetCtl
  therm : Thermal
  time : TimeBase
  pulses : List Pulse
  image : Option Image
  tokens : Tokens
  fixer : Fixer
  bundles : List Bundle
  /-- Guarantee 2, three counts per E-die: preloaded, issued, removed (R504). -/
  queueCounts : List Nat
  /-- Notices sent to the domain peers, oldest first (R130). -/
  notices : List NoticeOut
  /-- Values that left over domain lanes: lane, nib, receive address, value (R107). -/
  laneOut : List (Nat × Nat × Nat × Bool)
  cores : List Core
  sched : Scheduler
  chan : Channels
  fabric : Fabric
  trace : Trace
  sec : Security
  loader : Loader
  rings : Rings
  guest : Guest
  sheets : List Sheet
  lanes : List Lane
  pins : Pins
  trig : Trigger
  host : HostLink
  /-- Free values drawn so far: the n-th is Config.freeWord n. The model's own field, not the spec's. -/
  free : Nat
deriving DecidableEq, Repr

/-! ### The state after reset (R194, R475, R476, R500) -/

/-- The array at cycle 0 with its step clock gated (R106, R192). -/
def Sched.fresh : Sched where
  run := .gated
  cycle := 0
  cycleHigh := 0
  step := 0
  opened := false
  done := []
  groups := []
  p3 := []
  stalls := []
  stops := []
  rooms := []
  target := none
  points := []
  inForce := []
  point := 0
  decided := []
  lateCounted := []
  begun := false
  sampled := false
  peerPoints := []
  latchDue := none

/-- Native latencies of an E-die stepping, classes 0 to 9 (Table 7-6); the hub's are 0. -/
def nativeOf (kind stepping : Nat) : List Nat :=
  if kind = 2 then List.replicate 10 0
  else if stepping = 0x20 then [1, 3, 1, 2, 2, 5, 5, 2, 2, 1]
  else [2, 4, 1, 2, 3, 6, 5, 3, 2, 2]

/-- The bytes 0x00 to 0xF7 of a ROM (Table 13-7). -/
def DieRom.bytes (r : DieRom) : List Byte :=
  toBytes 4 r.magic ++ [BitVec.ofNat 8 r.kind, BitVec.ofNat 8 r.stepping, BitVec.ofNat 8 r.feature, 0] ++ toBytes 8 r.serial ++
    (r.native.take 10).map (BitVec.ofNat 8) ++ List.replicate 222 0

/-- A ROM as assembly writes it: serial number 0, its Crc in place. -/
def DieRom.sealed (kind stepping feature : Nat) : DieRom :=
  let r : DieRom := ⟨0x44534544, kind, stepping, feature, 0, nativeOf kind stepping, 0⟩
  { r with crc := crc64 r.bytes }

/-- The module of the reset state: grade E8 with a guest, dies of stepping A1 at feature level 1, 512 GiB of DDR5 on four channels,
every fuse unblown (assumption log 6). [DESIGN CHOICE, unsafe: log 6] [DESIGN CHOICE, unsafe: log 7] -/
def Part.chosen : Part where
  grade := .e8
  guest := true
  roms := List.replicate 8 (DieRom.sealed 1 0x11 1)
  hubRom := DieRom.sealed 2 0x01 0
  profileFuse := 0
  ddrGiB := 512
  ddrChannels := 4
  hubRevision := 0
  hubSerial := 0

/-- CAN layer after POR (R36, R37). [DESIGN CHOICE, unsafe: log 7] -/
def Can.fresh : Can where
  nodeId := 1
  nmt := .preOperational
  rate := 500
  fd := false
  dataRate := 2000
  sdo := none
  held := []
  sent := []
  syncs := 0

/-- The firmware of slot A runs (R50, R51). [DESIGN CHOICE, unsafe: log 7] -/
def Boot.fresh : Boot where
  phase := .ready
  slotA := some ⟨0, 0, 0, 0⟩
  slotB := none
  preferred := 0
  slot := 0
  attempts := 1
  attemptsSincePowerOn := 1
  waitStep := 0
  waitStart := 0
  enteredAt := 0
  rollback := 0
  writing := none
  status := 0

/-- An empty log (R44, R508). -/
def Log.fresh : Log where
  entries := []
  newest := 0
  overwritten := 0
  sticky := false
  select := 0
  persistent := []
  persistentOverwritten := 0
  active := []
  faultsLogged := 0
  details := []
  escalations := 0
  lapsed := false
  auditStatus := 0
  auditResult := 0
  auditUnchecked := 0

/-- The array with every element zero (R81, R82). -/
def NibArray.fresh : NibArray where
  nibs := []
  words := []
  routeWords := []
  clusters := []
  tiles := []
  flights := []
  claims := []
  routes := []
  sched := Sched.fresh
  cyclog := CycleLog.empty
  queues := []
  requests := []
  syncMask := 0
  votes := []
  upperPowered := false
  flightCount := 0

/-- SERVICE without a design state (R194). -/
def RunCtl.fresh : RunCtl where
  mode := .service
  valid := false
  status := 0
  stopCause := 0
  stopFault := 0
  runAt := none
  wakeMode := .service
  savedSlot0 := false
  waking := false
  peersRunning := []
  peerMismatch := []
  startEdge := 0
  domainLost := false
  commands := 0
  timeoutLogged := []
  lastCycle := 0
  lastStart := Stamp.zero
  latchedCycle := 0
  latchedStart := Stamp.zero
  markArmed := false
  markTime := Stamp.zero
  markDone := false

/-- No march has run. -/
def March.fresh : March where
  status := 0
  kind := 0
  atStart := false
  failedBanks := 0
  failedLines := 0
  duration := 0
  record := []
  unavailable := []
  remapped := []

/-- Memories of which no byte has been written. [DESIGN CHOICE, unsafe: log 3] -/
def Memories.fresh : Memories where
  bytes := []
  onDie := []
  cache := []
  march := March.fresh
  owned := none
  retrained := []

/-- After a POR from VIN (R479): `ResetCause` bit 0, `LastResetLevel` 3. [DESIGN CHOICE, unsafe: log 7] -/
def ResetCtl.fresh : ResetCtl where
  cause := 1
  lastLevel := 3
  count := 0
  recovery := none
  request := none
  escalatedRun := 0
  waitingSource := 0
  vin := true
  brownOut := false
  ddrRefused := false
  failedLoops := []
  blockHeld := []
  blockWaiting := []
  blockStatus := 0
  releasesDelayed := 0
  watchdogCount := 0
  excursions := 0
  powerLogged := false
  profile := .minimal
  env := ⟨none, true, []⟩
  clockReset := false
  commitFaults := 0

/-- No reading has been taken. [DESIGN CHOICE, unsafe: log 7] -/
def Thermal.fresh : Thermal where
  temps := List.replicate 30 0
  supply := List.replicate 5 0
  raised := []
  events := 0
  critical := false
  reached := []
  limitLogged := false
  hotStacks := []

/-- A port with its link down. -/
def PtpPort.fresh : PtpPort := ⟨none, 0, 0, false, false⟩

/-- The time base in state 0 on the module's oscillator (R394, R398). [DESIGN CHOICE, unsafe: log 7] -/
def TimeBase.fresh : TimeBase where
  units := 0
  latchedSecondsHigh := 0
  latchedNs := 0
  latchedFraction := 0
  state := 0
  stepped := false
  acquired := false
  sourcePort := 0xFF
  rate := 0
  offset := 0
  stepCount := 0
  offsets := []
  below := 0
  ports := [PtpPort.fresh, PtpPort.fresh]
  refInUse := 2
  refOffset := 0
  edges := 0

/-- No tokens drawn. -/
def Tokens.fresh : Tokens := ⟨0, 0, 0, 0, 0, []⟩

/-- No golden contents. -/
def Fixer.fresh : Fixer where
  goldenWords := []
  goldenRoutes := []
  goldenCarry := []
  goldenDescriptors := []
  goldenClusters := []
  goldenTiles := []
  goldenEngines := []
  goldenFclk := []
  goldenProbes := []
  goldenDelays := []
  running := false
  failed := []
  checked := []
  differing := 0
  warned := false
  passStart := 0
  controlFlips := []
  resetting := false
  records := []

/-- A bundle trained to full width without a failed lane (R335). -/
def Bundle.fresh : Bundle where
  state := 1
  half := false
  lanes := List.range 512
  failed := []
  moving := []
  dead := []
  directions := []
  repaired := 0
  lost := 0
  firstCycle := none

/-- A bundle that the grade does not fit, and the position of a ring bundle that joins nothing (R12). -/
def Bundle.unfitted : Bundle where
  state := 0
  half := false
  lanes := []
  failed := []
  moving := []
  dead := []
  directions := []
  repaired := 0
  lost := 0
  firstCycle := none

/-- E-dies of a grade (Table 0-1). -/
def Grade.dies : Grade → Nat
  | .e8 => 8
  | .e4 => 4
  | .e2 => 2

/-- The bundles of a grade (R12, R113): ring bundle b joins E-die b to its east neighbour, for b from 0 to 7 on E8, 0 to 3 on E4 and 0
on E2, whose second ring position is unconnected and off; bundle 8 + d is the hub bundle of E-die d. -/
def Grade.fitsBundle (g : Grade) (b : Nat) : Bool :=
  if b < 8 then decide (b < if g = .e2 then 1 else g.dies) else decide (b - 8 < g.dies)

/-- The bundles of a module, trained. -/
def Grade.bundles (g : Grade) : List Bundle :=
  (List.range 16).map fun b => if g.fitsBundle b then Bundle.fresh else Bundle.unfitted

/-- A core held in reset (R295). -/
def Core.fresh : Core where
  state := .reset
  thread := none
  sevpend := 0
  seven := 0
  preempt := false
  ssip := false
  priv := 3
  csr := []
  uch := false
  pc := 0
  mepc := 0
  mcause := 0
  asleep := true
  result := 0
  mtimecmp := 0
  before := .reset
  hpmEvent := List.replicate 8 0
  hpmCounter := List.replicate 8 0

/-- Every thread free (R320). -/
def Scheduler.fresh : Scheduler := ⟨[], [], [], [], 0, []⟩

/-- No channel, every generation 1 (R311, R320). -/
def Channels.fresh : Channels := ⟨[], [], [], []⟩

/-- The fabric isolated, without frames (R238). -/
def Fabric.fresh : Fabric where
  clusterFrames := []
  tileFrames := []
  fclk := List.replicate 16 0
  cells := []
  release := []
  parked := []
  trackEdges := []
  probes := List.replicate 16 ProbeMux.off
  engines := List.replicate 8 BridgeEngine.idle
  ports := []
  delays := List.replicate 80 0

/-- Trace off and empty (R384, R387). -/
def Trace.fresh : Trace where
  tc := 0
  fifos := []
  gaps := []
  dropLogged := false
  writeP := 0
  readP := 0
  served := List.replicate 4 0
  pf := []

/-- BLANK: every fuse unblown, level factory (R447, R454), with a session key (R466). [DESIGN CHOICE, unsafe: log 7] -/
def Security.fresh : Security where
  lifeCycle := .blank
  level := 3
  slot0 := none
  slot0Invalid := false
  slot1 := none
  slot2 := none
  digests := [none, none, none, none]
  revoked := []
  ownerDigest := none
  yelrovDigest := 0
  firmwareDigest := 0
  identitySeed := none
  nonce := 0
  authStatus := 0
  rightsLock := false
  tables := []
  deniedLogged := []
  levelLogged := []
  haltCause := 0
  halted := false
  wiping := false
  keyId := 1
  sessionKey := true
  tamperRecorded := false
  batteryLost := false
  resetDue := false
  report := []
  tap := .bypass
  boundary := []
  dbgStatus := 0
  dbgAddress := 0
  dbgData := 0

/-- No stream. [DESIGN CHOICE, unsafe: log 7] -/
def Loader.fresh : Loader where
  state := 0
  fault := 0
  offset := 0
  stream := none
  tracks := []
  buffered := []
  ignored := []
  retained := none
  chain := []
  dmaStatus := 0
  dmaAddress := 0
  dmaLeft := 0
  select := 0

/-- Rings without packets, every domain awake. -/
def Rings.fresh : Rings := ⟨0, 0, [], [], [], [], [], [], [], []⟩

/-- The guest present and unpowered (R349). -/
def Guest.fresh : Guest where
  state := 1
  linkRate := 0
  power := 0
  descriptor := []
  cut := false
  zeroWritten := false
  logged := []
  tokens := List.replicate 8 0
  waiting := []

/-- A lane in bring-up (R435). -/
def Lane.fresh : Lane := { Lane.unfitted with state := 2 }

/-- Every pin high-impedance and held (R412, R421). [DESIGN CHOICE, unsafe: log 7] -/
def Pins.fresh : Pins where
  voltage := 0
  fusedPull := 0
  filtered := 0
  filters := []
  held := (List.range 96).map fun n => (n, ⟨0, false, 0, 1, false⟩)
  safe := []
  asleep := none
  switching := []
  sharedLogged := []
  functions := 0
  settling := []
  software := 0
  patterns := List.replicate 8 0

/-- Units disarmed, samplers idle (R370). -/
def Trigger.fresh : Trigger where
  units := List.replicate 16 TrigUnit.fresh
  samplers := List.replicate 4 Sampler.fresh
  outputs := List.replicate 10 TrigOutput.idle
  lines := 0
  loadedCycle := 0
  path := TrigPath.fresh

/-- The module after a POR from VIN, at stage 10 of its recovery (R194, R476, R500): it has logged the reset and one start attempt
(R43, R479), sent its boot-up message, and ended the march at start without a failure (R160) and the wipe of R463. The values that the
spec does not give are those of assumption log 6 to 9.
[DESIGN CHOICE, safe: log 5] [DEDUCED, unsafe: log 8] [DESIGN CHOICE, unsafe: log 9] -/
def State.reset : State where
  pending := []
  answer := .none
  part := Part.chosen
  dict := [(0x240502, 64)]
  mgmt := ⟨true, 0, none, []⟩
  can := { Can.fresh with sent := [.bootUp] }
  boot := Boot.fresh
  log := { Log.fresh with
    entries := [⟨false, 0, 0x1100, 2, .warning, 0x103⟩, ⟨false, 0, 0x9005, 0, .information, 2⟩], newest := 2, faultsLogged := 2 }
  arr := NibArray.fresh
  run := RunCtl.fresh
  mem := { Memories.fresh with march := { March.fresh with status := 2, kind := 1 } }
  rst := ResetCtl.fresh
  therm := Thermal.fresh
  time := TimeBase.fresh
  pulses := List.replicate 8 Pulse.idle
  image := none
  tokens := Tokens.fresh
  fixer := Fixer.fresh
  bundles := Part.chosen.grade.bundles
  queueCounts := List.replicate 24 0
  notices := []
  laneOut := []
  cores := List.replicate 32 Core.fresh
  sched := Scheduler.fresh
  chan := Channels.fresh
  fabric := Fabric.fresh
  trace := Trace.fresh
  sec := Security.fresh
  loader := Loader.fresh
  rings := Rings.fresh
  guest := Guest.fresh
  sheets := List.replicate 16 Sheet.empty
  lanes := List.replicate 32 Lane.fresh
  pins := Pins.fresh
  trig := Trigger.fresh
  host := ⟨0, []⟩
  free := 0


end Sys2Proof.Machine
end

