-- ==== Sys2Proof/Machine/Cores.lean ====
section
/-! DEFINITION. The CSRs of a transactor core that the module's own rules name (R292, R293, R296, R297, R299): what they read, what a
write of the core's software makes of them, and which interrupts are pending and enabled. -/

namespace Sys2Proof.Machine

/-! ### Numbers of the CSRs -/

def csrMstatus : Nat := 0x300
def csrMideleg : Nat := 0x303
def csrMie : Nat := 0x304
def csrMenvcfg : Nat := 0x30A
def csrStimecmp : Nat := 0x14D
def csrSatp : Nat := 0x180

/-- A CSR held by number. -/
def Core.csrOf (x : Core) (n : Nat) : Nat := Sparse.get (fun _ => 0) x.csr n
def Core.setCsr (x : Core) (n v : Nat) : Core := { x with csr := Sparse.set (fun _ => 0) x.csr n v }

/-- Replace the bits of `old` that lie in `mask`. -/
def maskWrite (old mask v : Nat) : Nat := old - (old &&& mask) + (v &&& mask)

/-- Interrupts of a core: software, timer and external of both modes and cause 16; those that `mideleg` can delegate; and the fields of
`mstatus` that `sstatus` shows. [PRESUMED, unsafe: log 42] -/
def interruptMask : Nat := 0x10AAA
def delegable : Nat := 0x10222
def sstatusMask : Nat := 0x80000003000DE762

/-! ### Interrupts (R293, R296, R297, R302) -/

/-- `time`: edges of the 100 MHz I/O clock since POR (Table 12-1). [PRESUMED, unsafe: log 42] -/
def State.coreTime (s : State) : Nat := s.mgmt.uptime / 10

/-- Pending interrupts, as bits of `mip`: the supervisor software interrupt, the two timers, the module's events, and cause 16. -/
def Core.pending (x : Core) (time : Nat) : Nat :=
  b2n x.ssip * 2 ^ 1 + b2n (bit (x.csrOf csrMenvcfg) 63 && decide (x.csrOf csrStimecmp ≤ time)) * 2 ^ 5 +
    b2n (decide (x.mtimecmp ≤ time)) * 2 ^ 7 + b2n (x.sevpend &&& x.seven != 0) * 2 ^ 9 + b2n x.preempt * 2 ^ 16

/-- An interrupt that is enabled for the core's mode is pending: a machine interrupt below machine mode or with MIE set, a delegated one in
user mode, or in supervisor mode with SIE set. [PRESUMED, unsafe: log 42] -/
def Core.interrupted (x : Core) (time : Nat) : Bool :=
  let p := x.pending time &&& x.csrOf csrMie
  let low := p &&& x.csrOf csrMideleg
  (p != low && (decide (x.priv < 3) || bit (x.csrOf csrMstatus) 3)) ||
    (low != 0 && (x.priv == 0 || (x.priv == 1 && bit (x.csrOf csrMstatus) 1)))

/-- A core blocked in `schask` completes it with bit 62 set once such an interrupt is pending (R302). -/
def Core.interrupt (x : Core) (time : Nat) : Core :=
  if x.state = .blocked ∧ x.interrupted time = true then { x with state := .running, result := 2 ^ 62 } else x

/-- An event sets its bit (R296). -/
def Core.event (line time : Nat) (x : Core) : Core := ({ x with sevpend := setBit x.sevpend line true } : Core).interrupt time

/-! ### Writes of the core's software -/

/-- What a CSR takes of a value: those of R293, R296 and R299, and the standard ones whose state the module's rules read. `sevpend` and
bit 16 of `sip` are not writable. [PRESUMED, unsafe: log 42] -/
def Core.storeCsr (x : Core) (n v : Nat) : Core :=
  if n = 0x5D1 then { x with seven := v }
  else if n = 0x5D2 then { x with sevpend := x.sevpend - (x.sevpend &&& v) }
  else if n = 0x5C9 then { x with uch := bit v 0 }
  else if n = 0x7C0 then { x with mtimecmp := v }
  else if n = csrMideleg then x.setCsr n (v &&& delegable)
  else if n = csrMie then x.setCsr n (v &&& interruptMask)
  else if n = 0x104 then x.setCsr csrMie (maskWrite (x.csrOf csrMie) (x.csrOf csrMideleg) v)
  else if n = 0x344 then { x with ssip := bit v 1 }
  else if n = 0x144 then (if bit (x.csrOf csrMideleg) 1 then { x with ssip := bit v 1 } else x)
  else if n = 0x100 then x.setCsr csrMstatus (maskWrite (x.csrOf csrMstatus) sstatusMask v)
  else if n = csrSatp then (if bits v 60 4 = 0 ∨ bits v 60 4 = 8 ∨ bits v 60 4 = 9 then x.setCsr n v else x)
  else if 0x3B0 ≤ n ∧ n < 0x3C0 then x.setCsr n (v % 2 ^ 54)
  else if n = csrMstatus ∨ n = csrMenvcfg ∨ n = csrStimecmp ∨ n = 0x3A0 ∨ n = 0x3A2 then x.setCsr n v
  else if n = 0x341 then { x with mepc := v - v % 2 }
  else if n = 0x342 then { x with mcause := v }
  else if 0x323 ≤ n ∧ n < 0x32B then { x with hpmEvent := listSet x.hpmEvent (n - 0x323) v }
  else if 0xB03 ≤ n ∧ n < 0xB0B then { x with hpmCounter := listSet x.hpmCounter (n - 0xB03) v }
  else x

/-- A write in a mode too low for the CSR has no effect: it raises an illegal-instruction exception. [PRESUMED, unsafe: log 42] -/
def Core.writeCsr (x : Core) (w : CsrWrite) : Core := if bits w.csr 8 2 ≤ w.priv then x.storeCsr w.csr (w.value % 2 ^ 64) else x

/-! ### Reads (R292, R293, R296, R297) -/

/-- misa: RV64 with A, C, D, F, I, M, S and U. -/
def misaValue : Nat := 0x800000000014112D

/-- What a CSR of core `c` reads, for those that the spec names; `mimpid` is the hub revision of 0x1018. -/
def State.readCsr (s : State) (c n : Nat) : Option Nat := match s.cores[c]? with
  | none => none
  | some x =>
    if n = 0x301 then some misaValue
    else if n = 0xF11 then some 0x0D3B
    else if n = 0xF12 then some 0x8000000000000009
    else if n = 0xF13 then some s.part.hubRevision
    else if n = 0xF14 then some c
    else if n = 0xC01 then some s.coreTime
    else if n = 0x5D0 then some x.sevpend
    else if n = 0x5D1 then some x.seven
    else if n = 0x5D2 then some 0
    else if n = 0x5C9 then some (b2n x.uch)
    else if n = 0x7C0 then some x.mtimecmp
    else if n = 0x344 then some (x.pending s.coreTime)
    else if n = 0x144 then some (x.pending s.coreTime &&& x.csrOf csrMideleg)
    else if n = 0x104 then some (x.csrOf csrMie &&& x.csrOf csrMideleg)
    else if n = 0x100 then some (x.csrOf csrMstatus &&& sstatusMask)
    else if n = 0x341 then some x.mepc
    else if n = 0x342 then some x.mcause
    else if 0x323 ≤ n ∧ n < 0x32B then x.hpmEvent[n - 0x323]?
    else if 0xB03 ≤ n ∧ n < 0xB0B then x.hpmCounter[n - 0xB03]?
    else if n = csrMideleg ∨ n = csrMie ∨ n = csrMstatus ∨ n = csrMenvcfg ∨ n = csrStimecmp ∨ n = csrSatp ∨ n = 0x3A0 ∨ n = 0x3A2 ∨
        (0x3B0 ≤ n ∧ n < 0x3C0) then some (x.csrOf n)
    else none

end Sys2Proof.Machine
end

