-- ==== Sys2Proof/Machine/Entries.lean ====
section
/-! DEFINITION. The catalogue of the object dictionary (R24, R25, R27): type, access, mode condition, default, persistence
and value range of every entry, from the tables of entries of each chapter; and the keys by which the other files name
entries. -/

namespace Sys2Proof.Machine

/-- Entry data types (Table 2-1). -/
inductive EntryType where
  | bool | u8 | u16 | u32 | u64 | i16 | i32 | octets | domain
deriving DecidableEq, Repr

/-- Width in bits; 0 for strings and domains. -/
def EntryType.width : EntryType → Nat
  | .bool => 1
  | .u8 => 8
  | .u16 => 16
  | .i16 => 16
  | .u32 => 32
  | .i32 => 32
  | .u64 => 64
  | .octets => 0
  | .domain => 0

/-- Only entries of 32 bits or fewer have a mirror word (R9, Table 2-1). -/
def EntryType.mirrored : EntryType → Bool
  | .u64 => false
  | .octets => false
  | .domain => false
  | _ => true

/-- Access attributes (R25). -/
inductive Access where
  | const | ro | wo | rw
deriving DecidableEq, Repr

/-- Which values an entry accepts. -/
inductive ValueRule where
  | any
  | between (lo hi : Nat)
  | oneOf (vs : List Nat)
  | multiple (n : Nat)
deriving DecidableEq, Repr

def ValueRule.accepts : ValueRule → Nat → Bool
  | .any, _ => true
  | .between lo hi, v => decide (lo ≤ v ∧ v ≤ hi)
  | .oneOf vs, v => vs.contains v
  | .multiple n, v => v % n == 0

/-- One row of the catalogue: sub-indices `sub0` to `sub1` of the `count` indices `index`, `index + stride`, ... -/
structure Entry where
  index : Nat
  count : Nat
  stride : Nat
  sub0 : Nat
  sub1 : Nat
  type : EntryType
  access : Access
  /-- Modes in which writes are accepted; empty for every mode. -/
  modes : List Mode
  default : Nat
  persistent : Bool
  rule : ValueRule
deriving DecidableEq, Repr

/-- The catalogue of entries, part 1, in index order (the tables of entries of chapters 02 to 21). [DEDUCED, unsafe: log 62] -/
def entries1 : List Entry := [
  -- DeviceType (R39)
  ⟨0x1000, 1, 0x1, 0, 0, .u32, .ro, [], 0, false, .any⟩,
  -- ErrorRegister (R39)
  ⟨0x1001, 1, 0x1, 0, 0, .u8, .ro, [], 0, false, .any⟩,
  -- StoreParameters (R28)
  ⟨0x1010, 1, 0x1, 1, 1, .u32, .wo, [], 0, false, .any⟩,
  -- RestoreDefaults (R28)
  ⟨0x1011, 1, 0x1, 1, 1, .u32, .wo, [], 0, false, .any⟩,
  -- producer heartbeat period (Table 2-2)
  ⟨0x1017, 1, 0x1, 0, 0, .u16, .rw, [], 1000, false, .any⟩,
  -- Identity (R39)
  ⟨0x1018, 1, 0x1, 1, 4, .u32, .ro, [], 0, false, .any⟩,
  -- RPDO communication (Table 2-2; CiA 301)
  ⟨0x1400, 4, 0x1, 1, 1, .u32, .rw, [], 0, false, .any⟩,
  -- RPDO mapping count (Table 2-2; CiA 301)
  ⟨0x1600, 4, 0x1, 0, 0, .u8, .rw, [], 0, false, .between 0 64⟩,
  -- RPDO mapping (Table 2-2; CiA 301)
  ⟨0x1600, 4, 0x1, 1, 63, .u32, .rw, [], 0, false, .any⟩,
  -- TPDO communication (Table 2-2; CiA 301)
  ⟨0x1800, 4, 0x1, 1, 2, .u32, .rw, [], 0, false, .any⟩,
  -- TPDO mapping count (Table 2-2; CiA 301)
  ⟨0x1A00, 4, 0x1, 0, 0, .u8, .rw, [], 0, false, .between 0 64⟩,
  -- TPDO mapping (Table 2-2; CiA 301)
  ⟨0x1A00, 4, 0x1, 1, 63, .u32, .rw, [], 0, false, .any⟩,
  -- DiesFitted, DiesAdmitted (R351)
  ⟨0x2001, 1, 0x1, 1, 2, .u8, .ro, [], 0, false, .any⟩,
  -- RunMode, RunState (R216)
  ⟨0x2100, 1, 0x1, 1, 2, .u8, .ro, [], 0, false, .any⟩,
  -- ModeAtStart (R194)
  ⟨0x2100, 1, 0x1, 3, 3, .u8, .rw, [], 5, true, .oneOf [0, 5]⟩,
  -- DesignStateValid (R193)
  ⟨0x2100, 1, 0x1, 4, 4, .bool, .ro, [], 0, false, .any⟩,
  -- RunCommand (R195)
  ⟨0x2101, 1, 0x1, 1, 1, .u8, .wo, [], 0, false, .any⟩,
  -- RunCommandStatus (R195)
  ⟨0x2101, 1, 0x1, 2, 2, .u8, .ro, [], 0, false, .any⟩,
  -- CycleLimit (R202)
  ⟨0x2101, 1, 0x1, 3, 3, .u32, .rw, [.loaded, .hold], 1, false, .any⟩,
  -- StopCause (R198)
  ⟨0x2102, 1, 0x1, 1, 1, .u32, .ro, [], 0, false, .any⟩,
  -- StopFault (R198)
  ⟨0x2102, 1, 0x1, 2, 2, .u16, .ro, [], 0, false, .any⟩,
  -- RunAtSecondsHigh (R214)
  ⟨0x2104, 1, 0x1, 1, 1, .u16, .rw, [.loaded, .hold], 0, false, .any⟩,
  -- RunAtSecondsLow (R214)
  ⟨0x2104, 1, 0x1, 2, 2, .u32, .rw, [.loaded, .hold], 0, false, .any⟩,
  -- RunAtNanoseconds (R214)
  ⟨0x2104, 1, 0x1, 3, 3, .u32, .rw, [.loaded, .hold], 0, false, .between 0 999999999⟩,
  -- RunAtArmed (R214)
  ⟨0x2104, 1, 0x1, 4, 4, .bool, .ro, [], 0, false, .any⟩,
  -- SyncEventMask (R95)
  ⟨0x2118, 1, 0x1, 1, 8, .u32, .ro, [], 0, false, .any⟩,
  -- SheetCommand (R205)
  ⟨0x2120, 1, 0x1, 1, 1, .u8, .wo, [], 0, false, .any⟩,
  -- SheetStatus (R205)
  ⟨0x2120, 1, 0x1, 2, 2, .u8, .ro, [], 0, false, .any⟩,
  -- SheetSlot (R216)
  ⟨0x2120, 1, 0x1, 3, 3, .u8, .rw, [], 1, false, .between 0 15⟩,
  -- SheetScope (R216)
  ⟨0x2120, 1, 0x1, 4, 4, .u8, .rw, [], 1, false, .oneOf [1, 3, 5, 7]⟩,
  -- SheetBodyAddress, SheetBodyLength (R216)
  ⟨0x2120, 1, 0x1, 5, 6, .u64, .ro, [], 0, false, .any⟩,
  -- SheetHeader (R207)
  ⟨0x2121, 1, 0x1, 0, 0, .domain, .rw, [.loaded, .hold, .service], 0, false, .any⟩,
  -- CycleCount, StallCount, StallPeriods (R132)
  ⟨0x2130, 1, 0x1, 1, 4, .u32, .ro, [], 0, false, .any⟩,
  -- StallLimit (R132)
  ⟨0x2130, 1, 0x1, 5, 5, .u32, .rw, [.loaded, .hold, .service], 1000, false, .between 1 1000000⟩,
  -- ScheduleLength, DecisionLead (R132)
  ⟨0x2130, 1, 0x1, 6, 7, .u16, .ro, [], 0, false, .any⟩,
  -- BoundaryCycle (R211)
  ⟨0x2140, 1, 0x1, 1, 2, .u32, .ro, [], 0, false, .any⟩,
  -- BoundarySecondsHigh (R211)
  ⟨0x2140, 1, 0x1, 3, 3, .u16, .ro, [], 0, false, .any⟩,
  -- BoundarySecondsLow, BoundaryNanoseconds (R211)
  ⟨0x2140, 1, 0x1, 4, 5, .u32, .ro, [], 0, false, .any⟩,
  -- BoundaryFraction (R211)
  ⟨0x2140, 1, 0x1, 6, 6, .u16, .ro, [], 0, false, .any⟩,
  -- BoundaryTimeSource (R211)
  ⟨0x2140, 1, 0x1, 7, 7, .bool, .ro, [], 0, false, .any⟩,
  -- MarkCycle (R212)
  ⟨0x2141, 1, 0x1, 1, 2, .u32, .rw, [], 0, false, .any⟩,
  -- MarkControl (R212)
  ⟨0x2141, 1, 0x1, 3, 3, .u8, .rw, [], 0, false, .any⟩,
  -- MarkTime seconds high (R212)
  ⟨0x2141, 1, 0x1, 4, 4, .u16, .ro, [], 0, false, .any⟩,
  -- MarkTime (R212)
  ⟨0x2141, 1, 0x1, 5, 6, .u32, .ro, [], 0, false, .any⟩,
  -- MarkTime fraction (R212)
  ⟨0x2141, 1, 0x1, 7, 7, .u16, .ro, [], 0, false, .any⟩,
  -- MarkDone (R212)
  ⟨0x2141, 1, 0x1, 8, 8, .bool, .ro, [], 0, false, .any⟩,
  -- ResetCause (R479)
  ⟨0x2200, 1, 0x1, 1, 1, .u8, .rw, [], 0, false, .any⟩,
  -- LastResetLevel, ResetProfile (R494)
  ⟨0x2200, 1, 0x1, 2, 3, .u8, .ro, [], 0, false, .any⟩,
  -- ResetCount (R494)
  ⟨0x2200, 1, 0x1, 4, 4, .u32, .ro, [], 0, false, .any⟩,
  -- PowerCeiling (R172)
  ⟨0x2201, 1, 0x1, 1, 1, .u16, .rw, [], 7600, true, .any⟩,
  -- ImageBudget (R191)
  ⟨0x2201, 1, 0x1, 2, 2, .u16, .ro, [], 0, false, .any⟩,
  -- ResetRequest (R481)
  ⟨0x2202, 1, 0x1, 1, 1, .u8, .wo, [], 0, false, .oneOf [1, 2]⟩,
  -- WatchdogTimeout (R480)
  ⟨0x2203, 1, 0x1, 1, 1, .u32, .rw, [], 0, true, .any⟩,
  -- WatchdogRefresh (R480)
  ⟨0x2203, 1, 0x1, 2, 2, .u8, .wo, [], 0, false, .oneOf [165]⟩,
  -- WatchdogLevel (R480)
  ⟨0x2203, 1, 0x1, 3, 3, .u8, .rw, [], 2, true, .oneOf [1, 2]⟩,
  -- BlockResetRequest (R483)
  ⟨0x2204, 1, 0x1, 1, 1, .u16, .wo, [], 0, false, .any⟩,
  -- BlockResetStatus (R483)
  ⟨0x2204, 1, 0x1, 2, 2, .u8, .ro, [], 0, false, .any⟩,
  -- ReleasesDelayed (R484)
  ⟨0x2204, 1, 0x1, 3, 3, .u32, .ro, [], 0, false, .any⟩,
  -- PowerDomainState (R487)
  ⟨0x2205, 1, 0x1, 1, 1, .u32, .ro, [], 0, false, .any⟩,
  -- CeilingExcursions (R489)
  ⟨0x2205, 1, 0x1, 2, 2, .u32, .ro, [], 0, false, .any⟩]

/-- The catalogue of entries, part 2, in index order (the tables of entries of chapters 02 to 21). -/
def entries2 : List Entry := [
  -- ThrottleThreshold1 (R490)
  ⟨0x2210, 1, 0x1, 1, 1, .i16, .rw, [.loaded, .hold, .service], 1760, true, .between 960 1936⟩,
  -- ThrottleThreshold2 (R490)
  ⟨0x2210, 1, 0x1, 2, 2, .i16, .rw, [.loaded, .hold, .service], 1856, true, .between 960 1936⟩,
  -- ThrottleThreshold3 (R490)
  ⟨0x2210, 1, 0x1, 3, 3, .i16, .rw, [.loaded, .hold, .service], 1936, true, .between 960 1936⟩,
  -- ThrottleHysteresis (R490)
  ⟨0x2210, 1, 0x1, 4, 4, .i16, .rw, [.loaded, .hold, .service], 64, true, .between 16 160⟩,
  -- CriticalThreshold (R490)
  ⟨0x2210, 1, 0x1, 5, 5, .i16, .const, [], 1984, false, .any⟩,
  -- ThermalPoint, ThermalSource (R494)
  ⟨0x2211, 1, 0x1, 1, 2, .u8, .ro, [], 0, false, .any⟩,
  -- ThermalEvents (R494)
  ⟨0x2211, 1, 0x1, 3, 3, .u32, .ro, [], 0, false, .any⟩,
  -- TokenOverdraws (R191)
  ⟨0x2220, 1, 0x1, 1, 1, .u32, .ro, [], 0, false, .any⟩,
  -- tokens of R175
  ⟨0x2220, 1, 0x1, 2, 4, .u64, .ro, [], 0, false, .any⟩,
  -- TimeSecondsLow (R397)
  ⟨0x2300, 1, 0x1, 1, 1, .u32, .ro, [], 0, false, .any⟩,
  -- TimeSecondsHigh (R397)
  ⟨0x2300, 1, 0x1, 2, 2, .u16, .ro, [], 0, false, .any⟩,
  -- TimeNanoseconds (R397)
  ⟨0x2300, 1, 0x1, 3, 3, .u32, .ro, [], 0, false, .any⟩,
  -- TimeFraction (R397)
  ⟨0x2300, 1, 0x1, 4, 4, .u16, .ro, [], 0, false, .any⟩,
  -- TimeBaseState, TimeSourcePort (R398)
  ⟨0x2300, 1, 0x1, 5, 6, .u8, .ro, [], 0, false, .any⟩,
  -- RateAdjust, OffsetFromMaster (R403)
  ⟨0x2300, 1, 0x1, 7, 8, .i32, .ro, [], 0, false, .any⟩,
  -- StepCount (R403)
  ⟨0x2300, 1, 0x1, 9, 9, .u32, .ro, [], 0, false, .any⟩,
  -- ReferenceSource (R394)
  ⟨0x2301, 1, 0x1, 1, 1, .u8, .rw, [], 0, true, .between 0 2⟩,
  -- ReferenceInUse (R394)
  ⟨0x2301, 1, 0x1, 2, 2, .u8, .ro, [], 0, false, .any⟩,
  -- ReferenceOffset (R394)
  ⟨0x2301, 1, 0x1, 3, 3, .i32, .ro, [], 0, false, .any⟩,
  -- PtpEnable (R410)
  ⟨0x2302, 1, 0x1, 1, 1, .bool, .rw, [], 0, true, .any⟩,
  -- PtpDomain (R410)
  ⟨0x2302, 1, 0x1, 2, 2, .u8, .rw, [], 0, true, .between 0 127⟩,
  -- LockThreshold (R410)
  ⟨0x2302, 1, 0x1, 3, 3, .u32, .rw, [], 100, true, .between 10 100000⟩,
  -- UnlockThreshold (R410)
  ⟨0x2302, 1, 0x1, 4, 4, .u32, .rw, [], 10000, true, .any⟩,
  -- HoldoverLimit (R410)
  ⟨0x2302, 1, 0x1, 5, 5, .u32, .rw, [], 60, true, .between 1 86400⟩,
  -- StepPolicy (R404)
  ⟨0x2302, 1, 0x1, 6, 6, .u8, .rw, [], 0, true, .between 0 1⟩,
  -- SetSecondsHigh (R400)
  ⟨0x2303, 1, 0x1, 1, 1, .u16, .rw, [], 0, false, .any⟩,
  -- SetSecondsLow (R400)
  ⟨0x2303, 1, 0x1, 2, 2, .u32, .rw, [], 0, false, .any⟩,
  -- SetNanoseconds (R400)
  ⟨0x2303, 1, 0x1, 3, 3, .u32, .rw, [], 0, false, .between 0 999999999⟩,
  -- SetTimeCommand (R400)
  ⟨0x2303, 1, 0x1, 4, 4, .u8, .wo, [], 0, false, .oneOf [1]⟩,
  -- StepClockPoint (R132)
  ⟨0x2310, 1, 0x1, 1, 1, .u8, .ro, [], 0, false, .any⟩,
  -- StepClockCap (R132)
  ⟨0x2310, 1, 0x1, 2, 2, .u8, .rw, [], 0, true, .between 0 3⟩,
  -- PointChanges (R132)
  ⟨0x2310, 1, 0x1, 3, 3, .u32, .ro, [], 0, false, .any⟩,
  -- PointDemand (R132)
  ⟨0x2310, 1, 0x1, 4, 4, .u8, .ro, [], 0, false, .any⟩,
  -- FabricClockFrequency (R250)
  ⟨0x2320, 1, 0x1, 1, 16, .u32, .ro, [], 0, false, .any⟩,
  -- PortMode (R410)
  ⟨0x2330, 2, 0x1, 1, 1, .u8, .rw, [], 0, true, .between 0 2⟩,
  -- PortTransport, DelayMechanism (R410)
  ⟨0x2330, 2, 0x1, 2, 3, .u8, .rw, [], 0, true, .between 0 1⟩,
  -- latency corrections (R402)
  ⟨0x2330, 2, 0x1, 4, 6, .i32, .rw, [], 0, true, .any⟩,
  -- PortState (R410)
  ⟨0x2330, 2, 0x1, 7, 7, .u8, .ro, [], 0, false, .any⟩,
  -- MeanPathDelayPs (R410)
  ⟨0x2330, 2, 0x1, 8, 8, .u32, .ro, [], 0, false, .any⟩,
  -- PortPriority of port 0 (R401)
  ⟨0x2330, 1, 0x1, 9, 9, .u8, .rw, [], 0, true, .any⟩,
  -- LinkUp (R410)
  ⟨0x2330, 2, 0x1, 10, 10, .bool, .ro, [], 0, false, .any⟩,
  -- SyncReceived (R410)
  ⟨0x2330, 2, 0x1, 11, 11, .u32, .ro, [], 0, false, .any⟩,
  -- Ipv4Address (R410)
  ⟨0x2330, 2, 0x1, 12, 12, .u32, .rw, [], 0, true, .any⟩,
  -- PortPriority of port 1 (R401)
  ⟨0x2331, 1, 0x1, 9, 9, .u8, .rw, [], 1, true, .any⟩,
  -- PulseStartSecondsHigh (R406)
  ⟨0x2340, 8, 0x1, 1, 1, .u16, .rw, [], 0, false, .any⟩,
  -- PulseStartSecondsLow (R406)
  ⟨0x2340, 8, 0x1, 2, 2, .u32, .rw, [], 0, false, .any⟩,
  -- PulseStartNanoseconds (R406)
  ⟨0x2340, 8, 0x1, 3, 3, .u32, .rw, [], 0, false, .any⟩,
  -- PulsePeriod, PulseWidth (R406)
  ⟨0x2340, 8, 0x1, 4, 5, .u32, .rw, [], 0, false, .any⟩,
  -- PulseCount (R406)
  ⟨0x2340, 8, 0x1, 6, 6, .u32, .rw, [], 1, false, .any⟩,
  -- PulseControl (R407)
  ⟨0x2340, 8, 0x1, 7, 7, .u8, .rw, [], 0, false, .any⟩,
  -- PulseState (R410)
  ⟨0x2340, 8, 0x1, 8, 8, .u8, .ro, [], 0, false, .any⟩,
  -- PulseLastFire seconds high (R408)
  ⟨0x2340, 8, 0x1, 9, 9, .u16, .ro, [], 0, false, .any⟩,
  -- PulseLastFire (R408)
  ⟨0x2340, 8, 0x1, 10, 11, .u32, .ro, [], 0, false, .any⟩,
  -- PulsesEmitted (R408)
  ⟨0x2340, 8, 0x1, 12, 12, .u32, .ro, [], 0, false, .any⟩,
  -- LoaderState, LoaderPort (R279)
  ⟨0x2400, 1, 0x1, 1, 2, .u8, .ro, [], 0, false, .any⟩,
  -- LoaderFault (R279)
  ⟨0x2400, 1, 0x1, 3, 3, .u16, .ro, [], 0, false, .any⟩,
  -- StagedKiB, FramesTaken, LoaderFaultOffset (R279)
  ⟨0x2400, 1, 0x1, 4, 7, .u32, .ro, [], 0, false, .any⟩,
  -- StreamPortEnable (R279)
  ⟨0x2401, 1, 0x1, 1, 1, .u8, .rw, [], 7, true, .between 0 7⟩,
  -- SelectCode (R279)
  ⟨0x2401, 1, 0x1, 2, 2, .u8, .ro, [], 0, false, .any⟩,
  -- LoadTimeout (R279)
  ⟨0x2401, 1, 0x1, 3, 3, .u32, .rw, [], 10000, true, .between 100 600000⟩]

/-- The catalogue of entries, part 3, in index order (the tables of entries of chapters 02 to 21). -/
def entries3 : List Entry := [
  -- DmaSource, DmaLength (R255)
  ⟨0x2402, 1, 0x1, 1, 4, .u32, .rw, [.loaded, .hold, .service], 0, false, .any⟩,
  -- DmaCommand (R255)
  ⟨0x2402, 1, 0x1, 5, 5, .u8, .wo, [], 0, false, .oneOf [1]⟩,
  -- DmaStatus (R255)
  ⟨0x2402, 1, 0x1, 6, 6, .u8, .ro, [], 0, false, .any⟩,
  -- LoadAbort (R266)
  ⟨0x2403, 1, 0x1, 1, 1, .u8, .wo, [], 0, false, .oneOf [1]⟩,
  -- StagingSize (R265)
  ⟨0x2405, 1, 0x1, 1, 1, .u16, .rw, [], 64, true, .between 1 256⟩,
  -- StagingSizeInUse (R265)
  ⟨0x2405, 1, 0x1, 2, 2, .u16, .ro, [], 0, false, .any⟩,
  -- CommittedDigest (R279)
  ⟨0x2406, 1, 0x1, 0, 0, .octets, .ro, [], 0, false, .any⟩,
  -- PartialChainLength (R279)
  ⟨0x2407, 1, 0x1, 1, 1, .u8, .ro, [], 0, false, .any⟩,
  -- RetainedImage (R279)
  ⟨0x2407, 1, 0x1, 2, 2, .bool, .ro, [], 0, false, .any⟩,
  -- LoadsCommitted, LoadsRefused (R279)
  ⟨0x2408, 1, 0x1, 1, 2, .u32, .ro, [], 0, false, .any⟩,
  -- ImageGrade, ImageFeatureLevel (R191)
  ⟨0x2410, 1, 0x1, 1, 2, .u8, .ro, [], 0, false, .any⟩,
  -- ImageCompilerVersion (R191)
  ⟨0x2410, 1, 0x1, 3, 3, .u32, .ro, [], 0, false, .any⟩,
  -- ImageId (R191)
  ⟨0x2410, 1, 0x1, 4, 4, .octets, .ro, [], 0, false, .any⟩,
  -- ImageTravelTable (R191)
  ⟨0x2410, 1, 0x1, 5, 5, .u32, .ro, [], 0, false, .any⟩,
  -- LatencyImage (R191)
  ⟨0x2411, 1, 0x1, 1, 16, .u8, .ro, [], 0, false, .any⟩,
  -- LatencyNative (R191)
  ⟨0x2412, 1, 0x1, 1, 10, .u8, .ro, [], 0, false, .any⟩,
  -- BindingTable (R188)
  ⟨0x2413, 1, 0x1, 1, 2, .u32, .ro, [], 0, false, .any⟩,
  -- ModuleFeatureLevel (R178)
  ⟨0x2414, 1, 0x1, 1, 1, .u8, .ro, [], 0, false, .any⟩,
  -- HbmArenaBase, DeepArenaBase (R182)
  ⟨0x2415, 1, 0x1, 1, 2, .u64, .ro, [], 0, false, .any⟩,
  -- FixerEnable (R284)
  ⟨0x2500, 1, 0x1, 1, 1, .bool, .rw, [.loaded, .hold, .service], 1, true, .any⟩,
  -- StopOnRepair (R291)
  ⟨0x2500, 1, 0x1, 2, 2, .bool, .rw, [], 1, true, .any⟩,
  -- FixerState (R291)
  ⟨0x2500, 1, 0x1, 3, 3, .u8, .ro, [], 0, false, .any⟩,
  -- UpsetLimit (R288)
  ⟨0x2500, 1, 0x1, 4, 4, .u16, .rw, [], 16, true, .between 1 65535⟩,
  -- fixer counters (R291)
  ⟨0x2501, 1, 0x1, 1, 9, .u32, .ro, [], 0, false, .any⟩,
  -- FixerRecord (R290)
  ⟨0x2502, 1, 0x1, 0, 0, .domain, .ro, [], 0, false, .any⟩,
  -- LifeCycleState (R447)
  ⟨0x2600, 1, 0x1, 1, 1, .u8, .ro, [], 0, false, .any⟩,
  -- AuthorisationRecord (R453)
  ⟨0x2601, 1, 0x1, 0, 0, .domain, .wo, [], 0, false, .any⟩,
  -- AuthorisationStatus (R453)
  ⟨0x2602, 1, 0x1, 1, 1, .u8, .ro, [], 0, false, .any⟩,
  -- AuthorisationNonce (R453)
  ⟨0x2603, 1, 0x1, 0, 0, .octets, .ro, [], 0, false, .any⟩,
  -- DebugLevel (R454)
  ⟨0x2604, 1, 0x1, 1, 1, .u8, .rw, [], 0, false, .any⟩,
  -- DebugCeiling (R454)
  ⟨0x2604, 1, 0x1, 2, 2, .u8, .ro, [], 0, false, .any⟩,
  -- KeySlotState (R451)
  ⟨0x2610, 1, 0x1, 1, 1, .u8, .ro, [], 0, false, .any⟩,
  -- Provision (R450)
  ⟨0x2611, 1, 0x1, 0, 0, .domain, .wo, [], 0, false, .any⟩,
  -- KeyLoad (R451)
  ⟨0x2612, 1, 0x1, 0, 0, .domain, .wo, [], 0, false, .any⟩,
  -- DigestState (R452)
  ⟨0x2613, 1, 0x1, 1, 6, .u8, .ro, [], 0, false, .any⟩,
  -- LaneScrambleEnable (R470)
  ⟨0x2620, 1, 0x1, 1, 1, .u32, .rw, [], 0, true, .any⟩,
  -- TamperEnable (R464)
  ⟨0x2621, 1, 0x1, 1, 1, .bool, .rw, [], 1, true, .any⟩,
  -- TamperEvents (R465)
  ⟨0x2621, 1, 0x1, 2, 2, .u32, .ro, [], 0, false, .any⟩,
  -- HaltCause (R471)
  ⟨0x2622, 1, 0x1, 1, 1, .u8, .ro, [], 0, false, .any⟩,
  -- IdentityKey (R473)
  ⟨0x2623, 1, 0x1, 0, 0, .domain, .ro, [], 0, false, .any⟩,
  -- AttestRequest (R473)
  ⟨0x2624, 1, 0x1, 0, 0, .domain, .wo, [], 0, false, .any⟩,
  -- AttestReport (R473)
  ⟨0x2625, 1, 0x1, 0, 0, .domain, .ro, [], 0, false, .any⟩,
  -- IdentityCertificate (R473)
  ⟨0x2626, 1, 0x1, 0, 0, .domain, .ro, [], 0, false, .any⟩,
  -- RightsLock (R461)
  ⟨0x2630, 1, 0x1, 1, 1, .bool, .rw, [], 0, false, .any⟩,
  -- DeniedCount (R462)
  ⟨0x2631, 1, 0x1, 1, 48, .u32, .ro, [], 0, false, .any⟩,
  -- RightsTable (R461)
  ⟨0x2640, 48, 0x1, 0, 0, .domain, .rw, [], 0, true, .any⟩,
  -- BankVoltage, FusedPull (R411)
  ⟨0x2700, 1, 0x1, 1, 7, .u16, .ro, [], 0, false, .any⟩,
  -- FilterRate (R418)
  ⟨0x2702, 1, 0x1, 1, 6, .u8, .rw, [], 0, true, .between 0 15⟩,
  -- MgmtInputs (R429)
  ⟨0x2703, 1, 0x1, 1, 1, .u8, .ro, [], 0, false, .any⟩,
  -- PinConfig (R413)
  ⟨0x2710, 6, 0x1, 1, 16, .u32, .rw, [], 0, true, .any⟩,
  -- PulseOutPin (R415)
  ⟨0x2720, 1, 0x1, 1, 8, .u8, .rw, [], 255, true, .any⟩,
  -- ProbeOutPin (R415)
  ⟨0x2721, 1, 0x1, 1, 16, .u8, .rw, [], 255, true, .any⟩,
  -- SwOutValue (R414)
  ⟨0x2730, 1, 0x1, 1, 6, .u16, .rw, [], 0, false, .any⟩,
  -- SwOutEnable (R414)
  ⟨0x2731, 1, 0x1, 1, 6, .u16, .rw, [], 0, false, .any⟩,
  -- PinInput (R418)
  ⟨0x2732, 1, 0x1, 1, 6, .u16, .ro, [], 0, false, .any⟩,
  -- PinRelease (R421)
  ⟨0x2733, 1, 0x1, 1, 6, .u16, .wo, [], 0, false, .any⟩,
  -- PinHeld (R421)
  ⟨0x2734, 1, 0x1, 1, 6, .u16, .ro, [], 0, false, .any⟩,
  -- SafeCommand (R422)
  ⟨0x2735, 1, 0x1, 1, 1, .u8, .wo, [], 0, false, .oneOf [1]⟩,
  -- PinSafe (R422)
  ⟨0x2736, 1, 0x1, 1, 6, .u16, .ro, [], 0, false, .any⟩,
  -- PatternControl (R425)
  ⟨0x2740, 8, 0x1, 1, 1, .u8, .rw, [], 0, false, .any⟩]

/-- The catalogue of entries, part 4, in index order (the tables of entries of chapters 02 to 21). -/
def entries4 : List Entry := [
  -- PatternMask (R425)
  ⟨0x2740, 8, 0x1, 2, 2, .u32, .rw, [], 4294967295, false, .any⟩,
  -- PatternValue (R425)
  ⟨0x2740, 8, 0x1, 3, 3, .u32, .rw, [], 0, false, .any⟩,
  -- PatternFired (R426)
  ⟨0x2740, 8, 0x1, 4, 4, .u32, .rw, [], 0, false, .any⟩,
  -- PatternState (R430)
  ⟨0x2740, 8, 0x1, 5, 5, .u8, .ro, [], 0, false, .any⟩,
  -- PatternSticky (R426)
  ⟨0x2740, 8, 0x1, 6, 6, .bool, .ro, [], 0, false, .any⟩,
  -- PatternFirst (R426)
  ⟨0x2748, 1, 0x1, 1, 1, .u8, .ro, [], 255, false, .any⟩,
  -- ProbeSelect (R239)
  ⟨0x2750, 1, 0x1, 1, 16, .u32, .rw, [.loaded, .run, .hold], 0, false, .any⟩,
  -- EdgeCount (R428)
  ⟨0x2760, 1, 0x1, 1, 8, .u32, .rw, [], 0, false, .oneOf [0]⟩,
  -- EdgeCountSticky (R428)
  ⟨0x2761, 1, 0x1, 1, 1, .u8, .ro, [], 0, false, .any⟩,
  -- LaneManualAlign (R436)
  ⟨0x2800, 1, 0x1, 1, 1, .bool, .rw, [], 0, true, .any⟩,
  -- LaneDarkIdle (R442)
  ⟨0x2800, 1, 0x1, 2, 2, .u32, .rw, [], 0, true, .any⟩,
  -- LaneState, LaneUse, LaneRate (R446)
  ⟨0x2810, 32, 0x1, 1, 3, .u8, .ro, [], 0, false, .any⟩,
  -- LaneCommand (R435)
  ⟨0x2810, 32, 0x1, 4, 4, .u8, .wo, [], 0, false, .oneOf [1, 2]⟩,
  -- LaneBitSlip (R436)
  ⟨0x2810, 32, 0x1, 5, 5, .u8, .wo, [], 0, false, .oneOf [1]⟩,
  -- LaneBlockLock (R446)
  ⟨0x2810, 32, 0x1, 6, 6, .bool, .ro, [], 0, false, .any⟩,
  -- LaneHeaderErrors, LaneNativeLatency (R446)
  ⟨0x2810, 32, 0x1, 7, 8, .u16, .ro, [], 0, false, .any⟩,
  -- LaneBlockErrors, LaneFecCorrected, LaneLosses (R446)
  ⟨0x2810, 32, 0x1, 9, 11, .u32, .ro, [], 0, false, .any⟩,
  -- BridgeTxOccupancy, BridgeRxOccupancy (R250)
  ⟨0x2860, 8, 0x1, 1, 2, .u16, .ro, [], 0, false, .any⟩,
  -- BridgeTxStops, BridgeRxPauses, BridgeRxDropped (R250)
  ⟨0x2860, 8, 0x1, 3, 5, .u32, .ro, [], 0, false, .any⟩,
  -- BridgeDropSticky (R250)
  ⟨0x2860, 8, 0x1, 6, 6, .bool, .ro, [], 0, false, .any⟩,
  -- AcquisitionBandwidthFree, LineState (R371)
  ⟨0x2900, 1, 0x1, 1, 2, .u32, .ro, [], 0, false, .any⟩,
  -- SamplerMode (R371)
  ⟨0x2910, 4, 0x1, 1, 1, .u8, .rw, [], 0, false, .between 0 2⟩,
  -- SampleClock (R358)
  ⟨0x2910, 4, 0x1, 2, 2, .u8, .rw, [], 0, false, .any⟩,
  -- SampleWords (R371)
  ⟨0x2910, 4, 0x1, 3, 3, .u8, .rw, [], 1, false, .between 1 8⟩,
  -- SourceSelect (R352)
  ⟨0x2910, 4, 0x1, 4, 11, .u32, .rw, [], 0, false, .any⟩,
  -- BufferBase, BufferSize (R359)
  ⟨0x2910, 4, 0x1, 12, 13, .u32, .rw, [], 0, false, .multiple 65536⟩,
  -- PreCount (R359)
  ⟨0x2910, 4, 0x1, 14, 14, .u32, .rw, [], 0, false, .any⟩,
  -- PostCount (R362)
  ⟨0x2910, 4, 0x1, 15, 15, .u32, .rw, [], 1, false, .between 1 4294967295⟩,
  -- TriggerMask (R361)
  ⟨0x2910, 4, 0x1, 16, 16, .u16, .rw, [], 0, false, .any⟩,
  -- TriggerCombine (R361)
  ⟨0x2910, 4, 0x1, 17, 17, .u8, .rw, [], 0, false, .between 0 1⟩,
  -- StopOnTrigger (R361)
  ⟨0x2910, 4, 0x1, 18, 18, .bool, .rw, [], 0, false, .any⟩,
  -- StreamBaseLow (R364)
  ⟨0x2910, 4, 0x1, 19, 19, .u32, .rw, [], 0, false, .multiple 4096⟩,
  -- StreamBaseHigh (R364)
  ⟨0x2910, 4, 0x1, 20, 20, .u32, .rw, [], 0, false, .any⟩,
  -- StreamSize (R364)
  ⟨0x2910, 4, 0x1, 21, 21, .u32, .rw, [], 0, false, .multiple 65536⟩,
  -- StreamReadPointer (R364)
  ⟨0x2910, 4, 0x1, 22, 22, .u32, .rw, [], 0, false, .any⟩,
  -- StreamWritePointer (R364)
  ⟨0x2910, 4, 0x1, 23, 23, .u32, .ro, [], 0, false, .any⟩,
  -- SamplerCommand (R360)
  ⟨0x2910, 4, 0x1, 24, 24, .u8, .wo, [.loaded, .run, .hold, .service], 0, false, .between 1 3⟩,
  -- SamplerStatus, DecimationLog2 (R371)
  ⟨0x2910, 4, 0x1, 25, 26, .u8, .ro, [], 0, false, .any⟩,
  -- ExposureSequence (R368)
  ⟨0x2910, 4, 0x1, 27, 27, .u32, .ro, [], 0, false, .any⟩,
  -- sample counts (R366)
  ⟨0x2920, 4, 0x1, 1, 5, .u32, .ro, [], 0, false, .any⟩,
  -- SampleCountSticky (R366)
  ⟨0x2920, 4, 0x1, 6, 6, .bool, .ro, [], 0, false, .any⟩,
  -- UnitSource (R355)
  ⟨0x2940, 16, 0x1, 1, 1, .u32, .rw, [], 0, false, .any⟩,
  -- UnitMode (R355)
  ⟨0x2940, 16, 0x1, 2, 2, .u8, .rw, [], 0, false, .any⟩,
  -- UnitMask (R355)
  ⟨0x2940, 16, 0x1, 3, 3, .u32, .rw, [], 4294967295, false, .any⟩,
  -- UnitLevel, UnitHysteresis (R355)
  ⟨0x2940, 16, 0x1, 4, 5, .u32, .rw, [], 0, false, .any⟩,
  -- UnitCount (R356)
  ⟨0x2940, 16, 0x1, 6, 6, .u16, .rw, [], 1, false, .between 1 65535⟩,
  -- HoldoffKind (R356)
  ⟨0x2940, 16, 0x1, 7, 7, .u8, .rw, [], 0, false, .between 0 3⟩,
  -- HoldoffValue (R356)
  ⟨0x2940, 16, 0x1, 8, 8, .u32, .rw, [], 0, false, .any⟩,
  -- UnitFired, UnitIgnored (R356)
  ⟨0x2940, 16, 0x1, 9, 10, .u32, .ro, [], 0, false, .any⟩,
  -- UnitState (R371)
  ⟨0x2940, 16, 0x1, 11, 11, .u8, .ro, [], 0, false, .any⟩,
  -- TrigOutSelect, StarOutSelect (R369)
  ⟨0x2980, 1, 0x1, 1, 10, .u32, .rw, [], 0, false, .any⟩,
  -- TraceEnable (R387)
  ⟨0x2A00, 1, 0x1, 1, 1, .bool, .rw, [], 0, false, .any⟩,
  -- BlotterMode (R386)
  ⟨0x2A00, 1, 0x1, 2, 2, .u8, .rw, [], 0, false, .between 0 1⟩,
  -- BlotterWritePointer (R385)
  ⟨0x2A00, 1, 0x1, 3, 3, .u32, .ro, [], 0, false, .any⟩,
  -- BlotterReadPointer (R385)
  ⟨0x2A00, 1, 0x1, 4, 4, .u32, .rw, [], 0, false, .any⟩,
  -- BlotterThreshold (R385)
  ⟨0x2A00, 1, 0x1, 5, 5, .u32, .rw, [], 196608, false, .between 1 262143⟩,
  -- SyncPeriod (R376)
  ⟨0x2A00, 1, 0x1, 6, 6, .u32, .rw, [], 10000, true, .between 100 1000000⟩,
  -- BlotterUnread (R385)
  ⟨0x2A00, 1, 0x1, 7, 7, .u32, .ro, [], 0, false, .any⟩,
  -- PfControl (R377)
  ⟨0x2A01, 1, 0x1, 1, 32, .u8, .rw, [], 0, false, .any⟩,
  -- DaControl (R379)
  ⟨0x2A02, 1, 0x1, 1, 32, .u16, .rw, [], 0, false, .any⟩,
  -- ScheduleTraceEnable (R380)
  ⟨0x2A03, 1, 0x1, 1, 1, .u8, .rw, [], 0, false, .any⟩,
  -- QueueWatch (R381)
  ⟨0x2A04, 1, 0x1, 1, 8, .u32, .rw, [], 0, false, .any⟩,
  -- GroupPriority (R383)
  ⟨0x2A05, 1, 0x1, 1, 1, .u8, .rw, [], 1, false, .between 0 3⟩,
  -- GroupPriority (R383)
  ⟨0x2A05, 1, 0x1, 2, 2, .u8, .rw, [], 0, false, .between 0 3⟩]

/-- The catalogue of entries, part 5, in index order (the tables of entries of chapters 02 to 21). -/
def entries5 : List Entry := [
  -- GroupPriority (R383)
  ⟨0x2A05, 1, 0x1, 3, 3, .u8, .rw, [], 2, false, .between 0 3⟩,
  -- GroupPriority (R383)
  ⟨0x2A05, 1, 0x1, 4, 4, .u8, .rw, [], 3, false, .between 0 3⟩,
  -- GroupPriority (R383)
  ⟨0x2A05, 1, 0x1, 5, 5, .u8, .rw, [], 2, false, .between 0 3⟩,
  -- DaRange (R379)
  ⟨0x2A08, 8, 0x1, 1, 4, .u32, .rw, [], 0, false, .any⟩,
  -- DaRangeKind (R379)
  ⟨0x2A08, 8, 0x1, 5, 5, .u8, .rw, [], 0, false, .between 0 3⟩,
  -- trace record counts (R384)
  ⟨0x2A20, 1, 0x1, 1, 5, .u32, .ro, [], 0, false, .any⟩,
  -- TraceCountSticky (R384)
  ⟨0x2A20, 1, 0x1, 6, 6, .bool, .ro, [], 0, false, .any⟩,
  -- PfDropped (R384)
  ⟨0x2A21, 1, 0x1, 1, 32, .u32, .ro, [], 0, false, .any⟩,
  -- DaDropped (R384)
  ⟨0x2A22, 1, 0x1, 1, 32, .u32, .ro, [], 0, false, .any⟩,
  -- OtherDropped (R384)
  ⟨0x2A23, 1, 0x1, 1, 10, .u32, .ro, [], 0, false, .any⟩,
  -- CoreSleeps (R388)
  ⟨0x2A24, 1, 0x1, 1, 32, .u32, .ro, [], 0, false, .any⟩,
  -- CounterEnable (R392)
  ⟨0x2B00, 1, 0x1, 1, 1, .u16, .rw, [], 0, false, .any⟩,
  -- OverflowStatus (R392)
  ⟨0x2B00, 1, 0x1, 2, 2, .u16, .rw, [], 0, false, .any⟩,
  -- OverflowNotify (R392)
  ⟨0x2B00, 1, 0x1, 3, 3, .u16, .rw, [], 0, false, .any⟩,
  -- SampleMethod (R391)
  ⟨0x2B00, 1, 0x1, 4, 4, .u8, .ro, [], 0, false, .any⟩,
  -- TagWindowLog2 (R391)
  ⟨0x2B00, 1, 0x1, 5, 5, .u8, .rw, [], 10, false, .between 4 16⟩,
  -- CoreOverflowStatus (R390)
  ⟨0x2B01, 1, 0x1, 1, 32, .u16, .rw, [], 0, false, .any⟩,
  -- CounterEvent (R392)
  ⟨0x2B10, 16, 0x1, 1, 1, .u8, .rw, [], 0, false, .any⟩,
  -- CounterFilter (R392)
  ⟨0x2B10, 16, 0x1, 2, 2, .u16, .rw, [], 65535, false, .any⟩,
  -- CounterValue (R392)
  ⟨0x2B10, 16, 0x1, 3, 3, .u32, .rw, [], 0, false, .any⟩,
  -- ThreadsInUse (R322)
  ⟨0x2C00, 1, 0x1, 1, 1, .u16, .ro, [], 0, false, .any⟩,
  -- ChannelsLive, ChannelsDeclared (R322)
  ⟨0x2C00, 1, 0x1, 2, 3, .u32, .ro, [], 0, false, .any⟩,
  -- TickPeriod (R307)
  ⟨0x2C01, 1, 0x1, 1, 1, .u32, .rw, [], 100000, true, .any⟩,
  -- TickCountLow (R322)
  ⟨0x2C01, 1, 0x1, 2, 2, .u32, .ro, [], 0, false, .any⟩,
  -- SchedTraceEnable (R321)
  ⟨0x2C02, 1, 0x1, 1, 1, .u8, .rw, [], 0, false, .any⟩,
  -- ChannelOpErrors, Preemptions, MessagesDiscarded (R322)
  ⟨0x2C03, 1, 0x1, 1, 3, .u32, .ro, [], 0, false, .any⟩,
  -- HostEvent (R296)
  ⟨0x2C05, 1, 0x1, 1, 1, .u32, .wo, [], 0, false, .any⟩,
  -- CoreState (R322)
  ⟨0x2C10, 1, 0x1, 1, 32, .u8, .ro, [], 0, false, .any⟩,
  -- CoreResetVectorLow (R295)
  ⟨0x2C11, 1, 0x1, 1, 1, .u32, .rw, [], 0, false, .any⟩,
  -- CoreResetVectorHigh (R295)
  ⟨0x2C11, 1, 0x1, 2, 2, .u32, .rw, [], 0, false, .any⟩,
  -- CoreRelease (R295)
  ⟨0x2C11, 1, 0x1, 3, 3, .u32, .rw, [], 0, false, .any⟩,
  -- CoreThread (R322)
  ⟨0x2C12, 1, 0x1, 1, 32, .u16, .ro, [], 0, false, .any⟩,
  -- TravelTableVersion (R113)
  ⟨0x2D01, 1, 0x1, 1, 1, .u32, .ro, [], 0, false, .any⟩,
  -- DomainSize, DomainIndex (R132)
  ⟨0x2D03, 1, 0x1, 1, 2, .u8, .ro, [], 0, false, .any⟩,
  -- DomainLaneLatencyMax (R132)
  ⟨0x2D03, 1, 0x1, 3, 3, .u16, .ro, [], 0, false, .any⟩,
  -- ring counters (R351)
  ⟨0x2D04, 1, 0x1, 1, 6, .u32, .ro, [], 0, false, .any⟩,
  -- BundleRetrain (R340)
  ⟨0x2D05, 1, 0x1, 1, 1, .u8, .wo, [.service], 0, false, .oneOf [1]⟩,
  -- LaneMarginLimit (R336)
  ⟨0x2D05, 1, 0x1, 2, 2, .u16, .rw, [], 30, true, .between 5 200⟩,
  -- BundleState, SparesUsed (R351)
  ⟨0x2D10, 16, 0x1, 1, 2, .u8, .ro, [], 0, false, .any⟩,
  -- LanesRepaired, LanesLost, FirstAffectedCycle (R351)
  ⟨0x2D10, 16, 0x1, 3, 6, .u32, .ro, [], 0, false, .any⟩,
  -- LateAnswers, WriteStalls, OutOfRangeRequests (R166)
  ⟨0x2E10, 1, 0x1, 1, 3, .u32, .ro, [], 0, false, .any⟩,
  -- ScrambleKeyId (R466)
  ⟨0x2E30, 1, 0x1, 1, 1, .u16, .ro, [], 0, false, .any⟩,
  -- ControlRegionMap (R468)
  ⟨0x2E32, 1, 0x1, 0, 0, .domain, .ro, [], 0, false, .any⟩,
  -- MarchAtStart (R166)
  ⟨0x2E40, 1, 0x1, 1, 1, .u8, .rw, [], 1, true, .between 0 2⟩,
  -- MarchCommand (R166)
  ⟨0x2E41, 1, 0x1, 1, 1, .u8, .wo, [.hold, .service], 0, false, .between 1 4⟩,
  -- MarchStatus (R166)
  ⟨0x2E41, 1, 0x1, 2, 2, .u8, .ro, [], 0, false, .any⟩,
  -- MarchFailedBanks (R166)
  ⟨0x2E41, 1, 0x1, 3, 3, .u16, .ro, [], 0, false, .any⟩,
  -- MarchFailedHbmLines, MarchDuration (R166)
  ⟨0x2E41, 1, 0x1, 4, 5, .u32, .ro, [], 0, false, .any⟩,
  -- MarchRecord (R164)
  ⟨0x2E42, 1, 0x1, 0, 0, .domain, .ro, [], 0, false, .any⟩,
  -- ManagementStatus (R42)
  ⟨0x2F00, 1, 0x1, 1, 5, .u32, .ro, [], 0, false, .any⟩,
  -- temperatures (R41)
  ⟨0x2F10, 1, 0x1, 1, 30, .i16, .ro, [], 0, false, .any⟩,
  -- supply sensors (R41)
  ⟨0x2F11, 1, 0x1, 1, 4, .u16, .ro, [], 0, false, .any⟩,
  -- VBAT present (R41)
  ⟨0x2F11, 1, 0x1, 5, 5, .bool, .ro, [], 0, false, .any⟩,
  -- log sequence and overwritten count (R44)
  ⟨0x2F20, 1, 0x1, 1, 2, .u32, .ro, [], 0, false, .any⟩,
  -- log read select (R45)
  ⟨0x2F20, 1, 0x1, 3, 3, .u32, .rw, [], 0, false, .any⟩,
  -- log read window (R45)
  ⟨0x2F20, 1, 0x1, 4, 7, .u32, .ro, [], 0, false, .any⟩,
  -- log sticky flag (R44)
  ⟨0x2F20, 1, 0x1, 8, 8, .bool, .ro, [], 0, false, .any⟩,
  -- working log (R45)
  ⟨0x2F21, 1, 0x1, 0, 0, .domain, .ro, [], 0, false, .any⟩,
  -- persistent log (R45)
  ⟨0x2F22, 1, 0x1, 0, 0, .domain, .ro, [], 0, false, .any⟩,
  -- PersistentLogOverwritten (R45)
  ⟨0x2F23, 1, 0x1, 1, 1, .u32, .ro, [], 0, false, .any⟩]

/-- The catalogue of entries, part 6, in index order (the tables of entries of chapters 02 to 21). [DEDUCED, unsafe: log 62] -/
def entries6 : List Entry := [
  -- firmware image address and length (R46)
  ⟨0x2F30, 1, 0x1, 1, 2, .u32, .rw, [], 0, false, .any⟩,
  -- firmware command (R46)
  ⟨0x2F30, 1, 0x1, 3, 3, .u8, .wo, [], 0, false, .any⟩,
  -- firmware status (R29)
  ⟨0x2F30, 1, 0x1, 4, 4, .u8, .ro, [], 0, false, .any⟩,
  -- rollback counter (R49)
  ⟨0x2F32, 1, 0x1, 1, 1, .u8, .ro, [], 0, false, .any⟩,
  -- StartRecord (R52)
  ⟨0x2F40, 1, 0x1, 1, 3, .u32, .ro, [], 0, false, .any⟩,
  -- CanSettings: nominal rate in kb/s (R36)
  ⟨0x2F50, 1, 0x1, 1, 1, .u16, .rw, [], 500, true, .oneOf [125, 250, 500, 1000]⟩,
  -- CanSettings: CAN FD enable (R36)
  ⟨0x2F50, 1, 0x1, 2, 2, .bool, .rw, [], 0, true, .any⟩,
  -- CanSettings: data rate in kb/s (R36)
  ⟨0x2F50, 1, 0x1, 3, 3, .u16, .rw, [], 2000, true, .oneOf [2000, 4000, 5000, 8000]⟩,
  -- DieStepping, DieFeatureLevel (R341)
  ⟨0x3001, 8, 0x100, 1, 2, .u8, .ro, [], 0, false, .any⟩,
  -- DieSerial (R341)
  ⟨0x3001, 8, 0x100, 3, 4, .u32, .ro, [], 0, false, .any⟩,
  -- DiePllLock (R334)
  ⟨0x3002, 8, 0x100, 1, 1, .u8, .ro, [], 0, false, .any⟩,
  -- NibMemoryPage (R79)
  ⟨0x3021, 8, 0x100, 1, 1, .u8, .rw, [], 0, false, .between 0 3⟩,
  -- DesignMemoryPage (R157)
  ⟨0x3022, 8, 0x100, 1, 1, .u16, .rw, [.hold, .service], 0, false, .any⟩,
  -- RemoteCacheFlush (R166)
  ⟨0x3023, 8, 0x100, 1, 1, .u8, .wo, [], 0, false, .oneOf [1]⟩,
  -- UsableBanks, RepairedRows (R166)
  ⟨0x3024, 8, 0x100, 1, 2, .u16, .ro, [], 0, false, .any⟩,
  -- BankMap (R166)
  ⟨0x3025, 8, 0x100, 0, 0, .domain, .ro, [], 0, false, .any⟩,
  -- DieLatencyNative (R191)
  ⟨0x3026, 8, 0x100, 1, 10, .u8, .ro, [], 0, false, .any⟩,
  -- DieLatencyPad (R191)
  ⟨0x3027, 8, 0x100, 1, 10, .u8, .ro, [], 0, false, .any⟩,
  -- WcClockedCells (R250)
  ⟨0x3030, 8, 0x100, 1, 1, .u16, .ro, [], 0, false, .any⟩,
  -- PartialMessagesDiscarded (R236)
  ⟨0x3030, 8, 0x100, 2, 2, .u32, .ro, [], 0, false, .any⟩,
  -- WcReleaseState (R250)
  ⟨0x3030, 8, 0x100, 3, 3, .u8, .ro, [], 0, false, .any⟩,
  -- GuestPresent (R351)
  ⟨0x3800, 1, 0x1, 1, 1, .bool, .ro, [], 0, false, .any⟩,
  -- GuestState (R351)
  ⟨0x3800, 1, 0x1, 2, 2, .u8, .ro, [], 0, false, .any⟩,
  -- GuestPowerEnable (R349)
  ⟨0x3800, 1, 0x1, 3, 3, .bool, .rw, [], 0, true, .any⟩,
  -- GuestLinkRate (R343)
  ⟨0x3800, 1, 0x1, 4, 4, .u8, .ro, [], 0, false, .any⟩,
  -- GuestPowerLimit, GuestPower (R349)
  ⟨0x3800, 1, 0x1, 5, 6, .u16, .ro, [], 0, false, .any⟩,
  -- GuestDescriptor (R344)
  ⟨0x3801, 1, 0x1, 0, 0, .domain, .ro, [], 0, false, .any⟩,
  -- GuestApertureLow (R348)
  ⟨0x3802, 1, 0x1, 1, 1, .u32, .rw, [.loaded, .hold, .service], 0, false, .oneOf [0]⟩,
  -- GuestApertureHigh (R348)
  ⟨0x3802, 1, 0x1, 2, 2, .u32, .rw, [.loaded, .hold, .service], 0, false, .multiple 4194304⟩,
  -- GuestHandles (R348)
  ⟨0x3803, 1, 0x1, 1, 16, .u32, .rw, [.loaded, .hold, .service], 0, false, .any⟩,
  -- GuestBase, ModuleBase, SizeMiB (R346)
  ⟨0x3810, 8, 0x1, 1, 5, .u32, .rw, [.loaded, .hold, .service], 0, true, .any⟩,
  -- Rights (R346)
  ⟨0x3810, 8, 0x1, 6, 6, .u8, .rw, [.loaded, .hold, .service], 0, true, .any⟩,
  -- RateMBps (R347)
  ⟨0x3810, 8, 0x1, 7, 7, .u16, .rw, [.loaded, .hold, .service], 0, true, .any⟩,
  -- BurstKiB (R347)
  ⟨0x3810, 8, 0x1, 8, 8, .u16, .rw, [.loaded, .hold, .service], 1, true, .between 1 65535⟩,
  -- GuestDenied, GuestThrottled (R346)
  ⟨0x3818, 1, 0x1, 1, 2, .u32, .ro, [], 0, false, .any⟩,
  -- ChannelSelect (R322)
  ⟨0x4000, 1, 0x1, 1, 1, .u32, .rw, [], 0, false, .any⟩,
  -- ChannelStatus, ChannelType (R322)
  ⟨0x4001, 1, 0x1, 1, 2, .u8, .ro, [], 0, false, .any⟩,
  -- ChannelDepth (R322)
  ⟨0x4001, 1, 0x1, 3, 3, .u32, .ro, [], 0, false, .any⟩,
  -- ChannelMessageBytes (R322)
  ⟨0x4001, 1, 0x1, 4, 4, .u16, .ro, [], 0, false, .any⟩,
  -- channel buffer and counts (R322)
  ⟨0x4001, 1, 0x1, 5, 12, .u32, .ro, [], 0, false, .any⟩,
  -- ChannelCountSticky (R322)
  ⟨0x4001, 1, 0x1, 13, 13, .bool, .ro, [], 0, false, .any⟩,
  -- ChannelWaiters (R322)
  ⟨0x4001, 1, 0x1, 14, 14, .u16, .ro, [], 0, false, .any⟩,
  -- ChannelPort (R322)
  ⟨0x4001, 1, 0x1, 15, 15, .u32, .ro, [], 0, false, .any⟩,
  -- ChannelDestroy (R312)
  ⟨0x4002, 1, 0x1, 1, 1, .u8, .wo, [], 0, false, .oneOf [1]⟩,
  -- ActiveFaultCount (R495)
  ⟨0x5000, 1, 0x1, 1, 1, .u16, .ro, [], 0, false, .any⟩,
  -- FaultAcknowledge (R496)
  ⟨0x5000, 1, 0x1, 2, 2, .u8, .wo, [], 0, false, .oneOf [1]⟩,
  -- FaultsLogged (R508)
  ⟨0x5000, 1, 0x1, 3, 3, .u32, .ro, [], 0, false, .any⟩,
  -- ActiveFaults (R495)
  ⟨0x5001, 1, 0x1, 0, 0, .domain, .ro, [], 0, false, .any⟩,
  -- FaultCatalogue (R497)
  ⟨0x5002, 1, 0x1, 0, 0, .domain, .ro, [], 0, false, .any⟩,
  -- EscalationCount (R501)
  ⟨0x5003, 1, 0x1, 1, 1, .u32, .ro, [], 0, false, .any⟩,
  -- FaultDetails (R524)
  ⟨0x5004, 1, 0x1, 0, 0, .domain, .ro, [], 0, false, .any⟩,
  -- AuditCommand (R505)
  ⟨0x5100, 1, 0x1, 1, 1, .u8, .wo, [], 0, false, .oneOf [1]⟩,
  -- AuditStatus, AuditResult, AuditUnchecked (R505)
  ⟨0x5100, 1, 0x1, 2, 4, .u8, .ro, [], 0, false, .any⟩,
  -- queue counters (R504)
  ⟨0x5110, 8, 0x1, 1, 4, .u64, .ro, [], 0, false, .any⟩,
  -- QueueCountSticky (R504)
  ⟨0x5110, 8, 0x1, 5, 5, .bool, .ro, [], 0, false, .any⟩,
  -- credit counters (R504)
  ⟨0x5120, 1, 0x1, 1, 3, .u64, .ro, [], 0, false, .any⟩,
  -- CreditCountSticky (R504)
  ⟨0x5120, 1, 0x1, 4, 4, .bool, .ro, [], 0, false, .any⟩,
  -- ThreadsInState (R504)
  ⟨0x5130, 1, 0x1, 1, 6, .u16, .ro, [], 0, false, .any⟩]

/-- Every entry of the object dictionary. -/
def entries : List Entry :=
  entries1 ++ entries2 ++ entries3 ++ entries4 ++ entries5 ++ entries6

/-- The row covers index `i` and sub-index `j`. -/
def Entry.covers (e : Entry) (i j : Nat) : Bool :=
  decide (e.index ≤ i ∧ (i - e.index) % e.stride = 0 ∧ (i - e.index) / e.stride < e.count ∧ e.sub0 ≤ j ∧ j ≤ e.sub1)

/-- The row of entry index:sub. -/
def entryAt (i j : Nat) : Option Entry := entries.find? (fun e => e.covers i j)

/-- The row of a key. -/
def entryOf (key : Nat) : Option Entry := entryAt (key / 256) (key % 256)

/-- The number of sub-indices of index `i`, which its sub-index 0x00 reads (R41, R474, R508). [DEDUCED, unsafe: log 62] -/
def subCount (i : Nat) : Nat :=
  entries.foldl (fun m e => if e.covers i e.sub1 then max m e.sub1 else m) 0

/-- Most power of a grade, in 0.1 W (Table 0-1). -/
def Grade.maxPower : Grade → Nat
  | .e8 => 7600
  | .e4 => 4000
  | .e2 => 2200

/-- The default of an entry (R28); that of `PowerCeiling` depends on the grade (R172). [DESIGN CHOICE, unsafe: log 9] -/
def defaultOf (g : Grade) (key : Nat) : Nat :=
  if key = 0x220101 then g.maxPower
  else match entryOf key with
    | some e => e.default
    | none => 0

/-- Read a stored setting. -/
def State.entry (s : State) (key : Nat) : Nat := Sparse.get (defaultOf s.part.grade) s.dict key

/-- Store a setting. -/
def State.putEntry (s : State) (key v : Nat) : State :=
  { s with dict := Sparse.set (defaultOf s.part.grade) s.dict key v }

/-- Add to a saturating UNSIGNED32 counter that is an entry. -/
def State.bump (s : State) (key : Nat) : State := s.putEntry key (sat32 (s.entry key) 1)

/-- Add `n` to a saturating UNSIGNED32 counter that is an entry. -/
def State.bumpBy (s : State) (key n : Nat) : State := s.putEntry key (sat32 (s.entry key) n)

/-- The key of entry index:sub. -/
def keyOf (index sub : Nat) : Nat := index * 256 + sub

end Sys2Proof.Machine
end

