-- ==== Sys2Proof/Machine/Log.lean ====
section
/-! DEFINITION. The event log, the fault catalogue and active faults (R38, R39, R43 to R45, R495 to R499, R524), with the
event lines that a log entry raises (R296). -/

namespace Sys2Proof.Machine

/-- One record of the fault catalogue (R497). -/
structure FaultRow where
  code : Nat
  severity : Severity
  cls : FaultClass
deriving DecidableEq, Repr

/-- The rows of Table 21-2, in its order. A code in two rows stands twice (R498). -/
def faultRows : List FaultRow :=
  ([0x1104, 0x1201, 0x2302, 0x8001, 0x8002, 0x8005, 0x9005, 0xA003, 0xA004, 0xA101].map
    fun c => ⟨c, .information, .note⟩) ++
  ([0x1100, 0x2203, 0x2301, 0x2321, 0x3212, 0x3305, 0x3F01, 0x5201, 0x6201, 0x7311, 0x8003, 0x9003, 0x9030,
    0xA102].map fun c => ⟨c, .warning, .note⟩) ++
  ([0x1105, 0x2210, 0x2310, 0x2311, 0x2320, 0x3202, 0x4114, 0x4A12, 0x4A19, 0x5010, 0x5011, 0x5012, 0x5103, 0x5202,
    0x5301, 0x5302, 0x6104, 0x7201, 0x7202, 0x7401, 0x7501, 0x7602, 0x7603, 0x8104, 0x9001, 0x9002, 0x9010, 0x9011,
    0x9012, 0x9040, 0xA001, 0xA002].map fun c => ⟨c, .warning, .refused⟩) ++
  ([0x3101, 0x3102, 0x3103, 0x3104, 0x3105, 0x3106, 0x3107, 0x3201, 0x3203, 0x3204, 0x3205, 0x3206, 0x3207, 0x3208,
    0x3209, 0x320A, 0x4101, 0x4102, 0x4104, 0x4106, 0x4109, 0x4112, 0x4A10, 0x4A11, 0x4A12, 0x4A13, 0x4A14, 0x4A15,
    0x4A16, 0x4A17, 0x4A18, 0x5102, 0x5103, 0x6204, 0x6301, 0x7101, 0x7102, 0x7103, 0x7104].map
    fun c => ⟨c, .error, .image⟩) ++
  ([0x1301, 0x1410, 0x3301, 0x3302, 0x3303, 0x4103, 0x4105, 0x4106, 0x4107, 0x4108, 0x4110, 0x4112, 0x4115, 0x5101,
    0x6102, 0x6202, 0x6210, 0x6401, 0x8122].map fun c => ⟨c, .error, .stop⟩) ++
  ([0x1101, 0x1202, 0x3211, 0x3304, 0x4A13, 0x5104, 0x6204, 0x6301, 0x6402, 0x7320, 0x9020].map
    fun c => ⟨c, .error, .blocked⟩) ++
  [⟨0x1411, .fatal, .blocked⟩] ++
  ([0x6110, 0x6111, 0x8101, 0x8102, 0x9001, 0x9002, 0x9004].map fun c => ⟨c, .warning, .self⟩) ++
  ([0x1102, 0x1103, 0x2201, 0x2202, 0x4140].map fun c => ⟨c, .error, .reset⟩) ++
  ([0x1203, 0x6103, 0x8121, 0x9050].map fun c => ⟨c, .error, .void⟩) ++
  ([0x7301, 0x7310].map fun c => ⟨c, .fatal, .halt⟩)

/-- Class codes of Table 21-1. -/
def FaultClass.code : FaultClass → Nat
  | .note => 0
  | .refused => 1
  | .image => 2
  | .stop => 3
  | .blocked => 4
  | .self => 5
  | .reset => 6
  | .void => 7
  | .halt => 8

/-- Severity codes of Table 2-4. -/
def Severity.code : Severity → Nat
  | .information => 0
  | .warning => 1
  | .error => 2
  | .fatal => 3

/-- Error or fatal: the severities that are active, persistent and reported over CAN (R38, R45, R495). -/
def Severity.serious : Severity → Bool
  | .error => true
  | .fatal => true
  | _ => false

/-- The row that a logging of `code` takes when it acts as class `cls` (R498). -/
def faultRow (code : Nat) (cls : FaultClass) : Option FaultRow :=
  faultRows.find? fun r => r.code == code && r.cls == cls

/-- The row of a code that stands in one row only. -/
def faultRowOf (code : Nat) : Option FaultRow := faultRows.find? fun r => r.code == code

/-- Insert in ascending code order, then ascending class order (R497). -/
def insertRow (r : FaultRow) : List FaultRow → List FaultRow
  | [] => [r]
  | q :: qs => if q.code < r.code ∨ (q.code = r.code ∧ q.cls.code < r.cls.code) then q :: insertRow r qs else r :: q :: qs

/-- The bytes of the domain 0x5002 `FaultCatalogue` (R497). -/
def faultCatalogueBytes : List Byte :=
  (faultRows.foldr insertRow []).flatMap fun r =>
    toBytes 2 r.code ++ [BitVec.ofNat 8 r.severity.code, BitVec.ofNat 8 r.cls.code]

/-- Codes that write a detail record (Table 21-9). -/
def detailCodes : List Nat :=
  [0x4103, 0x4105, 0x4106, 0x4107, 0x4108, 0x5101, 0x5104, 0x4110, 0x4112, 0x4140, 0x5010, 0x6104, 0x7201, 0x6201, 0x6202]

/-- Error register 0x1001 (R39): bit 0 for any active fault, then the bits of each active fault's class; the thermal faults
of class 0x1 are 0x1202 and 0x1203. -/
def errorRegister (active : List ActiveFault) : Nat :=
  active.foldl (fun m a =>
    let c := a.code / 0x1000
    m ||| 1 ||| (if c = 1 then 4 else if c = 6 ∨ c = 8 then 16 else 128)
      ||| (if a.code = 0x1202 ∨ a.code = 0x1203 then 8 else 0)) 0

/-- The time base counts as locked in states 2 and 3 (R398). -/
def TimeBase.locked (t : TimeBase) : Bool := t.state == 2 || t.state == 3

/-- Nanoseconds of the time base since its second 0, its seconds (48 bits), nanoseconds and fraction (R396). -/
def TimeBase.totalNs (t : TimeBase) : Nat := t.units / 2 ^ 32
def TimeBase.seconds (t : TimeBase) : Nat := t.totalNs / 1000000000 % 2 ^ 48
def TimeBase.nanoseconds (t : TimeBase) : Nat := t.totalNs % 1000000000
def TimeBase.fraction (t : TimeBase) : Nat := t.units % 2 ^ 32 / 2 ^ 16

/-- Uptime as a time stamp gives it: whole periods of the 32.768 kHz clock, in ns (R43, R44). -/
def uptimeStamp (ns : Nat) : Nat := ns * 32768 / 1000000000 * 1000000000 / 32768

/-- The TimeSource bit and the Time field of a log entry written now (Table 2-4). -/
def State.logTime (s : State) : Bool × Nat :=
  if s.time.locked then (true, s.time.totalNs % 2 ^ 63) else (false, uptimeStamp s.mgmt.uptime % 2 ^ 63)

/-- The time that R210 records: the time base while it is locked, uptime otherwise. -/
def State.stamp (s : State) : Stamp :=
  if s.time.locked then ⟨s.time.seconds, s.time.nanoseconds, s.time.fraction, true⟩
  else ⟨uptimeStamp s.mgmt.uptime / 1000000000, uptimeStamp s.mgmt.uptime % 1000000000, 0, false⟩

/-- The 128-bit value of a log entry (Table 2-4). -/
def LogEntry.pack (e : LogEntry) : Nat :=
  b2n e.global * 2 ^ 127 + e.time % 2 ^ 63 * 2 ^ 64 + e.code % 2 ^ 16 * 2 ^ 48 + e.source % 2 ^ 8 * 2 ^ 40
    + e.severity.code * 2 ^ 38 + e.arg % 2 ^ 32

/-- Append to a log of `cap` entries: when it is full, the newest overwrites the oldest; answers the list and whether one
was overwritten. -/
def appendCapped {α : Type} (cap : Nat) (l : List α) (x : α) : List α × Bool :=
  if l.length < cap then (l ++ [x], false) else (l.drop 1 ++ [x], true)

/-- Append to the working log (R44). -/
def Log.append (g : Log) (e : LogEntry) : Log :=
  let (es, full) := appendCapped 1024 g.entries e
  let n := if full then sat32 g.overwritten 1 else g.overwritten
  { g with entries := es, newest := g.newest + 1, overwritten := n, sticky := g.sticky || (full && n == max32) }

/-- Append to the persistent log (R45). -/
def Log.appendPersistent (g : Log) (e : LogEntry) : Log :=
  let (es, full) := appendCapped 4096 g.persistent e
  { g with persistent := es, persistentOverwritten := if full then sat32 g.persistentOverwritten 1 else g.persistentOverwritten }

/-- Make a fault active, or replace the argument and class of the one already active (R495). -/
def activate (a : ActiveFault) : List ActiveFault → List ActiveFault
  | [] => [a]
  | b :: bs => if b.code = a.code ∧ b.source = a.source then a :: bs else b :: activate a bs

/-- End the active faults of which `p` holds. -/
def State.endFaults (s : State) (p : ActiveFault → Bool) : State :=
  { s with log := { s.log with active := s.log.active.filter fun a => !p a } }

/-- End the active faults of one code. -/
def State.endCode (s : State) (code : Nat) : State := s.endFaults fun a => a.code == code

/-- End the active faults of one code and class. -/
def State.endCodeClass (s : State) (code : Nat) (cls : FaultClass) : State :=
  s.endFaults fun a => a.code == code && a.cls == cls

/-- The CAN interface is silent with node ID 0 (R35) and while no firmware runs (R52). -/
def State.canSpeaks (s : State) : Bool :=
  s.can.nodeId != 0 && (s.boot.phase == .ready || s.boot.phase == .starting)

/-- Put a frame on the bus. -/
def State.send (s : State) (f : CanFrame) : State :=
  if s.canSpeaks then { s with can := { s.can with sent := s.can.sent ++ [f] } } else s

/-- One event line rises on every core (R296), and its MSI-X vector is sent to the host (R444). -/
def State.raiseLine (s : State) (line : Nat) : State :=
  { s with cores := s.cores.map (Core.event line s.coreTime), host := { s.host with vectors := s.host.vectors ++ [line] } }

/-- Write one entry of the event log (R43). -/
def State.logEvent (s : State) (code source arg : Nat) (sev : Severity) : State :=
  { s with log := s.log.append ⟨s.logTime.1, s.logTime.2, code, source, sev, arg % 2 ^ 32⟩ }

/-- What a logging of severity error or fatal adds: the persistent log (R45), the active fault (R495), the EMCY message
with the error register as it then stands (R38), and event line 23 (Table 12-3). -/
def State.logSerious (s : State) (code source arg : Nat) (row : FaultRow) : State :=
  let e : LogEntry := ⟨s.logTime.1, s.logTime.2, code, source, row.severity, arg % 2 ^ 32⟩
  let g := s.log.appendPersistent e
  let g := { g with active := activate ⟨code, source, row.cls, arg % 2 ^ 32⟩ g.active }
  let s := { s with log := g, rst := { s.rst with commitFaults := s.rst.commitFaults + b2n (s.loader.state == 3) } }
  let s := if s.can.nmt == .stopped then s
    else s.send (.emcy (0xFF00 + code / 0x1000) (errorRegister g.active) code (arg % 2 ^ 24))
  s.raiseLine 23

/-- Log a fault of the catalogue row `row` (R43, R495, R524): the log entry, the count 0x5000:03, the detail record of a
run-time fault, and what a serious one adds. -/
def State.logRow (s : State) (row : FaultRow) (source arg d1 d2 : Nat) : State :=
  let s := s.logEvent row.code source arg row.severity
  let g := { s.log with faultsLogged := sat32 s.log.faultsLogged 1 }
  let g := if detailCodes.contains row.code && row.cls != .image then
      { g with details := (appendCapped 1024 g.details ⟨s.log.newest % 2 ^ 32, row.code, s.arr.sched.cycle, d1, d2⟩).1 }
    else g
  let s := { s with log := g }
  if row.severity.serious then s.logSerious row.code source arg row else s

/-- Log a fault as class `cls` (R498). [DESIGN CHOICE, safe: log 12] -/
def State.logAs (s : State) (code : Nat) (cls : FaultClass) (source arg : Nat) : State :=
  match faultRow code cls with
  | some r => s.logRow r source arg 0 0
  | none => s

/-- Log a fault whose code stands in one row. [DESIGN CHOICE, safe: log 12] -/
def State.log1 (s : State) (code source arg : Nat) : State :=
  match faultRowOf code with
  | some r => s.logRow r source arg 0 0
  | none => s

/-- Log a fault with its two detail fields (R524). -/
def State.logDetail (s : State) (code : Nat) (cls : FaultClass) (source arg d1 d2 : Nat) : State :=
  match faultRow code cls with
  | some r => s.logRow r source arg d1 d2
  | none => s

/-- Source bytes of Table 2-4. -/
def srcHub : Nat := 0x02
def srcBoot : Nat := 0x00
def srcFirmware : Nat := 0x01
def srcDie (d : Nat) : Nat := 0x10 + d
def srcStack (k : Nat) : Nat := 0x20 + k
def srcDdr (c : Nat) : Nat := 0x28 + c
def srcGuest : Nat := 0x30
def srcCore (n : Nat) : Nat := 0x40 + n

/-- The sequence number of the oldest entry still in the working log. -/
def Log.oldest (g : Log) : Nat := g.newest + 1 - g.entries.length

/-- The log entry of a sequence number, if it has been written and not overwritten (R45). -/
def Log.entryOfSeq (g : Log) (seq : Nat) : Option LogEntry :=
  if g.oldest ≤ seq ∧ seq ≤ g.newest then g.entries[seq - g.oldest]? else none

/-- The four 32-bit words of a log entry, from bits 127-96 down (R45). -/
def LogEntry.words (e : LogEntry) : List Nat := [bits e.pack 96 32, bits e.pack 64 32, bits e.pack 32 32, bits e.pack 0 32]

/-- The four words of a sequence number; zeros where it has been overwritten or not yet written. -/
def Log.wordsOf (g : Log) (seq : Nat) : List Nat := match g.entryOfSeq seq with
  | some e => e.words
  | none => [0, 0, 0, 0]

/-- A log as a domain: 16 bytes each, oldest first (R45). -/
def logBytes (l : List LogEntry) : List Byte := l.flatMap fun e => toBytes 16 e.pack

/-- The domain 0x5001 (Table 21-8). -/
def activeBytes (l : List ActiveFault) : List Byte :=
  l.flatMap fun a => toBytes 2 a.code ++ toBytes 1 a.source ++ toBytes 1 a.cls.code ++ toBytes 4 a.arg

/-- The domain 0x5004 (R524). -/
def detailBytes (l : List Detail) : List Byte :=
  l.flatMap fun d => toBytes 4 d.seq ++ toBytes 2 d.code ++ toBytes 2 0 ++ toBytes 8 d.cycle ++ toBytes 8 d.d1 ++ toBytes 8 d.d2

end Sys2Proof.Machine
end

