-- ==== Sys2Proof/Machine/Ops.lean ====
section
/-! DEFINITION. Named operations over memories, the array and run control that several chapters share: geometry of the
dies (R77, R78), bytes of the address map (R19), step-clock times (R116), stop causes (R120, R198 to R201), changes of
mode (R43, R192). -/

namespace Sys2Proof.Machine

/-! ### Geometry -/

/-- Grade code of an image header (R3): 8, 4 or 2. -/
def Grade.code : Grade → Nat := Grade.dies

/-- HBM3 stacks (Table 0-1). -/
def Grade.stacks : Grade → Nat
  | .e8 => 4
  | .e4 => 2
  | .e2 => 1

/-- Zulon lanes (Table 0-1). -/
def Grade.lanes : Grade → Nat
  | .e8 => 32
  | .e4 => 16
  | .e2 => 8

def State.dies (s : State) : Nat := s.part.grade.dies

/-- Nibs of one E-die (Table 0-3). -/
def dieNibs : Nat := 131072

/-- E-die, die-local identifier, tile, cluster key, tile key and port key of a module nib number (R77, R78). -/
def nibDie (n : Nat) : Nat := n / dieNibs
def nibLocal (n : Nat) : Nat := n % dieNibs
def nibTile (n : Nat) : Nat := nibLocal n / 2048
def clusterKey (n : Nat) : Nat := n / 64
def tileKey (n : Nat) : Nat := n / 2048
def portKey (n : Nat) : Nat := n / 512

/-- Column, row and edge distances of a tile (R78, Table 5-3). -/
def tileX (t : Nat) : Nat := t % 8
def tileY (t : Nat) : Nat := t / 8

/-- The E-die west and east of a die on the ring (R108); a grade E2 has one bundle, east of die 0 and west of die 1. -/
def eastOf (g : Grade) (d : Nat) : Nat := (d + 1) % g.dies

/-- E-die `a` reaches its ring neighbour `b` by its east bundle (R108). -/
def isEast (g : Grade) (a b : Nat) : Bool :=
  match g with
  | .e2 => a == 0 && b == 1
  | _ => eastOf g a == b

/-- Ring neighbours (Table 1-2). -/
def neighbours (g : Grade) (a b : Nat) : Bool :=
  decide (a < g.dies ∧ b < g.dies ∧ a ≠ b) && (isEast g a b || isEast g b a)

/-- The ring bundle between two neighbours: bundle b joins E-die b to its east neighbour (R113). -/
def ringBundle (g : Grade) (a b : Nat) : Nat := if isEast g a b then a else b

/-! ### Memory by physical address -/

/-- What a byte that nothing has written reads as: zero (assumption log 3). [DESIGN CHOICE, unsafe: log 3] -/
def zeroByte : Nat → Byte := fun _ => 0

/-- Read `n` bytes of the physical address space. -/
def State.readBytes (s : State) (addr n : Nat) : List Byte := Sparse.getRun zeroByte s.mem.bytes addr n

/-- Write bytes to the physical address space. -/
def State.writeBytes (s : State) (addr : Nat) (bs : List Byte) : State :=
  { s with mem := { s.mem with bytes := Sparse.setRun zeroByte s.mem.bytes addr bs } }

/-- Key of a byte of a die's on-die design memory (R136). -/
def onDieKey (die off : Nat) : Nat := die * 2 ^ 28 + off

/-- Read `n` bytes of a die's banks. -/
def State.readOnDie (s : State) (die off n : Nat) : List Byte := Sparse.getRun zeroByte s.mem.onDie (onDieKey die off) n

/-- Write bytes of a die's banks. -/
def State.writeOnDie (s : State) (die off : Nat) (bs : List Byte) : State :=
  { s with mem := { s.mem with onDie := Sparse.setRun zeroByte s.mem.onDie (onDieKey die off) bs } }

/-- The bank, as die × 1,536 + bank, of a die-local design-memory offset (R136). -/
def bankOf (die off : Nat) : Nat := die * 1536 + off / 0x20000

/-- The bank has its supply: one that no port owns is powered off from commit onwards (R137). -/
def State.bankPowered (s : State) (b : Nat) : Bool := match s.mem.owned with
  | some l => l.contains b
  | none => true

/-- The canonical form of the byte-addressed memories: addresses strictly rising, no entry that reads as unwritten. -/
def Memory.wf (m : Memories) : Bool := Sparse.wf zeroByte m.bytes && Sparse.wf zeroByte m.onDie

/-- First addresses of the rows of Table 1-6. -/
def scratchBase : Nat := 0x000_0000_0000
def secureBase : Nat := 0x000_03C0_0000
def secureEnd : Nat := 0x000_0400_0000
def blotterBase : Nat := 0x000_0400_0000
def acqBase : Nat := 0x000_0800_0000
def dictBase : Nat := 0x000_1000_0000
def windowBase : Nat := 0x000_2000_0000
def hbmStart : Nat := 0x010_0000_0000
def ddrStart : Nat := 0x100_0000_0000
def guestStart : Nat := 0x200_0000_0000

/-- HBM capacity in bytes (Table 0-1). -/
def Grade.hbmBytes (g : Grade) : Nat := g.stacks * 24 * 2 ^ 30

/-- The stack that serves a physical HBM address (R21). -/
def hbmStack (g : Grade) (addr : Nat) : Nat := (addr - hbmStart) / 256 % g.stacks

/-- The DDR5 channel that serves a physical address: below the channels fitted. -/
def State.ddrChannelOf (s : State) (addr : Nat) : Nat := Config.ddrChannel s.part.ddrChannels addr % s.part.ddrChannels

/-- Drop the bytes of an address range, which then read as unwritten. [DESIGN CHOICE, unsafe: log 3] -/
def State.forgetBytes (s : State) (lo hi : Nat) : State :=
  { s with mem := { s.mem with bytes := Sparse.keep (fun a => !(decide (lo ≤ a ∧ a < hi))) s.mem.bytes } }

/-! ### The schedule of the committed image -/

/-- Schedule length L; 0 with no image (R105, R132). -/
def State.L (s : State) : Nat := match s.image with
  | some i => i.length
  | none => 0

/-- Largest pinned lane latency of the domain (R132). -/
def State.lambdaMax (s : State) : Nat := match s.image with
  | some i => i.domainLanes.foldl (fun m l => max m l.latency) 0
  | none => 0

/-- The committed image belongs to a schedule domain (R127). -/
def State.inDomain (s : State) : Bool := match s.image with
  | some i => decide (2 ≤ i.domainSize)
  | none => false

/-- Decision lead D (R116). -/
def State.lead (s : State) : Nat := if s.inDomain then 32 + s.lambdaMax else 12

/-- Step period in picoseconds at a point (Table 5-1). -/
def periodPs : Nat → Nat
  | 0 => 800
  | 1 => 1000
  | 2 => 1250
  | _ => 1600

/-- Update the execution state of the array. -/
def State.withSched (s : State) (f : Sched → Sched) : State := { s with arr := { s.arr with sched := f s.arr.sched } }

/-- The array is frozen in a stall: the stall's slot is the next P0 to run (R117, R118). -/
def Sched.frozen (c : Sched) : Bool := c.stalls.any fun st =>
  st.cycle == c.cycle && ((st.slot == c.step && !c.opened) || st.slot == c.step + 1)

/-! ### Stops (R120, R198 to R201, R499) -/

/-- The cycle whose boundary a cause raised at step `st` of cycle `n` takes effect at (R120). -/
def stopCycle (L D n st : Nat) : Nat := n + (st + D) / L

/-- Bits of Table 8-4 that are of the room kind. -/
def roomBits : List Nat := [4, 5, 6]
def isRoomBit (b : Nat) : Bool := roomBits.contains b

/-- A cause joins a stop already taken (R120, R198): its bit, and its fault where none is recorded yet. -/
def State.joinStop (s : State) (b fault : Nat) : State :=
  { s with run := { s.run with stopCause := setBit s.run.stopCause b true
                               stopFault := if s.run.stopFault = 0 then fault else s.run.stopFault } }

/-- Raise a stop cause (a domain member tells its peers, R130) at cycle `n`, step `st`, from die `die` (8 for the hub), with its fault code or 0. It waits for the
boundary of R120 while the array runs, takes effect at once while the array is stopped, and stops nothing outside RUN. -/
def State.raiseStopAt (s : State) (b n st die fault : Nat) : State :=
  let s := if s.inDomain && s.arr.sched.run != .gated && s.arr.sched.run != .enteringHold && b != 2 && b != 3 then
    { s with notices := s.notices ++ [.stop n st] } else s
  match s.arr.sched.run with
  | .running =>
    s.withSched fun c => { c with stops := c.stops ++ [⟨b, max (stopCycle s.L s.lead n st) c.cycle, n, st, die, fault⟩] }
  | .stoppedForRoom =>
    if isRoomBit b then s.joinStop b fault
    else (s.joinStop b fault).withSched fun c => { c with run := .enteringHold, target := none }
  | .awaitingEdge =>
    if isRoomBit b then s.joinStop b fault
    else (s.joinStop b fault).withSched fun c => { c with run := .enteringHold, target := none }
  | .enteringHold => s.joinStop b fault
  | .gated => s

/-- The step at which a cause from outside the array counts as raised (R120): the wait slot while the array is frozen, else
the step it executes. -/
def State.outsideStep (s : State) : Nat × Nat :=
  match s.arr.sched.stalls with
  | st :: _ => if s.arr.sched.frozen then (st.cycle, st.slot) else (s.arr.sched.cycle, s.arr.sched.step)
  | [] => (s.arr.sched.cycle, s.arr.sched.step)

/-- Raise a stop cause from outside the array. -/
def State.raiseStop (s : State) (b die fault : Nat) : State :=
  s.raiseStopAt b s.outsideStep.1 s.outsideStep.2 die fault

/-- The hub's unit number in R499 and R115. -/
def hubUnit : Nat := 8

/-- Source byte of a unit: E-die d, or the hub. -/
def unitSource (u : Nat) : Nat := if u = hubUnit then srcHub else srcDie u

/-- A source of the room kind (bits 4 to 6) has no room: its cause is raised once until it has room again (R199). -/
def State.raiseRoom (s : State) (b src : Nat) : State :=
  if s.arr.sched.rooms.contains (b, src) then s
  else (s.withSched fun c => { c with rooms := c.rooms ++ [(b, src)] }).raiseStop b hubUnit 0

/-- The source has room again (R199). -/
def State.clearRoom (s : State) (b src : Nat) : State :=
  s.withSched fun c => { c with rooms := c.rooms.filter fun r => r != (b, src) }

/-! ### Modes -/

/-- Mode codes of Table 8-1. -/
def Mode.code : Mode → Nat
  | .dormant => 0
  | .standby => 1
  | .loaded => 2
  | .run => 3
  | .hold => 4
  | .service => 5

/-- The module is in one of the modes listed. -/
def State.modeIn (s : State) (ms : List Mode) : Bool := ms.contains s.run.mode

/-- LOADED, HOLD or SERVICE. -/
def quietModes : List Mode := [.loaded, .hold, .service]

/-- STANDBY or DORMANT (R399, R480). [DEDUCED, unsafe: log 52] -/
def State.asleep (s : State) : Bool := s.modeIn [.standby, .dormant] && !s.run.waking

/-- The DDR5 controllers are awake: they never sleep during staging, commit, contact-sheet commands and march (Table 13-4). -/
def State.wakeDdr (s : State) : State :=
  { s with rings := { s.rings with sleeping := s.rings.sleeping.filter fun d => !decide (4 ≤ d ∧ d < 8) } }

/-! ### Clocks held under MINIMAL (R485) -/

/-- Every E-die is held: a step or link loop of one, or the reference, has failed (R485). -/
def holdsDies : ClockSource → Bool
  | .loop die loop => decide (die < 8 ∧ loop < 2)
  | .reference => true
  | .oscillator => false

def State.diesHeld (s : State) : Bool := s.rst.failedLoops.any holdsDies

/-- The reference has failed: everything that it feeds is held (R485). -/
def State.referenceHeld (s : State) : Bool := s.rst.failedLoops.contains .reference

/-- What a loop of die `d` (8 for the hub) serves is held: it, or the reference, has failed (R485). -/
def State.loopHeld (s : State) (d l : Nat) : Bool := s.referenceHeld || s.rst.failedLoops.contains (.loop d l)

/-- The word cells of E-die `d` are held: its fabric loop has failed (R485). -/
def State.fabricHeld (s : State) (d : Nat) : Bool := s.loopHeld d 3

/-- The probe and trigger paths of E-die `d`, and for 8 everything on the hub's I/O clock, are held: the I/O loop has failed (R485).
[DEDUCED, unsafe: log 58] -/
def State.ioHeld (s : State) (d : Nat) : Bool := s.loopHeld d 4

/-- A start has not reached stage 6 of Table 20-3, at which the loops of the hub and the E-dies lock (R482, R516).
[DEDUCED, unsafe: log 58] -/
def State.loopsDown (s : State) : Bool :=
  s.rst.recovery.any (fun l => decide (1 < l)) && s.boot.phase != .ready && s.boot.phase != .starting

/-- The ring stops of die `d` (8 for the hub) are held: its ring loop has failed (R485). -/
def State.ringHeld (s : State) (d : Nat) : Bool := s.loopHeld d 2

/-! ### Requesters -/

/-- A refused write (R26): the entry is unchanged, the mirror drops it and CAN aborts it. Requester 0x01 is the CAN
interface (Table 19-5). [DEDUCED, unsafe: log 20] -/
def refusedAnswer (req : Nat) : Answer := if req = 1 then .sdoAbort else .dropped

/-- The fast clock starts: a CAN frame for the node, a mirror access or an alarm of the always-on domain (R40). -/
def State.wakeClock (s : State) : State := { s with mgmt := { s.mgmt with fastClock := true } }

/-- Give the requester its answer; its access has started the fast clock (R40). -/
def State.reply (s : State) (a : Answer) : State := { s.wakeClock with answer := a }

/-- Argument of 0x9010, 0x9011 and 0x9012 (R26): requester, index, sub-index. [DEDUCED, unsafe: log 20] -/
def accessArg (req key : Nat) : Nat := req * 2 ^ 24 + key % 2 ^ 24

/-- Refuse a dictionary write with fault `code`, logged once with argument `arg` (R26). -/
def State.refuseArg (s : State) (req code arg : Nat) : State :=
  (s.logAs code .refused srcHub arg).reply (refusedAnswer req)

/-- Refuse a dictionary write with fault `code`; 0x9010 to 0x9012 name the requester and the entry, other codes carry no
argument of Table 21-9. [DEDUCED, unsafe: log 20] -/
def State.refuse (s : State) (req key code : Nat) : State :=
  s.refuseArg req code (if 0x9010 ≤ code ∧ code ≤ 0x9012 then accessArg req key else 0)

/-- The write is accepted. -/
def State.accept (s : State) : State := s.reply (.ok 0)

end Sys2Proof.Machine
end

