-- ==== Sys2Proof/Machine/Access.lean ====
section
/-! DEFINITION. Who may do what: rights tables (R459 to R462), debug levels (R454, R455), and the checks that every write
to the object dictionary passes before its own rule (R25, R26, R52, R472). -/

namespace Sys2Proof.Machine

/-! ### Control regions (R468) -/

/-- RDIMMs are fitted and in use (R466, R478). -/
def State.ddrPresent (s : State) : Bool := decide (0 < s.part.ddrGiB) && !s.rst.ddrRefused && s.sec.sessionKey

/-- Staging size in use, in GiB: 0x2405:02 (R265). -/
def stagingKey : Nat := 0x240502

/-- End of the control regions in DDR5: (9S ÷ 8) GiB + 292 MiB above its base (R468); the base itself where no control region
is placed. -/
def State.controlEnd (s : State) : Nat :=
  if s.entry stagingKey = 0 ∨ s.ddrPresent = false then ddrStart
  else ddrStart + s.entry stagingKey * 9 * 2 ^ 27 + 292 * 2 ^ 20

/-- End of the populated DDR5. -/
def State.ddrEnd (s : State) : Nat := if s.ddrPresent then ddrStart + s.part.ddrGiB * 2 ^ 30 else ddrStart

/-! ### Rights tables (Table 19-6) -/

/-- A rights-table entry from its range and its rights. -/
def grant (lo hi : Nat) (r w a x : Bool) : Nat :=
  lo * 2 ^ 84 + hi * 2 ^ 40 + 2 ^ 39 + b2n r * 2 ^ 38 + b2n w * 2 ^ 37 + b2n a * 2 ^ 36 + b2n x * 2 ^ 35

def grantBase (e : Nat) : Nat := bits e 84 44
def grantLimit (e : Nat) : Nat := bits e 40 44

/-- Last byte of the 44-bit physical address space. -/
def lastAddress : Nat := 2 ^ 44 - 1

/-- Default grants (Table 19-5), from the ranges of Table 1-6 and the placement of R468; the HBM arena of the guest is that of
the committed image. -/
def State.defaultGrants (s : State) (req : Nat) : List Nat :=
  let wholeMap := [grant 0 (secureBase - 1) true true false false, grant secureEnd (ddrStart - 1) true true false false,
    grant s.controlEnd lastAddress true true false false]
  let dataRegions (r w a : Bool) := grant s.controlEnd (guestStart - 1) r w a false
  let arena := match s.image with
    | some i => if i.hbmArenaSize = 0 then [] else [grant i.hbmBase (i.hbmBase + i.hbmArenaSize - 1) true true true false]
    | none => []
  if req = 0x00 then wholeMap
  else if req = 0x01 then [grant dictBase (windowBase - 1) true true false false]
  else if req = 0x02 then wholeMap
  else if req = 0x03 then [dataRegions false true false]
  else if req = 0x04 then [grant scratchBase (secureBase - 1) true true true false] ++ arena ++ [dataRegions true true true]
  else if req = 0x05 then [grant 0 lastAddress true true true true]
  else if 0x10 ≤ req ∧ req ≤ 0x2F then
    [grant scratchBase (secureBase - 1) true true true false, grant blotterBase (acqBase - 1) true true true false,
     grant acqBase (dictBase - 1) true true true false, grant dictBase (windowBase - 1) true true true false,
     grant hbmStart (ddrStart - 1) true true true false, dataRegions true true true,
     grant guestStart lastAddress true true true false]
  else []

/-- The rights table of a requester: the firmware's own is fixed. -/
def State.rights (s : State) (req : Nat) : List Nat :=
  if req = 0x05 then s.defaultGrants req
  else match s.sec.tables.find? fun t => t.1 == req with
    | some t => t.2
    | none => s.defaultGrants req

/-- The access touches the secure part. -/
def touchesSecure (addr len : Nat) : Bool := decide (addr < secureEnd ∧ secureBase < addr + len)

/-- R460: the lowest-numbered valid entry that contains every byte decides. -/
def State.allowed (s : State) (req addr len : Nat) (write atomic : Bool) : Bool :=
  match (s.rights req).find? fun e => bit e 39 && decide (grantBase e ≤ addr ∧ addr + len ≤ grantLimit e + 1) with
  | some e => (if write then bit e 37 else bit e 38) && (!atomic || bit e 36) && (!touchesSecure addr len || bit e 35)
  | none => false

/-- Argument of 0x5010, 0x6104 and 0x7201 (Table 21-9). -/
def addressArg (req addr : Nat) : Nat := req * 2 ^ 24 + bits addr 20 24

/-- What a requester is answered when an access is turned away. [DEDUCED, unsafe: log 20] -/
def errorAnswer (req : Nat) (write : Bool) : Answer :=
  if req = 1 then .sdoAbort else if write then .dropped else .error

/-- `DeniedCount` of a requester index below 0x30 (R462). [DEDUCED, unsafe: log 71] -/
def State.countDenied (s : State) (req : Nat) : State := if req < 0x30 then s.bump (keyOf 0x2631 (req + 1)) else s

/-- The log limits of R462 and R455 remember the requester. -/
def State.noteDenied (s : State) (req : Nat) : State := { s with sec := { s.sec with deniedLogged := req :: s.sec.deniedLogged } }
def State.noteLevel (s : State) (req : Nat) : State := { s with sec := { s.sec with levelLogged := req :: s.sec.levelLogged } }

/-- A denied access (R462): counted, and logged for the first denial of the requester after each run command and each change
of mode. -/
def State.denied (s : State) (req addr : Nat) (write : Bool) : State :=
  let s := s.countDenied req
  let s := if s.sec.deniedLogged.contains req then s
    else (s.logDetail 0x7201 .refused srcHub (addressArg req addr) addr 0).noteDenied req
  s.reply (errorAnswer req write)

/-- An action below its debug level (R455). -/
def State.levelRefused (s : State) (req : Nat) : State :=
  let s := s.countDenied req
  let s := if s.sec.levelLogged.contains req then s
    else (s.logAs 0x7202 .refused srcHub 0).noteLevel req
  s.reply (if req = 1 then .sdoAbort else .error)

/-! ### The object dictionary -/

/-- Physical address of the mirror word of an entry (R30). -/
def mirrorAddr (key : Nat) : Nat := dictBase + (key / 256 - 0x1000) * 256 + key % 256 * 4

/-- The management firmware answers dictionary accesses (R52). [DESIGN CHOICE, unsafe: log 28] -/
def State.serving (s : State) : Bool := s.boot.phase == .ready || s.boot.phase == .starting

/-- Entries that can be read during a device halt (R472). [DEDUCED, unsafe: log 45] -/
def haltReadable (key : Nat) : Bool :=
  [0x1000, 0x1001, 0x1018, 0x2F00, 0x2F20, 0x2F21, 0x2F22].contains (key / 256) || key == 0x260001 || key == 0x262201

/-- Entries that the module answers from hardware while no firmware runs (R52). -/
def bootReadable (key : Nat) : Bool := [0x1000, 0x1001, 0x1018, 0x2F40].contains (key / 256)

/-- The entry cannot be reached now: no firmware runs (R52), or a device halt is in force (R472). [DEDUCED, unsafe: log 45] -/
def State.unreachable (s : State) (req key : Nat) (write : Bool) : Bool :=
  (!s.serving && (write || req == 1 || s.boot.phase == .off || !bootReadable key)) || (s.sec.halted && (write || !haltReadable key))

/-- Lowest debug level at which an entry is reached (Table 19-4). -/
def entryLevel (key : Nat) : Nat :=
  if (0x2900 ≤ key / 256 ∧ key / 256 ≤ 0x2BFF) ∨ key / 256 = 0x2750 then 1
  else if key = 0x212001 ∨ key / 256 = 0x2121 then 2
  else 0

/-- Modes in which an entry of level 1 is reached (Table 19-4). -/
def entryModes (key : Nat) : List Mode :=
  if (0x2900 ≤ key / 256 ∧ key / 256 ≤ 0x2BFF) ∨ key / 256 = 0x2750 then [.loaded, .run, .hold, .service] else []

/-- An entry of a die that the grade does not fit does not exist (R19, DEDUCED): indices 0x3000 + die × 0x100 to 0x30FF + die × 0x100.
[DEDUCED, unsafe: log 62] -/
def State.fittedEntry (s : State) (key : Nat) : Bool :=
  !decide (0x300000 ≤ key ∧ key < 0x380000) || decide ((key / 256 - 0x3000) / 256 < s.dies)

/-- The catalogue row of an entry of this module. -/
def State.entryRow (s : State) (key : Nat) : Option Entry := if s.fittedEntry key then entryOf key else none

/-- An access to an existing entry that names no row of the catalogue: the count at sub-index 0x00 of an array (R41). -/
def State.countEntry (s : State) (key : Nat) : Bool := (s.entryRow key).isNone && key % 256 == 0 && subCount (key / 256) != 0

/-- The entry has a mirror word: 32 bits or fewer (Table 2-1). -/
def State.mirrored (s : State) (key : Nat) : Bool := s.countEntry key || (s.entryRow key).any fun e => e.type.mirrored

/-- SDO and PDO service runs: the node speaks and is not stopped (R35, R37, R52). -/
def State.sdoOn (s : State) : Bool := s.canSpeaks && s.can.nmt != .stopped

/-- A CAN transfer to the entry is in progress (R34). -/
def State.transferring (s : State) (key : Nat) : Bool := s.can.sdo.any fun t => t.key == key

/-- A write through the mirror, by any requester but the CAN interface, waits for the transfer in progress (R34). -/
def State.mustWait (s : State) (req key : Nat) : Bool := req != 1 && s.mirrored key && s.transferring key

/-- A mirror write of `v` that a transfer holds back (R34). -/
def State.holdWrite (s : State) (req key v : Nat) : State :=
  { s with can := { s.can with held := s.can.held ++ [(req, key, v % 2 ^ 32)] } }.reply .deferred

/-- The checks before any rule of the entry itself: the CAN interface serves (R35, R37), the controller answers, no device halt, the
rights table of the requester. [DEDUCED, unsafe: log 19] -/
def State.reaching (s : State) (req key : Nat) (write : Bool) (k : State → State) : State :=
  if req = 1 ∧ s.sdoOn = false then s
  else if s.unreachable req key write then
    s.reply (if req = 1 then .sdoAbort else .completerAbort)
  else if !s.allowed req (mirrorAddr key) 4 write false then s.denied req (mirrorAddr key) write
  else k s

/-- Continue only at debug level `n` or above (R455). [DEDUCED, unsafe: log 19] -/
def State.atLevel (s : State) (req n : Nat) (k : State → State) : State :=
  if s.sec.level < n then s.levelRefused req else k s

/-- Continue only in one of the modes listed (none listed: every mode); else 0x9012 (R25). [DEDUCED, unsafe: log 19] -/
def State.inModes (s : State) (req key : Nat) (ms : List Mode) (k : State → State) : State :=
  if ms.isEmpty || s.modeIn ms then k s else s.refuse req key 0x9012

/-- A read of an entry reaches the entry through the same checks; refused, it returns an error (R455).
[DEDUCED, unsafe: log 19] -/
def State.reading (s : State) (req key : Nat) (k : State → State) : State :=
  s.reaching req key false fun s => s.atLevel req (entryLevel key) fun s =>
    if (entryModes key).isEmpty || s.modeIn (entryModes key) then k s
    else (s.logAs 0x9012 .refused srcHub (accessArg req key)).reply (errorAnswer req false)

/-- A write of `v` to an entry, by DICTIONARY_WRITE or by a command of its own, reaches the entry's own rule `k` through the checks of
R25, R26, R34, R455 and R462. [DEDUCED, unsafe: log 19] -/
def State.writing (s : State) (req key v : Nat) (k : State → State) : State :=
  s.reaching req key true fun s =>
    if s.mustWait req key then s.holdWrite req key v
    else s.atLevel req (entryLevel key) fun s => s.inModes req key (entryModes key) fun s =>
    match s.entryRow key with
    | none => s.refuse req key 0x9010
    | some e =>
      if e.access = .ro ∨ e.access = .const then s.refuse req key 0x9011 else s.inModes req key e.modes k

/-- A write of `v` to an entry narrower than 32 bits ignores the upper bits (R32); a value outside the entry's range is
refused (R26). [DEDUCED, unsafe: log 18] -/
def State.writingValue (s : State) (req key v : Nat) (k : Nat → State → State) : State :=
  s.writing req key v fun s =>
    match entryOf key with
    | none => s
    | some e => if e.rule.accepts (v % 2 ^ e.type.width) then k (v % 2 ^ e.type.width) s else s.refuse req key 0x9011

end Sys2Proof.Machine
end

