-- ==== Sys2Proof/Machine/Trace.lean ====
section
/-! DEFINITION. Trace and performance counters (R372 to R392): records, FIFOs and the funnel into the blotter, and the
module counters. Changes of mode stand here too, since each writes a Sync record (R43, R376). -/

namespace Sys2Proof.Machine

/-! ### Module counters (R392) -/

/-- One counter sees `n` events `code` of unit `unit`. -/
def State.countIn (s : State) (code unit n k : Nat) : State :=
  let i := 0x2B10 + k
  if bit (s.entry 0x2B0001) k && s.entry (keyOf i 1) == code &&
      (s.entry (keyOf i 2) == 0xFFFF || s.entry (keyOf i 2) == unit) then
    let v := s.entry (keyOf i 3) + n
    let s := s.putEntry (keyOf i 3) (v % 2 ^ 32)
    if v < 2 ^ 32 then s
    else
      let s := s.putEntry 0x2B0002 (setBit (s.entry 0x2B0002) k true)
      if bit (s.entry 0x2B0003) k then s.raiseLine 18 else s
  else s

/-- Every enabled module counter of the event counts. -/
def State.countEvent (s : State) (code unit n : Nat) : State :=
  if s.entry 0x2B0001 = 0 ∨ n = 0 then s else (List.range 16).foldl (fun s k => s.countIn code unit n k) s

/-! ### Sources (Table 15-1) -/

/-- The group of a source, 1 to 5, that 0x2A05 prioritises. -/
def sourceGroup (src : Nat) : Nat :=
  if src < 32 then 1 else if src < 64 then 2 else if src = 64 then 3 else if src = 65 then 4 else 5

def State.tracing (s : State) : Bool := s.entry 0x2A0001 == 1

/-- The control entry of a source enables it and, for a core's source, the core does not sleep (R372, R388). -/
def State.sourceOn (s : State) (src : Nat) : Bool :=
  s.tracing &&
    if src < 32 then bit (s.entry (keyOf 0x2A01 (src + 1))) 0 && !(s.cores.getD src default).asleep
    else if src < 64 then bit (s.entry (keyOf 0x2A02 (src - 31))) 0 && !(s.cores.getD (src - 32) default).asleep
    else if src = 64 then s.entry 0x2C0201 != 0
    else if src = 65 then s.entry 0x2A0301 != 0
    else if src < 74 then bit (s.entry (keyOf 0x2A04 (src - 65))) 31
    else src == 127

/-- Drop counter of a source (Table 15-9). -/
def dropKey (src : Nat) : Nat :=
  if src < 32 then keyOf 0x2A21 (src + 1) else if src < 64 then keyOf 0x2A22 (src - 31) else keyOf 0x2A23 (src - 63)

/-! ### Time stamps (R374, R375) -/

/-- Sleep and Wake records use the reserved entries. -/
def isSleepWake (kind : Nat) : Bool := kind == 2 || kind == 3

/-- Kind, extension and time of a stamp taken now; `global` asks for kind 1, which the uptime replaces while the time base is
not locked. -/
def State.traceStamp (s : State) (global : Bool) : Nat × Nat × Nat :=
  if !global then (0, 0, s.trace.tc)
  else if s.time.locked then
    (1, s.time.fraction * 2 ^ 16 + s.time.seconds / 2 ^ 32, s.time.seconds % 2 ^ 32 * 2 ^ 32 + s.time.nanoseconds)
  else (2, 0, s.mgmt.uptime)

/-- Record kinds whose stamp is global in the mode: Sync, Sleep, Wake, the first after a drop, and all outside LOADED, RUN and
HOLD (Table 15-3). -/
def State.stampGlobal (s : State) (kind gap : Nat) : Bool :=
  kind == 1 || isSleepWake kind || decide (0 < gap) || !s.modeIn [.loaded, .run, .hold]

/-! ### The blotter (R373, R383 to R387) -/

/-- Slots of the blotter. -/
def blotterSlots : Nat := 262144

def Trace.unread (t : Trace) : Nat := (t.writeP + blotterSlots - t.readP) % blotterSlots

/-- The 128-bit header of a record (Table 15-2). -/
def TraceRec.header (r : TraceRec) : Nat :=
  r.source * 2 ^ 121 + r.kind * 2 ^ 116 + r.timeKind * 2 ^ 114 + r.gap * 2 ^ 96 + r.ext * 2 ^ 64 + r.time

/-- Add to a trace counter 0x2A20:k; a counter that saturates sets the sticky flag and logs 0xA102 (R384). -/
def State.traceCount (s : State) (key n : Nat) : State :=
  if n = 0 then s
  else
    let full := s.entry key + n ≥ max32 && s.entry key < max32
    let s := s.bumpBy key n
    if full then (s.putEntry 0x2A2006 1).log1 0xA102 srcHub 0 else s

/-- The funnel may write a record now: in mode 1 a full blotter takes nothing (R385). -/
def State.blotterRoom (s : State) : Bool := s.entry 0x2A0002 == 0 || decide (s.trace.unread < blotterSlots - 1)

/-- Advance the write pointer, and the read pointer where the slot overwrites the oldest unread record (R385). -/
def State.advanceBlotter (s : State) (full : Bool) : State :=
  { s with trace := { s.trace with
    writeP := (s.trace.writeP + 1) % blotterSlots
    readP := if full then (s.trace.readP + 1) % blotterSlots else s.trace.readP } }

/-- Event line 19 when Unread has risen above the threshold from `u` (R386). [DEDUCED, unsafe: log 43] -/
def State.thresholdLine (s : State) (u : Nat) : State :=
  if u ≤ s.entry 0x2A0005 ∧ s.entry 0x2A0005 < s.trace.unread then s.raiseLine 19 else s

/-- Store the 32 bytes of a record in the slot that the write pointer names (R373). -/
def State.storeRecord (s : State) (r : TraceRec) : State :=
  s.writeBytes (blotterBase + s.trace.writeP * 32) (toBytes 16 r.header ++ toBytes 16 r.payload)

/-- Write one record to the blotter (R383, R385, R386). -/
def State.blotterTake (s : State) (r : TraceRec) : State :=
  let full := s.trace.unread == blotterSlots - 1
  ((((((s.storeRecord r).traceCount 0x2A2004 (b2n full)).advanceBlotter full).traceCount 0x2A2002 1).countEvent 13 0 1)).thresholdLine
    s.trace.unread

def State.fifo (s : State) (src : Nat) : List TraceRec := Sparse.get (fun _ => []) s.trace.fifos src

def State.withFifo (s : State) (src : Nat) (l : List TraceRec) : State :=
  { s with trace := { s.trace with fifos := Sparse.set (fun _ => []) s.trace.fifos src l } }

/-- A FIFO takes a record of this kind: 14 entries for any record, two reserved for Sleep and Wake (R382). -/
def fifoTakes (l : List TraceRec) (kind : Nat) : Bool :=
  let sw := (l.filter fun r => isSleepWake r.kind).length
  if isSleepWake kind then decide (l.length < 16) else decide (l.length - sw + (sw - 2) < 14)

/-- A record is dropped (R382). [DEDUCED, unsafe: log 43] -/
def State.dropRecord (s : State) (src : Nat) : State :=
  let s := s.traceCount 0x2A2003 1
  let s := s.traceCount (dropKey src) 1
  let g := Sparse.get (fun _ => 0) s.trace.gaps src
  let s := { s with trace := { s.trace with gaps := Sparse.set (fun _ => 0) s.trace.gaps src (min (g + 1) 0xFFFF) } }
  if s.trace.dropLogged then s
  else { s with trace := { s.trace with dropLogged := true } }.log1 0xA101 srcHub src

/-- The stamp of a record that the source offers now. -/
def State.offerStamp (s : State) (src kind : Nat) : Nat × Nat × Nat :=
  s.traceStamp (s.stampGlobal kind (Sparse.get (fun _ => 0) s.trace.gaps src))

/-- The FIFO of a source takes a record, with the drops since the last one. -/
def State.enterFifo (s : State) (src kind payload : Nat) : State :=
  let st := s.offerStamp src kind
  let r : TraceRec := ⟨src, kind, st.1, Sparse.get (fun _ => 0) s.trace.gaps src, st.2.1, st.2.2, payload, s.mgmt.uptime⟩
  { s with trace := { s.trace with gaps := Sparse.set (fun _ => 0) s.trace.gaps src 0 } }.withFifo src (s.fifo src ++ [r])

/-- A record is offered: its FIFO takes it, or it is dropped (R382). -/
def State.offerNow (s : State) (src kind payload : Nat) : State :=
  let s := s.traceCount 0x2A2001 1
  if fifoTakes (s.fifo src) kind then s.enterFifo src kind payload else s.dropRecord src

/-- A source that is not absent offers a record (R372). -/
def State.offer (s : State) (src kind payload : Nat) : State :=
  if s.sourceOn src then s.offerNow src kind payload else s

/-- A record of program-flow source `src` that is offered whether or not program-flow trace is enabled (R390). -/
def State.offerAlways (s : State) (src kind payload : Nat) : State :=
  if !s.tracing || (s.cores.getD src default).asleep then s else s.offerNow src kind payload

/-- A Sync record of source 127 (R376): it has no FIFO and goes first. [DEDUCED, unsafe: log 43] -/
def State.sync (s : State) : State :=
  if !s.tracing then s
  else
    let s := s.traceCount 0x2A2001 1
    let st := s.traceStamp true
    let r : TraceRec := ⟨127, 1, st.1, 0, st.2.1, st.2.2, s.arr.sched.cycle % 2 ^ 64 * 2 ^ 64 + s.trace.tc % 2 ^ 64, s.mgmt.uptime⟩
    if s.blotterRoom then s.blotterTake r else s.traceCount 0x2A2003 1

/-- The Sleep and Wake records at the heads of FIFOs. -/
def State.sleepHeads (s : State) : List TraceRec :=
  s.trace.fifos.filterMap fun f => match f.2 with
    | r :: _ => if isSleepWake r.kind then some r else none
    | [] => none

/-- The oldest of them; of records of one nanosecond, that of the lowest source. -/
def State.sleepHead (s : State) : Option TraceRec :=
  s.sleepHeads.foldl (fun m r => match m with
    | none => some r
    | some b => if r.offered < b.offered then some r else some b) none

/-- Priority of a source's group (0x2A05). -/
def State.groupPriority (s : State) (src : Nat) : Nat := s.entry (keyOf 0x2A05 (sourceGroup src))

/-- The source that the funnel serves next: highest group priority, then the next after the one last served (R383). -/
def State.nextSource (s : State) : Option Nat :=
  let srcs := s.trace.fifos.map Prod.fst
  let top := srcs.foldl (fun m x => max m (s.groupPriority x)) 0
  let l := srcs.filter fun x => s.groupPriority x == top
  let last := s.trace.served.getD top 0
  match l.find? fun x => decide (last < x) with
  | some x => some x
  | none => l.head?

/-- Take the head of a FIFO into the blotter. -/
def State.takeFrom (s : State) (src : Nat) : State :=
  match s.fifo src with
  | [] => s
  | r :: rs =>
    let s := s.withFifo src rs
    let s := { s with trace := { s.trace with served := listSet s.trace.served (s.groupPriority src) src } }
    s.blotterTake r

/-- One nanosecond of the funnel (R383). [DEDUCED, unsafe: log 43] -/
def State.funnel (s : State) : State :=
  if !s.blotterRoom then s
  else match s.sleepHead with
    | some r => s.takeFrom r.source
    | none => match s.nextSource with
      | some x => s.takeFrom x
      | none => s

/-- Records waiting in all FIFOs. -/
def Trace.waiting (t : Trace) : Nat := t.fifos.foldl (fun n f => n + f.2.length) 0

/-- The funnel empties every FIFO into the blotter; what a full blotter does not take is dropped and counted (R387, R388). -/
def State.flushTrace (s : State) : State :=
  let s := (List.range s.trace.waiting).foldl (fun s _ => s.funnel) s
  s.trace.fifos.foldl (fun s f => (f.2.foldl (fun s _ => s.dropRecord f.1) s).withFifo f.1 []) s

/-! ### Changes of mode -/

/-- Enter a mode: a change is logged (R43), raises event line 20 (Table 12-3), writes a Sync record (R376), and lets the
first denial and the first timeout of each requester be logged again (R327, R462); no memory controller sleeps in RUN (R332). -/
def State.setMode (s : State) (m : Mode) : State :=
  if s.run.mode = m then s
  else
    let s := { s with run := { s.run with mode := m, timeoutLogged := [] }, sec := { s.sec with deniedLogged := [] } }
    let s := if m = .run then { s with rings := { s.rings with sleeping := s.rings.sleeping.filter fun d => d == 8 } } else s
    ((s.logEvent Config.modeChangeCode srcFirmware m.code .information).raiseLine 20).sync

/-! ### Commands -/

def State.forgetDrops (s : State) : State := { s with trace := { s.trace with gaps := [], dropLogged := false } }

/-- Program flow starts afresh. [DEDUCED, unsafe: log 43] -/
def State.forgetFlow (s : State) : State := { s with trace := { s.trace with pf := [] } }

/-- The trace counters clear (R384). -/
def State.clearTraceCounters (s : State) : State :=
  let s := [1, 2, 3, 4, 5, 6].foldl (fun s j => s.putEntry (keyOf 0x2A20 j) 0) s
  let s := (List.range 32).foldl (fun s c => (s.putEntry (keyOf 0x2A21 (c + 1)) 0).putEntry (keyOf 0x2A22 (c + 1)) 0) s
  ((List.range 10).foldl (fun s j => s.putEntry (keyOf 0x2A23 (j + 1)) 0) s).forgetDrops

/-- TRACE_ENABLE_WRITE (R376, R384, R387). -/
def execTraceEnableWrite (req value : Nat) (s : State) : Host.Outcome State Fault Refusal :=
  .next (s.writingValue req 0x2A0001 value fun v s =>
    let was := s.entry 0x2A0001
    let s := s.accept
    if v = was then s
    else if v = 1 then ((s.clearTraceCounters.forgetFlow).putEntry 0x2A0001 1).sync
    else (s.flushTrace).putEntry 0x2A0001 0)

/-- Repeat state of a core (R378). -/
def State.pf (s : State) (c : Nat) : PfState := Sparse.get (fun _ => PfState.none) s.trace.pf c

def State.setPf (s : State) (c : Nat) (p : PfState) : State :=
  { s with trace := { s.trace with pf := Sparse.set (fun _ => PfState.none) s.trace.pf c p } }

/-- Offer the pending PfRepeat of a core, if it has one. -/
def State.flushRepeat (s : State) (c : Nat) : State :=
  match (s.pf c).last with
  | some (a, n, h) =>
    if 0 < (s.pf c).repeats then
      let r := (s.pf c).repeats
      (s.offer c 5 (a % 2 ^ 48 * 2 ^ 80 + n % 64 * 2 ^ 74 + r * 2 ^ 32 + h % 2 ^ 32)).setPf c { s.pf c with repeats := 0 }
    else s
  | none => s

/-- `PfControl` traces privilege `p` (R377). -/
def pfMode (control p : Nat) : Bool := if p = 3 then bit control 1 else if p = 1 then bit control 2 else bit control 3

/-- Offer a PfBranches record, or count it as a repeat of the one before (R378). -/
def State.offerBranches (s : State) (c addr count history : Nat) : State :=
  let same := (s.pf c).last = some (addr, count, history)
  if bit (s.entry (keyOf 0x2A01 (c + 1))) 4 && decide same then
    let s := s.setPf c { s.pf c with repeats := (s.pf c).repeats + 1 }
    if (s.pf c).repeats = max32 then s.flushRepeat c else s
  else
    let s := (s.flushRepeat c).offer c 4 (addr % 2 ^ 48 * 2 ^ 80 + count % 64 * 2 ^ 74 + history % 2 ^ 32)
    s.setPf c { s.pf c with last := some (addr, count, history), repeats := 0 }

/-- Offer the branches that core `c` has collected (R377). -/
def State.flushBranches (s : State) (c : Nat) : State :=
  let p := s.pf c
  if p.count = 0 then s
  else (s.setPf c { p with count := 0, history := 0 }).offerBranches c p.first p.count p.history

/-- What core `c` offers before another program-flow record or Sleep: its pending PfBranches, then its pending PfRepeat (R377, R378). -/
def State.flushFlow (s : State) (c : Nat) : State := (s.flushBranches c).flushRepeat c

/-- A conditional branch retires (R377): 32 collected directions make a record. -/
def State.collectBranch (s : State) (c first : Nat) (taken : Bool) : State :=
  let p := s.pf c
  let s := s.setPf c { p with
    first := if p.count = 0 then first else p.first, count := p.count + 1, history := p.history + b2n taken * 2 ^ p.count }
  if p.count + 1 = 32 then s.flushBranches c else s

/-- Offer another program-flow record of core `c` (R377, R378). -/
def State.offerFlow (s : State) (c priv kind payload : Nat) : State :=
  if pfMode (s.entry (keyOf 0x2A01 (c + 1))) priv then (s.flushFlow c).offer c kind payload else s

/-- An access matches a range that applies to the core (R379); `kind` is 0 for a load, 1 for a store. -/
def State.daMatches (s : State) (c addr kind : Nat) : Bool :=
  (List.range 8).any fun r =>
    let i := 0x2A08 + r
    bit (s.entry (keyOf 0x2A02 (c + 1))) (8 + r) && bit (s.entry (keyOf i 5)) kind &&
      decide (s.entry (keyOf i 1) + s.entry (keyOf i 2) % 2 ^ 12 * 2 ^ 32 ≤ addr ∧
        addr ≤ s.entry (keyOf i 3) + s.entry (keyOf i 4) % 2 ^ 12 * 2 ^ 32)

/-- One data-access record, of 8 bytes or fewer. -/
def State.offerPiece (s : State) (c addr logSize : Nat) (atomic store : Bool) (value : Nat) : State :=
  let valued := bit (s.entry (keyOf 0x2A02 (c + 1))) 1
  s.offer (c + 32) (10 + b2n store)
    (addr % 2 ^ 44 * 2 ^ 84 + logSize * 2 ^ 82 + b2n atomic * 2 ^ 81 + b2n valued * 2 ^ 80
      + if valued then value % 2 ^ (8 * 2 ^ logSize) else 0)

/-- Offer the records of an access that matches a range (R379): one, or one for each 8 bytes of a wider access. -/
def State.offerData (s : State) (c addr logSize : Nat) (atomic store : Bool) (value : Nat) : State :=
  if s.daMatches c addr (b2n store) = false ∨ 6 < logSize then s
  else if logSize ≤ 3 then s.offerPiece c addr logSize atomic store value
  else (List.range (2 ^ (logSize - 3))).foldl (fun s i =>
    s.offerPiece c (addr + 8 * i) 3 atomic store (value / 2 ^ (64 * i) % 2 ^ 64)) s

/-- TRACE_RECORD_OFFER (R377 to R379, R382): what a core's program-flow or data-access source observes. The other sources
offer their records with the events that make them. [PRESUMED, unsafe: log 42] -/
def execTraceRecordOffer (source : Nat) (record : TraceEvent) (s : State) : Host.Outcome State Fault Refusal :=
  .next (
    if !s.sourceOn source then s
    else match record with
      | .branch priv first taken =>
        if source < 32 ∧ pfMode (s.entry (keyOf 0x2A01 (source + 1))) priv = true then s.collectBranch source first taken else s
      | .indirect priv src dst =>
        if source < 32 then s.offerFlow source priv 6 (src % 2 ^ 48 * 2 ^ 80 + dst % 2 ^ 48 * 2 ^ 32) else s
      | .trap epc cause new old tval =>
        if source < 32 then s.offerFlow source old 7
          (epc % 2 ^ 48 * 2 ^ 80 + cause % 256 * 2 ^ 72 + new % 4 * 2 ^ 70 + old % 4 * 2 ^ 68 + tval % 2 ^ 64) else s
      | .load addr logSize atomic value =>
        if 32 ≤ source ∧ source < 64 then s.offerData (source - 32) addr logSize atomic false value else s
      | .store addr logSize atomic value =>
        if 32 ≤ source ∧ source < 64 then s.offerData (source - 32) addr logSize atomic true value else s
      | .amo addr logSize old new =>
        if 32 ≤ source ∧ source < 64 then
          (s.offerData (source - 32) addr logSize true false old).offerData (source - 32) addr logSize true true new
        else s)

/-- SYNC_RECORD_PERIOD (R376): `SyncPeriod` expires. -/
def execSyncRecordPeriod (s : State) : Host.Outcome State Fault Refusal := .next s.sync

/-- BLOTTER_READ_POINTER_WRITE (R385). -/
def execBlotterReadPointerWrite (req value : Nat) (s : State) : Host.Outcome State Fault Refusal :=
  .next (s.writing req 0x2A0004 value fun s =>
    let d := (value + blotterSlots - s.trace.readP) % blotterSlots
    if value < blotterSlots ∧ d ≤ s.trace.unread then
      ({ s with trace := { s.trace with readP := value } }.traceCount 0x2A2005 d).accept
    else s.refuse req 0x2A0004 0x9011)

/-- Change one core. -/
def State.withCore (s : State) (c : Nat) (f : Core → Core) : State :=
  { s with cores := match s.cores[c]? with
      | some x => listSet s.cores c (f x)
      | none => s.cores }

/-- `schcur` of a core: its running thread, or 0xFFFF (Table 12-5). -/
def Core.current (x : Core) : Nat := x.thread.getD 0xFFFF

/-- PfContext of core `c` in mode `priv` (R377): its thread, and the ASID of `satp`. -/
def State.offerContext (s : State) (c priv : Nat) : State :=
  match s.cores[c]? with
  | none => s
  | some x => s.offerFlow c priv 8
      (x.current % 2 ^ 16 * 2 ^ 112 + bits (x.csrOf csrSatp) 44 16 * 2 ^ 96 + priv % 4 * 2 ^ 94)

/-- A write of the core's software to a CSR; one to `satp` makes a PfContext record (R377). -/
def State.csrWrite (s : State) (c : Nat) (w : CsrWrite) : State :=
  let s := s.withCore c fun x => x.writeCsr w
  if w.csr = csrSatp then s.offerContext c w.priv else s

/-- Reason of a Sleep or Wake record (Table 15-4). -/
def CoreRun.sleepReason : CoreRun → Nat
  | .reset => 1
  | .debugHalt => 2
  | .running => 0
  | .blocked => 0
  | .wfi => 0
  | .lockedUp => 0

/-- Core `c` enters sleep: it offers Sleep on each enabled source, and its sources are then absent (R388). -/
def State.sleepCore (s : State) (c : Nat) : State :=
  match s.cores[c]? with
  | none => s
  | some x =>
    if x.asleep then s
    else
      let p := x.state.sleepReason * 2 ^ 64 + s.trace.tc % 2 ^ 64
      let s := (((s.flushFlow c).offer c 2 p).offer (c + 32) 2 p).bump (keyOf 0x2A24 (c + 1))
      s.withCore c fun x => { x with asleep := true }

/-- Core `c` leaves sleep: it offers Wake before any other record (R388). -/
def State.wakeCore (s : State) (c : Nat) : State :=
  match s.cores[c]? with
  | none => s
  | some x =>
    if x.asleep then
      let p := x.state.sleepReason * 2 ^ 64 + s.trace.tc % 2 ^ 64
      let s := s.withCore c fun x => { x with asleep := false }
      (s.offer c 3 p).offer (c + 32) 3 p
    else s

/-- CORE_SLEEP (R388): after 128 ns in WFI or blocked in `schask`, and while held in reset or halted by debug, a core sleeps. A
running core that sleeps is one that has executed WFI. [PRESUMED, unsafe: log 42] -/
def execCoreSleep (core : Nat) (s : State) : Host.Outcome State Fault Refusal :=
  .next (match (s.cores.map Core.state)[core]? with
    | some .lockedUp => s
    | some .running => (s.withCore core fun x => { x with state := .wfi }).sleepCore core
    | some _ => s.sleepCore core
    | none => s)

/-- CORE_WAKE (R388): a core in WFI leaves it; a core that has left `schask`, reset or the debug halt runs already.
[PRESUMED, unsafe: log 42] -/
def execCoreWake (core : Nat) (s : State) : Host.Outcome State Fault Refusal :=
  .next (match (s.cores.map Core.state)[core]? with
    | some .wfi => (s.wakeCore core).withCore core fun x => { x with state := .running }
    | some .running => s.wakeCore core
    | _ => s)

/-- The tagging method samples nothing where no tagged instruction has retired; a sample of E8 is exact for the events tied to
an instruction (R391, Table 15-6). -/
def samplePayload (g : Grade) (k : Nat) (r : RetiredInstr) : Nat :=
  let event := bits r.selector 0 8
  let exact := g = .e8 ∧ 1 ≤ event ∧ event ≤ 10
  let taken := g = .e8 ∨ r.tagged = true
  let body := r.address % 2 ^ 48 * 2 ^ 80 + r.encoding % 2 ^ 32 * 2 ^ 48 + min r.latency 0xFFFF * 2 ^ 32
  (if taken then body else 0) + event * 2 ^ 24 + b2n (decide exact) * 2 ^ 23 + k % 16 * 2 ^ 19

/-- CORE_COUNTER_OVERFLOW (R390, R391): `mhpmcounterk` of a core wraps to 0. The operand carries `mhpmeventk` as the core's
software has written it. [DESIGN CHOICE, unsafe: log 77] -/
def execCoreCounterOverflow (core counter : Nat) (retired : RetiredInstr) (s : State) : Host.Outcome State Fault Refusal :=
  .next (
    if core < 32 ∧ 3 ≤ counter ∧ counter ≤ 10 then
      let s := s.withCore core fun x =>
        { x with hpmCounter := listSet x.hpmCounter (counter - 3) 0, hpmEvent := listSet x.hpmEvent (counter - 3) retired.selector }
      let key := keyOf 0x2B01 (core + 1)
      let s := s.putEntry key (setBit (s.entry key) counter true)
      let s := if bit retired.selector 62 then s.raiseLine 18 else s
      if bit retired.selector 63 then (s.flushFlow core).offerAlways core 9 (samplePayload s.part.grade counter retired) else s
    else s)

/-- MODULE_COUNTER_WRAP (R392): enabled module counter `counter` wraps. [DEDUCED, unsafe: log 43] -/
def execModuleCounterWrap (counter : Nat) (s : State) : Host.Outcome State Fault Refusal :=
  let i := 0x2B10 + counter
  .next (
    if counter < 16 ∧ bit (s.entry 0x2B0001) counter = true ∧ s.entry (keyOf i 1) ≠ 0 then
      let s := (s.putEntry (keyOf i 3) 0).putEntry 0x2B0002 (setBit (s.entry 0x2B0002) counter true)
      if bit (s.entry 0x2B0003) counter then s.raiseLine 18 else s
    else s)

end Sys2Proof.Machine
end

