-- ==== Sys2Proof/Machine/Scheduler.lean ====
section
/-! DEFINITION. The thread scheduler (R298 to R309, R321): the thread table, ready and delay lists, dispatch, and the operation
CSRs of Table 12-5 that act on threads. -/

namespace Sys2Proof.Machine

/-- State codes of Table 12-4. -/
def ThreadState.code : ThreadState → Nat
  | .free => 0
  | .suspended => 1
  | .ready => 2
  | .running => 3
  | .delayed => 4
  | .waiting => 5

/-- Threads of the table (R298). -/
def threadCount : Nat := 4096

def State.thread (s : State) (t : Nat) : Thread := Sparse.get (fun _ => Thread.free) s.sched.threads t

def State.setThread (s : State) (t : Nat) (x : Thread) : State :=
  { s with sched := { s.sched with threads := Sparse.set (fun _ => Thread.free) s.sched.threads t x } }

def State.withScheduler (s : State) (f : Scheduler → Scheduler) : State := { s with sched := f s.sched }

/-- The running thread of a core. -/
def State.coreThread (s : State) (c : Nat) : Option Nat := (s.cores[c]?).bind Core.thread

/-- A decision record of kind `k` (R321, Table 12-9): its Time field is that of its header (R375). -/
def State.decision (s : State) (k core thread priority reason handle : Nat) : State :=
  if bit (s.entry 0x2C0201) k then
    s.offer 64 12 (k * 2 ^ 124 + core * 2 ^ 119 + thread * 2 ^ 107 + priority * 2 ^ 101 + reason * 2 ^ 97
      + handle * 2 ^ 64 + (s.offerStamp 64 12).2.2)
  else s

/-! ### Dispatch (R302 to R306) -/

/-- The thread is dispatched to core `c`, which leaves sleep: `schask` returns its number and its wake reason. -/
def State.dispatch (s : State) (t c : Nat) : State :=
  let x := s.thread t
  let s := s.setThread t { x with state := .running, core := c }
  let s := s.withScheduler fun d => { d with ready := d.ready.filter fun u => u != t }
  let s := (s.wakeCore c).withCore c fun k => { k with state := .running, thread := some t, result := t + x.reason * 2 ^ 12 }
  let s := s.decision 1 c t x.priority x.reason 0
  s.offerContext c ((s.cores[c]?).elim 0 Core.priv)

/-- READY threads that core `c` may run, best first in order of priority, then of the ready list. -/
def State.bestFor (s : State) (c : Nat) : Option Nat :=
  (s.sched.ready.filter fun t => bit (s.thread t).affinity c).foldl (fun m t => match m with
    | none => some t
    | some b => if (s.thread t).priority < (s.thread b).priority then some t else some b) none

/-- Running priority of a core in step 2 of R304. -/
def State.runningPriority (s : State) (c : Nat) : Nat := match s.coreThread c with
  | some t => (s.thread t).priority
  | none => 64

/-- Raise cause 16 on a core, unless it is pending there (R304, R297). -/
def State.preempt (s : State) (c t : Nat) : State :=
  match s.cores[c]? with
  | none => s
  | some x => if x.preempt then s
    else ((s.withCore c fun x => { x with preempt := true }).bump 0x2C0302).decision 4 c t (s.thread t).priority 0 0

/-- The core that receives a thread that becomes READY: the lowest-numbered one blocked in `schask` that may run it, where no
READY thread of higher priority waits for that core (step 1 of R304). -/
def State.receiver (s : State) (t : Nat) : Option Nat :=
  (List.range 32).find? fun c => (s.cores[c]?).any (fun x => x.state == .blocked) && bit (s.thread t).affinity c &&
    !s.sched.ready.any fun u => bit (s.thread u).affinity c && decide ((s.thread u).priority < (s.thread t).priority)

/-- The core that step 2 of R304 preempts: the lowest running priority, then the lowest number. A core in reset runs no software and takes
no request. [DEDUCED, unsafe: log 41] -/
def State.victim (s : State) (t : Nat) : Option Nat :=
  ((List.range 32).filter fun c => bit (s.thread t).affinity c &&
      !(s.cores[c]?).any (fun x => x.state == .blocked || x.state == .reset) && decide ((s.thread t).priority < s.runningPriority c)).foldl
    (fun m c => match m with
      | none => some c
      | some b => if s.runningPriority b < s.runningPriority c then some c else some b) none

/-- Give a READY thread a core, or ask for one (R304). -/
def State.place (s : State) (t : Nat) : State :=
  match s.receiver t with
  | some c => s.dispatch t c
  | none => match s.victim t with
    | some c => s.preempt c t
    | none => s

/-- A thread joins the tail of its ready list (R303). -/
def State.joinReady (s : State) (t reason : Nat) : State :=
  let x := s.thread t
  let s := s.setThread t { x with state := .ready, reason := reason, handle := 0 }
  let s := s.withScheduler fun d => { d with ready := (d.ready.filter fun u => u != t) ++ [t] }
  s.decision 2 0 t x.priority reason x.handle

/-- A thread becomes READY (R303, R304). -/
def State.makeReady (s : State) (t reason : Nat) : State := (s.joinReady t reason).place t

/-- Take a thread out of every list it stands in. -/
def State.unlist (s : State) (t : Nat) : State :=
  let s := s.withScheduler fun d => { d with
    ready := d.ready.filter fun u => u != t
    tickList := d.tickList.filter fun e => e.2 != t
    cycleList := d.cycleList.filter fun e => e.2 != t }
  { s with chan := { s.chan with live := s.chan.live.map fun c =>
    (c.1, { c.2 with waiters := c.2.waiters.filter fun w => w.1 != t }) } }

/-- Insert in a delay list: sorted, equal keys in order of insertion (R309). -/
def insertDelay (k t : Nat) : List (Nat × Nat) → List (Nat × Nat)
  | [] => [(k, t)]
  | e :: es => if e.1 ≤ k then e :: insertDelay k t es else (k, t) :: e :: es

/-- A due thread becomes READY: a delay ends with `reason`, a wait times out with reason 2 (R309). -/
def State.wakeDue (s : State) (reason : Nat) (t : Nat) : State :=
  let r := if (s.thread t).state = .waiting then 2 else reason
  (s.unlist t).makeReady t r

/-- Wake every thread whose tick has come (R309). -/
def State.wakeTicks (s : State) : State :=
  let due := (s.sched.tickList.filter fun e => decide (e.1 ≤ s.sched.ticks)).map Prod.snd
  due.foldl (fun s t => s.wakeDue 3 t) s

/-- Wake every thread whose cycle has come (R308, R309). -/
def State.wakeCycles (s : State) : State :=
  let due := (s.sched.cycleList.filter fun e => decide (e.1 ≤ s.arr.sched.cycle)).map Prod.snd
  due.foldl (fun s t => s.wakeDue 4 t) s

/-! ### Operation CSRs (R299, R300) -/

/-- The operation completes with this value in rd. -/
def State.csrResult (s : State) (c v : Nat) : State := (s.withCore c fun x => { x with result := v }).reply (.ok v)

/-- A failed operation changes nothing but its count (R300). [DEDUCED, unsafe: log 41] -/
def State.csrFail (s : State) (c status : Nat) : State := (s.bump 0x2C0301).csrResult c (2 ^ 63 + status)

/-- The CSR writes of the core's software take effect, and the core is in the mode that it names. -/
def State.useCore (s : State) (c : Nat) (use : CsrUse) : State :=
  (use.before.foldl (fun s w => s.csrWrite c w) s).withCore c fun x => { x with priv := use.priv }

/-- Run a CSR operation of core `c`: an illegal-instruction exception for anything but CSRRW, below its mode, or in user mode
with UCH clear (R299). -/
def State.csrOp (s : State) (c : Nat) (user : Bool) (use : CsrUse) (k : Nat → State → State) : State :=
  match s.cores[c]? with
  | none => s
  | some x =>
    if x.state ≠ .running then s
    else
      let s := s.useCore c use
      if !use.csrrw || (use.priv == 0 && (!user || !(s.cores[c]?).any Core.uch)) then s.reply .illegal
      else k (use.operand % 2 ^ 64) s

/-- The thread that runs on the core leaves it. -/
def State.leaveCore (s : State) (c : Nat) : State := s.withCore c fun x => { x with thread := none }

/-- `schask` disposes of the running thread: to READY at the tail, or to SUSPENDED (R299, R302). -/
def State.dispose (s : State) (c disposition : Nat) : State :=
  match s.coreThread c with
  | none => s
  | some t =>
    let x := s.thread t
    let s := s.leaveCore c
    if disposition = 0 ∧ x.suspendNext = none then
      (s.decision 3 c t x.priority 2 0).joinReady t 0
    else
      (s.setThread t { x with state := .suspended, suspendNext := none }).decision 3 c t x.priority 1 0

/-- Threads that the next `schask` of core `c` suspends and that no longer run on it (R299). -/
def State.suspensions (s : State) (c : Nat) : List Nat :=
  (s.sched.threads.filter fun e => e.2.suspendNext == some c && s.coreThread c != some e.1).map Prod.fst

/-- Such a thread is suspended where it stands, or asked of the core that runs it now. [DEDUCED, unsafe: log 41] -/
def State.suspendLate (s : State) (t : Nat) : State :=
  let x := s.thread t
  if x.state = .running then (s.setThread t { x with suspendNext := some x.core }).preempt x.core t
  else (s.unlist t).setThread t { x with state := .suspended, suspendNext := none, handle := 0 }

/-- The core takes the best READY thread; without one it completes at once where an enabled interrupt is pending, or blocks in `schask`
(R302). [DEDUCED, unsafe: log 41] -/
def State.ask (s : State) (c : Nat) : State :=
  match s.bestFor c with
  | some t =>
    let s := s.dispatch t c
    s.reply (.ok (s.thread t |>.reason |> fun r => t + r * 2 ^ 12))
  | none =>
    if (s.cores[c]?).any fun x => x.interrupted s.coreTime then s.csrResult c (2 ^ 62)
    else (s.withCore c fun x => { x with state := .blocked }).reply .waiting

/-- SCHASK (R302): the disposed thread competes for another core only if this core has not taken it. [DEDUCED, unsafe: log 41] -/
def execSchask (core : Nat) (csr : CsrUse) (s : State) : Host.Outcome State Fault Refusal :=
  .next (s.csrOp core false csr fun v s =>
    if 1 < v then s.csrFail core 10
    else
      let old := s.coreThread core
      let s := s.withCore core fun x => { x with preempt := false }
      let s := (s.suspensions core).foldl State.suspendLate s
      let s := (s.dispose core v).ask core
      match old with
      | some t => if (s.thread t).state = .ready then s.place t else s
      | none => s)

/-- SCHDELAY (R308). -/
def execSchdelay (core : Nat) (csr : CsrUse) (s : State) : Host.Outcome State Fault Refusal :=
  .next (s.csrOp core false csr fun v s =>
    let kind := bits v 0 2
    let value := bits v 8 56
    if kind = 3 ∨ bits v 2 6 ≠ 0 then s.csrFail core 10
    else match s.coreThread core with
      | none => s.csrFail core 12
      | some t =>
        let due := if kind = 0 then value == 0
          else if kind = 1 then decide (value ≤ s.sched.ticks) else decide (value ≤ s.arr.sched.cycle)
        if due then s.csrResult core 1
        else
          let x := s.thread t
          let s := (s.setThread t { x with state := .delayed }).leaveCore core
          let s := s.withScheduler fun d =>
            if kind = 2 then { d with cycleList := insertDelay value t d.cycleList }
            else { d with tickList := insertDelay (if kind = 0 then d.ticks + value else value) t d.tickList }
          (s.decision 3 core t x.priority 4 0).csrResult core 0)

/-- The lowest free thread number. [DEDUCED, unsafe: log 41] -/
def State.freeThread (s : State) : Option Nat := (List.range threadCount).find? fun t => (s.thread t).state == .free

/-- SCHCREATE (R298, R299). -/
def execSchcreate (core : Nat) (csr : CsrUse) (s : State) : Host.Outcome State Fault Refusal :=
  .next (s.csrOp core false csr fun v s =>
    let affinity := bits v 32 32
    if affinity = 0 ∨ bits v 6 2 ≠ 0 ∨ bits v 9 23 ≠ 0 then s.csrFail core 10
    else match s.freeThread with
      | none => s.csrFail core 6
      | some t =>
        let s := s.setThread t ⟨.suspended, bits v 0 6, affinity, 0, 0, none, 0⟩
        let s := s.decision 5 core t (bits v 0 6) 0 0
        let s := if bit v 8 then s.makeReady t 0 else s
        s.csrResult core t)

/-- One `schset` action on a thread that is not FREE: it checks the operand, acts with `k` where `ok` allows the thread's state, and
returns the state before (R299). -/
def State.schset (s : State) (core : Nat) (csr : CsrUse) (action : Nat) (ok : Thread → Bool) (k : Nat → Nat → State → State) :
    State :=
  s.csrOp core false csr fun v s =>
    let t := bits v 0 12
    let x := s.thread t
    if bits v 22 10 ≠ 0 then s.csrFail core 10
    else if bits v 12 4 ≠ action then s
    else if x.state = .free ∨ ok x = false then s.csrFail core 9
    else (k t v s).csrResult core x.state.code

/-- SCHSET_READY: action 0 makes a SUSPENDED thread READY, with wake reason 5. -/
def execSchsetReady (core : Nat) (csr : CsrUse) (s : State) : Host.Outcome State Fault Refusal :=
  .next (s.schset core csr 0 (fun x => x.state == .suspended) fun t _ s => s.makeReady t 5)

/-- Suspend a thread (action 1): one that another core runs stays RUNNING until that core's next `schask`. -/
def State.suspend (s : State) (core t : Nat) : State :=
  let x := s.thread t
  if x.state = .running ∧ x.core ≠ core then
    (s.setThread t { x with suspendNext := some x.core }).preempt x.core t
  else
    let s := if x.state = .running then s.leaveCore core else s
    (s.unlist t).setThread t { x with state := .suspended, suspendNext := none, handle := 0 }

/-- SCHSET_SUSPEND: action 1. -/
def execSchsetSuspend (core : Nat) (csr : CsrUse) (s : State) : Host.Outcome State Fault Refusal :=
  .next (s.schset core csr 1 (fun _ => true) fun t _ s => s.suspend core t)

/-- SCHSET_PRIORITY: action 2; a READY thread moves to the tail of its new list (R303). -/
def execSchsetPriority (core : Nat) (csr : CsrUse) (s : State) : Host.Outcome State Fault Refusal :=
  .next (s.schset core csr 2 (fun _ => true) fun t v s =>
    let s := s.setThread t { s.thread t with priority := bits v 16 6 }
    if (s.thread t).state = .ready then
      s.withScheduler fun d => { d with ready := (d.ready.filter fun u => u != t) ++ [t] }
    else s)

/-- SCHSET_AFFINITY: action 3; a mask of zero is refused (R298). -/
def execSchsetAffinity (core : Nat) (csr : CsrUse) (s : State) : Host.Outcome State Fault Refusal :=
  .next (
    if bits csr.operand 12 4 = 3 ∧ bits csr.operand 32 32 = 0 then s.csrOp core false csr fun _ s => s.csrFail core 10
    else s.schset core csr 3 (fun _ => true) fun t v s => s.setThread t { s.thread t with affinity := bits v 32 32 })

/-- SCHSET_FREE: action 4; refused on a RUNNING thread. -/
def execSchsetFree (core : Nat) (csr : CsrUse) (s : State) : Host.Outcome State Fault Refusal :=
  .next (s.schset core csr 4 (fun x => x.state != .running) fun t _ s =>
    ((s.unlist t).setThread t Thread.free).decision 5 core t (s.thread t).priority 0 0)

/-- SCHSET_STATE: action 5 only returns the state; actions 6 to 15 are operands out of range. -/
def execSchsetState (core : Nat) (csr : CsrUse) (s : State) : Host.Outcome State Fault Refusal :=
  .next (
    if 5 < bits csr.operand 12 4 then s.csrOp core false csr fun _ s => s.csrFail core 10
    else s.schset core csr 5 (fun _ => true) fun _ _ s => s)

/-- SCHIPI (R296): a supervisor software interrupt on the cores of the mask. -/
def execSchipi (core : Nat) (csr : CsrUse) (s : State) : Host.Outcome State Fault Refusal :=
  .next (s.csrOp core false csr fun v s =>
    if 2 ^ 32 ≤ v then s.csrFail core 10
    else ((List.range 32).foldl (fun s c =>
      if bit v c then s.withCore c fun x => ({ x with ssip := true } : Core).interrupt s.coreTime else s) s).csrResult core 0)

/-- SCHCUR (R299). -/
def execSchcur (core : Nat) (csr : CsrUse) (s : State) : Host.Outcome State Fault Refusal :=
  .next (s.csrOp core false csr fun _ s => s.csrResult core ((s.cores[core]?).elim 0xFFFF Core.current))

/-- TICK (R307, R309). -/
def execTick (s : State) : Host.Outcome State Fault Refusal :=
  .next (if s.asleep || s.sec.halted then s else (s.withScheduler fun d => { d with ticks := (d.ticks + 1) % 2 ^ 64 }).wakeTicks)

/-! ### Cores -/

/-- Start address of the cores (R295). -/
def State.startAddress (s : State) : Nat := s.entry 0x2C1101 + s.entry 0x2C1102 % 2 ^ 12 * 2 ^ 32

/-- A core leaves reset in machine mode at the start address (R295). -/
def State.releaseCore (s : State) (c : Nat) : State :=
  match s.cores[c]? with
  | none => s
  | some x =>
    if x.state = .reset then
      let pc := s.startAddress
      (s.wakeCore c).withCore c fun x => { x with state := .running, pc := pc, priv := 3 }
    else s

/-- CORE_RELEASE_WRITE (R295): cores whose bit is newly set leave reset; clearing a bit resets nothing. -/
def execCoreReleaseWrite (req value : Nat) (s : State) : Host.Outcome State Fault Refusal :=
  .next (s.writingValue req 0x2C1103 value fun v s =>
    let was := s.entry 0x2C1103
    let s := s.putEntry 0x2C1103 v
    let s := if s.asleep || s.sec.halted then s
      else (List.range 32).foldl (fun s c => if bit v c && !bit was c then s.releaseCore c else s) s
    s.accept)

/-- HOST_EVENT (R296): bit k raises line 24 + k. [DEDUCED, unsafe: log 74] -/
def execHostEvent (req value : Nat) (s : State) : Host.Outcome State Fault Refusal :=
  .next (s.writingValue req 0x2C0501 value fun v s =>
    ((List.range 32).foldl (fun s k => if bit v k then s.raiseLine (24 + k) else s) s).accept)

/-- MACHINE_TIMER_INTERRUPT (R293): `time` has reached `mtimecmp`, so the interrupt is pending; a core blocked in `schask` that has it
enabled completes it with bit 62. [DEDUCED, unsafe: log 76] -/
def execMachineTimerInterrupt (core : Nat) (s : State) : Host.Outcome State Fault Refusal :=
  .next (s.withCore core fun x => if x.mtimecmp ≤ s.coreTime then x.interrupt s.coreTime else x)

end Sys2Proof.Machine
end

