-- ==== Sys2Proof/Machine/Channels.lean ====
section
/-! DEFINITION. Message channels (R310 to R319): handles, rings of entries, credits, waiters, and the operation CSRs of Table
12-5 that act on channels. -/

namespace Sys2Proof.Machine

/-! ### Handles (R311) -/

def handleType (h : Nat) : Nat := bits h 28 4
def handleGen (h : Nat) : Nat := bits h 16 12
def handleSlot (h : Nat) : Nat := bits h 0 16

/-- Generation of a slot. -/
def Channels.gen (c : Channels) (slot : Nat) : Nat := Sparse.get (fun _ => 1) c.gens slot

/-- The live channel of a slot. -/
def State.channel (s : State) (slot : Nat) : Option Channel :=
  (s.chan.live.find? fun c => c.1 == slot).map Prod.snd

/-- The handle of a live channel. -/
def State.handleOf (s : State) (slot : Nat) (c : Channel) : Nat := c.type * 2 ^ 28 + s.chan.gen slot * 2 ^ 16 + slot

/-- The slot and channel that a handle names, or the status of Table 12-6. [DEDUCED, unsafe: log 40] -/
def State.lookup (s : State) (h : Nat) : Sum Nat (Nat × Channel) :=
  if handleType h = 0 then .inl 1
  else match s.channel (handleSlot h) with
    | none => .inl 2
    | some c => if s.handleOf (handleSlot h) c = h then .inr (handleSlot h, c) else .inl 2

/-- Change a live channel. -/
def State.setChannel (s : State) (slot : Nat) (c : Channel) : State :=
  { s with chan := { s.chan with live := s.chan.live.map fun x => if x.1 = slot then (slot, c) else x } }

/-! ### Rings (R313, R319) -/

/-- Address of entry `e`. -/
def Channel.address (c : Channel) (e : Nat) : Nat := c.buffer + e * c.bytes

/-- Entry that the next reservation takes. -/
def Channel.nextFree (c : Channel) : Nat := (c.head + c.slots.length) % c.depth

/-- Entries neither reserved nor occupied. -/
def Channel.unused (c : Channel) : Nat := c.depth - c.slots.length

/-- `ChannelFree` (R319). -/
def Channel.free (c : Channel) : Nat := if c.type = 1 then c.credits else c.unused

def Channel.reserved (c : Channel) : Nat := (c.slots.filter fun x => x == .reserved).length
def Channel.occupied (c : Channel) : Nat := c.slots.length - c.reserved

/-- Entries visible to the consumer: posted in reservation order, ahead of the first open reservation. -/
def Channel.visible (c : Channel) : List SlotState := c.slots.takeWhile fun x => x != .reserved

/-- Position, from the oldest entry, of the next message that no `chrecv` has returned. -/
def Channel.unreceived (c : Channel) : Option Nat := c.visible.findIdx? fun x => x == .posted

/-- Position of ring entry `e` from the oldest. -/
def Channel.position (c : Channel) (e : Nat) : Nat := (e + c.depth - c.head) % c.depth

/-- Count posts and freeings (R319). -/
def Channel.countPosted (c : Channel) : Channel := { c with posted := sat32 c.posted 1 }

/-- Free entries from the oldest, while released (R313); a type-1 credit starts on its way to the port (R316). -/
def Channel.freeReleased (c : Channel) : List SlotState → Channel
  | .released :: rest =>
    Channel.freeReleased { c with head := (c.head + 1) % c.depth, slots := rest, freed := sat32 c.freed 1,
                                  inFlight := if c.type = 1 then c.inFlight + 1 else c.inFlight } rest
  | _ => c

/-- Free the oldest entry. -/
def Channel.freeOldest (c : Channel) : Channel :=
  c.freeReleased (.released :: c.slots.drop 1)

/-! ### Waiters (R315) -/

/-- Insert a waiter behind those of the same or higher priority. -/
def insertWaiter (s : State) (t : Nat) : List Nat → List Nat
  | [] => [t]
  | u :: us => if (s.thread u).priority ≤ (s.thread t).priority then u :: insertWaiter s t us else t :: u :: us

/-- Wake the waiters of one condition of a channel together, in order of priority, then of waiting (R315). -/
def State.wakeWaiters (s : State) (slot cond reason : Nat) : State :=
  match s.channel slot with
  | none => s
  | some c =>
    let ws := (c.waiters.filter fun w => w.2 == cond).map Prod.fst
    (ws.foldl (fun l t => insertWaiter s t l) []).foldl (fun s t => (s.unlist t).makeReady t reason) s

/-- A channel changes: condition 0 wakes its waiters where a message has become visible, condition 1 where an entry has been
freed (R315). -/
def State.updateChannel (s : State) (slot : Nat) (old new : Channel) : State :=
  let s := s.setChannel slot new
  let s := if old.visible.length < new.visible.length ∨ (old.unreceived = none ∧ new.unreceived ≠ none) then
    s.wakeWaiters slot 0 1 else s
  if old.freed < new.freed ∨ new.slots.length < old.slots.length then s.wakeWaiters slot 1 1 else s

/-! ### Operations of software (R312, R313) -/

/-- What an operation on a channel answers: a status of Table 12-6, or the new state and rd. -/
abbrev ChanResult := Sum Nat (State × Nat)

/-- An operation on the channel that the handle in operand bits 31-0 names: it fails with the status of the handle, or with status 3
where the channel's type does not take it (Table 12-8a). [DEDUCED, unsafe: log 40] -/
def State.onChannel (s : State) (v : Nat) (types : List Nat) (k : Nat → Channel → ChanResult) : ChanResult :=
  match s.lookup (v % 2 ^ 32) with
  | .inl e => .inl e
  | .inr (slot, c) => if types.contains c.type then k slot c else .inl 3

/-- Result of `chrecv` and `chreserve`: address and entry. [DEDUCED, unsafe: log 40] -/
def entryResult (c : Channel) (e : Nat) : Nat := c.address e + e * 2 ^ 44

/-- `chrecv` (R313). -/
def State.chrecv (s : State) (v : Nat) : ChanResult :=
  s.onChannel v [1, 3] fun slot c =>
    if 2 ^ 32 ≤ v then .inl 10
    else match c.unreceived with
      | none => .inl 4
      | some p => .inr (s.setChannel slot { c with slots := listSet c.slots p .received }, entryResult c ((c.head + p) % c.depth))

/-- Release an entry and free the oldest released ones. -/
def Channel.release (c : Channel) (p : Nat) : Channel :=
  let d := { c with slots := listSet c.slots p .released }
  d.freeReleased d.slots

/-- `chrelease` (R313). -/
def State.chrelease (s : State) (v : Nat) : ChanResult :=
  s.onChannel v [1, 3] fun slot c =>
    let e := bits v 32 16
    if 2 ^ 48 ≤ v then .inl 10
    else if e < c.depth ∧ c.slots[c.position e]? = some .received then
      .inr (s.updateChannel slot c (c.release (c.position e)), 0)
    else .inl 11

/-- `chreserve` (R313). -/
def State.chreserve (s : State) (v : Nat) : ChanResult :=
  s.onChannel v [2, 3] fun slot c =>
    if 2 ^ 32 ≤ v then .inl 10
    else if c.unused = 0 then .inl 5
    else .inr (s.setChannel slot { c with slots := c.slots ++ [.reserved] }, entryResult c c.nextFree)

/-- `chpost` (R313). -/
def State.chpost (s : State) (v : Nat) : ChanResult :=
  s.onChannel v [2, 3] fun slot c =>
    let e := bits v 32 16
    if 2 ^ 48 ≤ v then .inl 10
    else if e < c.depth ∧ c.slots[c.position e]? = some .reserved then
      .inr (s.updateChannel slot c { c with slots := listSet c.slots (c.position e) .posted, posted := sat32 c.posted 1 }, 0)
    else .inl 11

/-- `chcount` (R299): occupied and free. -/
def State.chcount (s : State) (v : Nat) : ChanResult :=
  s.onChannel v [1, 2, 3] fun _ c => if 2 ^ 32 ≤ v then .inl 10 else .inr (s, c.occupied + c.free * 2 ^ 32)

/-- A channel operation of a core. [DEDUCED, unsafe: log 40] -/
def State.chanOp (s : State) (core : Nat) (csr : CsrUse) (op : State → Nat → ChanResult) : State :=
  s.csrOp core true csr fun v s => match op s v with
    | .inl e => s.csrFail core e
    | .inr (t, r) => t.csrResult core r

/-- CHRECV (R313). -/
def execChrecv (core : Nat) (csr : CsrUse) (s : State) : Host.Outcome State Fault Refusal := .next (s.chanOp core csr State.chrecv)

/-- CHRELEASE (R313). -/
def execChrelease (core : Nat) (csr : CsrUse) (s : State) : Host.Outcome State Fault Refusal := .next (s.chanOp core csr State.chrelease)

/-- CHRESERVE (R313). -/
def execChreserve (core : Nat) (csr : CsrUse) (s : State) : Host.Outcome State Fault Refusal := .next (s.chanOp core csr State.chreserve)

/-- CHPOST (R313). -/
def execChpost (core : Nat) (csr : CsrUse) (s : State) : Host.Outcome State Fault Refusal := .next (s.chanOp core csr State.chpost)

/-- CHCOUNT (R299). -/
def execChcount (core : Nat) (csr : CsrUse) (s : State) : Host.Outcome State Fault Refusal := .next (s.chanOp core csr State.chcount)

/-- The channel condition holds (Table 12-5): 0 a message to receive, 1 a free slot. -/
def Channel.holds (c : Channel) (cond : Nat) : Bool := if cond = 0 then c.unreceived.isSome else decide (0 < c.unused)

/-- The running thread waits on a condition of a channel, with an optional timeout (R309, R315). [DEDUCED, unsafe: log 41] -/
def State.wait (s : State) (core t slot cond timeout handle : Nat) (c : Channel) : State :=
  let x := s.thread t
  let s := (s.setThread t { x with state := .waiting, handle := handle }).leaveCore core
  let s := s.setChannel slot { c with waiters := c.waiters ++ [(t, cond)] }
  let s := if timeout = 0 then s
    else s.withScheduler fun d => { d with tickList := insertDelay (d.ticks + timeout) t d.tickList }
  (s.decision 3 core t x.priority 5 handle).csrResult core 0

/-- SCHWAIT (R299, R315). -/
def execSchwait (core : Nat) (csr : CsrUse) (s : State) : Host.Outcome State Fault Refusal :=
  .next (s.csrOp core false csr fun v s =>
    let cond := bits v 32 1
    if bits v 33 7 ≠ 0 then s.csrFail core 10
    else match s.coreThread core, s.lookup (v % 2 ^ 32) with
      | none, _ => s.csrFail core 12
      | some _, .inl e => s.csrFail core e
      | some t, .inr (slot, c) =>
        if c.type ≠ 3 ∧ c.type ≠ cond + 1 then s.csrFail core 3
        else if c.holds cond then s.csrResult core 1
        else s.wait core t slot cond (bits v 40 24) (v % 2 ^ 32) c)

/-! ### Creation and destruction (R312) -/

/-- Two byte ranges overlap. -/
def overlaps (a n b m : Nat) : Bool := decide (0 < n ∧ 0 < m ∧ a < b + m ∧ b < a + n)

/-- A buffer of `n` bytes at `a` lies in the general scratchpad, clear of live buffers and of the binding table. -/
def State.bufferValid (s : State) (a n : Nat) : Bool :=
  decide (a + n ≤ secureBase) && !s.chan.live.any (fun c => overlaps a n c.2.buffer (c.2.depth * c.2.bytes)) &&
    !s.image.any fun i => overlaps a n i.bindingAddress i.bindingLength

/-- Lowest free slot that no declaration reserves (R311). -/
def State.freeSlot (s : State) : Option Nat :=
  (List.range 65536).find? fun k => !s.chan.declared.contains k && !s.chan.live.any fun c => c.1 == k

/-- A new channel with every entry free. -/
def Channel.fresh (type : Nat) (declared : Bool) (depth bytes buffer : Nat) (port : Option Nat) : Channel :=
  { type, declared, depth, bytes, buffer, head := 0, slots := [], credits := if type = 1 then depth else 0, inFlight := 0,
    posted := 0, freed := 0, waiters := [], port }

/-- Insert a channel in slot order. -/
def insertChannel (slot : Nat) (c : Channel) : List (Nat × Channel) → List (Nat × Channel)
  | [] => [(slot, c)]
  | x :: xs => if x.1 < slot then x :: insertChannel slot c xs else (slot, c) :: x :: xs

/-- Make a channel live (kind 6 of the decision trace). -/
def State.addChannel (s : State) (core slot : Nat) (c : Channel) : State :=
  let s := { s with chan := { s.chan with live := insertChannel slot c s.chan.live } }
  s.decision 6 core 0 0 0 (s.handleOf slot c)

/-- CHCREATE (R312). -/
def execChcreate (core : Nat) (csr : CsrUse) (s : State) : Host.Outcome State Fault Refusal :=
  .next (s.csrOp core false csr fun v s =>
    let depth := bits v 4 16 + 1
    let bytes := (bits v 20 9 + 1) * 8
    let buffer := bits v 32 32 * 4096
    if bits v 29 3 ≠ 0 then s.csrFail core 10
    else if bits v 0 4 ≠ 3 then s.csrFail core 3
    else if !s.bufferValid buffer (depth * bytes) then s.csrFail core 8
    else match s.freeSlot with
      | none => s.csrFail core 6
      | some slot =>
        let s := s.addChannel core slot (Channel.fresh 3 false depth bytes buffer none)
        s.csrResult core (3 * 2 ^ 28 + s.chan.gen slot * 2 ^ 16 + slot))

/-- The generation after `g` (R311). -/
def nextGen (g : Nat) : Nat := if g = 4095 then 1 else g + 1

/-- Destroy the channel of a slot: its messages are discarded and counted, its waiters wake with reason 6, and its handle is
stale (R312). -/
def State.destroyChannel (s : State) (core slot : Nat) (c : Channel) : State :=
  let s := s.bumpBy 0x2C0303 c.occupied
  let s := (s.wakeWaiters slot 0 6).wakeWaiters slot 1 6
  let s := s.decision 6 core 0 0 0 (s.handleOf slot c)
  { s with chan := { s.chan with live := s.chan.live.filter fun x => x.1 != slot
                                 gens := Sparse.set (fun _ => 1) s.chan.gens slot (nextGen (s.chan.gen slot)) } }

/-- CHDESTROY (R312). -/
def execChdestroy (core : Nat) (csr : CsrUse) (s : State) : Host.Outcome State Fault Refusal :=
  .next (s.csrOp core false csr fun v s =>
    if 2 ^ 32 ≤ v then s.csrFail core 10
    else match s.lookup v with
      | .inl e => s.csrFail core e
      | .inr (slot, c) => if c.declared then s.csrFail core 7 else (s.destroyChannel core slot c).csrResult core 0)

/-- CHANNEL_DESTROY (R312, Table 12-12): the channel that the requester's `ChannelSelect` names. -/
def execChannelDestroy (req : Nat) (s : State) : Host.Outcome State Fault Refusal :=
  .next (s.writing req 0x400201 1 fun s =>
    match s.lookup (Sparse.get (fun _ => 0) s.chan.selects req) with
    | .inl _ => s.refuse req 0x400201 0x9011
    | .inr (slot, c) => if c.declared then s.refuse req 0x400201 0x9011 else (s.destroyChannel 0 slot c).accept)

/-! ### The ports' side (R245, R246, R316, R317) -/

/-- Greatest credits at which a port keeps its room stop raised: n × (1 + ⌊(L − 1 + D) / L⌋) (R242, R245). -/
def State.roomMargin (s : State) (n : Nat) : Nat := n * (1 + (s.L - 1 + s.lead) / s.L)

/-- A port posts the message of its head credit (R245): the credit is spent. -/
def State.portPost (s : State) (slot : Nat) (c : Channel) : State :=
  s.updateChannel slot c { c with slots := c.slots ++ [.posted], credits := c.credits - 1, posted := sat32 c.posted 1 }

/-- A port has popped the last beat of the head message: the entry is freed (R317). -/
def State.portFree (s : State) (slot : Nat) (c : Channel) : State := s.updateChannel slot c c.freeOldest

/-- A freed credit reaches its port. -/
def Channel.returnCredit (c : Channel) : Channel := { c with credits := c.credits + 1, inFlight := c.inFlight - 1 }

/-- Messages per cycle of the TileFrame entry of a port number die × 128 + tile × 2 + port (Table 9-9). -/
def State.portFrame (s : State) (p : Nat) : Nat :=
  bits (Sparse.get (fun _ => 0) s.fabric.tileFrames (p / 2)) (3328 + 192 * (p % 2)) 192

/-- CREDIT_RETURN_ARRIVAL (R316, R245): with more than M credits the port withdraws its room stop. -/
def execCreditReturnArrival (slot : Nat) (s : State) : Host.Outcome State Fault Refusal :=
  .next (match s.channel slot with
    | none => s
    | some c =>
      if c.type ≠ 1 ∨ c.inFlight = 0 then s
      else
        let s := s.setChannel slot c.returnCredit
        match c.port with
        | none => s
        | some p => if s.roomMargin (bits (s.portFrame p) 116 16) < c.credits + 1 then s.clearRoom 4 slot else s)

end Sys2Proof.Machine
end

