-- ==== Sys2Proof/Machine/Blocks.lean ====
section
/-! DEFINITION. Blocks of the Zulon lanes (R432, R433, R440): their 64 bits, the scrambler, and what a receiver makes of a control block. -/

namespace Sys2Proof.Machine

/-! ### Control blocks (Table 18-2) -/

/-- Bits 63-56 of a control block. -/
def LaneBlock.type : LaneBlock → Nat
  | .idle => 0x1E
  | .align _ _ => 0x2D
  | .neg _ _ => 0x33
  | .train _ => 0x4B
  | .pause _ => 0x55
  | .resume _ => 0x66
  | .notice _ _ => 0x78
  | .dark => 0x99
  | .data _ => 0

/-- Bits 55-0 of a control block. -/
def LaneBlock.fields : LaneBlock → Nat
  | .align lane edges => lane % 2 ^ 5 * 2 ^ 51 + edges % 2 ^ 51
  | .neg rate det => rate % 2 ^ 3 * 2 ^ 53 + b2n det * 2 ^ 52
  | .train rate => rate % 2 ^ 3 * 2 ^ 53
  | .pause e => e % 2 ^ 3 * 2 ^ 53
  | .resume e => e % 2 ^ 3 * 2 ^ 53
  | .notice kind arg => kind % 2 ^ 8 * 2 ^ 48 + arg % 2 ^ 48
  | .idle => 0
  | .dark => 0
  | .data _ => 0

/-- Sync header: 1 data, 2 control (R432). -/
def LaneBlock.header : LaneBlock → Nat
  | .data _ => 1
  | _ => 2

/-- The 64 bits of a block, not scrambled. -/
def LaneBlock.payload : LaneBlock → Nat
  | .data bits => bits % 2 ^ 64
  | b => b.type * 2 ^ 56 + b.fields

/-- The control block of 64 bits; none of an unknown type. -/
def controlBlock (v : Nat) : Option LaneBlock :=
  let t := bits v 56 8
  if t = 0x1E then some .idle
  else if t = 0x2D then some (.align (bits v 51 5) (bits v 0 51))
  else if t = 0x33 then some (.neg (bits v 53 3) (bit v 52))
  else if t = 0x4B then some (.train (bits v 53 3))
  else if t = 0x55 then some (.pause (bits v 53 3))
  else if t = 0x66 then some (.resume (bits v 53 3))
  else if t = 0x78 then some (.notice (bits v 48 8) (bits v 0 48))
  else if t = 0x99 then some .dark
  else none

/-! ### The scrambler x^58 + x^39 + 1 (R432) -/

/-- The 64 bits that `v` stands for after the 58 scrambled bits `before`: each is the exclusive or of the bit that came and of those 39
and 58 before it. Bit 0 goes first. [DEDUCED, unsafe: log 69] -/
def descramble (before v : Nat) : Nat :=
  let x := before % 2 ^ 58 + v % 2 ^ 64 * 2 ^ 58
  (x ^^^ x <<< 39 ^^^ x <<< 58) >>> 58 % 2 ^ 64

/-- One bit scrambled: the 58 bits sent last, oldest in bit 0, and those sent so far. -/
def scrambleBit (st : Nat × Nat) (i : Nat) (d : Bool) : Nat × Nat :=
  let r := (d != bit st.1 19) != bit st.1 0
  (st.1 / 2 + b2n r * 2 ^ 57, st.2 + b2n r * 2 ^ i)

/-- 64 bits as they go onto the lane after the scrambled bits `before`. -/
def scramble (before v : Nat) : Nat :=
  ((List.range 64).foldl (fun st i => scrambleBit st i (bit v i)) (before % 2 ^ 58, 0)).2

/-- A block as it goes onto a lane. -/
def LaneBlock.onWire (b : LaneBlock) (before : Nat) : WireBlock := ⟨b.header, before % 2 ^ 58, scramble before b.payload, 0⟩

/-! ### Receivers and senders -/

def State.lane (s : State) (l : Nat) : Lane := s.lanes.getD l Lane.unfitted
def State.setLane (s : State) (l : Nat) (x : Lane) : State := { s with lanes := listSet s.lanes l x }

def Lane.fitted (x : Lane) : Bool := x.state != 0
def Lane.up (x : Lane) : Bool := x.state == 3 || x.state == 4

/-- The block that a lane which is up takes from the wire: a control block of unknown type is discarded and counted, and one with an
invalid header is no block (R432, R433). -/
def State.receive (s : State) (l : Nat) (w : WireBlock) : State × Option LaneBlock :=
  let x := s.lane l
  if !x.up then (s, none)
  else
    let x := if x.rate = 4 then { x with fecCorrected := sat32 x.fecCorrected w.corrected } else x
    let v := descramble w.before w.bits
    if w.header = 1 then (s.setLane l x, some (.data v))
    else if w.header = 2 then match controlBlock v with
      | some b => (s.setLane l x, some b)
      | none => (s.setLane l { x with blockErrors := sat32 x.blockErrors 1 }, none)
    else (s.setLane l x, none)

/-- A lane sends a block. -/
def State.sendBlock (s : State) (l : Nat) (b : LaneBlock) : State := s.setLane l { s.lane l with sent := (s.lane l).sent ++ [b] }

/-! ### Beats (R440) -/

/-- The data blocks of a beat: word 2j in bits 31-0 of block j, word 2j + 1 in bits 63-32. -/
def beatBlocks (beat : List Nat) : List Nat :=
  (List.range ((beat.length + 1) / 2)).map fun j => beat.getD (2 * j) 0 % 2 ^ 32 + beat.getD (2 * j + 1) 0 % 2 ^ 32 * 2 ^ 32

/-- The beat of `width` words that data blocks carry. -/
def beatOf (width : Nat) (blocks : List Nat) : List Nat :=
  (List.range width).map fun w => bits (blocks.getD (w / 2) 0) (32 * (w % 2)) 32

end Sys2Proof.Machine
end

