-- ==== Sys2Proof/Machine/Operands.lean ====
section
/-! DEFINITION. Operand forms of the nib (R54, R55, R62, R84 to R86): the fields of a schedule word, the reads of P0 with
their arrival check, and the value that P1 selects. -/

namespace Sys2Proof.Machine

/-- Set bit `i` of a bit vector. -/
def bvSet {n : Nat} (x : BitVec n) (i : Nat) (b : Bool) : BitVec n :=
  if b then x ||| BitVec.ofNat n (2 ^ i) else x &&& ~~~(BitVec.ofNat n (2 ^ i))

/-! ### Fields of a schedule word (Table 3-2, Table 4-5) -/

def wordOpcode (w : BitVec 64) : Nat := bits w.toNat 56 8
def wordClass (w : BitVec 64) : Nat := bits w.toNat 60 4
/-- State select of operand k: 0 a, 1 b, 2 c, 3 d (bits 56 to 59). -/
def wordSelect (w : BitVec 64) (k : Nat) : Bool := w.getLsbD (56 + k)
/-- Address field of operand k (OpA 39-30, OpB 29-20, OpC 19-10, OpD 9-0). -/
def wordOperand (w : BitVec 64) (k : Nat) : Nat := bits w.toNat (30 - 10 * k) 10
def wordTT (w : BitVec 64) : Nat := bits w.toNat 40 16
/-- Event number of SYNC, descriptor of ENQ and WAIT, position, lane, destination, scope (Table 4-5). -/
def wordEvent (w : BitVec 64) : Nat := bits w.toNat 48 8
def wordDesc (w : BitVec 64) : Nat := bits w.toNat 48 6
def wordPosition (w : BitVec 64) : Nat := bits w.toNat 0 7
def wordLane (w : BitVec 64) : Nat := bits w.toNat 0 6
def wordDest (w : BitVec 64) : Nat := bits w.toNat 0 8
def wordScope (w : BitVec 64) : Bool := w.getLsbD 0

/-- Even parity over bits 16j to 16j+15 of a word: the exclusive OR of the 16 bits (R56). -/
def groupParity (w : BitVec 64) (j : Nat) : Bool :=
  (List.range 16).foldl (fun p k => p != w.getLsbD (16 * j + k)) false

/-- The four parity bits a word is stored with. -/
def parityOf (w : BitVec 64) : BitVec 4 :=
  BitVec.ofNat 4 (b2n (groupParity w 0) + 2 * b2n (groupParity w 1) + 4 * b2n (groupParity w 2) + 8 * b2n (groupParity w 3))

/-- The stored word passes its parity check (R56). -/
def TierWord.ok (t : TierWord) : Bool := t.parity == parityOf t.word

/-- A word as a write stores it, with its parity bits. -/
def TierWord.of (w : BitVec 64) : TierWord := ⟨w, parityOf w⟩

/-- The eight operation classes (Table 4-4). -/
inductive NibClass where
  | nop | eval | send | store | probe | sync | enq | wait
deriving DecidableEq, Repr

/-- The class of a valid opcode (Table 4-4); none for an invalid one. -/
def opcodeClass (op : Nat) : Option NibClass :=
  if op = 0x00 then some .nop
  else if 0x10 ≤ op ∧ op ≤ 0x1F then some .eval
  else if 0x20 ≤ op ∧ op ≤ 0x2F then some .send
  else if 0x30 ≤ op ∧ op ≤ 0x37 then some .store
  else if 0x40 ≤ op ∧ op ≤ 0x47 then some .probe
  else if 0x50 ≤ op ∧ op ≤ 0x57 then some .sync
  else if 0x60 ≤ op ∧ op ≤ 0x67 then some .enq
  else if op = 0x70 then some .wait
  else none

/-- Operands a class evaluates (Table 4-6). -/
def NibClass.operands : NibClass → Nat
  | .eval => 4
  | .send => 4
  | .store => 3
  | .probe => 3
  | .sync => 3
  | .enq => 3
  | .nop => 0
  | .wait => 0

/-- The operation depends on the operand of weight `wt` (R86): some index with bit `wt` clear has TT[i] ≠ TT[i + wt]. -/
def dependsOn (tt size wt : Nat) : Bool :=
  (List.range size).any fun i => (i / wt) % 2 == 0 && (tt.testBit i != tt.testBit (i + wt))

/-- One operand read in P0 (R55, R58, R62): its value, and whether a dependent receive operand had no arrival yet. -/
def Nib.readOperand (n : Nib) (select : Bool) (addr : Nat) (dep : Bool) : Bool × Bool :=
  if select then (n.file.getLsbD (addr % 256), false)
  else if addr < 768 then (n.data.getLsbD addr, false)
  else if dep && !n.valid.getLsbD (addr - 768) then (false, true)
  else (n.data.getLsbD addr, false)

/-- What evaluating a word gives: the value, and the first early operand with its receive address (R62, R84, R85). -/
structure Evaluation where
  value : Bool
  early : Option (Nat × Nat)
deriving DecidableEq, Repr

/-- Evaluate a word of `k` operands (R84 with four, R85 with three). -/
def Nib.evaluate (n : Nib) (w : BitVec 64) (k : Nat) : Evaluation :=
  let tt := if k = 4 then wordTT w else wordTT w % 256
  let rd := (List.range k).map fun j => n.readOperand (wordSelect w j) (wordOperand w j) (dependsOn tt (2 ^ k) (2 ^ j))
  let index := (rd.zip (List.range k)).foldl (fun i r => i + b2n r.1.1 * 2 ^ r.2) 0
  ⟨tt.testBit index,
   ((rd.zip (List.range k)).find? fun r => r.1.2).map fun r => (r.2, wordOperand w r.2 - 768)⟩

/-! ### Key of a stored word -/

/-- Key of the schedule word of a nib at a step (R68). -/
def wordKey (die step id : Nat) : Nat := (die * 4096 + step) * dieNibs + id

/-- Key of route word `w` of cluster `c` (tile × 32 + cluster) of a die at a step (R72). -/
def routeKey (die step c w : Nat) : Nat := ((die * 4096 + step) * 2048 + c) * 48 + w

/-- The stored schedule word of a nib at a step; an unlisted word is the all-zero NOP. -/
def NibArray.word (a : NibArray) (n step : Nat) : TierWord :=
  Sparse.get (fun _ => TierWord.zero) a.words (wordKey (nibDie n) step (nibLocal n))

def NibArray.nib (a : NibArray) (n : Nat) : Nib := Sparse.get (fun _ => Nib.zero) a.nibs n
def NibArray.setNib (a : NibArray) (n : Nat) (v : Nib) : NibArray := { a with nibs := Sparse.set (fun _ => Nib.zero) a.nibs n v }
def NibArray.cluster (a : NibArray) (k : Nat) : Cluster := Sparse.get (fun _ => Cluster.zero) a.clusters k
def NibArray.setCluster (a : NibArray) (k : Nat) (v : Cluster) : NibArray :=
  { a with clusters := Sparse.set (fun _ => Cluster.zero) a.clusters k v }
def NibArray.tile (a : NibArray) (k : Nat) : Tile := Sparse.get (fun _ => Tile.zero) a.tiles k
def NibArray.setTile (a : NibArray) (k : Nat) (v : Tile) : NibArray := { a with tiles := Sparse.set (fun _ => Tile.zero) a.tiles k v }
def NibArray.queue (a : NibArray) (k : Nat) : Queue := Sparse.get (fun _ => Queue.empty) a.queues k
def NibArray.setQueue (a : NibArray) (k : Nat) (v : Queue) : NibArray := { a with queues := Sparse.set (fun _ => Queue.empty) a.queues k v }

/-- Replace the array. -/
def State.withArr (s : State) (f : NibArray → NibArray) : State := { s with arr := f s.arr }

end Sys2Proof.Machine
end

