-- ==== Sys2Proof/Machine/Fabric.lean ====
section
/-! DEFINITION. The word-cell fabric (R217 to R249): frames and their fields, routing, the crossing side of the cells,
isolation, bridge engines and channel ports. The operations of the cells are in WordCells.lean. -/

namespace Sys2Proof.Machine

/-! ### Frames (Table 9-9, Table 9-10) -/

def Fabric.clusterFrame (f : Fabric) (ck : Nat) : Nat := Sparse.get (fun _ => 0) f.clusterFrames ck
def Fabric.tileFrame (f : Fabric) (tk : Nat) : Nat := Sparse.get (fun _ => 0) f.tileFrames tk

/-- Field of `n` bits at bit `lo` of cell `k`'s group in its ClusterFrame; k is die × 16,384 + cell. -/
def Fabric.cellField (f : Fabric) (k lo n : Nat) : Nat := bits (f.clusterFrame (k / 8)) (704 * (k % 8) + lo) n

/-- Instruction entry `e` of a cell (Table 9-2). -/
def Fabric.entry (f : Fabric) (k e : Nat) : Nat := f.cellField k (48 * e) 48

def Fabric.c0 (f : Fabric) (k : Nat) : Nat := f.cellField k 384 32
def Fabric.c1 (f : Fabric) (k : Nat) : Nat := f.cellField k 416 32

/-- Select and Sync of cell input `i`. -/
def Fabric.inputSelect (f : Fabric) (k i : Nat) : Nat := f.cellField k (616 + 17 * i) 16
def Fabric.inputSync (f : Fabric) (k i : Nat) : Bool := bit (f.cellField k (632 + 17 * i) 1) 0
def Fabric.clockSelect (f : Fabric) (k : Nat) : Nat := f.cellField k 684 8

/-- Source select and BurstCount of spine `p` of a tile. -/
def Fabric.spineSelect (f : Fabric) (tk p : Nat) : Nat := bits (f.tileFrame tk) (128 * p) 81
def Fabric.burstCount (f : Fabric) (tk p : Nat) : Nat := bits (f.tileFrame tk) (128 * p + 81) 12

/-- A cell with its initial values (Table 9-9): T0-T3, OUT and flag; PC 0. -/
def Fabric.initialCell (f : Fabric) (k : Nat) : WordCell :=
  let v (i : Nat) : BitVec 32 := BitVec.ofNat 32 (f.cellField k (448 + 32 * i) 32)
  { WordCell.zero with t0 := v 0, t1 := v 1, t2 := v 2, t3 := v 3, out := v 4, flag := bit (f.cellField k 608 1) 0 }

def Fabric.cell (f : Fabric) (k : Nat) : WordCell := Sparse.get (fun _ => WordCell.zero) f.cells k
def Fabric.setCell (f : Fabric) (k : Nat) (c : WordCell) : Fabric :=
  { f with cells := Sparse.set (fun _ => WordCell.zero) f.cells k c }

def State.withFabric (s : State) (g : Fabric → Fabric) : State := { s with fabric := g s.fabric }

/-- Release stage of a tile (R237); 0 isolated. -/
def Fabric.stage (f : Fabric) (tk : Nat) : Nat := Sparse.get (fun _ => 0) f.release tk
def Fabric.setStage (f : Fabric) (tk v : Nat) : Fabric := { f with release := Sparse.set (fun _ => 0) f.release tk v }

/-- The lowest set bit of a select field: the candidate that the multiplexer delivers (R226); none delivers word 0. -/
def lowestBit (x n : Nat) : Option Nat := (List.range n).find? fun i => bit x i

/-! ### Latencies (R176, R177) -/

/-- The descriptor ROM of E-die `d`. -/
def State.rom (s : State) (d : Nat) : DieRom := s.part.roms.getD d (DieRom.sealed 1 0 0)

/-- Native latency of class `k` on E-die `d`: what its ROM gives (Table 13-7). -/
def State.nativeLatency (s : State) (d k : Nat) : Nat := (s.rom d).native.getD k 0

/-- Latency of class `k` on die `d`: native plus the delay register (R177). -/
def State.latency (s : State) (d k : Nat) : Nat :=
  s.nativeLatency d k + s.fabric.delays.getD (d * 10 + k) 0

/-! ### Routing (R224 to R227, R236) -/

/-- What a wire carries: the 33-bit value (flag in bit 32), the cell it comes from, and the global hops on its way. -/
structure Wire where
  value : Nat
  source : Option Nat
  hops : Nat
deriving DecidableEq, Repr

def Wire.zero : Wire := ⟨0, none, 0⟩

def WordCell.wire (c : WordCell) : Nat := c.out.toNat + b2n c.flag * 2 ^ 32

/-- The output of cell `k`. -/
def Fabric.cellWire (f : Fabric) (k : Nat) : Wire := ⟨(f.cell k).wire, some k, 0⟩

/-- Cluster output port `p` of cluster `ck`; track 2c + p of its tile. -/
def Fabric.clusterOut (f : Fabric) (ck p : Nat) : Wire :=
  match lowestBit (bits (f.clusterFrame ck) (5632 + 8 * p) 8) 8 with
  | some w => f.cellWire (ck * 8 + w)
  | none => Wire.zero

def Fabric.track (f : Fabric) (tk i : Nat) : Wire := f.clusterOut (tk * 32 + i / 2) (i % 2)

/-- The tile of the same die to the north (0), east (1), south (2) or west (3). -/
def neighbourTile (tk dir : Nat) : Option Nat :=
  let d := tk / 64
  let t := tk % 64
  if dir = 0 then (if 8 ≤ t then some (d * 64 + t - 8) else none)
  else if dir = 1 then (if t % 8 < 7 then some (tk + 1) else none)
  else if dir = 2 then (if t < 56 then some (tk + 8) else none)
  else (if 0 < t % 8 then some (tk - 1) else none)

/-- Global input port `j` of a tile, through at most `fuel` global ports: the output port of the neighbour that it selects, or what
that port parked when its tile was isolated. -/
def Fabric.globalIn (f : Fabric) : (fuel tk j : Nat) → Wire
  | 0, _, _ => Wire.zero
  | fuel + 1, tk, j =>
    if f.stage tk = 0 then Wire.zero
    else match lowestBit (bits (f.tileFrame tk) (2304 + 64 * j) 64) 64 with
      | none => Wire.zero
      | some i => match neighbourTile tk (i / 16) with
        | none => Wire.zero
        | some n =>
          if f.stage n = 0 then ⟨((Sparse.get (fun _ => []) f.parked n).getD (i % 16) 0), none, 1⟩
          else match lowestBit (bits (f.tileFrame n) (1024 + 80 * (i % 16)) 80) 80 with
            | none => Wire.zero
            | some c =>
              let w := if c < 64 then f.track n c else Fabric.globalIn f fuel n (c - 64)
              { w with hops := w.hops + 1 }

/-- Every global port stands at most once on a route: 64 tiles of 16 ports. -/
def routeFuel : Nat := 1024

/-- Global output port `j` of a tile as its neighbours see it. -/
def Fabric.globalOut (f : Fabric) (tk j : Nat) : Wire :=
  match lowestBit (bits (f.tileFrame tk) (1024 + 80 * j) 80) 80 with
  | none => Wire.zero
  | some c => if c < 64 then f.track tk c else f.globalIn routeFuel tk (c - 64)

/-- Cluster input port `p`. -/
def Fabric.clusterIn (f : Fabric) (ck p : Nat) : Wire :=
  match lowestBit (bits (f.clusterFrame ck) (5648 + 80 * p) 80) 80 with
  | none => Wire.zero
  | some c => if c < 64 then f.track (ck / 32) c else f.globalIn routeFuel (ck / 32) (c - 64)

/-- Trigger output `o` of a tile: the flag of the selected track, or the level parked at isolation (Table 9-5, R236). -/
def Fabric.triggerOut (f : Fabric) (tk o : Nat) : Bool :=
  if f.stage tk = 0 then (Sparse.get (fun _ => []) f.parked tk).getD (16 + o) 0 == 1
  else match lowestBit (bits (f.tileFrame tk) (3712 + 64 * o) 64) 64 with
    | some i => bit (f.track tk i).value 32
    | none => false

/-- Trigger output `o` of a tile as it reaches the trigger engine: `TrigRoute` edges of its cell after the cell writes the flag
(R353). [DEDUCED, unsafe: log 67] -/
def State.triggerArrived (s : State) (tk o : Nat) : Bool :=
  if s.fabric.stage tk = 0 then s.fabric.triggerOut tk o
  else match lowestBit (bits (s.fabric.tileFrame tk) (3712 + 64 * o) 64) 64 with
    | none => false
    | some i => match (s.fabric.track tk i).source with
      | none => false
      | some k => (s.fabric.cell k).trail.getD (s.latency (tk / 64) 9) (s.fabric.initialCell k).flag

/-- Trigger outputs of a tile, as they reach the trigger engine. -/
def State.triggersOf (s : State) (tk : Nat) : Nat := ofBits 4 (s.triggerArrived tk)

/-- The stretcher holds an output of a tile that has been set since the last I/O clock edge (R353). -/
def State.stretchTile (s : State) (tk : Nat) : State :=
  let v := s.triggersOf tk
  if v = 0 then s
  else
    let p := s.trig.path
    { s with trig := { s.trig with path := { p with
        stretched := Sparse.set (fun _ => 0) p.stretched tk (Sparse.get (fun _ => 0) p.stretched tk ||| v) } } }

/-- What the source of probe select `v` carries now (R239): nothing, a probe lane of the word-cell side, or a track flag; an isolated
tile's wires hold what they carried last (R236). -/
def State.probeSource (s : State) (v : Nat) : Bool :=
  let tk := bits v 27 3 * 64 + bits v 21 6
  let i := bits v 15 6
  let parked (j : Nat) : Bool := bit ((Sparse.get (fun _ => []) s.fabric.parked tk).getD j 0) i
  if bits v 30 2 = 1 then (if s.fabric.stage tk = 0 then parked 20 else (s.arr.tile tk).side.getLsbD i)
  else if bits v 30 2 = 2 then (if s.fabric.stage tk = 0 then parked 21 else bit (s.fabric.track tk i).value 32)
  else false

/-- `ProbeMux` of the die that a select names, in I/O clock cycles (Table 7-6, class 8). -/
def State.probeLatency (s : State) (v : Nat) : Nat := s.latency (bits v 27 3) 8

/-- The select of a multiplexer. -/
def State.probeSelect (s : State) (m : Nat) : Nat := s.entry (keyOf 0x2750 (m + 1))

/-- An edge of the I/O clock at multiplexer `m` (R239): a new select takes effect and the output holds for two cycles; the source is
sampled, and shown `ProbeMux` cycles later. [DEDUCED, unsafe: log 73] -/
def State.probeStep (s : State) (m : Nat) (x : ProbeMux) : ProbeMux :=
  let v := s.probeSelect m
  let n := s.probeLatency v
  let x := if v = x.select then x else { x with select := v, samples := List.replicate n x.out, hold := 3 }
  let now := if s.ioHeld (bits v 27 3) then x.samples.headD x.out else s.probeSource v
  let samples := (now :: x.samples).take (n + 1)
  { x with samples := samples, hold := x.hold - 1, out := if 1 < x.hold then x.out else samples.getD n x.out }

/-- Every probe multiplexer at an edge of the I/O clock. -/
def State.probeEdge (s : State) : State :=
  { s with fabric := { s.fabric with probes := (s.fabric.probes.zip (List.range 16)).map fun p => s.probeStep p.2 p.1 } }

/-- The output of probe multiplexer `m`. -/
def State.probeOut (s : State) (m : Nat) : Bool := (s.fabric.probes.getD m ProbeMux.off).out

/-! ### Clocks (R228 to R231) -/

/-- The spine that clocks a cell, if one does. -/
def Fabric.spineOf (f : Fabric) (k : Nat) : Option Nat := lowestBit (f.clockSelect k) 8

/-- The cell's spine carries a clock. -/
def Fabric.clocked (f : Fabric) (k : Nat) : Bool := match f.spineOf k with
  | some p => match lowestBit (f.spineSelect (k / 256) p) 81 with
    | some c => if c < 16 then bits (f.fclk.getD c 0) 7 8 != 0 else true
    | none => false
  | none => false

/-- The track whose flag clocks the cell's spine (R228). -/
def Fabric.clockTrack (f : Fabric) (k : Nat) : Option Nat := match f.spineOf k with
  | some p => match lowestBit (f.spineSelect (k / 256) p) 81 with
    | some c => if c < 17 then none else some (c - 17)
    | none => none
  | none => none

/-- Rising edges of the flag of track `i` of a tile. -/
def Fabric.risesOf (f : Fabric) (tk i : Nat) : Nat := Sparse.get (fun _ => 0) f.trackEdges (tk * 64 + i)

/-- The tracks of its tile that carry the output of cell `k`. -/
def Fabric.tracksOf (f : Fabric) (k : Nat) : List Nat :=
  ([0, 1].filter fun p => lowestBit (bits (f.clusterFrame (k / 8)) (5632 + 8 * p) 8) 8 == some (k % 8)).map fun p =>
    k / 8 % 32 * 2 + p

/-- Give cell `k` new elements; a flag that rises is an edge on the tracks that carry it. -/
def Fabric.putCell (f : Fabric) (k : Nat) (c : WordCell) : Fabric :=
  let rises := c.flag && !(f.cell k).flag
  let g := f.setCell k c
  if rises then { g with trackEdges := (f.tracksOf k).foldl (fun m i =>
    Sparse.set (fun _ => 0) m (k / 256 * 64 + i) (f.risesOf (k / 256) i + 1)) f.trackEdges }
  else g

/-- BurstCount of the cell's spine; 0 for a free-running one. -/
def Fabric.burstOf (f : Fabric) (k : Nat) : Nat := match f.spineOf k with
  | some p => f.burstCount (k / 256) p
  | none => 0

/-- The cell belongs to a burst domain, so its state is design state (R234). -/
def Fabric.isBurst (f : Fabric) (k : Nat) : Bool := f.burstOf k != 0

/-- Cells of the clusters that the image configures. -/
def Fabric.cellKeys (f : Fabric) : List Nat :=
  f.clusterFrames.flatMap fun e => (List.range 8).map fun w => e.1 * 8 + w

/-- Clocked cells of a die (0x3030:01). -/
def Fabric.clockedCells (f : Fabric) (d : Nat) : Nat := (f.cellKeys.filter fun k => k / 16384 == d && f.clocked k).length

/-- `WcReleaseState` of a die: the least stage of its tiles. -/
def Fabric.dieStage (f : Fabric) (d : Nat) : Nat :=
  (List.range 64).foldl (fun m t => min m (f.stage (d * 64 + t))) 3

/-! ### Bridge engines (R240 to R244, R441) -/

/-- An FCLK field of a ModuleFrame: M and K. -/
def fclkM (v : Nat) : Nat := bits v 0 7
def fclkK (v : Nat) : Nat := bits v 7 8

def BridgeBinding.enable (b : BridgeBinding) : Bool := bit b.body 0
def BridgeBinding.cluster (b : BridgeBinding) : Nat := (b.die * 64 + b.tile) * 32 + bits b.body 1 5
def BridgeBinding.laneKind (b : BridgeBinding) : Nat := bits b.body 6 1
def BridgeBinding.firstLane (b : BridgeBinding) : Nat := bits b.body 7 7
def BridgeBinding.laneCount (b : BridgeBinding) : Nat := bits b.body 14 5
def BridgeBinding.laneRate (b : BridgeBinding) : Nat := bits b.body 19 3
def BridgeBinding.clock (b : BridgeBinding) : Nat := bits b.body 22 4
def BridgeBinding.width (b : BridgeBinding) : Nat := bits b.body 26 3 + 1
def BridgeBinding.txDepth (b : BridgeBinding) : Nat := bits b.body 29 12
def BridgeBinding.rxDepth (b : BridgeBinding) : Nat := bits b.body 41 12
def BridgeBinding.beatsPerCycle (b : BridgeBinding) : Nat := bits b.body 53 8
def BridgeBinding.highWater (b : BridgeBinding) : Nat := bits b.body 61 12

/-- The binding of an engine in use. -/
def BridgeEngine.bound (e : BridgeEngine) : Option BridgeBinding :=
  e.binding.bind fun b => if b.enable && !e.held then some b else none

/-- Engine `e`, and the engine bound to a cluster. -/
def State.engine (s : State) (e : Nat) : BridgeEngine := s.fabric.engines.getD e BridgeEngine.idle
def State.setEngine (s : State) (e : Nat) (x : BridgeEngine) : State :=
  s.withFabric fun f => { f with engines := listSet f.engines e x }

def State.engineOf (s : State) (ck : Nat) : Option (Nat × BridgeBinding) :=
  ((List.range 8).filterMap fun e => match (s.engine e).bound with
    | some b => if b.cluster = ck then some (e, b) else none
    | none => none).head?

/-- Entry `sub` of engine `e` (Table 9-13). -/
def bridgeKey (e sub : Nat) : Nat := keyOf (0x2860 + e) sub

/-- Raise the room stop of an engine with M free transmit beats or fewer; withdraw it above M (R242). -/
def State.bridgeRoom (s : State) (e : Nat) (b : BridgeBinding) : State :=
  if b.txDepth - (s.engine e).tx.length ≤ s.roomMargin b.beatsPerCycle then
    if s.arr.sched.rooms.contains (5, e) then s else (s.bump (bridgeKey e 3)).raiseRoom 5 e
  else s.clearRoom 5 e

/-- Cell 0 pushes a beat of OUT values (R242, R244). -/
def State.pushBeat (s : State) (e : Nat) (b : BridgeBinding) : State :=
  let beat := (List.range b.width).map fun w => (s.fabric.cell (b.cluster * 8 + w)).out.toNat
  let x := s.engine e
  let s := (s.setEngine e { x with tx := x.tx ++ [beat], pushed := x.pushed + 1 }).bridgeRoom e b
  if x.pushed = b.beatsPerCycle then (s.log1 0x8122 srcHub 0).raiseStop 7 hubUnit 0x8122 else s

/-- An engine sends a control block of its own on its first lane; one on pins has no framing of lanes.
[DEDUCED, unsafe: log 69] -/
def State.engineBlock (s : State) (b : BridgeBinding) (x : LaneBlock) : State :=
  if b.laneKind = 0 then s.sendBlock b.firstLane x else s

/-- Cell 0 pops the head receive beat; at half the high-water mark the engine sends a resume (R242, R243, R441). -/
def State.popBeat (s : State) (e : Nat) (b : BridgeBinding) : State :=
  let x := s.engine e
  let rx := x.rx.drop 1
  let resume := x.pauseSent && decide (rx.length ≤ b.highWater / 2)
  let s := if resume then s.engineBlock b (.resume e) else s
  s.setEngine e { x with rx := rx, delivered := x.delivered - 1, pauseSent := x.pauseSent && !resume }

/-! ### Channel ports (R245 to R247, R186) -/

/-- Port number of port `p` of a tile: (die × 64 + tile) × 2 + p. -/
def Fabric.port (f : Fabric) (q : Nat) : ChannelPort := Sparse.get (fun _ => ChannelPort.idle) f.ports q
def Fabric.setPort (f : Fabric) (q : Nat) (x : ChannelPort) : Fabric :=
  { f with ports := Sparse.set (fun _ => ChannelPort.idle) f.ports q x }

/-- Fields of a channel-port entry (Table 9-9). -/
def portEnable (v : Nat) : Bool := bit v 0
def portCluster (v : Nat) : Nat := bits v 1 5
def portPair (v : Nat) : Nat := bits v 6 2
def portDecl (v : Nat) : Nat := bits v 8 32
def portHandle (v : Nat) : Nat := bits v 40 32
def portBuffer (v : Nat) : Nat := bits v 72 44
def portRate (v : Nat) : Nat := bits v 116 16
def portToDesign (v : Nat) : Bool := bit v 132

/-- The enabled port of a tile that serves the pair of cell `k`. -/
def State.portOf (s : State) (k : Nat) : Option Nat :=
  [0, 1].map (fun p => k / 256 * 2 + p) |>.find? fun q =>
    let v := s.portFrame q
    portEnable v && portCluster v == k / 8 % 32 && portPair v == k % 8 / 2

/-- The declared channel of a port with its slot. -/
def State.portChannel (s : State) (q : Nat) : Option (Nat × Channel) :=
  match s.chan.declared[portDecl (s.portFrame q)]? with
  | some slot => (s.channel slot).map fun c => (slot, c)
  | none => none

/-- The port can push or pop a beat (R245, R246). -/
def State.portActs (s : State) (q : Nat) : Bool :=
  match s.portChannel q with
  | none => false
  | some (_, c) =>
    !(s.fabric.port q).mismatch &&
      if portToDesign (s.portFrame q) then c.slots.head? == some .posted else decide (0 < c.credits)

/-- The type of the handle in the frame does not fit the port (R186): the message stays, 0x4112 is logged, and the array
stops. [DESIGN CHOICE, unsafe: log 81] -/
def State.portMismatch (s : State) (q : Nat) : State :=
  let v := s.portFrame q
  let die := q / 128
  let even := (q / 2 % 64 * 32 + portCluster v) * 8 + portPair v * 2
  let s := s.withFabric fun f => f.setPort q { f.port q with mismatch := true }
  (s.logDetail 0x4112 .stop (srcDie die) even (portHandle v) 0).raiseStop 7 die 0x4112

/-- A completed message is counted against MessagesPerCycle (R247). -/
def State.messageDone (s : State) (q : Nat) : State :=
  let n := (s.fabric.port q).completed
  let s := s.withFabric fun f => f.setPort q ⟨0, n + 1, false⟩
  if n = portRate (s.portFrame q) then (s.log1 0x4115 (srcDie (q / 128)) 0).raiseStop 7 (q / 128) 0x4115 else s

/-- Credits at M or fewer raise the room stop (R245). -/
def State.creditRoom (s : State) (q slot : Nat) : State :=
  match s.channel slot with
  | some c => if c.credits ≤ s.roomMargin (portRate (s.portFrame q)) then s.raiseRoom 4 slot else s
  | none => s

/-- The even cell pushes a beat of the pair's OUT values; the last beat posts the message (R245). -/
def State.portPush (s : State) (q k slot : Nat) (c : Channel) : State :=
  let v := s.portFrame q
  let n := (s.fabric.port q).beats
  let word := (s.fabric.cell k).out.toNat + (s.fabric.cell (k + 1)).out.toNat * 2 ^ 32
  let s := s.writeBytes (portBuffer v + c.nextFree * c.bytes + 8 * n) (toBytes 8 word)
  if n + 1 < c.bytes / 8 then s.withFabric fun f => f.setPort q { f.port q with beats := n + 1 }
  else if handleType (portHandle v) ≠ 1 then s.portMismatch q
  else (((s.portPost slot c).countEvent 12 0 1).messageDone q).creditRoom q slot

/-- The head beat of the head message of a software-to-design port. -/
def State.headBeat (s : State) (q : Nat) (c : Channel) : Nat :=
  ofBytes (s.readBytes (portBuffer (s.portFrame q) + c.head * c.bytes + 8 * (s.fabric.port q).beats) 8)

/-- The even cell pops a beat; the last one frees the entry (R246, R317). -/
def State.portPop (s : State) (q slot : Nat) (c : Channel) : State :=
  let n := (s.fabric.port q).beats
  if handleType (portHandle (s.portFrame q)) ≠ 2 then s.portMismatch q
  else if n + 1 < c.bytes / 8 then s.withFabric fun f => f.setPort q { f.port q with beats := n + 1 }
  else (s.portFree slot c).messageDone q

/-! ### What a cell sees of its port (Table 9-5, Table 9-11) -/

/-- Candidate 13: the word of the head receive beat that has reached the port. -/
def State.bridgeWord (s : State) (k : Nat) : Nat :=
  match s.engineOf (k / 8) with
  | some (e, _) => if 0 < (s.engine e).delivered then ((s.engine e).rx.headD []).getD (k % 8) 0 else 0
  | none => 0

/-- Candidate 14: the cell's half of the head beat. -/
def State.channelWord (s : State) (k : Nat) : Nat :=
  match s.portOf k with
  | none => 0
  | some q => match s.portChannel q with
    | some (_, c) => if portToDesign (s.portFrame q) && s.portActs q then bits (s.headBeat q c) (32 * (k % 2)) 32 else 0
    | none => 0

/-- Candidate 15: the port status word. -/
def State.statusWord (s : State) (k : Nat) : Nat :=
  let br := match s.engineOf (k / 8) with
    | some (e, b) => b2n (decide (0 < (s.engine e).delivered)) + 2 * b2n (decide ((s.engine e).tx.length < b.txDepth))
    | none => 0
  let serves (q : Nat) : Bool :=
    portEnable (s.portFrame q) && portCluster (s.portFrame q) == k / 8 % 32 && s.portActs q
  br + 4 * b2n (serves (k / 256 * 2)) + 8 * b2n (serves (k / 256 * 2 + 1))

/-! ### Isolation and release (R236 to R238) -/

/-- Values of a tile's outgoing border wires: global output ports, trigger outputs, probe lanes and track flags. -/
def State.border (s : State) (tk : Nat) : List Nat :=
  let f := s.fabric
  (List.range 16).map (fun j => (f.globalOut tk j).value) ++ (List.range 4).map (fun o => b2n (f.triggerOut tk o))
    ++ [(s.arr.tile tk).side.toNat, ofBits 64 fun i => bit (f.track tk i).value 32]

/-- A partly assembled message of a design-to-software port is discarded and counted (R236). -/
def State.discardPartial (s : State) (q : Nat) : State :=
  if 0 < (s.fabric.port q).beats ∧ portToDesign (s.portFrame q) = false then
    (s.bump (keyOf (0x3030 + q / 128 * 0x100) 2)).withFabric fun f => f.setPort q { f.port q with beats := 0 }
  else s

/-- Hold every cell of a tile at its initial values. -/
def Fabric.resetTile (f : Fabric) (tk : Nat) : Fabric :=
  (f.cellKeys.filter fun k => k / 256 == tk).foldl (fun f k => f.setCell k (f.initialCell k))
    { f with trackEdges := Sparse.keep (fun e => e / 64 != tk) f.trackEdges }

/-- Isolate a tile (R236): its border wires are parked, its cells held in reset. -/
def State.isolate (s : State) (tk : Nat) : State :=
  if s.fabric.stage tk = 0 then s
  else
    let s := (s.discardPartial (tk * 2)).discardPartial (tk * 2 + 1)
    let border := s.border tk
    s.withFabric fun f =>
      ({ f with parked := Sparse.set (fun _ => []) f.parked tk border }.setStage tk 0).resetTile tk

/-- Every tile of every fitted E-die. -/
def State.allTiles (s : State) : List Nat := List.range (s.dies * 64)

/-- Isolate every tile (R238). -/
def State.isolateAll (s : State) : State := s.allTiles.foldl State.isolate s

/-- Stage 1 of a release: isolation removed, initial values shown. -/
def State.removeIsolation (s : State) (tiles : List Nat) : State :=
  s.withFabric fun f => tiles.foldl (fun f tk => (f.setStage tk 1)) f

/-- Move every tile at stage `a` to stage `b`. -/
def Fabric.advance (f : Fabric) (a b : Nat) : Fabric :=
  (f.release.filter fun e => e.2 == a).foldl (fun f e => f.setStage e.1 b) f

/-- RELEASE_WRITE_ENABLE (R237): stage 2 on every tile being released: its registers, FIFOs and ports accept writes. -/
def execReleaseWriteEnable (s : State) : Host.Outcome State Fault Refusal := .next (s.withFabric fun f => f.advance 1 2)

/-- The cells of a tile start with PC at 0. -/
def Fabric.startCells (f : Fabric) (tk : Nat) : Fabric :=
  (f.cellKeys.filter fun k => k / 256 == tk).foldl (fun f k => f.setCell k { f.cell k with pc := 0 }) f

/-- Tiles at a stage of their release. -/
def Fabric.tilesAt (f : Fabric) (n : Nat) : List Nat := (f.release.filter fun e => e.2 == n).map Prod.fst

/-- RELEASE_CLOCK_START (R237): stage 3; the cells start with PC at 0. -/
def execReleaseClockStart (s : State) : Host.Outcome State Fault Refusal :=
  .next (s.withFabric fun f => (f.tilesAt 2).foldl Fabric.startCells (f.advance 2 3))

/-- The ModuleFrame group takes a select that software changes into its golden contents. [DESIGN CHOICE, unsafe: log 44] -/
def State.goldenProbe (s : State) (mux v : Nat) : State :=
  { s with fixer := { s.fixer with goldenProbes := listSet s.fixer.goldenProbes mux v } }

/-- PROBE_SELECT_WRITE (R239): a select that names an unfitted die, or the invalid kind, is refused.
[DESIGN CHOICE, unsafe: log 44] -/
def execProbeSelectWrite (req mux value : Nat) (s : State) : Host.Outcome State Fault Refusal :=
  let key := keyOf 0x2750 (mux + 1)
  .next (s.writingValue req key value fun v s =>
    if 16 ≤ mux ∨ bits v 30 2 = 3 ∨ (bits v 30 2 ≠ 0 ∧ s.dies ≤ bits v 27 3) then s.refuse req key 0x9011
    else ((s.putEntry key (v - v % 2 ^ 15)).goldenProbe mux (v - v % 2 ^ 15)).accept)

/-! ### Commands of the bridge engines -/

/-- The Zulon lanes of an engine are up (R437); an engine on pins has none. -/
def State.engineLanesUp (s : State) (b : BridgeBinding) : Bool :=
  b.laneKind == 1 || (List.range b.laneCount).all fun k => match s.lanes[b.firstLane + k]? with
    | some l => l.state == 3
    | none => false

/-- The engine accepts lane traffic: bound, in use, its lanes up, no device halt. -/
def State.liveEngine (s : State) (e : Nat) : Option BridgeBinding :=
  if 8 ≤ e ∨ s.sec.halted = true then none else (s.engine e).bound.filter s.engineLanesUp

/-- The engine is bound and no device halt has stopped it. -/
def State.boundEngine (s : State) (e : Nat) : Option BridgeBinding :=
  if 8 ≤ e ∨ s.sec.halted = true then none else (s.engine e).bound

/-- A beat that finds the receive FIFO full is dropped (R243). -/
def State.dropBeat (s : State) (e : Nat) : State :=
  let s := s.bump (bridgeKey e 5)
  let s := if s.entry (bridgeKey e 5) = max32 then s.putEntry (bridgeKey e 6) 1 else s
  if (s.engine e).overflowLogged then s
  else (s.setEngine e { s.engine e with overflowLogged := true }).log1 0x8121 srcHub 0

/-- Send a pause at the high-water mark (R243, R441). -/
def State.checkPause (s : State) (e : Nat) (b : BridgeBinding) : State :=
  if b.highWater ≤ (s.engine e).rx.length ∧ (s.engine e).pauseSent = false then
    ((s.setEngine e { s.engine e with pauseSent := true }).engineBlock b (.pause e)).bump (bridgeKey e 4)
  else s

/-- BRIDGE_BEAT_RECEIVED (R241, R243, R440): the data blocks of the next beat, deskewed; the words of a beat from pins come in the same
pairs. -/
def execBridgeBeatReceived (engine : Nat) (blocks : List Nat) (s : State) : Host.Outcome State Fault Refusal :=
  .next (match s.liveEngine engine with
    | none => s
    | some b =>
      let x := s.engine engine
      if x.rx.length < b.rxDepth then
        (s.setEngine engine { x with rx := x.rx ++ [beatOf b.width blocks] }).checkPause engine b
      else s.dropBeat engine)

/-- BRIDGE_BEAT_DELIVERED (R241): the next beat reaches the tile port, which accepts it from stage 2 of its release on (R237). -/
def execBridgeBeatDelivered (engine : Nat) (s : State) : Host.Outcome State Fault Refusal :=
  .next (match s.boundEngine engine with
    | none => s
    | some b =>
      let x := s.engine engine
      if x.delivered < x.rx.length ∧ 2 ≤ s.fabric.stage (b.die * 64 + b.tile) then s.setEngine engine { x with delivered := x.delivered + 1 } else s)

/-- Block j of the k-th beat since commit goes to lane FirstLane + ((B × k + j) mod LaneCount) (R440). -/
def State.sendBeat (s : State) (b : BridgeBinding) (k : Nat) (beat : List Nat) : State :=
  let blocks := beatBlocks beat
  if b.laneKind ≠ 0 then s
  else (blocks.zip (List.range blocks.length)).foldl
    (fun s x => s.sendBlock (b.firstLane + (blocks.length * k + x.2) % b.laneCount) (.data x.1)) s

/-- BRIDGE_BEAT_TRANSMITTED (R241, R440): the oldest pushed beat reaches the lanes, unless the far end has paused the engine. -/
def execBridgeBeatTransmitted (engine : Nat) (s : State) : Host.Outcome State Fault Refusal :=
  .next (match s.liveEngine engine with
    | none => s
    | some b =>
      let x := s.engine engine
      match x.tx with
      | [] => s
      | beat :: rest =>
        if x.paused then s
        else ((s.setEngine engine { x with tx := rest, sent := x.sent ++ [beat], beats := x.beats + 1 }).sendBeat b x.beats beat).bridgeRoom
          engine b)

/-- PAUSE_RECEIVED (R433, R441): a PAUSE block that a lane brings stops the engine that it names. -/
def execPauseReceived (wire : LaneWire) (s : State) : Host.Outcome State Fault Refusal :=
  .next (match s.receive wire.lane wire.block with
    | (t, some (.pause e)) => (match t.liveEngine e with
      | none => t
      | some _ => t.setEngine e { t.engine e with paused := true })
    | (t, _) => t)

/-- RESUME_RECEIVED (R433, R441): a RESUME block lets the engine that it names send again. -/
def execResumeReceived (wire : LaneWire) (s : State) : Host.Outcome State Fault Refusal :=
  .next (match s.receive wire.lane wire.block with
    | (t, some (.resume e)) => (match t.liveEngine e with
      | none => t
      | some _ => t.setEngine e { t.engine e with paused := false })
    | (t, _) => t)

end Sys2Proof.Machine
end

