-- ==== Sys2Proof/Machine/Pulses.lean ====
section
/-! DEFINITION. Pulse generators (R406 to R409). -/

namespace Sys2Proof.Machine

def State.pulse (s : State) (g : Nat) : Pulse := s.pulses.getD g Pulse.idle
def State.setPulse (s : State) (g : Nat) (p : Pulse) : State := { s with pulses := listSet s.pulses g p }

/-- Entry `sub` of generator `g`. -/
def pulseKey (g sub : Nat) : Nat := keyOf (0x2340 + g) sub

/-- S as the start entries give it, in units of the time base. -/
def State.pulseStart (s : State) (g : Nat) : Nat :=
  ((s.entry (pulseKey g 1) * 2 ^ 32 + s.entry (pulseKey g 2)) * 1000000000 + s.entry (pulseKey g 3)) * 2 ^ 32

/-- The nanoseconds of S, period and width are in range (R396, R406). -/
def State.pulseFieldsOk (s : State) (g : Nat) : Bool :=
  decide (s.entry (pulseKey g 3) < 1000000000 ∧ 20 ≤ s.entry (pulseKey g 4) ∧ 10 ≤ s.entry (pulseKey g 5) ∧ s.entry (pulseKey g 5) + 10 ≤ s.entry (pulseKey g 4))

/-- The generator is armed or running. -/
def Pulse.busy (p : Pulse) : Bool := p.state == 1 || p.state == 2

/-- A write of `PulseControl` (R407): arming with its refusals, or a stop that returns the output to its inactive level. A module in
STANDBY or DORMANT, whose generators stay disarmed (R399), refuses to arm one under R26. [DEDUCED, unsafe: log 85] -/
def State.writePulseControl (s : State) (req g v : Nat) : State :=
  let key := pulseKey g 7
  if v % 2 = 0 then ((s.putEntry key (v % 16)).setPulse g { s.pulse g with state := 0, active := false }).accept
  else if (s.pulse g).busy || s.asleep then s.refuse req key 0x9011
  else if s.time.locked = false ∧ bit v 3 = false then s.refuse req key 0x2311
  else if bit v 1 = false ∧ s.pulseStart g < s.time.units + 1000 * 2 ^ 32 then s.refuse req key 0x2320
  else if !s.pulseFieldsOk g then s.refuse req key 0x9011
  else ((s.putEntry key (v % 16)).setPulse g ⟨1, s.pulseStart g, 0, false⟩).accept

/-- The time-base value of the first 100 MHz I/O clock edge at or after now, at the rate in force; edges lie at whole 10 ns of
uptime. -/
def State.nextIoEdge (s : State) : Nat :=
  ((s.time.units : Int) + (((10 - s.mgmt.uptime % 10) % 10 : Nat) : Int) * (2 ^ 32 + s.time.rate)).toNat

/-- The target of the generator's next edge, in units (R406): S + n × P, and S + n × P + W while pulse n is out. -/
def State.pulseTarget (s : State) (g : Nat) : Nat :=
  let p := s.pulse g
  p.start + (p.next * s.entry (pulseKey g 4) + if p.active then s.entry (pulseKey g 5) else 0) * 2 ^ 32

/-- The time base has reached the target (R406). -/
def State.pulseDue (s : State) (g : Nat) : Bool := decide (s.pulseTarget g ≤ s.time.units)

/-- The cycle mark fires generator `g` (R212, R407). -/
def State.markPulse (s : State) (g : Nat) : State :=
  if (s.pulse g).state = 1 ∧ bit (s.entry (pulseKey g 7)) 1 = true then s.setPulse g ⟨2, s.nextIoEdge, 0, false⟩ else s

/-- PULSE_ARM (R407). -/
def execPulseArm (req generator value : Nat) (s : State) : Host.Outcome State Fault Refusal :=
  .next (s.writingValue req (pulseKey generator 7) value fun v s => s.writePulseControl req generator v)

/-- PULSE_STOP (R407): a write of `PulseControl` with bit 0 clear. -/
def execPulseStop (req generator value : Nat) (s : State) : Host.Outcome State Fault Refusal :=
  .next (s.writingValue req (pulseKey generator 7) value fun v s => s.writePulseControl req generator v)

/-- The time base in the entries of `PulseLastFire`. -/
def State.recordFire (s : State) (g : Nat) : State :=
  ((s.putEntry (pulseKey g 9) (s.time.seconds / 2 ^ 32)).putEntry (pulseKey g 10) (s.time.seconds % 2 ^ 32)).putEntry
    (pulseKey g 11) s.time.nanoseconds

/-- PULSE_LEADING_EDGE (R406, R408): the leading edge of the next pulse, once its target is reached. An armed generator that waits for the
mark has no edge. [DESIGN CHOICE, unsafe: log 4] -/
def execPulseLeadingEdge (generator : Nat) (s : State) : Host.Outcome State Fault Refusal :=
  let p := s.pulse generator
  .next (
    if s.pulseDue generator && p.busy && !p.active && !(p.state == 1 && bit (s.entry (pulseKey generator 7)) 1) then
      (((s.setPulse generator { p with state := 2, active := true }).recordFire generator).bump (pulseKey generator 12)).raiseLine
        (8 + generator)
    else s)

/-- PULSE_TRAILING_EDGE (R406, R408): the pulse ends, once its trailing target is reached; after pulse N − 1 the state becomes done. -/
def execPulseTrailingEdge (generator : Nat) (s : State) : Host.Outcome State Fault Refusal :=
  let p := s.pulse generator
  let last := p.next + 1 == s.entry (pulseKey generator 6)
  .next (if s.pulseDue generator && p.state == 2 && p.active then
      s.setPulse generator { p with state := if last then 3 else 2, next := p.next + 1, active := false }
    else s)

/-- A step of the time base disarms every armed or running generator (R409). -/
def State.disarmPulses (s : State) : State :=
  let gs := (List.range 8).filter fun g => (s.pulse g).busy
  if gs.isEmpty then s
  else ({ s with pulses := s.pulses.map fun (p : Pulse) => if p.busy then { p with state := 0, active := false } else p }).log1 0x2321 srcHub
    (maskOf gs)

/-- Level of a generator's output (R408): inverted by bit 2 of `PulseControl`. -/
def State.pulseLevel (s : State) (g : Nat) : Bool := (s.pulse g).active != bit (s.entry (pulseKey g 7)) 2

end Sys2Proof.Machine
end

