-- ==== Sys2Proof/Machine/Trigger.lean ====
section
/-! DEFINITION. Trigger engine and acquisition samplers (R352 to R371). -/

namespace Sys2Proof.Machine

/-! ### Source words (R352) -/

/-- Filtered level of a pin after InvertIn (R418). -/
def pinConfigKey (n : Nat) : Nat := keyOf (0x2710 + n / 16) (n % 16 + 1)
def State.pinConfig (s : State) (n : Nat) : Nat := s.entry (pinConfigKey n)
def State.pinLevel (s : State) (n : Nat) : Bool := bit s.pins.filtered n != bit (s.pinConfig n) 23

/-- Pin word of a first bank. -/
def State.pinWord (s : State) (bank : Nat) : Nat :=
  ofBits 32 fun j => decide (bank * 16 + j < 96) && s.pinLevel (bank * 16 + j)

/-- Fields of an output select (R369). -/
def outKind (v : Nat) : Nat := bits v 0 4
def outIndex (v : Nat) : Nat := bits v 4 4
def outKey (o : Nat) : Nat := keyOf 0x2980 (o + 1)

/-- Output `o` is asserted: TRIG0-7, then STAR_OUT0-1. -/
def State.outAsserted (s : State) (o : Nat) : Bool :=
  let v := s.entry (outKey o)
  if outKind v = 1 ∨ outKind v = 2 then decide (0 < (s.trig.outputs.getD o TrigOutput.idle).left)
  else if outKind v = 3 then bit s.trig.path.pulses.2 (outIndex v)
  else outKind v == 4 && bit v 8

/-- TRIG line `k` reads 1, whoever asserts it; STAR_IN lines are lines 8 and 9. -/
def State.line (s : State) (k : Nat) : Bool := bit s.trig.lines k || (decide (k < 8) && s.outAsserted k)

/-- Outputs of the eight pulse generators. -/
def State.pulseLevels (s : State) : Nat := ofBits 8 s.pulseLevel

/-- Where a source select finds what changes with the crossing loads and the word cells: probe lanes of a tile, the cycle, trigger
outputs of a tile. -/
structure SourceView where
  side : Nat → BitVec 64
  cycle : Nat
  triggers : Nat → Nat

/-- Value of a source select (R352). -/
def State.sourceWord (s : State) (x : SourceView) (v : Nat) : Nat :=
  let kind := bits v 28 4
  let die := bits v 25 3
  if kind = 1 then bits (x.side (die * 64 + bits v 19 6)).toNat (32 * bits v 18 1) 32
  else if kind = 2 then s.pinWord (bits v 12 3)
  else if kind = 3 then bits s.trig.path.lineSeen 0 10 + s.pulseLevels * 2 ^ 10
  else if kind = 4 then ofBits 32 fun j => bit (x.triggers (die * 64 + bits v 15 3 * 8 + j / 4)) (j % 4)
  else if kind = 5 then x.cycle % 2 ^ 32
  else 0

/-- The cycle that the units see: that of the last load from the second I/O clock edge after it on (Table 14-2). -/
def State.seenCycle (s : State) : Nat := if s.trig.path.age < 2 then s.trig.path.oldCycle else s.trig.loadedCycle

/-- What the units see now (Table 14-2). -/
def State.seenView (s : State) : SourceView where
  side u := if s.trig.path.age < 2 then Sparse.get (fun _ => 0) s.trig.path.oldSides u else (s.arr.tile u).side
  cycle := s.seenCycle
  triggers := Sparse.get (fun _ => 0) s.trig.path.shown

/-- What a crossing load gives the samplers that it clocks (R358). [DEDUCED, unsafe: log 67] -/
def State.loadView (s : State) : SourceView := { s.seenView with side := fun u => (s.arr.tile u).side, cycle := s.trig.loadedCycle }

/-! ### I/O clock edges (R353) -/

/-- A line is seen at the second of two consecutive edges that show one level. -/
def TrigPath.seeLines (p : TrigPath) (now : Nat) : TrigPath :=
  { p with
    lineSeen := ofBits 10 fun k => if bit now k == bit p.lineLast k then bit now k else bit p.lineSeen k
    lineLast := now }

/-- The stretchers are captured; what the edge before captured is seen. -/
def State.captureTriggers (s : State) : List (Nat × Nat) :=
  (s.fabric.tileFrames.map fun f => (f.1,
    if s.ioHeld (f.1 / 64) then Sparse.get (fun _ => 0) s.trig.path.captured f.1
    else Sparse.get (fun _ => 0) s.trig.path.stretched f.1 ||| s.triggersOf f.1)).filter fun x => x.2 != 0

/-- An output at an I/O clock edge, with the Width of its select: pulses go on, and assertions whose second edge has come begin
(R369). -/
def TrigOutput.edge (x : TrigOutput) (width : Nat) : TrigOutput :=
  ⟨(x.coming.filter fun n => n != 1).map fun n => n - 1, if x.coming.contains 1 then width else x.left - 1⟩

/-- An I/O clock edge on the ways to the units and to the outputs. -/
def State.pathEdge (s : State) : State :=
  let p := s.trig.path
  let now := ofBits 10 s.line
  { s with trig := { s.trig with
    outputs := (s.trig.outputs.zip (List.range 10)).map fun o => o.1.edge (bits (s.entry (outKey o.2)) 16 16)
    path := { p.seeLines now with
      age := min 3 (p.age + 1), shown := p.captured, captured := s.captureTriggers, stretched := []
      pulses := (s.pulseLevels, p.pulses.1) } } }

/-- A source select is accepted (R352). -/
def State.selectOk (s : State) (v : Nat) : Bool :=
  let kind := bits v 28 4
  let die := bits v 25 3
  bits v 0 12 == 0 && decide (kind ≤ 5) && (kind == 2 || bits v 12 3 == 0) && decide (bits v 12 3 ≤ 5) &&
    (kind == 4 || bits v 15 3 == 0) && (kind == 1 || bits v 18 7 == 0) &&
    (if kind = 1 ∨ kind = 4 then decide (die < s.dies) else die == 0)

/-! ### Outputs (R369, R370) -/

/-- An output select is accepted. -/
def outSelectOk (v : Nat) : Bool :=
  let k := outKind v
  decide (k ≤ 4) && bits v 9 7 == 0 && decide (k ≠ 2 ∨ outIndex v < 4) && decide (k ≠ 3 ∨ outIndex v < 8) &&
    decide ((k ≠ 1 ∧ k ≠ 2) ∨ 1 ≤ bits v 16 16)

/-- An event of kind 1 (unit) or 2 (sampler) with an index asserts the outputs that select it at the second edge after it. -/
def State.assertOutputs (s : State) (kind index : Nat) : State :=
  let hit (o : Nat) : Bool := outKind (s.entry (outKey o)) == kind && outIndex (s.entry (outKey o)) == index
  { s with trig := { s.trig with
    outputs := (s.trig.outputs.zip (List.range 10)).map fun o => if hit o.2 then { o.1 with coming := o.1.coming ++ [2] } else o.1 } }

/-- TRIGGER_OUTPUT_PULSE_END (R369): the Width of output `output` has passed. -/
def execTriggerOutputPulseEnd (output : Nat) (s : State) : Host.Outcome State Fault Refusal :=
  .next { s with trig := { s.trig with
    outputs := listSet s.trig.outputs output { s.trig.outputs.getD output TrigOutput.idle with left := 0 } } }

/-- Release every output (R370). -/
def State.releaseOutputs (s : State) : State :=
  let s := (List.range 10).foldl (fun s o => s.putEntry (outKey o) 0) s
  { s with trig := { s.trig with outputs := List.replicate 10 TrigOutput.idle } }

/-! ### Samplers (R358 to R368) -/

def State.sampler (s : State) (k : Nat) : Sampler := s.trig.samplers.getD k Sampler.fresh
def State.setSampler (s : State) (k : Nat) (x : Sampler) : State :=
  { s with trig := { s.trig with samplers := listSet s.trig.samplers k x } }

/-- Entry `sub` of sampler `k`. -/
def samplerKey (k sub : Nat) : Nat := keyOf (0x2910 + k) sub
def State.samplerEntry (s : State) (k sub : Nat) : Nat := s.entry (samplerKey k sub)

def State.sampleClock (s : State) (k : Nat) : Nat := bits (s.samplerEntry k 2) 0 2
def State.sampleBytes (s : State) (k : Nat) : Nat := 4 * s.samplerEntry k 3
def State.bufferBase (s : State) (k : Nat) : Nat := s.samplerEntry k 0x0C
def State.bufferSize (s : State) (k : Nat) : Nat := s.samplerEntry k 0x0D
def State.streaming (s : State) (k : Nat) : Bool := s.samplerEntry k 1 == 2

/-- Capacity C of a buffer (R359). -/
def State.capacity (s : State) (k : Nat) : Nat := (s.bufferSize k - 128) / s.sampleBytes k

/-- Frequency of an FCLK in kHz (0x2320); 0 when off. -/
def Fabric.fclkKHz (f : Fabric) (i : Nat) : Nat :=
  let v := f.fclk.getD i 0
  if bits v 7 8 = 0 then 0 else 100000 * bits v 0 7 / bits v 7 8

/-- The sample clock in kHz; the cycle clock counts as 20 MHz for its share. -/
def State.sampleKHz (s : State) (k : Nat) : Nat :=
  if s.sampleClock k = 0 then 20000
  else if s.sampleClock k = 1 then 100000
  else s.fabric.fclkKHz (bits (s.samplerEntry k 2) 4 4)

/-- Write bandwidth of the acquisition SRAM, in units of 2^-15 kB/s. -/
def sramBandwidth : Nat := 25600000 * 2 ^ 15

/-- What the armed samplers leave free (R363). -/
def State.bandwidthFree (s : State) : Nat :=
  sramBandwidth - s.trig.samplers.foldl (fun n x => n + if x.armed then x.share else 0) 0

/-- Share of sampler `k` with decimation exponent `e`. -/
def State.shareOf (s : State) (k e : Nat) : Nat :=
  s.sampleBytes k * s.sampleKHz k * 2 ^ 15 / if s.sampleClock k = 0 then 1 else 2 ^ e

/-- Stored and overwritten samples at completion (R362), with P, Q, C and t. -/
def storedCount (p q c t : Nat) : Nat := min (min (p + q) c) (t + q)
def overwrittenCount (p q c t : Nat) : Nat := min p t + q - c

/-- The StoredCount, first stored sample and Overwritten of a header: those of R362 at completion; before it, the samples in the
buffer. [DEDUCED, unsafe: log 67] -/
def State.headerCounts (s : State) (k : Nat) : Nat × Nat × Nat :=
  let x := s.sampler k
  let c := s.capacity k
  let p := s.samplerEntry k 0x0E
  let q := s.samplerEntry k 0x0F
  if x.complete && !x.aborted && !s.streaming k then
    let n := storedCount p q c x.t
    (n, x.t + q - n, overwrittenCount p q c x.t)
  else if s.streaming k then (x.kept - x.drained, x.drained, 0)
  else (min x.kept c, x.kept - min x.kept c, 0)

/-- Source select of the lowest cause unit. -/
def State.causeSource (s : State) (cause : Nat) : Nat := match lowestBit cause 16 with
  | some u => s.entry (keyOf (0x2940 + u) 1)
  | none => 0

/-- Flags of a header (Table 14-4). -/
def State.headerFlags (s : State) (k : Nat) : Nat :=
  let x := s.sampler k
  let full := x.complete && !x.aborted && !s.streaming k
  b2n x.complete + 2 * b2n x.triggered + 4 * b2n (full && (s.headerCounts k).2.2 != 0)
    + 8 * b2n (x.triggered && decide (x.t < s.samplerEntry k 0x0E)) + 16 * b2n x.forced + 32 * b2n x.aborted
    + 64 * b2n (s.streaming k)

/-- The exposure header (R368, Table 14-4). -/
def State.headerBytes (s : State) (k : Nat) : List Byte :=
  let x := s.sampler k
  let c := s.headerCounts k
  let kind := s.sampleClock k
  toBytes 4 0x50584552 ++ toBytes 2 1 ++ toBytes 1 k ++ toBytes 1 (s.headerFlags k) ++ toBytes 4 x.sequence ++
    toBytes 1 (s.samplerEntry k 3) ++ toBytes 1 x.k ++ toBytes 1 kind ++
    toBytes 1 (if kind = 2 then bits (s.samplerEntry k 2) 4 4 else 0) ++ toBytes 4 (if kind = 0 then 0 else s.sampleKHz k) ++
    toBytes 2 x.cause ++ toBytes 1 (if x.triggered then (if x.forced then 0xFF else (lowestBit x.cause 16).getD 0) else 0) ++
    toBytes 1 0 ++ toBytes 4 (s.samplerEntry k 0x0E) ++ toBytes 4 (s.samplerEntry k 0x0F) ++ toBytes 4 c.1 ++
    toBytes 4 (128 + c.2.1 % s.capacity k * s.sampleBytes k) ++ toBytes 8 (if x.triggered then x.t else 0) ++ toBytes 8 c.2.2 ++
    toBytes 8 x.time.seconds ++ toBytes 4 x.time.ns ++ toBytes 2 x.time.fraction ++ toBytes 1 (b2n x.time.global) ++ toBytes 1 0 ++
    toBytes 8 x.cycle ++ toBytes 8 x.armTime.seconds ++ toBytes 4 x.armTime.ns ++ toBytes 4 0 ++
    (List.range 8).flatMap fun i => toBytes 4 (s.samplerEntry k (4 + i))

/-- Write the header of sampler `k` into its buffer. -/
def State.writeHeader (s : State) (k : Nat) : State := s.writeBytes (acqBase + s.bufferBase k) (s.headerBytes k)

/-- Entry `sub` of the counts of sampler `k` (R366); one that saturates sets the sticky flag. [DEDUCED, unsafe: log 29] -/
def State.countSample (s : State) (k sub : Nat) : State :=
  let key := keyOf (0x2920 + k) sub
  let s := s.bump key
  if s.entry key = max32 then s.putEntry (keyOf (0x2920 + k) 6) 1 else s

/-- The exposure is complete: Complete is set last and event line 16 rises (R362). -/
def State.completeExposure (s : State) (k : Nat) (aborted : Bool) : State :=
  let s := s.setSampler k { s.sampler k with armed := false, complete := true, aborted := aborted, draining := false }
  let s := s.clearRoom 6 k
  let s := (s.writeHeader k).raiseLine 16
  let lost := (s.headerCounts k).2.2
  if aborted then s.log1 0xA004 srcHub k
  else if lost = 0 then s else s.log1 0xA003 srcHub (Config.packArg 0xA003 [k, lost % 2 ^ 32])

/-- Steps of a cycle sampler's margin (R365). -/
def State.streamMargin (s : State) : Nat := 1 + (s.L - 1 + s.lead) / s.L

/-- Raise or withdraw the room stop of a stream-mode sampler (R365). -/
def State.streamRoom (s : State) (k : Nat) : State :=
  let x := s.sampler k
  if x.armed && s.streaming k && decide (s.capacity k - (x.kept - x.drained) ≤ s.streamMargin) then s.raiseRoom 6 k
  else s.clearRoom 6 k

/-- Where sampler `k` finds the words of a sample (R358): the crossing load that clocks it, the units' view, or, on an FCLK, that view
with the trigger outputs that its synchroniser holds. -/
def State.sampleView (s : State) (k : Nat) : SourceView :=
  if s.sampleClock k = 0 then s.loadView
  else if s.sampleClock k = 1 then s.seenView
  else
    let tiles := s.fabric.tileFrames.map Prod.fst
    { s.seenView with triggers := fun u => ((tiles.zip (s.sampler k).stages.2).find? fun x => x.1 == u).elim 0 Prod.snd }

/-- An FCLK edge of the synchroniser of sampler `k`. [DEDUCED, unsafe: log 67] -/
def State.synchronise (s : State) (k : Nat) : State :=
  if s.sampleClock k = 2 then
    let x := s.sampler k
    s.setSampler k { x with stages := (s.fabric.tileFrames.map fun f => s.triggersOf f.1, x.stages.1) }
  else s

/-- The words of one sample. -/
def State.sampleOf (s : State) (k : Nat) : List Byte :=
  (List.range (s.samplerEntry k 3)).flatMap fun i => toBytes 4 (s.sourceWord (s.sampleView k) (s.samplerEntry k (4 + i)))

/-- Keep a sample: it is written at its place (R359); the exposure completes with sample t + Q − 1 (R362). -/
def State.keepSample (s : State) (k : Nat) : State :=
  let x := s.sampler k
  let c := s.capacity k
  let addr := acqBase + s.bufferBase k + 128 + x.kept % c * s.sampleBytes k
  let s := (s.writeBytes addr (s.sampleOf k)).countSample k 3
  let s := if s.streaming k = false ∧ c ≤ x.kept then s.countSample k 4 else s
  let s := s.setSampler k { x with kept := x.kept + 1, edges := x.edges + 1 }
  if s.streaming k = false ∧ x.triggered = true ∧ x.kept + 1 = x.t + s.samplerEntry k 0x0F then s.completeExposure k false
  else (s.writeHeader k).streamRoom k

/-- An edge of the sample clock of an armed sampler (R363, R366): kept, or decimated. -/
def State.sampleEdge (s : State) (k : Nat) : State :=
  let x := s.sampler k
  if x.armed = false ∨ x.draining = true then s
  else
    let s := s.countSample k 1
    if x.edges % 2 ^ x.k = 0 then s.keepSample k
    else (s.countSample k 2).setSampler k { x with edges := x.edges + 1 }

/-- A crossing load clocks every sampler on the cycle clock (R358). -/
def State.cycleSamples (s : State) : State :=
  (List.range 4).foldl (fun s k => if s.sampleClock k = 0 then s.sampleEdge k else s) s

/-- SAMPLE_CLOCK_EDGE (R358): an edge of the I/O clock or of an FCLK for sampler `sampler`. -/
def execSampleClockEdge (sampler : Nat) (s : State) : Host.Outcome State Fault Refusal :=
  .next (if s.sampleClock sampler = 0 ∨ s.asleep = true ∨ s.sec.halted = true then s else (s.synchronise sampler).sampleEdge sampler)

/-- Cycle that a trigger records (Table 14-4). -/
def State.triggerCycle (s : State) (cause : Nat) (forced : Bool) : Nat :=
  let kind := bits (s.causeSource cause) 28 4
  if !forced && (kind == 1 || kind == 5) then s.seenCycle else s.arr.sched.cycle

/-- The trigger sample t: the first kept sample taken at or after the trigger instant. A sample of the cycle clock counts as taken at the
second I/O clock edge after its load, where the units see it (Table 14-5). [DEDUCED, unsafe: log 67] -/
def State.triggerSample (s : State) (k : Nat) : Nat :=
  let x := s.sampler k
  if s.sampleClock k = 0 ∧ s.trig.path.age ≤ 2 then x.kept - 1 else x.kept

/-- The trigger instant of an armed sampler that has not triggered (R361). -/
def State.triggerSampler (s : State) (k cause : Nat) (forced : Bool) : State :=
  let x := s.sampler k
  if x.armed = false ∨ x.triggered = true ∨ x.draining = true then s
  else
    let s := s.setSampler k { x with
      triggered := true, forcing := false, t := s.triggerSample k, cause := if forced then 0 else cause, forced := forced, time := s.stamp
      cycle := s.triggerCycle cause forced }
    let s := ((s.writeHeader k).raiseLine 17).assertOutputs 2 k
    let s := if s.samplerEntry k 0x12 = 1 then s.raiseStop 8 hubUnit 0 else s
    if s.streaming k = false ∧ (s.sampler k).t + s.samplerEntry k 0x0F ≤ (s.sampler k).kept then s.completeExposure k false else s

/-- A forced trigger takes effect at the first I/O clock edge after it reaches the engine (R361). -/
def State.forceTriggers (s : State) : State :=
  (List.range 4).foldl (fun s k => if (s.sampler k).forcing then s.triggerSampler k 0 true else s) s

/-- A force trigger of sampler `k`: it triggers at the next I/O clock edge where it is armed (R360, R361). -/
def State.forceSampler (s : State) (k : Nat) : State :=
  let x := s.sampler k
  if x.armed && !x.triggered && !x.draining then s.setSampler k { x with forcing := true } else s

/-- Units fire at one edge: the samplers that watch them (R361). -/
def State.unitsFired (s : State) (fired : Nat) : State :=
  (List.range 4).foldl (fun s k =>
    let mask := s.samplerEntry k 0x10
    let x := s.sampler k
    let seen := x.fired ||| (fired &&& mask)
    let due := if s.samplerEntry k 0x11 = 0 then (fired &&& mask) != 0 else mask != 0 && seen == mask && (fired &&& mask) != 0
    let s := s.setSampler k { x with fired := if x.armed then seen else x.fired }
    if due then s.triggerSampler k fired false else s) s

/-! ### Trigger units (R354 to R357) -/

def State.unit (s : State) (u : Nat) : TrigUnit := s.trig.units.getD u TrigUnit.fresh
def State.setUnit (s : State) (u : Nat) (x : TrigUnit) : State := { s with trig := { s.trig with units := listSet s.trig.units u x } }

/-- Entry `sub` of unit `u`. -/
def unitKey (u sub : Nat) : Nat := keyOf (0x2940 + u) sub
def State.unitEntry (s : State) (u sub : Nat) : Nat := s.entry (unitKey u sub)

/-- What a unit compares: mode, value, level, level less and plus hysteresis. -/
structure UnitView where
  mode : Nat
  v : Int
  lv : Int
  lo : Int
  hi : Int
  /-- The value equals the level AND the mask. -/
  eq : Bool

def State.unitView (s : State) (u : Nat) : UnitView :=
  let sgn := bit (s.unitEntry u 2) 3
  let raw := s.sourceWord s.seenView (s.unitEntry u 1) &&& s.unitEntry u 3
  let num (x : Nat) : Int := if sgn then signed 32 x else x
  let least : Int := if sgn then -(2 ^ 31) else 0
  let most : Int := if sgn then 2 ^ 31 - 1 else 2 ^ 32 - 1
  let lv := num (s.unitEntry u 4)
  let h : Int := s.unitEntry u 5
  ⟨bits (s.unitEntry u 2) 0 3, num raw, lv, max least (lv - h), min most (lv + h), raw == (s.unitEntry u 4 &&& s.unitEntry u 3)⟩

/-- The unit sees the condition of a rising, or of a falling, event (Table 14-3). -/
def UnitView.past (x : UnitView) (fall : Bool) : Bool :=
  if fall then decide (x.v ≤ x.lv)
  else match x.mode with
    | 2 => decide (x.v ≤ x.lv)
    | 4 => decide (x.lv ≤ x.v)
    | 5 => decide (x.v ≤ x.lv)
    | 6 => x.eq
    | 7 => !x.eq
    | _ => decide (x.lv ≤ x.v)

/-- The unit sees the arming region; an input past the level arms nothing (R355). [DEDUCED, unsafe: log 67] -/
def UnitView.arming (x : UnitView) (fall : Bool) : Bool :=
  !x.past fall && if fall || x.mode == 2 then decide (x.hi ≤ x.v)
    else if x.mode = 6 ∨ x.mode = 7 then true
    else decide (x.v ≤ x.lo)

/-- The unit sees a qualifying event, with its arming before. -/
def UnitView.event (x : UnitView) (u : TrigUnit) : Bool :=
  if x.mode = 0 then false
  else if x.mode = 4 ∨ x.mode = 5 then x.past false
  else (u.armed && x.past false) || (x.mode == 3 && u.armedFall && x.past true)

/-- The arming after an edge. -/
def UnitView.arm (x : UnitView) (u : TrigUnit) : TrigUnit :=
  if x.mode = 0 ∨ x.mode = 4 ∨ x.mode = 5 then { u with armed := false, armedFall := false }
  else { u with armed := if u.armed then !x.past false else x.arming false
                armedFall := x.mode == 3 && if u.armedFall then !x.past true else x.arming true }

/-- Hold-off after a firing (R356). -/
def State.beginHoldoff (s : State) (u : Nat) (x : TrigUnit) : TrigUnit :=
  let v := s.unitEntry u 8
  if s.unitEntry u 7 = 0 ∨ v = 0 then { x with count := 0 } else { x with count := 0, holding := true, left := v }

/-- A qualifying event of unit `u` (R356); answers whether it fires. -/
def State.qualify (s : State) (u : Nat) (x : TrigUnit) : State × Bool :=
  if x.holding then
    let left := if s.unitEntry u 7 = 2 then x.left - 1 else x.left
    ((s.setUnit u { x with left := left, holding := s.unitEntry u 7 != 2 || left != 0 }).bump (unitKey u 0x0A), false)
  else if x.count + 1 < s.unitEntry u 6 then (s.setUnit u { x with count := x.count + 1 }, false)
  else (((s.setUnit u (s.beginHoldoff u x)).bump (unitKey u 9)).assertOutputs 1 u, true)

/-- An I/O clock cycle of a hold-off of kind 1 passes; the edge that ends it is still held off (R356). [DEDUCED, unsafe: log 67] -/
def State.countHoldoff (s : State) (u : Nat) (held : Bool) : State :=
  let x := s.unit u
  if held && x.holding && s.unitEntry u 7 == 1 then s.setUnit u { x with left := x.left - 1, holding := decide (1 < x.left) } else s

/-- Unit `u` evaluates at an I/O clock edge what it sees in `seen`. [DEDUCED, unsafe: log 67] -/
def State.evaluateUnit (seen s : State) (u : Nat) : State × Bool :=
  let w := seen.unitView u
  let held := (s.unit u).holding
  let x := w.arm (s.unit u)
  let r := if w.event (s.unit u) then s.qualify u x else (s.setUnit u x, false)
  (r.1.countHoldoff u held, r.2)

/-- An I/O clock edge: all units evaluate what they see at it, then the samplers act on those that fire, and on forced triggers (R353,
R357, R361). [DEDUCED, unsafe: log 67] -/
def State.unitEdge (s : State) : State :=
  if s.asleep || s.loopsDown then s
  else
    let s := s.pathEdge
    let r := (List.range 16).foldl (fun (r : State × List Nat) u =>
      let e := s.evaluateUnit r.1 u
      (e.1, if e.2 then u :: r.2 else r.2)) (s, [])
    (if r.2.isEmpty then r.1 else r.1.unitsFired (maskOf r.2)).forceTriggers

/-- TRIGGER_UNIT_FIRE (R356): the I/O clock edge at which units reach their Count. -/
def execTriggerUnitFire (s : State) : Host.Outcome State Fault Refusal := .next s.unitEdge

/-- HOLDOFF_EXPIRY (R356): the last I/O clock cycle of a hold-off of kind 1 has passed; the other kinds end by their counts. [DEDUCED, unsafe: log 67] -/
def execHoldoffExpiry (unit : Nat) (s : State) : Host.Outcome State Fault Refusal :=
  .next (if (s.unit unit).holding ∧ s.unitEntry unit 7 = 1 then s.setUnit unit { s.unit unit with holding := false, left := 0 } else s)

/-- A crossing load (R356, R352): hold-offs of kind 3 count it, and the cycle whose values it carries is noted. -/
def State.loadTriggers (s : State) : State :=
  let units := (s.trig.units.zip (List.range 16)).map fun e =>
    if e.1.holding && s.unitEntry e.2 7 == 3 then { e.1 with left := e.1.left - 1, holding := decide (1 < e.1.left) } else e.1
  { s with trig := { s.trig with units := units, loadedCycle := s.arr.sched.cycle - 1 } }.cycleSamples

/-- A unit's configuration has changed: it starts disarmed (R355). -/
def State.restartUnit (s : State) (u : Nat) : State := s.setUnit u TrigUnit.fresh

/-- TRIG_LINE_CHANGE (R352, R353): another card asserts or releases TRIG line `line`, or STAR_IN line `line` − 8; `level` says
whether it is asserted. The level is that of the line, whatever the module does; the I/O clock edges sample it (R516). -/
def execTrigLineChange (line : Nat) (level : Bool) (s : State) : Host.Outcome State Fault Refusal :=
  .next (if line < 10 then
      { s with trig := { s.trig with lines := setBit s.trig.lines line level } }
    else s)

/-! ### Commands of the samplers (R360, R361, R363) -/

/-- Buffers of two samplers overlap. -/
def State.buffersOverlap (s : State) (j k : Nat) : Bool :=
  decide (s.bufferBase j < s.bufferBase k + s.bufferSize k ∧ s.bufferBase k < s.bufferBase j + s.bufferSize j)

/-- The arm is refused with 0xA001. -/
def State.armInvalid (s : State) (k : Nat) : Bool :=
  let clock := s.sampleClock k
  decide (s.bufferSize k < 131072 ∨ 2 ^ 25 < s.bufferBase k + s.bufferSize k) || s.samplerEntry k 1 == 0 ||
    ((List.range 4).any fun j => j != k && (s.sampler j).armed && s.buffersOverlap j k) ||
    (clock != 1 && (s.image.isNone || s.sampleKHz k == 0)) ||
    (s.streaming k && (clock != 0 || decide (s.capacity k ≤ s.streamMargin))) ||
    (s.samplerEntry k 1 == 1 && s.samplerEntry k 0x10 == 0)

/-- An accepted arm: a new header, an empty buffer, counters cleared. [DEDUCED, unsafe: log 67] -/
def State.armSampler (s : State) (k e : Nat) : State :=
  let x := s.sampler k
  let s := [1, 2, 3, 4, 5, 6].foldl (fun s j => s.putEntry (keyOf (0x2920 + k) j) 0) s
  (s.setSampler k { Sampler.fresh with
    armed := true, sequence := (x.sequence + 1) % 2 ^ 32, k := e, share := s.shareOf k e, armTime := s.stamp }).writeHeader k

def samplerCommandKey (k : Nat) : Nat := samplerKey k 0x18

/-- SAMPLER_ARM (R360, R363). -/
def execSamplerArm (req sampler : Nat) (s : State) : Host.Outcome State Fault Refusal :=
  let key := samplerCommandKey sampler
  .next (s.writing req key 1 fun s =>
    if (s.sampler sampler).armed then s.refuse req key 0x9011
    else if s.armInvalid sampler then s.refuse req key 0xA001
    else match (List.range 16).find? fun e => decide (s.shareOf sampler e ≤ s.bandwidthFree) with
      | none => s.refuse req key 0xA002
      | some e => (s.armSampler sampler e).accept)

/-- Disarm (R360, R364): a stream-mode exposure completes once its buffer has drained. -/
def State.disarmSampler (s : State) (k : Nat) : State :=
  let x := s.sampler k
  if x.armed = false then s
  else if s.streaming k then
    if x.kept = x.drained then s.completeExposure k false
    else (s.setSampler k { x with draining := true }).clearRoom 6 k
  else s.setSampler k { x with armed := false }

/-- SAMPLER_DISARM (R360). -/
def execSamplerDisarm (req sampler : Nat) (s : State) : Host.Outcome State Fault Refusal :=
  .next (s.writing req (samplerCommandKey sampler) 2 fun s => (s.disarmSampler sampler).accept)

/-- SAMPLER_FORCE_TRIGGER (R360, R361): an armed sampler triggers at the next I/O clock edge. [DEDUCED, unsafe: log 67] -/
def execSamplerForceTrigger (req sampler : Nat) (s : State) : Host.Outcome State Fault Refusal :=
  .next (s.writing req (samplerCommandKey sampler) 3 fun s =>
    (s.forceSampler sampler).accept)

/-- End the exposures of the armed samplers of which `p` holds (R367). [DEDUCED, unsafe: log 67] -/
def State.abortSamplers (s : State) (p : Nat → Bool) : State :=
  (List.range 4).foldl (fun s k => if (s.sampler k).armed && p k then s.completeExposure k true else s) s

/-! ### The drain (R364) -/

/-- Ring of a stream-mode sampler: base, size, room for one more sample. -/
def State.ringBase (s : State) (k : Nat) : Nat := s.samplerEntry k 0x14 * 2 ^ 32 + s.samplerEntry k 0x13
def State.ringSize (s : State) (k : Nat) : Nat := s.samplerEntry k 0x15
def State.ringRoom (s : State) (k : Nat) : Bool :=
  let z := s.ringSize k
  decide (s.sampleBytes k ≤ (s.samplerEntry k 0x16 + z - (s.sampler k).writePointer - 1) % z)

/-- One write of the drain, through the rights table of the acquisition DMA; a denied write has no effect. -/
def State.drainWrite (s : State) (addr : Nat) (bs : List Byte) : State :=
  if bs.isEmpty then s
  else if !s.allowed 3 addr bs.length true false then { s.denied 3 addr true with answer := s.answer }
  else if ddrStart ≤ addr ∧ addr + bs.length ≤ s.ddrEnd then (s.writeBytes addr bs).countEvent 6 (s.ddrChannelOf addr) 1
  else s.logDetail 0x5010 .refused srcHub (addressArg 3 addr) addr 0

/-- Move the oldest sample of the buffer into the ring. [DEDUCED, unsafe: log 67] -/
def State.drainOne (s : State) (k : Nat) : State :=
  let x := s.sampler k
  let n := s.sampleBytes k
  let bs := s.readBytes (acqBase + s.bufferBase k + 128 + x.drained % s.capacity k * n) n
  let head := s.ringSize k - x.writePointer
  let s := (s.drainWrite (s.ringBase k + x.writePointer) (bs.take head)).drainWrite (s.ringBase k) (bs.drop head)
  (s.countSample k 5).setSampler k { x with drained := x.drained + 1, writePointer := (x.writePointer + n) % s.ringSize k }

/-- Move samples while the ring has room. -/
def State.drain (k : Nat) : Nat → State → State
  | 0, s => s
  | n + 1, s => if s.ringSize k ≠ 0 ∧ s.ringRoom k = true then State.drain k n (s.drainOne k) else s

/-- STREAM_DRAIN (R364, R365). -/
def execStreamDrain (sampler : Nat) (s : State) : Host.Outcome State Fault Refusal :=
  let x := s.sampler sampler
  .next (if x.armed && s.streaming sampler then
      let s := State.drain sampler (x.kept - x.drained) s
      if (s.sampler sampler).draining && (s.sampler sampler).kept == (s.sampler sampler).drained then s.completeExposure sampler false
      else (s.writeHeader sampler).streamRoom sampler
    else s)

/-- STREAM_READ_POINTER_WRITE (R364): accepted while the sampler is armed. -/
def execStreamReadPointerWrite (req sampler value : Nat) (s : State) : Host.Outcome State Fault Refusal :=
  let key := samplerKey sampler 0x16
  .next (s.writingValue req key value fun v s => (s.putEntry key v).accept)

/-! ### Entries -/

/-- `UnitState` (Table 14-6). -/
def State.unitStatus (s : State) (u : Nat) : Nat :=
  let m := bits (s.unitEntry u 2) 0 3
  let x := s.unit u
  if m = 0 then 0 else if x.holding then 3 else if m = 4 ∨ m = 5 ∨ x.armed ∨ x.armedFall then 2 else 1

/-- `SamplerStatus`. -/
def State.samplerStatus (s : State) (k : Nat) : Nat :=
  let x := s.sampler k
  if x.armed then (if s.streaming k then 4 else if x.triggered then 2 else 1) else if x.complete then 3 else 0

/-- `LineState`. -/
def State.lineState (s : State) : Nat := ofBits 12 fun j => if j < 10 then s.line j else s.outAsserted (j - 2)

/-- Configuration of sampler `k` or of a unit that an armed sampler's mask names is frozen (R360). -/
def State.acquisitionFrozen (s : State) (key : Nat) : Bool :=
  let i := key / 256
  let j := key % 256
  (decide (0x2910 ≤ i ∧ i < 0x2914) && decide (j ≤ 0x15) && (s.sampler (i - 0x2910)).armed) ||
    (decide (0x2940 ≤ i ∧ i < 0x2950) && decide (j ≤ 8) &&
      (List.range 4).any fun k => (s.sampler k).armed && bit (s.samplerEntry k 0x10) (i - 0x2940))

/-- The module sleeps: samplers end their exposures, the units and outputs are off (R367, R370). -/
def State.sleepTriggers (s : State) : State :=
  let s := (s.abortSamplers fun _ => true).releaseOutputs
  { s with trig := { s.trig with units := s.trig.units.map fun _ => TrigUnit.fresh } }

end Sys2Proof.Machine
end

