-- ==== Sys2Proof/Machine/Pins.lean ====
section
/-! DEFINITION. Pins: output and input functions, pad states, switching, pattern units and edge counters (R411 to R430). -/

namespace Sys2Proof.Machine

/-! ### PinConfig (Table 17-1) -/

def cfgMode (v : Nat) : Nat := bits v 30 2
def cfgPull (v : Nat) : Nat := bits v 25 2
def cfgFunc (v : Nat) : Nat := bits v 17 6
def cfgSleep (v : Nat) : Nat := bits v 14 3
def cfgSafe (v : Nat) : Nat := bits v 11 3

/-- Input functions of Table 17-3. -/
def inFuncs : List Nat := (List.range 8).map (· + 1) ++ (List.range 8).map (· + 16) ++ [24, 25, 26] ++ (List.range 4).map (· + 32)

/-- A configuration without reserved fields or invalid codes. -/
def pinConfigOk (v : Nat) : Bool :=
  bits v 0 10 == 0 && cfgMode v != 3 && cfgPull v != 3 && (cfgFunc v == 0 || inFuncs.contains (cfgFunc v)) &&
    decide (cfgSleep v ≤ 5 ∧ cfgSafe v ≤ 5)

def State.withPins (s : State) (f : Pins → Pins) : State := { s with pins := f s.pins }

/-! ### Output functions (R414, R417) -/

/-- The engine and pin lane that Table 9-10 puts on pin `n`. -/
def State.bridgePin (s : State) (n : Nat) : Option (Nat × Nat) :=
  ((List.range 8).filterMap fun e => match (s.engine e).binding with
    | some b => if s.image.isSome ∧ b.enable = true ∧ b.laneKind = 1 ∧ b.firstLane ≤ n ∧ n < b.firstLane + b.laneCount
        then some (e, n - b.firstLane) else none
    | none => none).head?

/-- Software outputs as the entries hold them, bit n for pin n. -/
def State.softwareOutputs (s : State) : Nat :=
  (List.range 6).foldl (fun v b => v + s.entry (keyOf 0x2730 (b + 1)) * 2 ^ (16 * b)) 0

/-- The active output functions of a pin with their values, a software output as the last I/O clock edge took it and a generator's two
edges after it changed (R416); a function is named by 0 software, 1 + g generator, 9 + k probe,
25 + e bridge engine. -/
def State.outputsOf (s : State) (n : Nat) : List (Nat × Bool) :=
  let b := n / 16
  (if bit (s.entry (keyOf 0x2731 (b + 1))) (n % 16) then [(0, bit s.pins.software n)] else []) ++
    ((List.range 8).filterMap fun g => if s.entry (keyOf 0x2720 (g + 1)) = n then some (1 + g, bit s.trig.path.pulses.2 g) else none) ++
    ((List.range 16).filterMap fun k =>
      if s.entry (keyOf 0x2721 (k + 1)) = n then some (9 + k, s.probeOut k) else none) ++
    (match s.bridgePin n with
    | some (e, i) => [(25 + e, Config.pinLaneBit ((s.engine e).sent.getLastD []) i)]
    | none => [])

/-- The pad under rank 4: Mode, Pull and output functions (R417). -/
def State.padTarget (s : State) (n : Nat) : Pad :=
  let v := s.pinConfig n
  let fs := s.outputsOf n
  if fs.isEmpty ∨ cfgMode v = 0 then ⟨0, false, cfgPull v, bits v 28 2, bit v 27⟩
  else ⟨cfgMode v, (fs.any Prod.snd) != bit v 24, cfgPull v, bits v 28 2, bit v 27⟩

/-- The pad of a sleep or safe state code (Table 17-4); code 0 keeps `kept`. -/
def State.padOfCode (s : State) (n code : Nat) (kept : Pad) : Pad :=
  let v := s.pinConfig n
  let off (pull : Nat) : Pad := ⟨0, false, pull, bits v 28 2, bit v 27⟩
  if code = 1 then off 0
  else if code = 2 then off 1
  else if code = 3 then off 2
  else if code = 4 then ⟨1, false, 0, bits v 28 2, bit v 27⟩
  else if code = 5 then (if cfgMode v = 2 then off 0 else ⟨1, true, 0, bits v 28 2, bit v 27⟩)
  else kept

/-- The pad of a switching pin (Table 17-5): parked, then with its driver off. -/
def State.switchPad (s : State) (x : Switch) : Pad :=
  if x.edges < 3 then x.shown else { s.padTarget x.pin with mode := 0, value := false }

/-- The pad of a pin under EXTEST (R456): its boundary-scan cells drive it or leave it high-impedance.
[DEDUCED, unsafe: log 51] -/
def State.boundaryPad (s : State) (n : Nat) : Pad :=
  let v := s.pinConfig n
  let c := s.sec.boundary.getD n ⟨false, false⟩
  ⟨b2n c.drive, c.drive && c.value, cfgPull v, bits v 28 2, bit v 27⟩

/-- What pin `n` shows: its boundary-scan cells under EXTEST, else the highest-ranked condition of Table 17-4a. A safe, sleeping or held pin keeps the pad that it took when the
condition began (R413, R423). -/
def State.pad (s : State) (n : Nat) : Pad :=
  if s.sec.tap = .extest then s.boundaryPad n
  else match s.pins.safe.find? fun e => e.1 == n with
  | some e => e.2
  | none => match s.pins.asleep with
    | some ps => ps.getD n default
    | none => match s.pins.held.find? fun e => e.1 == n with
      | some e => e.2
      | none => match s.pins.switching.find? fun x => x.pin == n with
        | some x => s.switchPad x
        | none => s.padTarget n

/-- Every pin. -/
def allPins : List Nat := List.range 96

def State.isHeld (s : State) (n : Nat) : Bool := s.pins.held.any fun e => e.1 == n
def State.isSafe (s : State) (n : Nat) : Bool := s.pins.safe.any fun e => e.1 == n

/-- The pin is under rank 4. -/
def State.free4 (s : State) (n : Nat) : Bool := !s.isHeld n && !s.isSafe n && s.pins.asleep.isNone

/-! ### Switching (R424) -/

/-- A change from state `s` to `t` switches pin `n`: its pad state changes, and not its value alone with the same functions. -/
def State.switches (s t : State) (n : Nat) : Bool :=
  let a := s.padTarget n
  let b := t.padTarget n
  s.free4 n && t.free4 n && a != b &&
    !((s.outputsOf n).map Prod.fst == (t.outputsOf n).map Prod.fst && { a with value := b.value } == b)

/-- Pin `n`, showing `shown`, begins to switch. -/
def State.beginSwitch (s : State) (n : Nat) (shown : Pad) : State :=
  let t := s.padTarget n
  s.withPins fun p => { p with switching :=
    (⟨n, shown, shown.mode != 0 && shown.mode == t.mode, 0⟩ : Switch) :: (p.switching.filter fun x => x.pin != n) }

/-- An I/O clock edge moves every switching pin on: after edge 2 a driven pin in the same Mode shows its new state, after edge 3
every other. [DEDUCED, unsafe: log 68] -/
def State.switchEdge (s : State) : State :=
  let next := (s.pins.switching.map fun (x : Switch) => { x with edges := x.edges + 1 }).filter fun (x : Switch) =>
    decide (x.edges < (if x.direct then 3 else 4))
  s.withPins fun p => { p with switching := next }

/-- Log 0x8001 for the pins that two or more active functions share, once until a pin has one or none (R417). -/
def State.logShared (s : State) : State :=
  let many := allPins.filter fun n => decide (2 ≤ (s.outputsOf n).length)
  let s := (many.filter fun n => !s.pins.sharedLogged.contains n).foldl
    (fun s n => s.log1 0x8001 srcHub (Config.packArg 0x8001 [n, (s.outputsOf n).length])) s
  s.withPins fun p => { p with sharedLogged := many }

/-- Change something that pads depend on: the pins that it switches begin to, and shared outputs are logged. -/
def State.repin (s : State) (f : State → State) : State :=
  let t := f s
  ((allPins.filter (s.switches t)).foldl (fun u n => u.beginSwitch n (s.pad n)) t).logShared

/-! ### Held, safe and sleeping pins (R420 to R422) -/

/-- Pins become held in the pads that they show. -/
def State.holdPins (s : State) (ns : List Nat) : State :=
  let new := ns.map fun n => (n, s.pad n)
  s.withPins fun p => { p with
    held := p.held.filter (fun e => !ns.contains e.1) ++ new, switching := (p.switching.filter fun x => !ns.contains x.pin) }

/-- Safe state applies to pins, for a cause (R422). [DEDUCED, unsafe: log 68] -/
def State.applySafe (s : State) (ns : List Nat) (cause : Nat) : State :=
  let new := (ns.filter fun n => !s.isSafe n).map fun n => (n, s.padOfCode n (cfgSafe (s.pinConfig n)) (s.pad n))
  (s.withPins fun p => { p with safe := p.safe ++ new }).log1 0x8003 srcHub (Config.packArg 0x8003 [cause])

/-- Causes of 0x8003. -/
def causeRequest : Nat := 0
def causeCommand : Nat := 1
def causeReset : Nat := 2
def causeHalt : Nat := 3

/-- `SAFE_REQ` is high. -/
def State.safeRequested (s : State) : Bool := bit s.pins.functions 24

/-- End the safe state of pins: they become held in the pads that they show. [DEDUCED, unsafe: log 68] -/
def State.endSafe (s : State) (ns : List Nat) : State :=
  let out := if s.safeRequested || s.sec.halted then [] else ns.filter s.isSafe
  let shown := out.map fun n => (n, s.pad n)
  s.withPins fun p => { p with
    safe := p.safe.filter (fun e => !out.contains e.1)
    held := p.held.filter (fun e => !out.contains e.1) ++ shown }

/-- Release held pins: each switches from what it shows to its configured state. -/
def State.endHold (s : State) (ns : List Nat) : State :=
  let out := ns.filter fun n => s.isHeld n && !s.isSafe n
  let shown := out.map fun n => (n, s.pad n)
  let s := s.withPins fun p => { p with held := (p.held.filter fun e => !out.contains e.1) }
  (shown.filter fun e => e.2 != s.padTarget e.1).foldl (fun s e => s.beginSwitch e.1 e.2) s

/-- Release pins: a safe one becomes held, a held one is configured. [DEDUCED, unsafe: log 68] -/
def State.releasePins (s : State) (ns : List Nat) : State :=
  let safe := ns.filter s.isSafe
  (s.endSafe safe).endHold (ns.filter fun n => !safe.contains n)

/-- A staged release releases every pin that a bridge pin lane uses (R421). -/
def State.releaseBridgePins (s : State) : State := s.releasePins (allPins.filter fun n => (s.bridgePin n).isSome)

/-- The module goes to sleep, and wakes (R420). [DEDUCED, unsafe: log 68] -/
def State.sleepPins (s : State) : State :=
  let shown := allPins.map fun n => s.padOfCode n (cfgSleep (s.pinConfig n)) (s.pad n)
  s.withPins fun p => { p with asleep := some shown, switching := [], patterns := List.replicate 8 0 }

def State.wakePins (s : State) : State :=
  let shown := allPins.map fun n => (n, s.pad n)
  s.withPins fun p => { p with asleep := none, held := shown }

/-- A pin mask of bank `b`. -/
def bankPins (b mask : Nat) : List Nat := ((List.range 16).filter fun i => bit mask i).map fun i => b * 16 + i

/-- PIN_RELEASE (R421, R422). -/
def execPinRelease (req bank value : Nat) (s : State) : Host.Outcome State Fault Refusal :=
  .next (s.writingValue req (keyOf 0x2733 (bank + 1)) value fun v s => (s.releasePins (bankPins bank v)).accept)

/-- SAFE_COMMAND (R422). -/
def execSafeCommand (req : Nat) (s : State) : Host.Outcome State Fault Refusal :=
  .next (s.writing req 0x273501 1 fun s => (s.applySafe allPins causeCommand).accept)

/-! ### Pattern units (R425 to R427) -/

def patternKey (u sub : Nat) : Nat := keyOf (0x2740 + u) sub

/-- Unit `u` is in match. -/
def State.patternMatch (s : State) (u : Nat) : Bool :=
  let mask := s.entry (patternKey u 2)
  s.pinWord (bits (s.entry (patternKey u 1)) 1 3) &&& mask == s.entry (patternKey u 3) &&& mask

def State.setPattern (s : State) (u v : Nat) : State := s.withPins fun p => { p with patterns := listSet p.patterns u v }

/-- A unit enabled or reconfigured: disarmed while in match, else armed. -/
def State.restartPattern (s : State) (u : Nat) : State :=
  s.setPattern u (if bit (s.entry (patternKey u 1)) 0 = false ∨ s.asleep = true then 0 else if s.patternMatch u then 1 else 2)

/-- Unit `u` fires (R426). [DEDUCED, unsafe: log 29] -/
def State.firePattern (s : State) (u : Nat) : State :=
  let s := ((s.setPattern u 1).raiseLine u).bump (patternKey u 4)
  if s.entry (patternKey u 4) = max32 then s.putEntry (patternKey u 6) 1 else s

/-- The units evaluate at an edge at which a filtered level changes, `before` being the state until then: a disarmed one is armed where
its match ends, and `PatternFirst` names the lowest of those that fire. -/
def State.evaluatePatterns (before s : State) : State :=
  let st (u : Nat) := s.pins.patterns.getD u 0
  let fired := (List.range 8).filter fun u => st u == 2 && s.patternMatch u
  let ended := (List.range 8).filter fun u => st u == 1 && before.patternMatch u && !s.patternMatch u
  let s := ended.foldl (fun s u => s.setPattern u 2) s
  let s := fired.foldl State.firePattern s
  match fired with
  | u :: _ => s.putEntry 0x274801 u
  | [] => s

/-! ### Input functions (R419) -/

/-- A privileged function reads the highest-numbered of its pins. -/
def privileged (f : Nat) : Bool := decide (16 ≤ f)

/-- Pins that name function `f`. -/
def State.funcPins (s : State) (f : Nat) : List Nat := allPins.filter fun n => cfgFunc (s.pinConfig n) == f

/-- The default pin of a function. -/
def State.funcPin (s : State) (f : Nat) : Option Nat := if privileged f then (s.funcPins f).getLast? else (s.funcPins f).head?

/-- Level that the function reads now. -/
def State.funcLevel (s : State) (f : Nat) : Bool := (s.funcPin f).elim false s.pinLevel

/-- A rising edge of a counter's level (R428). [DEDUCED, unsafe: log 29] -/
def State.countEdge (s : State) (j : Nat) : State :=
  let key := keyOf 0x2760 (j + 1)
  let s := s.bump key
  if s.entry key = max32 then s.putEntry 0x276101 (setBit (s.entry 0x276101) j true) else s

/-- Function `f` takes level `v` (Table 17-3); the wake functions act in Sleep.lean. -/
def State.feed (s : State) (f : Nat) (v : Bool) : State :=
  let s := s.withPins fun p => { p with functions := setBit p.functions f v }
  if f ≤ 8 then (if v && !s.asleep then s.countEdge (f - 1) else s)
  else if f ≤ 23 then s.log1 0x8005 srcHub 0
  else if f = 24 then (if v then s.applySafe allPins causeRequest else s)
  else if 32 ≤ f then (if v && !s.asleep then s.forceSampler (f - 32) else s)
  else s

/-- Function `f` keeps its level until the filter of its new pin has produced one (R419). -/
def State.isSettling (s : State) (f : Nat) : Bool := s.pins.settling.any fun e => e.1 == f

/-- Every function whose level has changed takes its new one. -/
def State.feedAll (s : State) : State :=
  (inFuncs.filter fun f => !s.isSettling f && s.funcLevel f != bit s.pins.functions f).foldl (fun t f => t.feed f (s.funcLevel f)) s

/-- Log 0x8002 for a function that two or more pins name. -/
def State.logInputs (s : State) (f : Nat) : State :=
  if f ≠ 0 ∧ 2 ≤ (s.funcPins f).length then s.log1 0x8002 srcHub (Config.packArg 0x8002 [f, (s.funcPin f).getD 0]) else s

/-- The pins that name function `f` have changed: it waits for the filter of a new default pin, and reads 0 without one.
[DEDUCED, unsafe: log 68] -/
def State.refeed (before s : State) (f : Nat) : State :=
  if f = 0 ∨ s.funcPin f = before.funcPin f then s
  else s.withPins fun p =>
    { p with settling := (if (s.funcPin f).isSome then [(f, 0)] else []) ++ p.settling.filter fun e => e.1 != f }

/-- Filtered levels have changed: functions, pattern units, trigger units. -/
def State.levelsChanged (before s : State) : State := (before.evaluatePatterns s.feedAll).unitEdge

/-- A PinConfig takes value `v` (R413, R423). -/
def State.configurePin (s : State) (n v : Nat) : State :=
  let was := cfgFunc (s.pinConfig n)
  let inverted := bit (s.pinConfig n) 23 != bit v 23
  let t := s.repin fun s => s.putEntry (pinConfigKey n) v
  let t := if was = cfgFunc v then t else ((s.refeed (s.refeed t was) (cfgFunc v)).logInputs was).logInputs (cfgFunc v)
  if inverted then s.levelsChanged t else t.feedAll

/-- Every PinConfig has taken its saved value (R413): the functions wait for the filters of their pins. [DEDUCED, unsafe: log 68] -/
def State.configureAll (s : State) : State :=
  let used := inFuncs.filter fun f => (s.funcPin f).isSome
  let s := used.foldl State.logInputs s
  s.withPins fun p =>
    { p with settling := used.map fun f => (f, 0), sharedLogged := p.sharedLogged.filter fun n => decide (2 ≤ (s.outputsOf n).length) }

/-- PIN_CONFIG_WRITE (R413). -/
def execPinConfigWrite (req pin value : Nat) (s : State) : Host.Outcome State Fault Refusal :=
  let key := pinConfigKey pin
  .next (s.writingValue req key value fun v s =>
    if decide (pin < 96) && pinConfigOk v then (s.configurePin pin v).accept else s.refuse req key 0x9011)

/-- The filter of a pin runs (R418). -/
def State.filterRuns (s : State) (n : Nat) : Bool := !s.asleep || [24, 25, 26].contains (cfgFunc (s.pinConfig n))

def State.pinFilter (s : State) (n : Nat) : PinFilter := Sparse.get (fun _ => PinFilter.fresh) s.pins.filters n

/-- The filter of pin `n` is `x`, and shows level `v`; the functions `settled`, which have waited for it, read it from now on. -/
def State.filterShows (s : State) (n : Nat) (x : PinFilter) (v : Bool) (settled : List Nat) : State :=
  let t := s.withPins fun p =>
    { p with
      filters := Sparse.set (fun _ => PinFilter.fresh) p.filters n x
      filtered := setBit p.filtered n v
      settling := p.settling.filter fun e => !settled.contains e.1 }
  if bit s.pins.filtered n = v ∧ settled = [] then t else s.levelsChanged t

/-- The filter of pin `n` has produced level `v`, before InvertIn (R418). -/
def State.pinInput (s : State) (n : Nat) (v : Bool) : State :=
  if 96 ≤ n ∨ s.filterRuns n = false then s
  else
    let settled := (s.pins.settling.filter fun e => s.funcPin e.1 == some n).map Prod.fst
    s.filterShows n { s.pinFilter n with last := v, run := 3 } v settled

/-- I/O clock edges of which the filter of pin `n` takes one as a sample, less one (R418): in STANDBY and DORMANT every edge of 32.768 kHz
is one. -/
def State.filterSkip (s : State) (n : Nat) : Nat := if s.asleep then 0 else 2 ^ (s.entry (keyOf 0x2702 (n / 16 + 1))) - 1

/-- The pad of pin `n` is at level `v` at one edge of its filter's clock (R418): the filtered level takes the value that three samples in a
row show. -/
def State.pinSample (s : State) (n : Nat) (v : Bool) : State :=
  let x := s.pinFilter n
  if 96 ≤ n ∨ s.filterRuns n = false then s
  else if x.skip ≠ 0 ∧ s.asleep = false then s.filterShows n { x with skip := x.skip - 1 } (bit s.pins.filtered n) []
  else
    let run := if v = x.last then min 3 (x.run + 1) else 1
    let count (e : Nat × Nat) : Nat × Nat := if s.funcPin e.1 = some n then (e.1, if v = x.last then e.2 + 1 else 1) else e
    let t := s.withPins fun p => { p with settling := p.settling.map count }
    t.filterShows n ⟨s.filterSkip n, v, run⟩ (if run = 3 then v else bit s.pins.filtered n)
      ((t.pins.settling.filter fun e => decide (3 ≤ e.2)).map Prod.fst)

/-- SAFE_REQ (R422): the level that the function reads changes, at its default pin. -/
def execSafeReq (level : Bool) (s : State) : Host.Outcome State Fault Refusal :=
  .next (match s.funcPin 24 with
    | some n => s.pinInput n (level != bit (s.pinConfig n) 23)
    | none => s)

/-- EDGE_COUNT_CLEAR (R428). -/
def execEdgeCountClear (req counter : Nat) (s : State) : Host.Outcome State Fault Refusal :=
  let key := keyOf 0x2760 (counter + 1)
  .next (s.writing req key 0 fun s =>
    ((s.putEntry key 0).putEntry 0x276101 (setBit (s.entry 0x276101) counter false)).accept)

/-! ### Entries -/

/-- `MgmtInputs`. -/
def State.mgmtInputs (s : State) : Nat := bits s.pins.functions 16 8

/-- Bits of a bank of which `p` holds. -/
def bankBits (b : Nat) (p : Nat → Bool) : Nat := ofBits 16 fun i => p (b * 16 + i)

/-- An I/O clock edge of 100 MHz: the probe multiplexers sample, software outputs are taken (R416), switching pins move on and the trigger
units evaluate. -/
def State.ioEdge (s : State) : State :=
  ((s.probeEdge.withPins fun p => { p with software := s.softwareOutputs }).switchEdge).unitEdge

end Sys2Proof.Machine
end

