-- ==== Sys2Proof/Machine/Flags.lean ====
section
/-! DEFINITION. The one unit of the module with a flag is the word cell: the results and the flag outputs of its 24 operations
(Table 9-3). The array's nibs, the cores and the hub have no flags. -/

namespace Sys2Proof.Machine

/-! ### Operations (Table 9-3) -/

/-- Rotate left. -/
def rotl32 (a : BitVec 32) (n : Nat) : BitVec 32 := a.rotateLeft n

/-- Number of ones. -/
def popCount (a : BitVec 32) : Nat := (List.range 32).foldl (fun n i => n + b2n (a.getLsbD i)) 0

/-- Result of operation `op` on A, B, the shift amount and the flag. -/
def wcResult (op : Nat) (a b : BitVec 32) (sh : Nat) (flag : Bool) : BitVec 32 :=
  match op with
  | 1 => a + b
  | 2 => a - b
  | 3 => a &&& b
  | 4 => a ||| b
  | 5 => a ^^^ b
  | 6 => ~~~a
  | 7 => a <<< sh
  | 8 => a >>> sh
  | 9 => a.sshiftRight sh
  | 10 => rotl32 a sh
  | 11 => a * b
  | 12 => BitVec.ofNat 32 (a.toNat * b.toNat / 2 ^ 32)
  | 13 => BitVec.ofInt 32 (a.toInt * b.toInt / 2 ^ 32)
  | 17 => if a.toNat < b.toNat then a else b
  | 18 => if a.toNat < b.toNat then b else a
  | 19 => if flag then b else a
  | 20 => BitVec.ofNat 32 (b2n (a.getLsbD sh))
  | 21 => BitVec.ofNat 32 (popCount a)
  | 22 => a + 1
  | _ => a

/-- Flag output of operation `op` with result `r`. -/
def wcFlag (op : Nat) (a b r : BitVec 32) (sh : Nat) (flag : Bool) : Bool :=
  match op with
  | 0 => a != 0
  | 1 => decide (2 ^ 32 ≤ a.toNat + b.toNat)
  | 2 => decide (a.toNat < b.toNat)
  | 7 => sh != 0 && a.getLsbD (32 - sh)
  | 8 => sh != 0 && a.getLsbD (sh - 1)
  | 9 => sh != 0 && a.getLsbD (sh - 1)
  | 14 => a == b
  | 15 => decide (a.toNat < b.toNat)
  | 16 => decide (a.toInt < b.toInt)
  | 17 => decide (a.toNat < b.toNat)
  | 18 => decide (a.toNat < b.toNat)
  | 19 => flag
  | 20 => a.getLsbD sh
  | 22 => decide (2 ^ 32 ≤ a.toNat + 1)
  | _ => r != 0

end Sys2Proof.Machine
end

