-- ==== Sys2Proof/Machine/WordCells.lean ====
section
/-! DEFINITION. The word cell (R217 to R223, R232, R233): its 24 operations, sequencing, latencies, ports and crossing
writes. A command WC_<op> is one edge of the cell's clock at which the entry that PC names has that operation. -/

namespace Sys2Proof.Machine

/-! ### Operations (Table 9-3); their results and flags stand in Flags.lean -/

/-- Multiplies are unit class 1, the other operations class 0 (Table 7-6). -/
def wcIsMul (op : Nat) : Bool := op == 11 || op == 12 || op == 13

/-! ### Fields of an entry (Table 9-2) -/

def wcOp (e : Nat) : Nat := bits e 43 5
def wcDst (e : Nat) : Nat := bits e 40 3
def wcSrcA (e : Nat) : Nat := bits e 36 4
def wcSrcB (e : Nat) : Nat := bits e 32 4
def wcSh (e : Nat) : Nat := bits e 27 5
def wcNext (e : Nat) : Nat := bits e 24 3
def wcAlt (e : Nat) : Nat := bits e 21 3
def wcCond (e : Nat) : Nat := bits e 18 3
def wcFW (e : Nat) : Bool := bit e 17
def wcXW (e : Nat) : Bool := bit e 16
def wcPW (e : Nat) : Bool := bit e 15
def wcPR (e : Nat) : Bool := bit e 14
def wcHW (e : Nat) : Bool := bit e 13

/-! ### Landing (R220, R232, R233) -/

/-- One result lands. -/
def WordCell.land (c : WordCell) (l : Landing) : WordCell :=
  let c := match l.dst with
    | 0 => { c with t0 := l.value }
    | 1 => { c with t1 := l.value }
    | 2 => { c with t2 := l.value }
    | 3 => { c with t3 := l.value }
    | 4 => { c with out := l.value }
    | _ => c
  match l.flag with
  | some f => { c with flag := f }
  | none => c

/-- Results whose edge has come land, the one executed later last (R220). -/
def WordCell.landDue (c : WordCell) : WordCell :=
  let d := (c.landings.filter fun l => l.left == 0).foldl WordCell.land c
  { d with landings := c.landings.filter fun l => l.left != 0 }

/-- The strobe is set at the second edge after each load (R232). -/
def WordCell.strobeDue (c : WordCell) : WordCell :=
  if c.sinceLoad.any fun n => decide (2 ≤ n) then { c with strobe := true, sinceLoad := c.sinceLoad.filter fun n => decide (n < 2) } else c

/-- Write crossing bytes to the staging register of the cell's cluster, oldest first (R233). -/
def State.stageBytes (s : State) (k : Nat) (bytes : List Nat) : State :=
  bytes.foldl (fun s b => s.withArr fun a =>
    let x := a.cluster (k / 8)
    a.setCluster (k / 8) { x with staging := BitVec.ofNat 64 (setBits x.staging.toNat (8 * (k % 8)) 8 b) }) s

/-- Crossing bytes of a cell whose edge has come; a burst spine that has delivered its last edge lets the rest land at the edges of
its FCLK (R230, R234). [DEDUCED, unsafe: log 73] -/
def Fabric.dueStagings (f : Fabric) (k : Nat) : List (Nat × Nat) :=
  let c := f.cell k
  if f.isBurst k && c.burst == 0 then c.stagings else c.stagings.filter fun b => b.2 == 0

/-- Land the crossing bytes that are due. -/
def State.landStagings (s : State) (k : Nat) : State :=
  let due := s.fabric.dueStagings k
  if due.isEmpty then s
  else (s.stageBytes k (due.map Prod.fst)).withFabric fun f =>
    f.setCell k { f.cell k with stagings := (f.cell k).stagings.drop due.length }

/-- Everything of earlier edges that has not landed by a command of its own lands before the next edge. -/
def State.landCell (s : State) (k : Nat) : State :=
  (s.landStagings k).withFabric fun f => f.putCell k ((f.cell k).landDue.strobeDue)

/-- One edge passes in the cell's pipelines. [DESIGN CHOICE, unsafe: log 72] -/
def WordCell.tickEdge (c : WordCell) : WordCell :=
  { c with landings := c.landings.map fun l => { l with left := l.left - 1 }
           stagings := c.stagings.map fun b => (b.1, b.2 - 1)
           sinceLoad := c.sinceLoad.map (· + 1)
           burst := c.burst - 1
           flagEdges := c.flagEdges + 1
           trail := (c.flag :: c.trail).take 18 }

/-! ### Inputs (R224, R227) -/

/-- What candidate `i` of a cell input delivers now, and its routing latency in edges. [DESIGN CHOICE, unsafe: log 72] -/
def State.candidate (s : State) (k i : Nat) : Wire × Nat :=
  let d := k / 16384
  let c := s.fabric.cell k
  if i < 8 then (s.fabric.cellWire (k / 8 * 8 + i), s.latency d 2)
  else if i = 8 then
    (⟨bits (s.arr.cluster (k / 8)).outSide.toNat (8 * (k % 8)) 8 + b2n c.strobe * 2 ^ 32, none, 0⟩, 0)
  else if i ≤ 12 then
    let w := s.fabric.clusterIn (k / 8) (i - 9)
    (w, s.latency d 3 + w.hops * s.latency d 4)
  else if i = 13 then (⟨s.bridgeWord k, none, 0⟩, 0)
  else if i = 14 then (⟨s.channelWord k, none, 0⟩, 0)
  else (⟨s.statusWord k, none, 0⟩, 0)

/-- Input `j` of a cell at this edge: the wire now, the edges of its route, and what its pad registers held before the first edge (the
initial output of the source cell). -/
def State.inputWire (s : State) (k j : Nat) : Wire × Nat :=
  match lowestBit (s.fabric.inputSelect k j) 16 with
  | none => (Wire.zero, 0)
  | some i =>
    let w := s.candidate k i
    (w.1, w.2 + if s.fabric.inputSync k j then 2 else 0)

/-- The 33-bit value that input `j` delivers at this edge. -/
def State.inputValue (s : State) (k j : Nat) : Nat :=
  let w := s.inputWire k j
  if w.2 = 0 then w.1.value
  else match ((s.fabric.cell k).pipes.getD j [])[w.2 - 1]? with
    | some v => v
    | none => match w.1.source with
      | some src => (s.fabric.initialCell src).wire
      | none => w.1.value

/-- The pad registers sample the wires at this edge, newest first. [DESIGN CHOICE, unsafe: log 72] -/
def State.samplePipes (s : State) (k : Nat) : List (List Nat) :=
  (List.range 4).map fun j =>
    let w := s.inputWire k j
    (w.1.value :: (s.fabric.cell k).pipes.getD j []).take w.2

/-! ### The port of a cell -/

/-- The action that a cell's port can take: cell 0 of a bridge cluster, the even cell of a channel pair. -/
inductive PortAction where
  | none
  | bridge (e : Nat) (b : BridgeBinding)
  | channel (q : Nat)
deriving DecidableEq, Repr

def State.portAction (s : State) (k : Nat) : PortAction :=
  match s.engineOf (k / 8) with
  | some (e, b) => if k % 8 = 0 then .bridge e b else .none
  | none => match s.portOf k with
    | some q => if k % 2 = 0 then .channel q else .none
    | none => .none

/-- The port can act for a push, or for a pop (R242, R245, R246). -/
def State.canPush (s : State) (k : Nat) : Bool := match s.portAction k with
  | .none => false
  | .bridge e b => decide ((s.engine e).tx.length < b.txDepth)
  | .channel q => !portToDesign (s.portFrame q) && s.portActs q

def State.canPop (s : State) (k : Nat) : Bool := match s.portAction k with
  | .none => false
  | .bridge e _ => decide (0 < (s.engine e).delivered)
  | .channel q => portToDesign (s.portFrame q) && s.portActs q

/-- Condition 6 and the hold: the port can take every action that the entry names; an entry that names none asks for either.
[DEDUCED, unsafe: log 73] -/
def State.portReady (s : State) (k e : Nat) : Bool :=
  if !wcPW e && !wcPR e then s.canPush k || s.canPop k
  else (!wcPW e || s.canPush k) && (!wcPR e || s.canPop k)

/-- The port action of an executed entry. [DEDUCED, unsafe: log 73] -/
def State.actPort (s : State) (k e : Nat) : State :=
  let push := wcPW e && s.canPush k
  let pop := wcPR e && s.canPop k
  match s.portAction k with
  | .none => s
  | .bridge n b =>
    let s := if push then s.pushBeat n b else s
    if pop then s.popBeat n b else s
  | .channel q => match s.portChannel q with
    | some (slot, c) => if push then s.portPush q k slot c else if pop then s.portPop q slot c else s
    | none => s

/-! ### One edge (R220 to R223) -/

/-- The value of a source: inputs, T0-T3, constants, OUT, zero. -/
def State.wcSource (s : State) (k src : Nat) : BitVec 32 :=
  let c := s.fabric.cell k
  match src with
  | 4 => c.t0
  | 5 => c.t1
  | 6 => c.t2
  | 7 => c.t3
  | 8 => BitVec.ofNat 32 (s.fabric.c0 k)
  | 9 => BitVec.ofNat 32 (s.fabric.c1 k)
  | 10 => c.out
  | 11 => 0
  | n => if n < 4 then BitVec.ofNat 32 (s.inputValue k n) else 0

/-- The condition of an entry, on the values before the edge (Table 9-4). -/
def State.wcCondition (s : State) (k e : Nat) : Bool :=
  let c := s.fabric.cell k
  match wcCond e with
  | 0 => true
  | 1 => c.flag
  | 2 => !c.flag
  | 3 => bit (s.inputValue k 0) 32
  | 4 => bit (s.inputValue k 1) 32
  | 5 => c.strobe
  | 6 => s.portReady k e
  | _ => false

/-- The entry reads the crossing-out byte (R232). -/
def State.readsCrossing (s : State) (k e : Nat) : Bool :=
  let sel (src : Nat) : Bool := decide (src < 4) && lowestBit (s.fabric.inputSelect k src) 16 == some 8
  sel (wcSrcA e) || sel (wcSrcB e)

/-- What an executed entry leaves in its cell: PC, the result on its way, the crossing byte on its way, the strobe. -/
def State.wcEffect (s : State) (k e : Nat) : WordCell :=
  let c := s.fabric.cell k
  let a := s.wcSource k (wcSrcA e)
  let b := s.wcSource k (wcSrcB e)
  let r := wcResult (wcOp e) a b (wcSh e) c.flag
  let f := wcFlag (wcOp e) a b r (wcSh e) c.flag
  let nop := wcOp e = 23
  let new : Landing := ⟨wcDst e, r, if wcFW e then some f else none,
    s.latency (k / 16384) (b2n (wcIsMul (wcOp e)))⟩
  let t := c.tickEdge
  { t with
    pipes := s.samplePipes k
    pc := if s.wcCondition k e then wcNext e else wcAlt e
    landings := if nop then t.landings else t.landings ++ [new]
    stagings := if wcXW e && !decide nop then t.stagings ++ [(r.toNat % 256, s.latency (k / 16384) 7)] else t.stagings
    strobe := c.strobe && !s.readsCrossing k e }

/-- A cell of the fabric has an edge now: released, clocked, within its burst, and its clocks run (R228, R230, R234). -/
def State.cellRuns (s : State) (k : Nat) : Bool :=
  decide (k < s.dies * 16384) && !s.sec.halted && !s.fabricHeld (k / 16384) && s.fabric.stage (k / 256) == 3 && s.fabric.clocked k &&
    s.modeIn [.loaded, .run, .hold] && (!s.fabric.isBurst k || decide (0 < (s.fabric.cell k).burst))

/-- A held entry has no effect but the passing of the edge (R222). [DEDUCED, unsafe: log 73] -/
def State.holdCell (s : State) (k : Nat) : State :=
  let pipes := s.samplePipes k
  s.withFabric fun f => f.setCell k { (f.cell k).tickEdge with pipes := pipes }

/-- A multiply draws 6 word-cell tokens (R223). [DEDUCED, unsafe: log 73] -/
def State.drawMul (s : State) (k op : Nat) : State :=
  if wcIsMul op then s.withArr fun a =>
    a.setTile (k / 256) { a.tile (k / 256) with wcTokens := (a.tile (k / 256)).wcTokens + 6 }
  else s

/-- The entry executes. -/
def State.runEntry (s : State) (k e : Nat) : State :=
  let c := s.wcEffect k e
  (((s.actPort k e).withFabric fun f => f.setCell k c).drawMul k (wcOp e))

/-- The clock of the cell has an edge to give: on a spine sourced from the flag of a track, one for each rising edge of that flag
(R228). [DEDUCED, unsafe: log 73] -/
def Fabric.edgeDue (f : Fabric) (k : Nat) : Bool := match f.clockTrack k with
  | some i => decide ((f.cell k).flagEdges < f.risesOf (k / 256) i)
  | none => true

/-- One edge of cell `k` whose entry has operation `op`; a command that names another operation is no event.
[DESIGN CHOICE, unsafe: log 72] -/
def State.execCell (s : State) (op k : Nat) : State :=
  if !s.cellRuns k || !s.fabric.edgeDue k || wcOp (s.fabric.entry k (s.fabric.cell k).pc) != op then s
  else
    let s := s.landCell k
    let e := s.fabric.entry k (s.fabric.cell k).pc
    (if (wcPW e || wcPR e) && wcHW e && !s.portReady k e then s.holdCell k else s.runEntry k e).stretchTile (k / 256)

/-- WC_PASS (Table 9-3, Op 0). -/
def execWcPass (cell : Nat) (s : State) : Host.Outcome State Fault Refusal := .next (s.execCell 0 cell)

/-- WC_ADD (Table 9-3, Op 1). -/
def execWcAdd (cell : Nat) (s : State) : Host.Outcome State Fault Refusal := .next (s.execCell 1 cell)

/-- WC_SUB (Table 9-3, Op 2). -/
def execWcSub (cell : Nat) (s : State) : Host.Outcome State Fault Refusal := .next (s.execCell 2 cell)

/-- WC_AND (Table 9-3, Op 3). -/
def execWcAnd (cell : Nat) (s : State) : Host.Outcome State Fault Refusal := .next (s.execCell 3 cell)

/-- WC_OR (Table 9-3, Op 4). -/
def execWcOr (cell : Nat) (s : State) : Host.Outcome State Fault Refusal := .next (s.execCell 4 cell)

/-- WC_XOR (Table 9-3, Op 5). -/
def execWcXor (cell : Nat) (s : State) : Host.Outcome State Fault Refusal := .next (s.execCell 5 cell)

/-- WC_NOT (Table 9-3, Op 6). -/
def execWcNot (cell : Nat) (s : State) : Host.Outcome State Fault Refusal := .next (s.execCell 6 cell)

/-- WC_SHL (Table 9-3, Op 7). -/
def execWcShl (cell : Nat) (s : State) : Host.Outcome State Fault Refusal := .next (s.execCell 7 cell)

/-- WC_SHR (Table 9-3, Op 8). -/
def execWcShr (cell : Nat) (s : State) : Host.Outcome State Fault Refusal := .next (s.execCell 8 cell)

/-- WC_SAR (Table 9-3, Op 9). -/
def execWcSar (cell : Nat) (s : State) : Host.Outcome State Fault Refusal := .next (s.execCell 9 cell)

/-- WC_ROL (Table 9-3, Op 10). -/
def execWcRol (cell : Nat) (s : State) : Host.Outcome State Fault Refusal := .next (s.execCell 10 cell)

/-- WC_MULLO (Table 9-3, Op 11). -/
def execWcMullo (cell : Nat) (s : State) : Host.Outcome State Fault Refusal := .next (s.execCell 11 cell)

/-- WC_MULHU (Table 9-3, Op 12). -/
def execWcMulhu (cell : Nat) (s : State) : Host.Outcome State Fault Refusal := .next (s.execCell 12 cell)

/-- WC_MULHS (Table 9-3, Op 13). -/
def execWcMulhs (cell : Nat) (s : State) : Host.Outcome State Fault Refusal := .next (s.execCell 13 cell)

/-- WC_EQ (Table 9-3, Op 14). -/
def execWcEq (cell : Nat) (s : State) : Host.Outcome State Fault Refusal := .next (s.execCell 14 cell)

/-- WC_LTU (Table 9-3, Op 15). -/
def execWcLtu (cell : Nat) (s : State) : Host.Outcome State Fault Refusal := .next (s.execCell 15 cell)

/-- WC_LTS (Table 9-3, Op 16). -/
def execWcLts (cell : Nat) (s : State) : Host.Outcome State Fault Refusal := .next (s.execCell 16 cell)

/-- WC_MINU (Table 9-3, Op 17). -/
def execWcMinu (cell : Nat) (s : State) : Host.Outcome State Fault Refusal := .next (s.execCell 17 cell)

/-- WC_MAXU (Table 9-3, Op 18). -/
def execWcMaxu (cell : Nat) (s : State) : Host.Outcome State Fault Refusal := .next (s.execCell 18 cell)

/-- WC_SEL (Table 9-3, Op 19). -/
def execWcSel (cell : Nat) (s : State) : Host.Outcome State Fault Refusal := .next (s.execCell 19 cell)

/-- WC_BIT (Table 9-3, Op 20). -/
def execWcBit (cell : Nat) (s : State) : Host.Outcome State Fault Refusal := .next (s.execCell 20 cell)

/-- WC_POP (Table 9-3, Op 21). -/
def execWcPop (cell : Nat) (s : State) : Host.Outcome State Fault Refusal := .next (s.execCell 21 cell)

/-- WC_INC (Table 9-3, Op 22). -/
def execWcInc (cell : Nat) (s : State) : Host.Outcome State Fault Refusal := .next (s.execCell 22 cell)

/-- WC_NOP (Table 9-3, Op 23). -/
def execWcNop (cell : Nat) (s : State) : Host.Outcome State Fault Refusal := .next (s.execCell 23 cell)

/-! ### Events of a cell -/

/-- The cell exists and is released. -/
def State.cellLive (s : State) (k : Nat) : Bool :=
  decide (k < s.dies * 16384) && !s.sec.halted && s.fabric.stage (k / 256) == 3

/-- WC_RESULT_LAND (R220): results whose edge has come land. [DESIGN CHOICE, unsafe: log 72] -/
def execWcResultLand (cell : Nat) (s : State) : Host.Outcome State Fault Refusal :=
  .next (if s.cellLive cell then s.withFabric fun f => f.putCell cell (f.cell cell).landDue else s)

/-- CROSSING_STROBE_SET (R232): the second edge after the load has passed. -/
def execCrossingStrobeSet (cell : Nat) (s : State) : Host.Outcome State Fault Refusal :=
  .next (if s.cellLive cell then s.withFabric fun f => f.setCell cell (f.cell cell).strobeDue else s)

/-- STAGING_BYTE_WRITE (R233). -/
def execStagingByteWrite (cell : Nat) (s : State) : Host.Outcome State Fault Refusal :=
  .next (if s.cellLive cell then s.landStagings cell else s)

end Sys2Proof.Machine
end

