-- ==== Sys2Proof/Machine/Crossing.lean ====
section
/-! DEFINITION. The crossing between the nibs and the word cells (R76, R125, R126, R230, R232, R233): the sample of the staging
registers, and the load of the word-cell side of the crossing-out and probe latches. -/

namespace Sys2Proof.Machine

/-- Keys of the clusters that the array or the fabric uses. -/
def State.crossingClusters (s : State) : List Nat :=
  ((s.arr.clusters.map Prod.fst) ++ s.fabric.clusterFrames.map Prod.fst).eraseDups

/-- Sample every staging register into its hold register (R126). -/
def State.sampleHold (s : State) : State :=
  (s.withArr fun a => s.crossingClusters.foldl (fun a k =>
    a.setCluster k { a.cluster k with hold := (a.cluster k).staging }) a).withSched fun c => { c with sampled := true }

/-- The sample at P0 of step L − 4, once in a cycle: what has reached a staging register before it lands first (R126, R233). -/
def State.sampleStaging (s : State) : State := (s.fabric.cellKeys.foldl State.landStagings s).sampleHold

/-- The crossing at a boundary: outputs and probe lanes latched, the hold register moved in (R125, R126). -/
def State.crossBoundary (s : State) : State :=
  s.withArr fun a =>
    let a := (s.crossingClusters).foldl (fun a k =>
      a.setCluster k { a.cluster k with outLatch := (a.cluster k).crossOut, crossIn := (a.cluster k).hold }) a
    (a.tiles.map Prod.fst).foldl (fun a u => a.setTile u { a.tile u with latch := (a.tile u).lanes }) a

/-- A clocked cell out of reset sees the load of its word-cell side: its strobe follows (R232), and a burst begins (R230). -/
def Fabric.cellLoad (f : Fabric) (k : Nat) : Fabric :=
  let c := f.cell k
  if f.clocked k && f.stage (k / 256) == 3 then
    f.setCell k { c with sinceLoad := if c.sinceLoad.contains 0 then c.sinceLoad else 0 :: c.sinceLoad, burst := f.burstOf k }
  else f

/-- What the trigger units see until the second I/O clock edge after a load (R353). -/
def State.keepSeen (s : State) : State :=
  let sides := s.arr.tiles.map fun (u : Nat × Tile) => (u.1, u.2.side)
  { s with trig := { s.trig with path := { s.trig.path with age := 0, oldCycle := s.trig.loadedCycle, oldSides := sides } } }

/-- The word-cell side of the crossing-out and probe latches is loaded (R125); counts between two loads start afresh (R244,
R247). -/
def State.loadWordSide (s : State) : State :=
  let s := s.keepSeen
  let s := s.withArr fun a =>
    let a := (s.crossingClusters).foldl (fun a k => a.setCluster k { a.cluster k with outSide := (a.cluster k).outLatch }) a
    (a.tiles.map Prod.fst).foldl (fun a u => a.setTile u { a.tile u with side := (a.tile u).latch }) a
  let s := s.withFabric fun f =>
    let f := f.cellKeys.foldl Fabric.cellLoad f
    { f with engines := f.engines.map fun (e : BridgeEngine) => { e with pushed := 0 }
             ports := f.ports.map fun (p : Nat × ChannelPort) => (p.1, { p.2 with completed := 0 }) }
  let s := s.withFabric (fun f => { f with ports := f.ports.filter fun p => p.2 != ChannelPort.idle }) |>.withSched
    fun c => { c with latchDue := none }
  s.loadTriggers

end Sys2Proof.Machine
end

