-- ==== Sys2Proof/Machine/Stalls.lean ====
section
/-! DEFINITION. The decisions of the wait slots and the stalls that they raise (R100, R117, R119, R122, R149, R153): what a port checks
at the decision point of a slot, and the slot before which the array freezes. -/

namespace Sys2Proof.Machine

/-- Marks of `Sched.groups`: an ENQ group, or a WAIT slot, of a queue processed in the open step. [DEDUCED, unsafe: log 24] -/
def enqMark (key : Nat) : Nat := key * 2
def waitMark (key : Nat) : Nat := key * 2 + 1

/-- The array is frozen before P0 of its step (R117). -/
def Sched.frozenHere (c : Sched) : Bool := !c.opened && c.stalls.any fun st => st.cycle == c.cycle && st.slot == c.step

/-- The step that the array stands at, in absolute steps. -/
def State.now (s : State) : Nat := s.arr.sched.cycle * s.L + s.arr.sched.step

/-- Freeze the array before a slot (R100, R117, R149); a domain member tells its peers (R130). -/
def State.addStall (s : State) (st : Stall) : State :=
  let before (x : Stall) : Bool := decide (x.cycle < st.cycle ∨ (x.cycle = st.cycle ∧ x.slot ≤ st.slot))
  let same (x : Stall) : Bool := x.cycle == st.cycle && x.slot == st.slot
  let own := !(st.reads.isEmpty && st.writes.isEmpty)
  let s := if s.inDomain && own && !s.arr.sched.stalls.any fun x => same x && !(x.reads.isEmpty && x.writes.isEmpty) then
    { s with notices := s.notices ++ [.stall st.cycle st.slot] } else s
  let join (x : Stall) : Stall :=
    if same x then ⟨x.cycle, x.slot, (x.reads ++ st.reads).eraseDups, (x.writes ++ st.writes).eraseDups, x.peers + st.peers⟩ else x
  let add (l : List Stall) : List Stall :=
    if l.any same then l.map join else l.filter before ++ [st] ++ l.filter fun x => !before x
  s.withSched fun c => { c with stalls := add c.stalls }

/-- How many of the absolute steps from `now` to `w`, w excluded, lie at step `x` of their cycle. -/
def occurrences (L now x w : Nat) : Nat :=
  let below (y : Nat) : Nat := if y ≤ x then 0 else (y - x + L - 1) / L
  below w - below now

/-- The entry that the WAITs of slot `w` (absolute) will read, counted from the head: the wait slots of the queue between now
and then remove one each (R117). -/
def State.readIndex (s : State) (key w : Nat) : Nat :=
  let c := s.arr.sched
  let waits := (s.arr.queue key).calendar.waits
  let n := waits.foldl (fun n x => n + occurrences s.L s.now x w) 0
  if c.groups.contains (waitMark key) && waits.contains c.step && decide (s.now < w) then n - 1 else n

/-- Keys of the read queues whose answer for slot `w` (absolute) is absent now. -/
def State.absentAt (s : State) (w : Nat) : List Nat :=
  (s.arr.queues.filter fun e => e.2.calendar.waits.contains (w % s.L) &&
    match e.2.entries[s.readIndex e.1 w]? with
    | some x => !x.present
    | none => true).map Prod.fst

/-- Keys of the write queues that stall (R149) and stop no earlier slot already. -/
def State.overfull (s : State) : List Nat :=
  (s.arr.queues.filter fun e => e.2.stalled && !s.arr.sched.stalls.any fun st => st.writes.contains e.1).map Prod.fst

/-- Count the absent answers of slot `w`, each once, whatever is decided afresh later (R153). [DEDUCED, unsafe: log 25] -/
def State.countLate (s : State) (w : Nat) (keys : List Nat) : State :=
  let fresh := keys.filter fun k => !s.arr.sched.lateCounted.contains (k, w)
  if fresh.isEmpty then s
  else (s.bumpBy 0x2E1001 fresh.length).withSched fun c => { c with lateCounted := c.lateCounted ++ fresh.map fun k => (k, w) }

/-- Decide wait slot `w` (absolute): count the absent answers and raise the stall (R117, R149, R153). [DEDUCED, unsafe: log 25] -/
def State.decideSlot (s : State) (w : Nat) : State :=
  let reads := s.absentAt w
  let writes := s.overfull
  let s := (s.countLate w reads).withSched fun c => { c with decided := c.decided ++ [(w / s.L, w % s.L)] }
  if reads.isEmpty && writes.isEmpty then s else s.addStall ⟨w / s.L, w % s.L, reads, writes, 0⟩

/-- P0 of the current step is the decision point of the slot D steps ahead (R117): every slot of the schedule, step 0, 16, 32 and so on,
is decided there, whether or not it holds a WAIT (R149), unless it has been decided already. -/
def State.decideDue (s : State) : State :=
  let w := s.now + s.lead
  if w % 16 = 0 ∧ s.arr.sched.decided.contains (w / s.L, w % s.L) = false then s.decideSlot w else s

end Sys2Proof.Machine
end

