-- ==== Sys2Proof/Machine/Interconnect.lean ====
section
/-! DEFINITION. The static interconnect and the end of a step (R57, R58, R70 to R76, R107 to R115): routes and their
claims, deliveries in P3, collisions, and what the array logs when a step has ended. -/

namespace Sys2Proof.Machine

/-! ### Paths (Table 5-2, Table 5-3, Table 5-5) -/

/-- A bundle's bit of the half-width mask (R113, R338). -/
def State.halfWidth (s : State) (b : Nat) : Bool := match s.bundles[b]? with
  | some x => x.half
  | none => false

/-- Extra steps of a bundle at half width in the travel table that the image was compiled against (R112, R180). -/
def State.extra (s : State) (b : Nat) : Nat := if s.image.any fun i => bit i.travelTable b then 4 else 0

/-- Absolute difference. -/
def absDiff (a b : Nat) : Nat := (a - b) + (b - a)

/-- Links between two tiles on a shortest path of the die network. -/
def tileHops (a b : Nat) : Nat := absDiff (tileX a) (tileX b) + absDiff (tileY a) (tileY b)

/-- Edge distance of a tile to the east or west edge (Table 5-3). -/
def ringDistance (east : Bool) (t : Nat) : Nat := if east then 7 - tileX t else tileX t

/-- Edge distance of a tile to the hub bundle's edge (Table 5-3). -/
def hubDistance (t : Nat) : Nat := 7 - tileY t

/-- Steps that the degraded hub bundles of a hub relay add (R112): within one E-die the path uses one bundle. -/
def State.relayExtra (s : State) (src dst : Nat) : Nat :=
  if src = dst then s.extra (8 + src) else s.extra (8 + src) + s.extra (8 + dst)

/-- Λ of a domain lane. -/
def State.laneLatency (s : State) (l : Nat) : Nat := match s.image with
  | some i => ((i.domainLanes.find? fun d => d.lane == l).map DomainLane.latency).getD 0
  | none => 0

/-- Travel time of a route (Table 5-2, R112); of a route out over a lane, the steps to its lane bit-slot plus one. -/
def State.travel (s : State) (r : Route) : Nat :=
  let g := s.part.grade
  let a := nibTile r.src
  let b := nibTile r.dst
  match r.cls with
  | .tileSwitch => 3
  | .dieNetwork => 6 + tileHops a b
  | .ringBundle =>
    let e := isEast g (nibDie r.src) (nibDie r.dst)
    12 + ringDistance e a + ringDistance (!e) b + s.extra (ringBundle g (nibDie r.src) (nibDie r.dst))
  | .hubRelay => 30 + hubDistance a + hubDistance b + s.relayExtra (nibDie r.src) (nibDie r.dst)
  | .laneOut => 49 + s.extra (8 + nibDie r.src)
  | .laneIn => 96 + s.laneLatency r.lane + r.farExtra + s.extra (8 + nibDie r.dst)

/-- A resource that a route claims (Table 5-5): the unit that finds a collision there, the kind of Table 21-10, the first location
of the resource, its bit-slots per step (Table 5-6), the direction on a bundle, and the step after the source step. -/
structure PlannedClaim where
  finder : Nat
  kind : Nat
  base : Nat
  slots : Nat
  forward : Bool
  after : Nat
deriving DecidableEq, Repr

/-- Directions of travel out of a tile (Table 21-10), and the tile one link further. -/
def north : Nat := 0
def east : Nat := 1
def south : Nat := 2
def west : Nat := 3
def stepTile (t dir k : Nat) : Nat :=
  if dir = north then t - 8 * k else if dir = east then t + k else if dir = south then t + 8 * k else t - k

/-- An injection (kind 0) or ejection (kind 6) channel of a tile. -/
def tileClaim (die kind tile after : Nat) : PlannedClaim := ⟨die, kind, tile * 256, 256, true, after⟩

/-- The `n` links of a straight path from tile `t`, the first at step `first`. -/
def linkClaims (die t dir n first : Nat) : List PlannedClaim :=
  (List.range n).map fun k => ⟨die, 1, (stepTile t dir k * 4 + dir) * 256, 256, true, first + k⟩

/-- The edge channel (0 west, 1 east, 2 hub) of a die. -/
def edgeClaim (die edge after : Nat) : PlannedClaim := ⟨die, 2, edge * 8192, 8192, true, after⟩

/-- A bit-slot of a bundle. -/
def bundleClaim (die bundle : Nat) (forward : Bool) (after : Nat) : PlannedClaim := ⟨die, 3, bundle * 8192, 8192, forward, after⟩

/-- From the injection of a tile to the hub bundle of its die. -/
def upClaims (die tile : Nat) : List PlannedClaim :=
  let d := hubDistance tile
  [tileClaim die 0 tile 1] ++ linkClaims die tile south d 3 ++ [edgeClaim die 2 (3 + d), bundleClaim die (8 + die) true (4 + d)]

/-- From the downward hub bundle of a die, claimed at `after`, to the ejection of a tile; a degraded bundle moves what follows it by
`x` steps. -/
def downClaims (die tile after x : Nat) : List PlannedClaim :=
  let d := hubDistance tile
  [bundleClaim die (8 + die) false after, edgeClaim die 2 (after + 4 + x)]
    ++ linkClaims die (56 + tileX tile) north d (after + 5 + x) ++ [tileClaim die 6 tile (after + 5 + d + x)]

/-- The claimed resources of a route in the order of Table 5-5. The links of a die-network route lie on any shortest path: the image
names them, with their slots. -/
def State.claimPlan (s : State) (r : Route) : List PlannedClaim :=
  let g := s.part.grade
  let src := nibDie r.src
  let dst := nibDie r.dst
  let a := nibTile r.src
  let b := nibTile r.dst
  match r.cls with
  | .tileSwitch => []
  | .dieNetwork =>
    let h := tileHops a b
    [tileClaim src 0 a 1] ++ ((List.range h).map fun k => ⟨src, 1, 0, 65536, true, 3 + k⟩) ++ [tileClaim src 6 b (3 + h)]
  | .ringBundle =>
    let e := isEast g src dst
    let ds := ringDistance e a
    let dd := ringDistance (!e) b
    let x := s.extra (ringBundle g src dst)
    [tileClaim src 0 a 1] ++ linkClaims src a (if e then east else west) ds 3
      ++ [edgeClaim src (b2n e) (3 + ds), bundleClaim src (ringBundle g src dst) e (4 + ds), edgeClaim dst (b2n !e) (8 + ds + x)]
      ++ linkClaims dst (tileY b * 8 + if e then 0 else 7) (if e then east else west) dd (9 + ds + x)
      ++ [tileClaim dst 6 b (9 + ds + dd + x)]
  | .hubRelay =>
    let ds := hubDistance a
    let u := s.extra (8 + src)
    let v := if src = dst then 0 else s.extra (8 + dst)
    upClaims src a ++ [⟨hubUnit, 4, dst * 8192, 8192, true, 21 + ds + u⟩] ++ downClaims dst b (22 + ds + u) v
  | .laneOut => upClaims src a ++ [⟨hubUnit, 5, r.lane * 64, 64, true, 48 + s.extra (8 + src)⟩]
  | .laneIn => downClaims dst b (88 + s.laneLatency r.lane - hubDistance b + r.farExtra) (s.extra (8 + dst))

/-- Output bit that the crossbar and the routes see of a nib in the open step: 0 for a nib that executed nothing (R75). -/
def NibArray.outputOf (a : NibArray) (n : Nat) : Bool := a.sched.done.contains n && (a.nib n).out

/-- A flight reaches the same port of a nib in the same step: the one source that the port's entry names has it (R70, R114). -/
def Flight.sharesPort (x y : Flight) : Bool :=
  x.nib == y.nib && x.port == y.port && x.cycle == y.cycle && x.step == y.step && x.laneOut == none && y.laneOut == none

/-- The flight of a route whose value starts in the open step; a value of another module is free until it comes over its lane.
[DEDUCED, unsafe: log 23] [DESIGN CHOICE, safe: log 30] -/
def State.newFlight (s : State) (r : Route) : Flight :=
  let c := s.arr.sched
  let at' := r.step + s.travel r - 1
  let value := if r.cls = .laneIn then (Config.freeWord s.free).getLsbD 0 else s.arr.outputOf r.src
  ⟨s.arr.flightCount, r.dst, r.rx, r.port, c.cycle + at' / s.L, at' % s.L, value,
    if r.cls = .laneOut then some r.lane else none, if r.cls = .laneIn then some r.lane else none⟩

/-- The claims of a route whose value starts in the open step. -/
def State.newClaims (s : State) (r : Route) : List Claim :=
  ((s.claimPlan r).zip r.slots).map fun p =>
    let at' := r.step + p.1.after
    ⟨p.1.finder, p.1.kind, p.1.base + p.2 % p.1.slots, p.1.forward, s.arr.sched.cycle + at' / s.L, at' % s.L, s.arr.flightCount⟩

/-- Start the value of one route on its way (R107, R110). [DEDUCED, unsafe: log 23] [DESIGN CHOICE, safe: log 14] -/
def State.launch (s : State) (r : Route) : State :=
  let f := s.newFlight r
  if s.arr.flights.any f.sharesPort then s
  else
    let cl := s.newClaims r
    let s := if r.cls = .laneIn then { s with free := s.free + 1 } else s
    s.withArr fun a => { a with flights := a.flights ++ [f], claims := a.claims ++ cl, flightCount := a.flightCount + 1 }

/-- Start every route whose source step is the open step. -/
def State.launchAll (s : State) : State :=
  (s.arr.routes.filter fun r => r.step == s.arr.sched.step).foldl State.launch s

/-! ### Claims of the open step (R114, R115) -/

def NibArray.flightValue (a : NibArray) (id : Nat) : Bool := a.flights.any fun f => f.id == id && f.value

/-- The bundle of a claim of kind 3, and its data lane: 16 bit-slots a lane (Table 5-6). -/
def Claim.bundle (c : Claim) : Nat := c.location / 8192
def Claim.lane (c : Claim) : Nat := c.location % 8192 / 16

/-- A bundle position whose lane is lost, or that a bundle at half width does not have, reads 0 (R112, R337). -/
def State.deadSlot (s : State) (c : Claim) : Bool :=
  c.kind == 3 && match s.bundles[c.bundle]? with
    | some b => b.dead.contains c.lane || decide (b.lanes.length ≤ c.lane)
    | none => false

/-- The data lane of the claimed bit-slot carries the other direction (R111): what comes out of it the spec does not state. -/
def State.wrongWay (s : State) (c : Claim) : Bool :=
  c.kind == 3 && match s.bundles[c.bundle]? with
    | some b => b.directions[c.lane]?.any fun d => d != c.forward
    | none => false

/-- Two claims name one slot: bundle, relay and lane slots are numbered for the whole module. -/
def Claim.same (x y : Claim) : Bool :=
  x.kind == y.kind && x.location == y.location && ((3 ≤ x.kind && x.kind ≤ 5) || x.finder == y.finder)

/-- What the slot of a claim carries on, among the claims `due` in the step (R115). A claim against the direction of its lane gives a
free value. [DESIGN CHOICE, safe: log 30] -/
def State.carried (s : State) (due : List Claim) (c : Claim) : Bool :=
  if s.deadSlot c then false
  else if s.wrongWay c then (Config.freeWord (s.free + c.flight)).getLsbD 0
  else due.any fun d => d.same c && s.arr.flightValue d.flight

/-- Carry every value through the slots it claims in the open step: values that meet are ORed, and the meeting is a
collision (R115). -/
def State.resolveClaims (s : State) : State :=
  let k := s.arr.sched
  let due := s.arr.claims.filter fun c => c.cycle == k.cycle && c.step == k.step
  let meet := due.filter fun c => due.any fun d => d.same c && d.flight != c.flight
  let r := s.withArr fun a =>
    { a with
      claims := a.claims.filter fun c => !(c.cycle == k.cycle && c.step == k.step)
      flights := a.flights.map fun f => match due.find? fun c => c.flight == f.id with
        | some c => { f with value := s.carried due c }
        | none => f
      cyclog := { a.cyclog with collisions := a.cyclog.collisions ++ meet.map fun c => ⟨c.finder, c.kind, c.location, 0⟩ } }
  if due.any s.wrongWay then { r with free := r.free + s.arr.flightCount } else r

/-! ### Deliveries in P3 -/

/-- The deliveries of one route word of a cluster (R72, R75): destinations 0-127 are port p of nib n at 2n + p, 128-191 the
crossing-out bits; sources 64-127 the crossing-in bits. [DEDUCED, unsafe: log 23] -/
def NibArray.routeDeliveries (a : NibArray) (cluster w : Nat) (word : BitVec 64) : List Delivery :=
  (List.range 4).filterMap fun e =>
    let r := bits word.toNat (16 * e) 16
    if bit r 15 then
      let src := bits r 8 7
      let v := if src < 64 then a.outputOf (cluster * 64 + src) else (a.cluster cluster).crossIn.getLsbD (src - 64)
      let dest := 4 * w + e
      if dest < 128 then some (.receive (cluster * 64 + dest / 2) (bits r 0 8) v)
      else some (.crossOut cluster (dest - 128) v)
    else none

/-- Die, step, cluster within the die and route word of a route-word key. -/
def routeKeyParts (k : Nat) : Nat × Nat × Nat × Nat :=
  (k / 48 / 2048 / 4096, k / 48 / 2048 % 4096, k / 48 % 2048, k % 48)

/-- The route words stored for the open step. -/
def State.openRouteWords (s : State) : List (Nat × TierWord) :=
  s.arr.routeWords.filter fun e => (routeKeyParts e.1).2.1 == s.arr.sched.step

/-- Crossbar deliveries of the open step; a route word that fails its parity delivers nothing (R73). -/
def State.crossbar (s : State) : List Delivery :=
  s.openRouteWords.flatMap fun e =>
    let p := routeKeyParts e.1
    if e.2.ok then s.arr.routeDeliveries (p.1 * 2048 + p.2.2.1) p.2.2.2 e.2.word else []

/-- Log and stop for each route word of the open step that fails its parity (R73). [DEDUCED, unsafe: log 23] -/
def State.routeParity (s : State) : State :=
  (s.openRouteWords.filter fun e => !e.2.ok).foldl (fun t e =>
    let p := routeKeyParts e.1
    (t.logDetail 0x4106 .stop (srcDie p.1) (2 ^ 31 + p.2.2.2 * 2 ^ 11 + p.2.2.1) t.arr.sched.step 0).raiseStopAt
      7 t.arr.sched.cycle t.arr.sched.step p.1 0x4106) s

/-- The lane is pinned: values cross it (R107, R131). -/
def State.lanePinned (s : State) (l : Nat) : Bool := s.lanes[l]?.any fun x => x.state == 4

/-- The flight ends in the open step. -/
def Sched.lands (c : Sched) (f : Flight) : Bool := f.cycle == c.cycle && f.step == c.step

/-- A value that was to cross a lane is not delivered once the lane is lost (R131). -/
def State.crossed (s : State) (f : Flight) : Bool := f.laneIn.all s.lanePinned

/-- Flights whose step is the open step: deliveries of those that stay in the module or have come into it. -/
def State.dueFlights (s : State) : List Delivery :=
  (s.arr.flights.filter fun f => s.arr.sched.lands f && f.laneOut == none && s.crossed f).map fun f => .receive f.nib f.rx f.value

/-- Values that leave the module in the open step over a lane that is pinned. -/
def State.leaving (s : State) : List (Nat × Nat × Nat × Bool) :=
  (s.arr.flights.filter s.arr.sched.lands).filterMap fun f =>
    f.laneOut.bind fun l => if s.lanePinned l then some (l, f.nib, f.rx, f.value) else none

/-- Remove the flights of the open step. -/
def State.landFlights (s : State) : State :=
  s.withArr fun a =>
    { a with flights := a.flights.filter fun f => !(f.cycle == a.sched.cycle && f.step == a.sched.step) }

/-- Write one delivery (R61, R65, R71, R115). `seen` holds the receive addresses already reached in this step. -/
def NibArray.deliver (a : NibArray) (seen : List (Nat × Nat)) : Delivery → NibArray × List (Nat × Nat)
  | .receive n rx v =>
    let x := a.nib n
    if seen.contains (n, rx) then
      ({ a.setNib n { x with data := bvSet x.data (768 + rx) (x.data.getLsbD (768 + rx) || v) } with
          cyclog := { a.cyclog with collisions := a.cyclog.collisions ++ [⟨nibDie n, 7, nibLocal n, rx⟩] } }, seen)
    else
      (a.setNib n { x with data := bvSet x.data (768 + rx) v, valid := bvSet x.valid rx true }, (n, rx) :: seen)
  | .crossOut c b v =>
    let x := a.cluster c
    (a.setCluster c { x with crossOut := bvSet x.crossOut b v }, seen)

/-- Write every delivery of P3, in order. -/
def NibArray.deliverAll (a : NibArray) (seen : List (Nat × Nat)) : List Delivery → NibArray
  | [] => a
  | d :: ds => let r := a.deliver seen d; NibArray.deliverAll r.1 r.2 ds

/-! ### What a step logs when it has ended -/

/-- Location number of a collision (R115). -/
def Collision.number (c : Collision) : Nat := c.kind * 131072 + c.location

/-- The collision of a unit with the lowest location number. -/
def lowestCollision (u : Nat) (l : List Collision) : Option Collision :=
  (l.filter fun c => c.finder == u).foldl (fun m c => match m with
    | none => some c
    | some b => if c.number < b.number then some c else some b) none

/-- Log the first collision of each unit in this cycle (R115). [DEDUCED, unsafe: log 21] -/
def State.logCollisions (s : State) : State :=
  let units := (List.range 9).filter fun u =>
    !s.arr.cyclog.collisionUnits.contains u && (lowestCollision u s.arr.cyclog.collisions).isSome
  let st := s.arr.sched.step
  let s' := units.foldl (fun t u => match lowestCollision u s.arr.cyclog.collisions with
    | some c => t.logDetail 0x4103 .stop (unitSource u) (c.kind * 2 ^ 29 + c.location * 2 ^ 12 + st) c.rx 0
    | none => t) s
  let s' := if s.arr.cyclog.collisions.isEmpty then s' else
    (s.arr.cyclog.collisions.map Collision.finder).eraseDups.foldl
      (fun t u => t.raiseStopAt 7 t.arr.sched.cycle st u 0x4103) s'
  s'.withArr fun a => { a with cyclog :=
    { a.cyclog with collisions := [], collisionUnits := a.cyclog.collisionUnits ++ units } }

/-- The early read of a die with the lowest nib identifier. -/
def lowestEarly (d : Nat) (l : List EarlyRead) : Option EarlyRead :=
  (l.filter fun c => c.die == d).foldl (fun m c => match m with
    | none => some c
    | some b => if c.nib < b.nib then some c else some b) none

/-- Log the first read before arrival of each die in this cycle, and stop (R62). [DEDUCED, unsafe: log 21] -/
def State.logEarly (s : State) : State :=
  let dies := (List.range 8).filter fun d =>
    !s.arr.cyclog.earlyDies.contains d && (lowestEarly d s.arr.cyclog.early).isSome
  let st := s.arr.sched.step
  let s' := dies.foldl (fun t d => match lowestEarly d s.arr.cyclog.early with
    | some e => t.logDetail 0x4105 .stop (srcDie d) (e.operand * 2 ^ 25 + e.rx * 2 ^ 17 + e.nib) st 0
    | none => t) s
  let s' := (s.arr.cyclog.early.map EarlyRead.die).eraseDups.foldl
    (fun t d => t.raiseStopAt 7 t.arr.sched.cycle st d 0x4105) s'
  s'.withArr fun a => { a with cyclog := { a.cyclog with early := [], earlyDies := a.cyclog.earlyDies ++ dies } }

/-! ### Calendar steps that pass without their group (R100, R101) -/

/-- The queue is a write queue (Table 6-3, bit 24). -/
def Queue.isWrite (q : Queue) : Bool := q.desc.getLsbD 24

/-- The entry that stands for a request that was never issued (R101). [DEDUCED, unsafe: log 24] -/
def QEntry.absent (cycle step : Nat) : QEntry := ⟨true, 0, 0, true, true, 0, cycle, step, 0, false⟩

/-- Remove the head entry (R100): the answer of an entry not yet answered is discarded when it arrives (R119). -/
def Queue.removeHead (q : Queue) : Queue :=
  match q.entries with
  | [] => q
  | e :: es => { q with entries := es, discard := if e.present then q.discard else q.discard + 1 }

/-- Counters of guarantee 2 for a die: `which` is 1 issued, 2 removed (Table 21-8). [DEDUCED, unsafe: log 29] -/
def State.countQueue (s : State) (die which n : Nat) : State :=
  { s with queueCounts := listSet s.queueCounts (die * 3 + which) (s.queueCounts.getD (die * 3 + which) 0 + n) }

/-- What one queue's calendar does at the end of the open step when no command processed its group: a read whose ENQ step
passed without a request is counted as missing, its 8 request tokens are withheld (R175), and a wait slot removes the head
entry (R100). [DEDUCED, unsafe: log 24] -/
def State.calendarMiss (s : State) (key : Nat) : State :=
  let q := s.arr.queue key
  let t := s.arr.sched.step
  let c := s.arr.sched.cycle
  let missedEnq := q.calendar.enq.any (fun e => e.1 == t) && !s.arr.sched.groups.contains (enqMark key)
  let missedWait := q.calendar.waits.contains t && !s.arr.sched.groups.contains (waitMark key)
  let q1 := if missedEnq && !q.isWrite then { q with entries := q.entries ++ [QEntry.absent c t] } else q
  let head := q1.entries.headD (QEntry.absent 0 0)
  let removed := missedWait && !q1.entries.isEmpty && !head.missing && !head.standIn
  let q2 := if missedWait then q1.removeHead else q1
  let s := if missedEnq then { s with tokens := { s.tokens with withheld := s.tokens.withheld + 8 } } else s
  let s := if removed then s.countQueue (key / 64 / 256) 2 1 else s
  if missedEnq || missedWait then s.withArr fun a => a.setQueue key q2 else s

/-- Every queue's calendar at the end of the open step. -/
def State.calendarMisses (s : State) : State := (s.arr.queues.map Prod.fst).foldl State.calendarMiss s

/-- Count the write acknowledgements absent at the start of the step after the open one, their decision point (R153). -/
def State.lateWrites (s : State) : State :=
  let now := s.arr.sched.cycle * s.L + s.arr.sched.step + 1
  let late := s.arr.queues.foldl (fun n e =>
    if e.2.isWrite then
      n + (e.2.entries.filter fun q => q.cycle * s.L + q.step + q.window == now + s.lead).length
    else n) 0
  if late = 0 then s else s.bumpBy 0x2E1001 late

/-! ### Tokens of a segment (R173) -/

/-- Tokens that tile `u` may draw in segment `g`. -/
def State.segmentBudget (s : State) (u g : Nat) : Nat := match s.image with
  | some i => Sparse.get (fun _ => 0) i.segmentBudget (u * 256 + g)
  | none => 0

/-- Tiles of die `d` over their budget in segment `g`. -/
def State.overdrawn (s : State) (d g : Nat) : List Nat :=
  (List.range 64).filter fun t => decide (s.segmentBudget (d * 64 + t) g < (s.arr.tile (d * 64 + t)).tokens)

/-- Argument of 0x4110 (Table 21-9): tile, segment and count. -/
def overdrawArg (tile g count : Nat) : Nat := tile * 2 ^ 24 + g * 2 ^ 16 + min count 0xFFFF

/-- The overdraws of a die in a segment: each is counted, the first of the die in the cycle is logged, and the array stops. -/
def State.dieOverdraw (s : State) (g d : Nat) : State :=
  match s.overdrawn d g with
  | [] => s
  | t :: ts =>
    let s := { s with tokens := { s.tokens with overdraws := sat32 s.tokens.overdraws (ts.length + 1) } }
    let s := if s.arr.cyclog.tokenDies.contains d then s
      else (s.logDetail 0x4110 .stop (srcDie d) (overdrawArg t g (s.arr.tile (d * 64 + t)).tokens)
        (s.arr.tile (d * 64 + t)).tokens 0).withArr fun a =>
        { a with cyclog := { a.cyclog with tokenDies := d :: a.cyclog.tokenDies } }
    s.raiseStopAt 7 s.arr.sched.cycle (16 * g + 15) d 0x4110

/-- The end of segment `g`: every tile compares its count with its budget and counts afresh (R173). [DEDUCED, unsafe: log 21] -/
def State.endSegment (s : State) (g : Nat) : State :=
  let s := (List.range s.dies).foldl (fun s d => s.dieOverdraw g d) s
  s.withArr fun a => (a.tiles.map Prod.fst).foldl (fun a u => a.setTile u { a.tile u with tokens := 0 }) a

/-! ### The end of a step -/

/-- The step that follows `t` in the schedule. -/
def State.nextStep (s : State) (t : Nat) : Nat := if t + 1 < s.L then t + 1 else 0

/-- Fetch the words of step `t` into the instruction latches (R57). -/
def NibArray.fetchAll (a : NibArray) (t : Nat) : NibArray :=
  let listed := a.words.filterMap fun e =>
    if e.1 / dieNibs % 4096 = t then some (e.1 / dieNibs / 4096 * dieNibs + e.1 % dieNibs) else none
  ((a.nibs.map Prod.fst) ++ listed).foldl (fun a n => a.setNib n { a.nib n with latch := a.word n t }) a

/-- A null write leaves its queue at the end of its issue step (R97): of the entries of a write queue, only a null one is present. -/
def Queue.dropNulls (q : Queue) : Queue :=
  let rest := q.entries.filter fun e => !e.present
  { q with entries := rest, stalled := q.stalled && decide (q.p < rest.length) }

/-- The null writes of the open step leave the queue of a key. -/
def State.leaveNulls (s : State) (key : Nat) : State :=
  let q := s.arr.queue key
  let n := (q.entries.filter QEntry.present).length
  if q.isWrite && decide (0 < n) then (s.withArr fun a => a.setQueue key q.dropNulls).countQueue (key / 64 / 256) 2 n else s

/-- What arrives in P3: crossbar values, routed values that are due, and answers; values that leave on a lane go out (R107, R114). -/
def State.deliverStep (s : State) : State :=
  let ds := s.crossbar ++ s.dueFlights ++ s.arr.sched.p3
  (({ s with laneOut := s.laneOut ++ s.leaving }).landFlights).withArr fun a => a.deliverAll [] ds

/-- What P3 finds: collisions, early receive addresses, misses of the calendar; null writes and late writes leave their queues. -/
def State.findStep (s : State) : State :=
  let s := ((s.logCollisions).logEarly).calendarMisses
  ((s.arr.queues.map Prod.fst).foldl State.leaveNulls s).lateWrites

/-- The next words are in the instruction latches, and the next step is the current one (R57). -/
def State.nextOpens (s : State) : State :=
  (s.withArr fun a => a.fetchAll (s.nextStep a.sched.step)).withSched fun c =>
    { c with step := c.step + 1, opened := false, done := [], groups := [], p3 := [] }

/-- P3 of the open step and what follows it before the next P0 (R57): claims, deliveries, findings, calendar, and the next words.
[DEDUCED, unsafe: log 21] -/
def State.settleStep (s : State) : State := ((((s.routeParity).launchAll).resolveClaims).deliverStep).findStep.nextOpens

/-- P0 of the current step begins: the decisions that fall due (R117), the load of the word-cell side (R125) and the sample
of the staging registers at step L − 4 (R126). -/
def State.beginStep (s : State) : State :=
  if s.arr.sched.opened then s
  else
    let t := s.arr.sched.step
    let s := s.decideDue
    let s := if s.arr.sched.latchDue = some t then s.loadWordSide else s
    let s := if t + 4 = s.L ∧ s.arr.sched.sampled = false then s.sampleStaging else s
    s.withSched fun c => { c with opened := true }

/-- The current step runs to its end, with the segment check after step 16g + 15. [DEDUCED, unsafe: log 21] -/
def State.settle (s : State) : State :=
  let t := s.arr.sched.step
  let s := s.beginStep
  if t % 16 = 15 then s.settleStep.endSegment (t / 16) else s.settleStep

/-- Run `n` steps; a stall freezes the array before its slot. -/
def State.settleN : Nat → State → State
  | 0, s => s
  | n + 1, s => if s.arr.sched.frozenHere then s else State.settleN n s.settle

/-- Run the array up to P0 of step `t`, or to the stall before it. [DEDUCED, unsafe: log 21] -/
def State.runTo (s : State) (t : Nat) : State := State.settleN (t - s.arr.sched.step) s

/-- The array is not stopped: no clock is held, and the module is in RUN. -/
def State.arrayRuns (s : State) : Bool := !s.diesHeld && s.run.mode == .run && s.arr.sched.run == .running

/-- The array stands before P0, or within, step `t`, and no stall freezes it there. -/
def Sched.standsAt (c : Sched) (t : Nat) : Bool := c.step == t && !c.frozenHere

/-- The array comes to step `t` of the running cycle: it runs, the step has not passed, and no stall freezes it on the way (R117).
[DEDUCED, unsafe: log 25] -/
def State.canReach (s : State) (t : Nat) : Bool :=
  s.arrayRuns && decide (s.arr.sched.step ≤ t ∧ t < s.L) && (s.runTo t).arr.sched.standsAt t

/-- Begin step `t`. -/
def State.openStep (s : State) (t : Nat) : State := (s.runTo t).beginStep

end Sys2Proof.Machine
end

