-- ==== Sys2Proof/Machine/Bundles.lean ====
section
/-! DEFINITION. Die-link bundles (R335 to R340): training, weak and lost lanes, half width and failure. -/

namespace Sys2Proof.Machine

/-- The grade fits the bundle (R12, R113). -/
def State.bundleFitted (s : State) (b : Nat) : Bool := s.part.grade.fitsBundle b

def State.bundle (s : State) (b : Nat) : Bundle := s.bundles.getD b Bundle.unfitted
def State.setBundle (s : State) (b : Nat) (x : Bundle) : State := { s with bundles := listSet s.bundles b x }

/-- Change every bundle that the grade fits. -/
def State.mapBundles (s : State) (f : Bundle → Bundle) : State :=
  { s with bundles := (List.range 16).map fun b => if s.bundleFitted b then f (s.bundle b) else Bundle.unfitted }

/-- Begin a training: bundle state 4. -/
def State.beginTraining (s : State) : State := s.mapBundles fun x => { x with state := 4 }

/-- Physical lanes of a bundle, and its data positions. -/
def bundleLanes : Nat := 544
def bundlePositions : Nat := 512

/-- Working lanes that carry no position and replace no weak lane, lowest first. -/
def Bundle.free (x : Bundle) : List Nat :=
  (List.range bundleLanes).filter fun l => !x.lanes.contains l && !x.failed.contains l && !x.moving.any fun m => m.2.1 == l

/-- `SparesUsed`: of the 32 lanes above the 512 positions, those that carry one. -/
def Bundle.sparesUsed (x : Bundle) : Nat := (x.lanes.filter fun l => bundlePositions ≤ l).length

/-- The bundle carries values. -/
def Bundle.up (x : Bundle) : Bool := x.state == 1 || x.state == 2

/-! ### Training (R335) -/

/-- Positions that fall on failed lanes take spares, lowest-numbered first. -/
def mapPositions (failing : List Nat) : (positions spares : List Nat) → List Nat
  | [], _ => []
  | p :: ps, spares =>
    if failing.contains p then spares.headD p :: mapPositions failing ps (spares.drop 1) else p :: mapPositions failing ps spares

/-- A training in which the lanes `failing` showed errors: full width with 512 working lanes, half width with 256, else failed. -/
def Bundle.train (x : Bundle) (failing : List Nat) : Bundle :=
  let working := (List.range bundleLanes).filter fun l => !failing.contains l
  let spares := working.filter fun l => bundlePositions ≤ l
  let x := { x with failed := failing.eraseDups, dead := [], moving := [] }
  if bundlePositions ≤ working.length then
    { x with state := 1, half := false, lanes := mapPositions failing (List.range bundlePositions) spares }
  else if 256 ≤ working.length then { x with state := 2, half := true, lanes := working.take 256 }
  else { x with state := 3, half := false, lanes := [] }

/-- The module refuses runs and streams for a failed bundle (R339): 0x6204, and a stop of the array. -/
def State.bundleFailed (s : State) (b cycle st : Nat) : State :=
  (s.logAs 0x6204 .blocked (srcDie (b % 8)) b).raiseStopAt 7 cycle st (b % 8) 0x6204

/-- Every bundle of the grade trains (R335, R340); `failing` names (bundle, lane). -/
def State.trainBundles (s : State) (failing : List (Nat × Nat)) : State :=
  let s := (List.range 16).foldl (fun s b =>
    if s.bundleFitted b then s.setBundle b ((s.bundle b).train ((failing.filter fun f => f.1 == b).map Prod.snd)) else s) s
  let bad := (List.range 16).filter fun b => s.bundleFitted b && (s.bundle b).state == 3
  if bad.isEmpty then s.endCodeClass 0x6204 .blocked
  else bad.foldl (fun s b => s.bundleFailed b s.arr.sched.cycle s.arr.sched.step) s

/-! ### Lanes in service (R336 to R339) -/

/-- Argument of 0x6201 and 0x6202 (Table 21-9). [DEDUCED, unsafe: log 47] -/
def laneArg (b l : Nat) (noSpare spare : Bool) : Nat := b2n noSpare * 2 ^ 31 + b2n spare * 2 ^ 30 + b * 2 ^ 16 + l

/-- Put position `p` on lane `l`. -/
def Bundle.map (x : Bundle) (p l : Nat) : Bundle :=
  { x with lanes := listSet x.lanes p l, dead := x.dead.filter fun q => q != p }

/-- An unmapped spare is withdrawn until the next training (R336). [DEDUCED, unsafe: log 47] -/
def State.withdrawSpare (s : State) (b l : Nat) : State :=
  let x := s.bundle b
  (s.setBundle b { x with failed := l :: x.failed, moving := x.moving.filter fun m => m.2.1 != l, lost := sat32 x.lost 1 }).logAs 0x6201 .note (srcDie (b % 8)) (laneArg b l false true)

/-- The receiver takes the spare of position `p`; the weak lane is out of service. -/
def Bundle.take (x : Bundle) (m : Nat × Nat × Nat) : Bundle :=
  { x.map m.1 m.2.1 with failed := x.lanes.getD m.1 0 :: x.failed }

/-- Every replacement under way completes (R336). -/
def Bundle.takeAll (x : Bundle) : Bundle := { x.moving.foldl Bundle.take x with moving := [] }

/-- The replacement of position `p` ends without its spare. -/
def Bundle.keep (x : Bundle) (p : Nat) : Bundle := { x with moving := x.moving.filter fun m => m.1 != p }

/-- A boundary passes for the replacements under way (R336): the sender drives the spare from the first, the receiver takes it from
the second. [DEDUCED, unsafe: log 47] -/
def Bundle.passBoundary (x : Bundle) : Bundle :=
  { (x.moving.filter fun m => m.2.2 == 1).foldl Bundle.take x with
    moving := (x.moving.filter fun m => m.2.2 != 1).map fun m => (m.1, m.2.1, m.2.2 - 1) }

def State.passBundles (s : State) : State := { s with bundles := s.bundles.map Bundle.passBoundary }

/-- A lane that carries position `p` is weak (R336): a spare takes its place, at the second boundary while the array runs, or the lane
keeps the position. [DEDUCED, unsafe: log 47] -/
def State.weakLane (s : State) (b l p : Nat) : State :=
  let x := s.bundle b
  if x.moving.any fun m => m.1 == p then s
  else match x.free with
    | [] => s.logAs 0x6201 .note (srcDie (b % 8)) (laneArg b l true false)
    | f :: _ =>
      let y := { x with moving := x.moving ++ [(p, f, 2)], repaired := sat32 x.repaired 1 }
      let y := if s.arr.sched.run = .running then y else y.takeAll
      (s.setBundle b y).logAs 0x6201 .note (srcDie (b % 8)) (laneArg b l false false)

/-- The bundle and a lane in service. -/
def State.laneInService (s : State) (b l : Nat) : Bool :=
  s.bundleFitted b && (s.bundle b).up && decide (l < bundleLanes) && !(s.bundle b).failed.contains l

/-- LANE_MARGIN_LOW (R336). -/
def execLaneMarginLow (bundle lane : Nat) (s : State) : Host.Outcome State Fault Refusal :=
  .next (if !s.laneInService bundle lane then s
    else match (s.bundle bundle).lanes.findIdx? fun l => l == lane with
      | some p => s.weakLane bundle lane p
      | none => s.withdrawSpare bundle lane)

/-- Where the array stops, replacements complete, and the dead positions of a bundle take spares, or 256 positions working lanes where
none is free (R336 to R338). -/
def Bundle.remap (x : Bundle) : Bundle :=
  let x := x.takeAll
  if x.half && x.state == 1 then
    let working := (List.range bundleLanes).filter fun l => !x.failed.contains l
    { x with state := 2, lanes := working.take 256, dead := [] }
  else if x.up then x.dead.foldl (fun x p => match x.free with
    | [] => x
    | f :: _ => x.map p f) x
  else x

/-- The mapping at the boundary at which the array stops. [DEDUCED, unsafe: log 47] -/
def State.remapBundles (s : State) : State := { s with bundles := s.bundles.map Bundle.remap }

/-- Spares that the dead positions of a bundle will not take. -/
def Bundle.spareLeft (x : Bundle) : Bool := decide (x.dead.length < x.free.length)

/-- A lane that carries position `p` has lost lock in step `st` (R337 to R339): its bits read 0 from that step on; 0x6202 is
declared two steps later with a stop; with no spare free a full-width bundle falls to half width and a half-width one fails. -/
def State.loseLane (s : State) (b l p st : Nat) : State :=
  let cycle := s.arr.sched.cycle
  let x := (s.bundle b).keep p
  let spare := x.spareLeft
  let y := { x with failed := l :: x.failed, dead := p :: x.dead, lost := sat32 x.lost 1,
                    firstCycle := some (x.firstCycle.getD cycle) }
  let y := if spare then y else if x.state = 1 then { y with half := true } else { y with state := 3, half := false }
  let s := (s.setBundle b y).logAs 0x6202 .stop (srcDie (b % 8)) (laneArg b l false false)
  let s := s.raiseStopAt 7 cycle (st + 2) (b % 8) 0x6202
  let s := if spare then s else if x.state = 1 then s.raiseStopAt 9 cycle (st + 2) (b % 8) 0 else s.bundleFailed b cycle (st + 2)
  if s.arr.sched.run = .running then s else s.remapBundles

/-- DIE_LANE_LOST (R336 to R339): `atStep` is the step in which lock was lost. [DEDUCED, unsafe: log 47] -/
def execDieLaneLost (bundle lane atStep : Nat) (s : State) : Host.Outcome State Fault Refusal :=
  .next (if !s.laneInService bundle lane then s
    else match (s.bundle bundle).lanes.findIdx? fun l => l == lane with
      | some p =>
        let s := if s.canReach atStep then s.runTo atStep else s
        s.loseLane bundle lane p (if s.arr.sched.run = .running then atStep else s.arr.sched.step)
      | none => s.withdrawSpare bundle lane)

/-! ### Retraining (R340) -/

/-- BUNDLE_RETRAIN (R340). -/
def execBundleRetrain (req : Nat) (s : State) : Host.Outcome State Fault Refusal :=
  .next (s.writing req 0x2D0501 1 fun s =>
    s.beginTraining.accept)

/-- BUNDLE_RETRAIN_COMPLETE (R335, R340): `failing` names the bundle and lane of every lane that showed an error.
[DEDUCED, unsafe: log 47] -/
def execBundleRetrainComplete (failing : List (Nat × Nat)) (s : State) : Host.Outcome State Fault Refusal :=
  .next (if s.bundles.any fun x => x.state == 4 then s.trainBundles failing else s)

end Sys2Proof.Machine
end

