-- ==== Sys2Proof/Machine/Nib.lean ====
section
/-! DEFINITION. The nib operations NOP, EVAL, SEND, STORE, PROBE and SYNC (R56, R83 to R95, R169): the fetched word decides
what the nib does; the command names the class it executes. ENQ and WAIT are with the queue ports (Queues.lean). -/

namespace Sys2Proof.Machine

/-- What a fetch delivers (R56). -/
inductive Fetched where
  /-- Parity passes and the opcode is valid. -/
  | word (cls : NibClass) (w : BitVec 64)
  /-- Parity fails (false) or the opcode is invalid (true): the step executes as NOP. -/
  | upset (invalid : Bool)
deriving DecidableEq, Repr

/-- What the decoder reads from the instruction latch of a nib (Table 3-1). -/
def NibArray.fetched (a : NibArray) (n : Nat) : Fetched :=
  let x := (a.nib n).latch
  if x.ok then match opcodeClass (wordOpcode x.word) with
    | some c => .word c x.word
    | none => .upset true
  else .upset false

/-- Tokens of a word in the segment count of its tile (Table 7-4). -/
def wordTokens (w : BitVec 64) : Nat := match opcodeClass (wordOpcode w) with
  | some .nop => 0
  | some _ => 1
  | none => 0

/-- Draw `k` tokens in the segment count of a tile (R169, R173, R392). -/
def State.draw (s : State) (tile k : Nat) : State :=
  State.countEvent (code := 9) (unit := tile / 64) (n := k) { s.withArr fun a => a.setTile tile { a.tile tile with tokens := (a.tile tile).tokens + k } with
    tokens := { s.tokens with drawn := s.tokens.drawn + k } }

/-- The nib has executed the open step, and drives `out` (R57). -/
def State.finishNib (s : State) (n : Nat) (x : Nib) (out : Bool) : State :=
  (s.withArr fun a => a.setNib n { x with out := out }).withSched fun c => { c with done := n :: c.done }

/-- A word that executes as NOP because its parity fails or its opcode is invalid (R56): nothing is written, the output is
0, 0x4106 is logged and the array stops; the tokens that the scheduled word would have drawn are withheld (R175). -/
def State.upsetNop (s : State) (n : Nat) (invalid : Bool) : State :=
  let t := s.arr.sched.step
  let golden := (Sparse.get (fun _ => TierWord.zero) s.fixer.goldenWords (wordKey (nibDie n) t (nibLocal n))).word
  let s := s.finishNib n (s.arr.nib n) false
  let s := { s with tokens := { s.tokens with withheld := s.tokens.withheld + wordTokens golden } }
  (s.logDetail 0x4106 .stop (srcDie (nibDie n)) (b2n invalid * 2 ^ 30 + nibLocal n) t 0).raiseStopAt
    7 s.arr.sched.cycle t (nibDie n) 0x4106

/-- Note a dependent read before arrival (R62). -/
def State.noteEarly (s : State) (n : Nat) : Option (Nat × Nat) → State
  | none => s
  | some e => s.withArr fun a => { a with cyclog :=
      { a.cyclog with early := a.cyclog.early ++ [⟨nibDie n, nibLocal n, e.1, e.2⟩] } }

/-- Write the result of step `t` to the rolling window, at t mod 768 (R59, R60). -/
def Nib.roll (x : Nib) (t : Nat) (v : Bool) : Nib := { x with data := bvSet x.data (t % 768) v }

/-- Write a state-file bit (R66, R91). -/
def Nib.storeFile (x : Nib) (i : Nat) (v : Bool) : Nib := { x with file := bvSet x.file i v }

/-- A stop vote of SYNC (R93, R130). -/
def State.vote (s : State) (n : Nat) (event : Nat) (scope : Bool) : State :=
  let c := s.arr.sched.cycle
  let s := s.withArr fun a => { a with votes := a.votes ++ [(c, event, b2n scope)] }
  let s := if s.inDomain then
      { s with notices := s.notices ++ [if scope then .vote event c s.arr.sched.step else .stop c s.arr.sched.step] } else s
  s.raiseStopAt 2 c s.arr.sched.step (nibDie n) 0

/-- The effect of a valid word of class EVAL, SEND, STORE, PROBE or SYNC at the open step (Table 4-6). -/
def State.performWord (s : State) (cls : NibClass) (n : Nat) (w : BitVec 64) : State :=
  let t := s.arr.sched.step
  let x := s.arr.nib n
  let e := x.evaluate w cls.operands
  let s := (s.noteEarly n e.early).draw (tileKey n) 1
  match cls with
  | .nop => s
  | .eval => s.finishNib n (x.roll t e.value) e.value
  | .send => s.finishNib n x e.value
  | .store => s.finishNib n ((x.roll t e.value).storeFile (wordDest w) e.value) e.value
  | .probe =>
    (s.finishNib n (x.roll t e.value) e.value).withArr fun a =>
      a.setTile (tileKey n) { a.tile (tileKey n) with lanes := bvSet (a.tile (tileKey n)).lanes (wordLane w) e.value }
  | .sync =>
    let s := s.finishNib n x false
    if e.value then s.vote n (wordEvent w) (wordScope w) else s
  | .enq => s
  | .wait => s

/-- A nib may execute step `t` by a command of its own. -/
def State.nibReady (s : State) (t n : Nat) : Bool :=
  s.canReach t && decide (nibDie n < s.dies) && !(s.arr.sched.step == t && s.arr.sched.done.contains n)

/-- Execute step `t` of nib `n` as a command of class `cls`: what the word in its instruction latch says. A command that names another
class than that word is no event of this module, and nothing happens. [DESIGN CHOICE, unsafe: log 2] [DEDUCED, unsafe: log 22] -/
def State.execNib (s : State) (cls : NibClass) (t n : Nat) : State :=
  if !s.nibReady t n then s
  else
    let o := s.openStep t
    match o.arr.fetched n with
    | .upset invalid => o.upsetNop n invalid
    | .word c w =>
      if c ≠ cls then s
      else if cls = .nop then o.finishNib n (o.arr.nib n) false
      else o.performWord cls n w

/-- NOP (R90). -/
def execNop (atStep nib : Nat) (s : State) : Host.Outcome State Fault Refusal := .next (s.execNib .nop atStep nib)

/-- EVAL (R90). -/
def execEval (atStep nib : Nat) (s : State) : Host.Outcome State Fault Refusal := .next (s.execNib .eval atStep nib)

/-- SEND (R90). -/
def execSend (atStep nib : Nat) (s : State) : Host.Outcome State Fault Refusal := .next (s.execNib .send atStep nib)

/-- STORE (R91). -/
def execStore (atStep nib : Nat) (s : State) : Host.Outcome State Fault Refusal := .next (s.execNib .store atStep nib)

/-- PROBE (R92). -/
def execProbe (atStep nib : Nat) (s : State) : Host.Outcome State Fault Refusal := .next (s.execNib .probe atStep nib)

/-- SYNC (R93). -/
def execSync (atStep nib : Nat) (s : State) : Host.Outcome State Fault Refusal := .next (s.execNib .sync atStep nib)

/-- A flight to receive address `rx` of a nib. -/
def Flight.goesTo (f : Flight) (nib rx : Nat) : Bool := f.nib == nib && f.rx == rx && f.laneOut == none

/-- A value of another module is at the hub: the flight that waits for it takes it, before its first claim here (R110), where its lane
is pinned. [DEDUCED, unsafe: log 23] -/
def State.laneValue (s : State) (nib rx : Nat) (v : Bool) : State :=
  match s.arr.flights.find? fun f =>
      f.goesTo nib rx && f.laneIn.isSome && s.crossed f && (s.arr.claims.any fun c => c.flight == f.id) with
  | some f => s.withArr fun a =>
      { a with flights := a.flights.map fun g => if g.id = f.id then { g with value := v, laneIn := none } else g }
  | none => s

/-- The value of the flight that lands in the open step at receive address `rx` of a nib waits for P3.
[DEDUCED, unsafe: log 23] -/
def State.arrive (s : State) (nib rx : Nat) : State :=
  let r := s.resolveClaims
  match r.arr.flights.find? fun f => f.goesTo nib rx && r.arr.sched.lands f && r.crossed f with
  | some f => (r.withArr fun a => { a with flights := a.flights.filter fun g => g.id != f.id }).withSched
      fun c => { c with p3 := c.p3 ++ [.receive nib rx f.value] }
  | none => s

/-- INTERCONNECT_ARRIVAL (R107): the value of a due flight reaches receive address `rx` of a nib in P3 of step `atStep`, readable from
the next step on (R58); with `lane`, a value of another module comes over its domain lane to the hub in that step, for the flight
that takes it on. [DEDUCED, unsafe: log 23] -/
def execInterconnectArrival (atStep nib rx : Nat) (lane : Option Bool) (s : State) : Host.Outcome State Fault Refusal :=
  .next (
    if !(s.canReach atStep && decide (nibDie nib < s.dies) && decide (rx < 256)) then s
    else match lane with
      | some v => (s.openStep atStep).laneValue nib rx v
      | none => (s.openStep atStep).arrive nib rx)

end Sys2Proof.Machine
end

