-- ==== Sys2Proof/Machine/Stops.lean ====
section
/-! DEFINITION. Ring stops (R323), the route between two of them (R324), and the ring loops that clock them (R334). -/

namespace Sys2Proof.Machine

/-! ### Stops and routes (R323, R324) -/

/-- What a ring stop belongs to. -/
inductive StopOwner where
  | hub | die (d : Nat) | hbm (k : Nat) | guest | ddr (c : Nat)
deriving DecidableEq, Repr

/-- Stop order of grade E8 (Table 13-1). -/
def stopsE8 : List StopOwner :=
  [.hub, .die 0, .die 0, .hbm 0, .die 1, .die 1, .ddr 0, .hub, .die 2, .die 2, .hbm 1, .die 3, .die 3, .ddr 1, .hub,
   .die 4, .die 4, .hbm 2, .die 5, .die 5, .guest, .ddr 2, .hub, .die 6, .die 6, .hbm 3, .die 7, .die 7, .ddr 3]

/-- The owner is fitted on the grade. -/
def StopOwner.fits (g : Grade) : StopOwner → Bool
  | .die d => decide (d < g.dies)
  | .hbm k => decide (k < g.stacks)
  | .hub => true
  | .guest => true
  | .ddr _ => true

/-- Stops of a grade in their order. -/
def Grade.stops (g : Grade) : List StopOwner := stopsE8.filter (StopOwner.fits g)

/-- Hops from stop a to stop b in ascending and in descending order of n stops. -/
def hopsUp (n a b : Nat) : Nat := (b + n - a) % n
def hopsDown (n a b : Nat) : Nat := (a + n - b) % n

/-- The ring of a packet from stop a to stop b: the direction with fewer hops, ascending where equal. -/
def ringOf (n a b : Nat) : Nat := if hopsUp n a b ≤ hopsDown n a b then (a + b) % 2 else 2 + (a + b) % 2

/-- The next stop on a ring. -/
def nextStop (n ring a : Nat) : Nat := if ring < 2 then (a + 1) % n else (a + n - 1) % n

/-- The die whose ring loop clocks a stop: the E-die, or the hub (8) for every other. -/
def StopOwner.loopDie : StopOwner → Nat
  | .die d => d
  | .hub => 8
  | .hbm _ => 8
  | .guest => 8
  | .ddr _ => 8

/-- The fewer hops from stop a to stop b. -/
def hops (n a b : Nat) : Nat := min (hopsUp n a b) (hopsDown n a b)

/-- The stops that a packet leaves on `ring` in `k` hops from stop `a`. -/
def pathStops (n ring a : Nat) : Nat → List Nat
  | 0 => []
  | k + 1 => a :: pathStops n ring (nextStop n ring a) k

/-- Stops of an owner, lowest first. -/
def Grade.stopsOf (g : Grade) (o : StopOwner) : List Nat :=
  (List.range g.stops.length).filter fun k => g.stops[k]? == some o

/-- The pair of stops of two owners that lie nearest, the lowest where several do. [DESIGN CHOICE, unsafe: log 48] -/
def Grade.nearest (g : Grade) (x y : StopOwner) : Option (Nat × Nat) :=
  let n := g.stops.length
  let pairs := (g.stopsOf x).flatMap fun a => (g.stopsOf y).map fun b => (a, b)
  pairs.foldl (fun best p => match best with
    | none => some p
    | some q => if hops n p.1 p.2 < hops n q.1 q.2 then some p else some q) none

/-- A stop of the way from one owner to another is held with its ring loop: no packet passes (R485). [DESIGN CHOICE, unsafe: log 48] -/
def State.pathHeld (s : State) (x y : StopOwner) : Bool :=
  let n := s.part.grade.stops.length
  match s.part.grade.nearest x y with
  | none => false
  | some (a, b) => (b :: pathStops n (ringOf n a b) a (hops n a b)).any fun k =>
      match s.part.grade.stops[k]? with
      | some o => s.ringHeld o.loopDie
      | none => false

end Sys2Proof.Machine
end

