-- ==== Sys2Proof/Machine/Queues.lean ====
section
/-! DEFINITION. Queue ports and design memory (R96 to R101, R117 to R119, R133, R134, R140 to R150, R153): groups of ENQ and
WAIT operations, requests and their answers, stalls. A queue's key is port × 64 + descriptor, where a port's number is
die × 256 + tile × 4 + port. -/

namespace Sys2Proof.Machine

/-! ### Descriptors (Table 6-3) -/

def descBase (d : BitVec 128) : Nat := bits d.toNat 84 44
def descWords (d : BitVec 128) : Nat := bits d.toNat 44 40
def descValid (d : BitVec 128) : Bool := d.getLsbD 43
def descA (d : BitVec 128) : Nat := bits d.toNat 34 6
def descW (d : BitVec 128) : Nat := bits d.toNat 27 7
def descClass (d : BitVec 128) : Nat := bits d.toNat 25 2
def descWrite (d : BitVec 128) : Bool := d.getLsbD 24
def descDepth (d : BitVec 128) : Nat := bits d.toNat 16 8
def descCarry (d : BitVec 128) : Nat := bits d.toNat 8 8

/-- Bytes of the storage unit of a word (R141). -/
def unitBytes (w : Nat) : Nat := if w ≤ 8 then 1 else if w ≤ 16 then 2 else if w ≤ 32 then 4 else 8

/-- Window of a class at a point, in steps (Table 6-2). -/
def classWindow (cls point : Nat) : Nat :=
  if cls = 0 then 16
  else if cls = 1 then (if point = 0 then 400 else if point = 1 then 320 else if point = 2 then 256 else 200)
  else (if point = 0 then 2000 else if point = 1 then 1600 else if point = 2 then 1280 else 1000)

/-- The window in this module: a schedule domain adds D − 12 steps (R134). -/
def State.windowOf (s : State) (cls : Nat) : Nat := classWindow cls s.arr.sched.point + (s.lead - 12)

def queueKey (port desc : Nat) : Nat := port * 64 + desc
def portDie (port : Nat) : Nat := port / 256

/-- Argument of 0x4107, 0x4108, 0x5101 and 0x5104, and of a diverted ENQ without its bit 29 (Table 21-9): a port number
within its die is tile × 4 + port. -/
def queueArg (port desc step : Nat) : Nat := port % 256 * 2 ^ 18 + desc * 2 ^ 12 + step

/-! ### Reading and writing a word of a region (R141) -/

/-- The word of a region at offset `a`. -/
def State.readRegion (s : State) (d : BitVec 128) (port a : Nat) : Nat :=
  let n := unitBytes (descW d)
  let addr := descBase d + a * n
  ofBytes (if descClass d = 0 then s.readOnDie (portDie port) addr n else s.readBytes addr n) % 2 ^ descW d

/-- Write the word of a region at offset `a`; the bits above W − 1 of its unit become zero. -/
def State.writeRegion (s : State) (d : BitVec 128) (port a v : Nat) : State :=
  let n := unitBytes (descW d)
  let addr := descBase d + a * n
  let bs := toBytes n (v % 2 ^ descW d)
  if descClass d = 0 then s.writeOnDie (portDie port) addr bs else s.writeBytes addr bs

/-! ### Requests -/

/-- Queue-port watch `i` matches a request of a descriptor (R381). -/
def State.watches (s : State) (i port desc : Nat) : Bool :=
  let w := s.entry (keyOf 0x2A04 (i + 1))
  bit w 31 && bits w 20 11 == port && (bit w 13 || bits w 14 6 == desc)

/-- Offer one QueueRequest record on each watch of the port (R381, Table 15-4). -/
def State.offerRequest (s : State) (port desc cycle step : Nat) (write isNull out : Bool) (latency : Nat) : State :=
  let p := cycle % 2 ^ 32 * 2 ^ 96 + step * 2 ^ 84 + desc * 2 ^ 78 + b2n write * 2 ^ 77 + b2n isNull * 2 ^ 76
    + b2n out * 2 ^ 75 + min latency 0xFFFF * 2 ^ 59
  (List.range 8).foldl (fun s i => if s.watches i port desc then s.offer (66 + i) 17 p else s) s

/-- Change the queue of a key. -/
def State.withQueue (s : State) (key : Nat) (f : Queue → Queue) : State :=
  s.withArr fun a => a.setQueue key (f (a.queue key))

/-- Add a read entry; a request whose zero answer has been read already leaves no entry (R119). -/
def State.pushRead (s : State) (port desc : Nat) (e : QEntry) : State :=
  let key := queueKey port desc
  let s := s.countQueue (portDie port) 1 1
  if (s.arr.queue key).skip = 0 then s.withQueue key fun q => { q with entries := q.entries ++ [e] }
  else (s.withQueue key fun q =>
    { q with skip := q.skip - 1, discard := if e.present then q.discard else q.discard + 1 }).countQueue (portDie port) 2 1

/-- Add a write entry; above P the port raises the stall of R149. -/
def State.pushWrite (s : State) (port desc : Nat) (e : QEntry) : State :=
  let key := queueKey port desc
  let s := s.countQueue (portDie port) 1 1
  let q := s.arr.queue key
  let full := q.p < q.entries.length + 1
  let s := if full ∧ q.stalled = false then s.bump 0x2E1002 else s
  s.withQueue key fun q => { q with entries := q.entries ++ [e], stalled := q.stalled || full }

/-- A write out of range never enters its queue: it counts as issued and as removed (R145). -/
def State.passWrite (s : State) (port : Nat) : State := (s.countQueue (portDie port) 1 1).countQueue (portDie port) 2 1

/-- The entry of a request issued in the open step. -/
def State.newEntry (s : State) (d : BitVec 128) (offset data answer : Nat) (performed present : Bool) : QEntry :=
  ⟨false, offset, data, performed, present, answer, s.arr.sched.cycle, s.arr.sched.step, s.windowOf (descClass d), false⟩

/-- The enabled request of an offset outside its region (R145). -/
def State.outOfRange (s : State) (port desc : Nat) (d : BitVec 128) : State :=
  let t := s.arr.sched.step
  let s := (s.bump 0x2E1003).offerRequest port desc s.arr.sched.cycle t (descWrite d) false true 0
  let s := if descWrite d then s.passWrite port else s.pushRead port desc (s.newEntry d 0 0 0 true true)
  let s := if s.arr.cyclog.rangePorts.contains port then s
    else (s.logDetail 0x5101 .stop (srcDie (portDie port)) (queueArg port desc t) 0 0).withArr fun a =>
      { a with cyclog := { a.cyclog with rangePorts := port :: a.cyclog.rangePorts } }
  s.raiseStopAt 7 s.arr.sched.cycle t (portDie port) 0x5101

/-- Send a request of an HBM or deep region on its way, in port order (R144). -/
def State.sendRequest (s : State) (port desc offset data : Nat) : State :=
  let r : PortRequest := ⟨desc, offset, data, s.arr.sched.cycle, s.arr.sched.step⟩
  let rs := Sparse.get (fun _ => []) s.arr.requests port ++ [r]
  s.withArr fun a => { a with requests := Sparse.set (fun _ => []) a.requests port rs }

/-- The request of a complete group: `values` is the 128-bit request, `enable` the value of an enable member where the
calendar has one (R96, R97, R143 to R145). A null write is an entry that is acknowledged, and leaves, at the end of the step. Its 8 tokens are drawn whether it is enabled or null (R169). -/
def State.issue (s : State) (port desc : Nat) (hasEnable : Bool) (values : Nat) : State :=
  let d := (s.arr.queue (queueKey port desc)).desc
  let a := bits values 0 (descA d)
  let v := bits values (descA d) (descW d)
  let s := (s.draw (port / 4) 8).countEvent 10 (portDie port) 1
  if hasEnable && !bit values 127 then
    let s := s.offerRequest port desc s.arr.sched.cycle s.arr.sched.step (descWrite d) true false 0
    if descWrite d then s.pushWrite port desc (s.newEntry d a v 0 true true)
    else s.pushRead port desc (s.newEntry d a 0 0 true true)
  else if descWords d ≤ a then s.outOfRange port desc d
  else if descWrite d then
    if descClass d = 0 then (s.writeRegion d port a v).pushWrite port desc (s.newEntry d a v 0 true false)
    else (s.sendRequest port desc a v).pushWrite port desc (s.newEntry d a v 0 false false)
  else if descClass d = 0 then s.pushRead port desc (s.newEntry d a 0 (s.readRegion d port a) true false)
  else (s.sendRequest port desc a 0).pushRead port desc (s.newEntry d a 0 0 false false)

/-! ### ENQ and WAIT groups -/

/-- The nibs of a port whose instruction latch holds a good word of class `cls` that names the descriptor: number and word. -/
def NibArray.members (a : NibArray) (cls : NibClass) (port desc : Nat) : List (Nat × BitVec 64) :=
  a.nibs.filterMap fun e =>
    if portKey e.1 = port ∧ e.2.latch.ok = true ∧ opcodeClass (wordOpcode e.2.latch.word) = some cls ∧
        wordDesc e.2.latch.word = desc then
      some (e.1, e.2.latch.word)
    else none

/-- An ENQ member executes: it evaluates its three operands and puts its value at its position; it writes nothing and its
output is 0 (Table 4-6). [DESIGN CHOICE, unsafe: log 79] -/
def State.enqMember (st : State × Nat) (m : Nat × BitVec 64) : State × Nat :=
  let x := st.1.arr.nib m.1
  let e := x.evaluate m.2 3
  (((st.1.noteEarly m.1 e.early).draw (tileKey m.1) 1).finishNib m.1 x false,
   setBit st.2 (wordPosition m.2) (e.value || bit st.2 (wordPosition m.2)))

/-- Log each member of a group that the calendar does not expect (R98). -/
def State.divert (s : State) (port desc : Nat) (n : Nat) : State :=
  let t := s.arr.sched.step
  (List.range n).foldl (fun s _ =>
    (s.logDetail 0x4106 .stop (srcDie (portDie port)) (2 ^ 29 + queueArg port desc t) 0 0).raiseStopAt
      7 s.arr.sched.cycle t (portDie port) 0x4106) s

/-- Mark a queue's group of the open step as processed. -/
def State.markGroup (s : State) (m : Nat) : State := s.withSched fun c => { c with groups := m :: c.groups }

/-- The port's group may act in step `t`. -/
def State.groupReady (s : State) (t port desc m : Nat) : Bool :=
  s.canReach t && decide (portDie port < s.dies ∧ desc < 64) && !(s.arr.sched.step == t && s.arr.sched.groups.contains m)

/-- ENQ: the group of one descriptor of one port at step `t` (R96). [DEDUCED, unsafe: log 24] -/
def State.execGroup (s : State) (t port desc : Nat) : State :=
  let key := queueKey port desc
  if !s.groupReady t port desc (enqMark key) then s
  else
    let o := s.openStep t
    let ms := o.arr.members .enq port desc
    if ms.isEmpty then s
    else
      let r := ms.foldl State.enqMember (o.markGroup (enqMark key), 0)
      match (o.arr.queue key).calendar.enq.find? fun e => e.1 == t with
      | none => r.1.divert port desc ms.length
      | some e => r.1.issue port desc e.2 r.2

/-- ENQ (R96). -/
def execEnq (atStep port desc : Nat) (s : State) : Host.Outcome State Fault Refusal := .next (s.execGroup atStep port desc)

/-- A WAIT member executes with its answer bit (R100). -/
def State.waitMember (s : State) (m : Nat × BitVec 64) (v : Bool) : State :=
  ((s.draw (tileKey m.1) 1)).finishNib m.1 ((s.arr.nib m.1).roll s.arr.sched.step v) v

/-- Draw the next free value. [DESIGN CHOICE, safe: log 30] -/
def State.drawFree (s : State) : BitVec 64 × State := (Config.freeWord s.free, { s with free := s.free + 1 })

/-- WAIT members read answer `answer` of `w` bits; a position outside it, which only an upset names, gives a free value.
[DESIGN CHOICE, safe: log 30] -/
def State.waitMembers (s : State) (w answer : Nat) (ms : List (Nat × BitVec 64)) : State :=
  ms.foldl (fun s m =>
    if wordPosition m.2 < w then s.waitMember m (bit answer (wordPosition m.2))
    else s.drawFree.2.waitMember m (s.drawFree.1.getLsbD 0)) s

/-- No request is outstanding for the WAITs of a descriptor in the open step (R101). -/
def State.waitWithoutRequest (s : State) (port desc : Nat) (ms : List (Nat × BitVec 64)) : State :=
  let t := s.arr.sched.step
  let s := ms.foldl (fun s m => s.waitMember m false) s
  let s := s.withQueue (queueKey port desc) Queue.removeHead
  let s := if s.arr.cyclog.waitPorts.contains port then s
    else (s.logDetail 0x4107 .stop (srcDie (portDie port)) (queueArg port desc t) 0 0).withArr fun a =>
      { a with cyclog := { a.cyclog with waitPorts := port :: a.cyclog.waitPorts } }
  s.raiseStopAt 7 s.arr.sched.cycle t (portDie port) 0x4107

/-- The WAITs of a descriptor that the calendar places in the open step: they read the head answer and the port removes the head
(R100). The array has stalled before the step for an answer that had not arrived; a value it does not hold is free. -/
def State.waitGroup (o : State) (port desc : Nat) (ms : List (Nat × BitVec 64)) : State :=
  let key := queueKey port desc
  match (o.arr.queue key).entries with
  | [] => o.waitWithoutRequest port desc ms
  | e :: _ =>
    if e.missing then o.waitWithoutRequest port desc ms
    else
      let r := (o.waitMembers (if e.present then descW (o.arr.queue key).desc else 0) e.answer ms).withQueue key Queue.removeHead
      if e.standIn then r else r.countQueue (portDie port) 2 1

/-- WAITs that an upset has put into a step the calendar does not give: they read the head answer where it is present, else
a free value, and remove nothing. [DESIGN CHOICE, safe: log 30] -/
def State.strayWaits (o : State) (port desc : Nat) (ms : List (Nat × BitVec 64)) : State :=
  let q := o.arr.queue (queueKey port desc)
  match q.entries with
  | e :: _ => if e.present && !e.missing then o.waitMembers (descW q.desc) e.answer ms else o.waitMembers 0 0 ms
  | [] => o.waitMembers 0 0 ms

/-- WAIT (R100, R101). [DEDUCED, unsafe: log 25] -/
def execWait (atStep port desc : Nat) (s : State) : Host.Outcome State Fault Refusal :=
  let key := queueKey port desc
  let o := s.openStep atStep
  let ms := o.arr.members .wait port desc
  .next (
    if !s.groupReady atStep port desc (waitMark key) || ms.isEmpty then s
    else if (o.arr.queue key).calendar.waits.contains atStep then (o.markGroup (waitMark key)).waitGroup port desc ms
    else (o.markGroup (waitMark key)).strayWaits port desc ms)

/-! ### Decision points and stalls -/

/-- The decision point of wait slot `slot` that the array reaches next: it lies at or after the current step.
[DEDUCED, unsafe: log 25] -/
def State.nextDecision (s : State) (slot : Nat) : Nat :=
  let first := s.now + s.lead
  if slot ≥ first then slot else slot + (first - slot + s.L - 1) / s.L * s.L

/-- WAIT_DECISION_POINT (R117): at the start of step w − D the ports check the answers that the WAITs of slot w will read. The array
takes the decision of every slot at that instant, with this command or without. -/
def execWaitDecisionPoint (slot : Nat) (s : State) : Host.Outcome State Fault Refusal :=
  let dp := s.nextDecision slot - s.lead
  .next (
    if decide (slot < s.L ∧ slot % 16 = 0) && decide (dp / s.L = s.arr.sched.cycle) && s.canReach (dp % s.L) then s.openStep (dp % s.L)
    else s)

/-- The array runs on to the earliest stall ahead of it in its cycle. [DEDUCED, unsafe: log 25] -/
def State.toStall (s : State) : State :=
  match s.arr.sched.stalls with
  | st :: _ => if s.arrayRuns && st.cycle == s.arr.sched.cycle then s.runTo st.slot else s
  | [] => s

/-- The stall in force. [DEDUCED, unsafe: log 25] -/
def State.stallNow (s : State) : Option Stall :=
  if s.arrayRuns && s.arr.sched.frozenHere then s.arr.sched.stalls.head? else none

/-- The head answer of a read queue is present. -/
def State.headPresent (s : State) (key : Nat) : Bool :=
  match (s.arr.queue key).entries with
  | e :: _ => e.present
  | [] => false

/-- Every answer and acknowledgement that a stall waits for has come. -/
def State.stallOver (s : State) (st : Stall) : Bool :=
  decide (st.peers = 0) && st.reads.all s.headPresent && st.writes.all fun k => !(s.arr.queue k).stalled

/-- The Stall record of a stall that ends (R380, Table 15-4): it names the first port that raised the notice. -/
def stallPayload (st : Stall) (periods : Nat) : Nat :=
  let key := (st.reads ++ st.writes).headD 0
  st.cycle % 2 ^ 64 * 2 ^ 64 + st.slot * 2 ^ 52 + periods % 2 ^ 32 * 2 ^ 20 + key / 64 / 256 * 2 ^ 17
    + key / 64 % 256 / 4 * 2 ^ 11 + key / 64 % 4 * 2 ^ 9

/-- The load of the word-cell side comes 4 step periods after the boundary also where the array is frozen in them (R125).
[DEDUCED, unsafe: log 26] -/
def State.latchInStall (s : State) (periods : Nat) : State :=
  match s.arr.sched.latchDue with
  | none => s
  | some t => if t ≤ s.arr.sched.step + periods then s.loadWordSide else s.withSched fun c => { c with latchDue := some (t - periods) }

/-- A stall ends after `periods` frozen periods (R118, R380, R392). [DEDUCED, unsafe: log 26] -/
def State.endStall (s : State) (st : Stall) (periods : Nat) : State :=
  let s := s.withSched fun c => { c with stalls := c.stalls.drop 1 }
  let s := if s.inDomain && !(st.reads.isEmpty && st.writes.isEmpty) then
    { s with notices := s.notices ++ [.release st.cycle st.slot] } else s
  let s := ((s.bump 0x213003).bumpBy 0x213004 periods).countEvent 7 0 periods
  let s := s.latchInStall periods
  if bit (s.entry 0x2A0301) 1 then s.offer 65 14 (stallPayload st periods) else s

/-- What happens in a stall: to the state frozen in it. -/
def State.inStall (s : State) (f : State → Stall → State) : State :=
  match s.toStall.stallNow with
  | none => s
  | some st => f s.toStall st

/-- STALL_RESUME (R117, R118): D periods after the last absent answer or the release the array resumes with P0 of the slot,
after `periods` frozen periods. -/
def execStallResume (periods : Nat) (s : State) : Host.Outcome State Fault Refusal :=
  .next (s.inStall fun o st => if o.stallOver st then o.endStall st periods else s)

/-- A zero answer in place of the absent one of a queue (R119). [DEDUCED, unsafe: log 24] -/
def Queue.supplyZero (q : Queue) (cycle slot : Nat) : Queue :=
  match q.entries with
  | e :: es => { q with entries := { e with performed := true, present := true, answer := 0 } :: es, discard := q.discard + 1 }
  | [] => { q with entries := [⟨false, 0, 0, true, true, 0, cycle, slot, 0, true⟩], skip := q.skip + 1 }

/-- STALL_TIMEOUT (R119): each port whose answer is still absent supplies zeros, 0x4108 is logged, and the stop counts as
raised at the slot. The array resumes under R117. [DEDUCED, unsafe: log 26] -/
def execStallTimeout (s : State) : Host.Outcome State Fault Refusal :=
  .next (s.inStall fun o st =>
      (st.reads.filter fun k => !o.headPresent k).foldl (fun o k =>
        let port := k / 64
        ((o.withQueue k fun q => q.supplyZero st.cycle st.slot).logDetail 0x4108 .stop (srcDie (portDie port))
          (queueArg port (k % 64) st.slot) 0 0).raiseStopAt 7 st.cycle st.slot (portDie port) 0x4108) o)

/-- WRITE_STALL_TIMEOUT (R150): 0x5104 for each queue whose write stall has reached `StallLimit`; the array stays frozen.
[DEDUCED, unsafe: log 26] -/
def execWriteStallTimeout (s : State) : Host.Outcome State Fault Refusal :=
  .next (s.inStall fun o st =>
      (st.writes.filter fun k => (o.arr.queue k).stalled && !(o.arr.queue k).timedOut).foldl (fun o k =>
        (o.withQueue k fun q => { q with timedOut := true }).logDetail 0x5104 .blocked (srcDie (portDie (k / 64)))
          (queueArg (k / 64) (k % 64) st.slot) 0 0) o)

/-! ### Answers and acknowledgements -/

/-- Mark the oldest performed entry without an answer as present. -/
def markPresent : List QEntry → List QEntry
  | [] => []
  | e :: es => if e.performed && !e.present then { e with present := true } :: es else e :: markPresent es

/-- Answers to discard whose requests the memory has performed. -/
def State.discardable (s : State) (port desc : Nat) : Nat :=
  let q := s.arr.queue (queueKey port desc)
  let waiting := ((Sparse.get (fun _ => []) s.arr.requests port).filter fun r => r.desc == desc).length
  let own := (q.entries.filter fun e => !e.performed).length
  q.discard - (waiting - own)

/-- DESIGN_ANSWER_ARRIVAL (R133): the answer of the oldest performed read of a queue reaches its port; an answer that R119
replaced is discarded. [DESIGN CHOICE, unsafe: log 2] [DEDUCED, unsafe: log 27] -/
def execDesignAnswerArrival (port desc latencyNs : Nat) (s : State) : Host.Outcome State Fault Refusal :=
  let key := queueKey port desc
  .next (
    if (s.arr.queue key).isWrite || s.sec.halted then s
    else if 0 < s.discardable port desc then s.withQueue key fun q => { q with discard := q.discard - 1 }
    else match (s.arr.queue key).entries.find? fun e => e.performed && !e.present with
      | some e => (s.withQueue key fun q => { q with entries := markPresent q.entries }).offerRequest
          port desc e.cycle e.step false false false latencyNs
      | none => s)

/-- The acknowledgement of the head write removes its entry; with the occupancy at P or less the stall is released. -/
def Queue.acknowledge (q : Queue) : Queue :=
  let free := decide (q.entries.length ≤ q.p + 1)
  { q with entries := q.entries.drop 1, stalled := q.stalled && !free, timedOut := q.timedOut && !free }

/-- 0x5104 ends once no write stall has reached its limit (R150, Table 21-2). -/
def State.endWriteTimeout (s : State) : State := if s.arr.queues.any fun x => x.2.timedOut then s else s.endCode 0x5104

/-- WRITE_ACK_ARRIVAL (R148 to R150): the acknowledgement of the oldest performed write removes its entry; with the
occupancy at P or less the write stall is released and its 0x5104 ends. -/
def execWriteAckArrival (port desc latencyNs : Nat) (s : State) : Host.Outcome State Fault Refusal :=
  let key := queueKey port desc
  let q := s.arr.queue key
  .next (match q.entries with
    | e :: _ =>
      if q.isWrite && e.performed && !e.present && !s.sec.halted then
        (((s.withQueue key Queue.acknowledge).countQueue (portDie port) 2 1).endWriteTimeout).offerRequest
          port desc e.cycle e.step true false false latencyNs
      else s
    | [] => s)

/-- Perform the first entry of a queue that is not performed yet. [DEDUCED, unsafe: log 27] -/
def performFirst (answer : Nat) : List QEntry → List QEntry
  | [] => []
  | e :: es => if e.performed then e :: performFirst answer es else { e with performed := true, answer := answer } :: es

/-- The oldest request of a port takes effect in its memory (R144): a write stores its word, a read fixes its answer; an entry
that R119 has replaced no longer waits for it. [DEDUCED, unsafe: log 27] -/
def State.perform (s : State) (port : Nat) (r : PortRequest) (rest : List PortRequest) : State :=
  let key := queueKey port r.desc
  let q := s.arr.queue key
  let waiting := ((r :: rest).filter fun x => x.desc == r.desc).length
  let own := (q.entries.filter fun e => !e.performed).length
  let answer := if q.isWrite then 0 else s.readRegion q.desc port r.offset
  let s := s.withArr fun a => { a with requests := Sparse.set (fun _ => []) a.requests port rest }
  let s := if q.isWrite then s.writeRegion q.desc port r.offset r.data else s
  if waiting ≤ own then s.withQueue key fun q => { q with entries := performFirst answer q.entries } else s

/-- Count a design-class request at its memory (Table 15-7, codes 3 and 5). -/
def State.countRequest (s : State) (d : BitVec 128) (a : Nat) : State :=
  let addr := descBase d + a * unitBytes (descW d)
  if descClass d = 1 then s.countEvent 3 (hbmStack s.part.grade addr) 1
  else s.countEvent 5 (s.ddrChannelOf addr) 1

/-- The ring stop of the controller that serves a request of the design class. -/
def State.requestStop (s : State) (r : PortRequest) (d : BitVec 128) : StopOwner :=
  let addr := descBase d + r.offset * unitBytes (descW d)
  if descClass d = 1 then .hbm (hbmStack s.part.grade addr) else .ddr (s.ddrChannelOf addr)

/-- The request waits on a ring that is held on its way (R14, R485). [DESIGN CHOICE, unsafe: log 48] -/
def State.requestHeld (s : State) (port : Nat) (r : PortRequest) : Bool :=
  s.pathHeld (.die (portDie port)) (s.requestStop r (s.arr.queue (queueKey port r.desc)).desc)

/-- MEMORY_REQUEST_RECEIVED (R144, R152): a controller performs the oldest request of a port.
[DEDUCED, unsafe: log 27] [DESIGN CHOICE, unsafe: log 77] -/
def execMemoryRequestReceived (port : Nat) (s : State) : Host.Outcome State Fault Refusal :=
  .next (match Sparse.get (fun _ => []) s.arr.requests port with
    | [] => s
    | r :: rs => if s.sec.halted || s.requestHeld port r then s else (s.perform port r rs).countRequest (s.arr.queue (queueKey port r.desc)).desc r.offset)

/-- DDR5_RETRAINING (R153): a fitted channel retrains in service; requests on it arrive later, and no value changes. -/
def execDdr5Retraining (channel : Nat) (s : State) : Host.Outcome State Fault Refusal :=
  .next (if channel < s.part.ddrChannels then { s with mem := { s.mem with retrained := s.mem.retrained ++ [channel] } } else s)

end Sys2Proof.Machine
end

