-- ==== Sys2Proof/Machine/Boundary.lean ====
section
/-! DEFINITION. Cycle boundaries (R61, R106, R120 to R126, R173 to R175, R198 to R202, R210 to R213): segment checks, the crossing,
stops, points, and the start of a cycle. -/

namespace Sys2Proof.Machine

/-! ### Tokens (R173, R174) -/

/-- SEGMENT_TOKEN_CHECK (R173): the array runs to the end of segment `segment`, where every tile is checked. -/
def execSegmentTokenCheck (segment : Nat) (s : State) : Host.Outcome State Fault Refusal :=
  .next (
    if s.canReach (16 * segment + 15) && decide (16 * segment + 16 ≤ s.L) then
      s.runTo (16 * segment + 16)
    else s)

/-- One tile at the end of a word-cell interval (R174). -/
def State.cellInterval (s : State) (u : Nat) : State :=
  let w := match s.image with
    | some i => Sparse.get (fun _ => 0) i.cellBudget u
    | none => 0
  let n := (s.arr.tile u).wcTokens
  let s := s.withArr fun a => a.setTile u { a.tile u with wcTokens := 0 }
  if n ≤ w then s
  else
    let s := { s with tokens := { s.tokens with overdraws := sat32 s.tokens.overdraws 1 } }
    let s := if s.tokens.logged.contains u then s
      else { s.logDetail 0x4110 .stop (srcDie (u / 64)) (2 ^ 31 + overdrawArg (u % 64) 0 n) n 0 with
             tokens := { s.tokens with logged := u :: s.tokens.logged } }
    s.raiseStop 7 (u / 64) 0x4110

/-- WORD_CELL_TOKEN_INTERVAL (R174): a period of the 100 MHz I/O clock ends. -/
def execWordCellTokenInterval (s : State) : Host.Outcome State Fault Refusal :=
  .next ((s.arr.tiles.map Prod.fst).foldl State.cellInterval s)

/-! ### The crossing (R125, R126) -/

/-- STAGING_SAMPLE (R126): the array runs to P0 of step L − 4, where the staging registers are sampled. -/
def execStagingSample (s : State) : Host.Outcome State Fault Refusal :=
  .next (if s.canReach (s.L - 4) then s.openStep (s.L - 4) else s)

/-- CROSSING_LATCH_LOAD (R125): 4 step periods after a boundary that the array has passed: P0 of step 4 where the array runs on, and
the instant itself while the array stands. -/
def execCrossingLatchLoad (s : State) : Host.Outcome State Fault Refusal :=
  .next (match s.arr.sched.latchDue with
    | none => s
    | some t =>
      if s.arrayRuns && !s.arr.sched.frozenHere then (if s.canReach t then s.openStep t else s) else s.loadWordSide)

/-! ### Step-clock points (R123, R124) -/

/-- The demands that stand now (R104), each with its source: 0 the cap, 4e + p + 1 point p of thermal element e, 1000 + l the peers
beyond lane l. -/
def State.demands (s : State) : List (Nat × Nat) :=
  (0, s.entry 0x231002) :: (s.therm.raised.map fun d => (4 * d.1 + d.2 + 1, d.2))
    ++ s.arr.sched.peerPoints.map fun d => (1000 + d.1, d.2)

/-- The greatest point of a list of demands that a source makes. -/
def demandOf (l : List (Nat × Nat)) (src : Nat) : Nat := ((l.filter fun d => d.1 == src).map Prod.snd).foldl max 0

/-- Of the demands that stand, what is in force once the demands `new` have reached every die: each source up to the slowest point whose
notice has (R124). -/
def State.forceDemands (s : State) (new : List (Nat × Nat)) : State :=
  s.withSched fun c => { c with inForce := (s.demands.map fun d =>
    (d.1, min d.2 (max (demandOf c.inForce d.1) (demandOf new d.1)))).filter fun d => d.2 != 0 }

/-- The slowest point in force. -/
def State.demandedPoint (s : State) : Nat := (s.arr.sched.inForce.map Prod.snd).foldl max 0

/-- `PointDemand`: the demands in force whose point equals the point in effect. -/
def State.pointDemand (s : State) : Nat :=
  let holds (p : Nat → Bool) : Bool := s.arr.sched.inForce.any fun d => p d.1 && d.2 == s.arr.sched.point
  if s.arr.sched.point = 0 then 0
  else b2n (holds fun k => k == 0) + 2 * b2n (holds fun k => decide (0 < k ∧ k < 1000)) + 4 * b2n (holds fun k => decide (1000 ≤ k))

/-- Change the point in effect: counted, and traced with the first cycle at the new point (R124, R380). -/
def State.setPoint (s : State) (p : Nat) : State :=
  let old := s.arr.sched.point
  if p = old then s
  else
    let s := (s.withSched fun c => { c with point := p }).bump 0x231003
    if bit (s.entry 0x2A0301) 3 then
      s.offer 65 16 (s.arr.sched.cycle % 2 ^ 64 * 2 ^ 64 + old * 2 ^ 62 + p * 2 ^ 60 + s.pointDemand * 2 ^ 57)
    else s

/-- The demands of the boundary that ended cycle `n` (R123, R124): those whose notice has reached every die by then. -/
def State.pointBoundary (s : State) (n : Nat) : State :=
  let due := s.arr.sched.points.filter fun p => decide (p.cycle ≤ n)
  let s := s.withSched fun c => { c with points := c.points.filter fun p => decide (n < p.cycle) }
  let s := s.forceDemands (due.map fun p => (p.source, p.point))
  s.setPoint s.demandedPoint

/-- A domain member tells its peers the slowest point that it demands itself (R130). [DEDUCED, unsafe: log 37] -/
def State.tellDemand (s : State) : State :=
  if s.inDomain then
    let own := (s.entry 0x231002 :: s.therm.raised.map Prod.snd).foldl max 0
    { s with notices := s.notices ++ [.point own s.outsideStep.1 s.outsideStep.2] }
  else s

/-- Pending demands that still stand. -/
def State.livePoints (s : State) : List PendingPoint :=
  s.arr.sched.points.filter fun p => decide (p.point ≤ demandOf s.demands p.source)

/-- Demands of slower points have been raised at cycle `n`, step `st`, or others withdrawn (R123): while the array runs a new demand
waits for its boundary; stopped, it takes effect at once. -/
def State.demandAt (s : State) (n st : Nat) (raised : List (Nat × Nat)) : State :=
  let s := s.withSched fun c => { c with points := s.livePoints }
  if s.run.mode = .run ∧ s.arr.sched.run = .running then
    s.withSched fun c => { c with points := c.points ++ raised.map fun d => ⟨stopCycle s.L s.lead n st, d.1, d.2⟩ }
  else
    let s := s.forceDemands raised
    s.setPoint s.demandedPoint

/-- The demands of this module have changed. -/
def State.demandChanged (s : State) (raised : List (Nat × Nat)) : State :=
  let s := s.tellDemand
  s.demandAt s.outsideStep.1 s.outsideStep.2 raised

/-- Every demand that stands takes effect: the module starts, or leaves STANDBY or DORMANT. -/
def State.settleDemands (s : State) : State :=
  let s := (s.withSched fun c => { c with points := [] }).forceDemands s.demands
  s.setPoint s.demandedPoint

/-! ### The start of a cycle (R210, R212) -/

/-- Number of the marked cycle. [DESIGN CHOICE, unsafe: log 86] -/
def State.markCycle (s : State) : Nat := s.entry 0x214102 * 2 ^ 32 + s.entry 0x214101

/-- The mark of the cycle that begins (R212): its time, `MarkDone`, line 22, and the generator it fires.
[DESIGN CHOICE, unsafe: log 86] -/
def State.takeMark (s : State) : State :=
  if s.run.markArmed = true ∧ s.markCycle = s.arr.sched.cycle then
    let s := { s with run := { s.run with markArmed := false, markTime := s.stamp, markDone := true } }
    let s := s.raiseLine 22
    if bit (s.entry 0x214103) 4 then s.markPulse (bits (s.entry 0x214103) 1 3) else s
  else s

/-- The array begins the cycle that its count names: its start is recorded (R210) and traced (R380). -/
def State.beginCycle (s : State) : State :=
  let s := { s with run := { s.run with lastCycle := s.arr.sched.cycle, lastStart := s.stamp } }
  let s := s.withSched fun c => { c with begun := true, sampled := false }
  let s := s.takeMark
  if bit (s.entry 0x2A0301) 0 then
    s.offer 65 13 (s.arr.sched.cycle % 2 ^ 64 * 2 ^ 64 + s.arr.sched.point * 2 ^ 62)
  else s

/-! ### Leaving a stop (R122, R199, R201) -/

/-- Wait slots, as absolute steps, whose decision point lies before the first step of the cycle to run. -/
def State.launchSlots (s : State) : List Nat :=
  (List.range ((s.lead + 15) / 16)).map fun k => s.arr.sched.cycle * s.L + 16 * k

/-- The array leaves its stop and begins the next cycle: the causes clear, and the decisions of the cycles that did not run are
taken afresh (R122, R198). The D step periods before its first step hold the load of the word-cell side (R125). -/
def State.launchArray (s : State) : State :=
  let s := if s.arr.sched.latchDue.isSome then s.loadWordSide else s
  let s := { s with run := { s.run with stopCause := 0, stopFault := 0 } }
  let s := s.withSched fun c => { c with run := .running, stalls := [], decided := [] }
  let s := s.launchSlots.foldl (fun s w => if w < s.arr.sched.cycle * s.L + s.lead then s.decideSlot w else s) s
  s.beginCycle

/-- Bits of the room causes whose sources have no room. -/
def State.roomCauses (s : State) : Nat := maskOf ((s.arr.sched.rooms.map Prod.fst).eraseDups)

/-- The array would run: with a room cause still present it stops at once, in RUN (R201). -/
def State.startOrWait (s : State) : State :=
  if s.arr.sched.rooms.isEmpty then s.launchArray
  else { s with run := { s.run with stopCause := s.roomCauses, stopFault := 0 } }.withSched fun c =>
    { c with run := .stoppedForRoom, begun := false }

/-! ### Stops (R198 to R200, R499) -/

/-- The fault of R499 among the stops that take effect: earliest raised, then the lowest die, then the lowest code.
[DEDUCED, unsafe: log 38] -/
def firstStopFault (l : List PendingStop) : Nat :=
  ((l.filter fun p => p.fault != 0).foldl (fun m p => match m with
    | none => some p
    | some q =>
      if decide (p.raisedCycle < q.raisedCycle ∨ (p.raisedCycle = q.raisedCycle ∧ (p.raisedStep < q.raisedStep ∨
          (p.raisedStep = q.raisedStep ∧ (p.die < q.die ∨ (p.die = q.die ∧ p.fault < q.fault)))))) then some p else some q)
    (none : Option PendingStop)).elim 0 PendingStop.fault

/-- The Stop record (R380, Table 15-4). [DEDUCED, unsafe: log 38] -/
def State.traceStop (s : State) : State :=
  if bit (s.entry 0x2A0301) 2 then
    s.offer 65 15 (s.arr.sched.cycle % 2 ^ 64 * 2 ^ 64 + s.run.stopCause % 2 ^ 10 * 2 ^ 54 + s.run.stopFault % 2 ^ 16 * 2 ^ 38)
  else s

/-- The array stops at the boundary with these cause bits and fault: line 21, a Stop record, and lost die-link positions mapped
again (R337, R338). [DEDUCED, unsafe: log 36] -/
def State.stopArray (s : State) (causes fault : Nat) : State :=
  let holding := (List.range 10).any fun b => bit causes b && !isRoomBit b
  let s := { s with run := { s.run with stopCause := causes, stopFault := fault } }
  let s := s.withSched fun c =>
    { c with run := if holding then .enteringHold else .stoppedForRoom, begun := false
             target := if holding then none else c.target }
  ((s.traceStop).raiseLine 21).remapBundles

/-- Record the votes of a stop by SYNC (R95). [DEDUCED, unsafe: log 36] -/
def State.recordVotes (s : State) (n : Nat) : State :=
  let due (v : Nat × Nat × Nat) : Bool := decide (stopCycle s.L s.lead v.1 0 ≤ n)
  s.withArr fun a =>
    { a with syncMask := a.syncMask ||| maskOf ((a.votes.filter due).map fun v => v.2.1), votes := a.votes.filter fun v => !due v }

/-- Every stop whose boundary ends cycle `n`, and the limit of a Step (R120, R202). [DEDUCED, unsafe: log 36] -/
def State.stopBoundary (s : State) (n : Nat) : State :=
  let due := s.arr.sched.stops.filter fun p => decide (p.cycle ≤ n)
  let limit := s.arr.sched.target == some n
  let causes := maskOf ((due.map PendingStop.bit).eraseDups ++ if limit then [1] else [])
  let s := s.withSched fun c => { c with stops := c.stops.filter fun p => decide (n < p.cycle) }
  let s := if bit causes 2 then s.recordVotes n else s
  if causes = 0 then s.beginCycle
  else
    let s := s.stopArray causes (firstStopFault due)
    if s.arr.sched.run = .stoppedForRoom ∧ s.arr.sched.rooms.isEmpty = true then s.launchArray else s

/-! ### The boundary -/

/-- Clear every arrival-valid bit whose carry-mask bit is 0 (R61). -/
def NibArray.clearArrivals (a : NibArray) : NibArray :=
  (a.nibs.map Prod.fst).foldl (fun a n => a.setNib n { a.nib n with valid := (a.nib n).valid &&& (a.nib n).carry }) a

/-- Token counts of the cycle that has ended (R175). -/
def Tokens.roll (t : Tokens) : Tokens :=
  { t with drawn := 0, withheld := 0, drawnLast := t.drawn, withheldLast := t.withheld }

/-- What ends with a cycle whose steps have all run: its arrivals, crossing and token counts; then the count rises (R106). -/
def State.closeCycle (s : State) : State :=
  let s := s.crossBoundary
  let s := s.withArr fun a => { a.clearArrivals with cyclog := CycleLog.empty }
  let s := { s with tokens := s.tokens.roll }
  s.withSched fun c =>
    { c with cycle := c.cycle + 1, step := 0, opened := false, begun := false, sampled := false, latchDue := some 4
             decided := c.decided.filter fun d => decide (c.cycle < d.1)
             lateCounted := c.lateCounted.filter fun d => decide ((c.cycle + 1) * s.L ≤ d.2) }

/-- The array passes the boundary that ends its cycle. -/
def State.passBoundary (s : State) : State :=
  let n := s.arr.sched.cycle
  let s := (((s.runTo s.L).closeCycle).countEvent 8 0 1).passBundles
  ((s.pointBoundary n).stopBoundary n).wakeCycles

/-- CYCLE_BOUNDARY (R106, R120). -/
def execCycleBoundary (s : State) : Host.Outcome State Fault Refusal :=
  .next (if s.canReach (s.L - 1) && decide (0 < s.L) then s.passBoundary else s)

/-- CYCLE_LIMIT_REACHED (R202, R203): the boundary that ends the last cycle of a Step. -/
def execCycleLimitReached (s : State) : Host.Outcome State Fault Refusal :=
  .next (if s.canReach (s.L - 1) && decide (0 < s.L) && s.arr.sched.target == some s.arr.sched.cycle then s.passBoundary else s)

end Sys2Proof.Machine
end

