-- ==== Sys2Proof/Machine/Image.lean ====
section
/-! DEFINITION. Karsar images as staged bytes (R167, R168, Tables 7-1 to 7-3, 10-6, 10-7): the header, the directory, and the
items that the load checks and the commit read from the sections. -/

namespace Sys2Proof.Machine

/-! ### Bytes of an image -/

/-- The little-endian number of `n` bytes at an offset. -/
def Staged.num (m : Staged) (off n : Nat) : Nat :=
  m.bytes.foldl (fun v e => if Nat.ble off e.1 && Nat.blt e.1 (off + n) then v + e.2.toNat * 256 ^ (e.1 - off) else v) 0

/-- Every byte of a range is zero. -/
def Staged.isZero (m : Staged) (lo n : Nat) : Bool := m.bytes.all fun e => !decide (lo ≤ e.1 ∧ e.1 < lo + n)

/-- The nonzero records of `w` bytes in a range: index and little-endian value, in rising order. -/
def Staged.records (m : Staged) (lo n w : Nat) : List (Nat × Nat) :=
  (m.bytes.filter fun e => decide (lo ≤ e.1 ∧ e.1 < lo + n)).foldr (fun e acc =>
    let i := (e.1 - lo) / w
    let v := e.2.toNat * 256 ^ ((e.1 - lo) % w)
    match acc with
    | (j, x) :: r => if j = i then (j, x + v) :: r else (i, v) :: acc
    | [] => [(i, v)]) []

/-- A section directory entry (Table 7-2), with the offset of the entry itself. -/
structure Section where
  entry : Nat
  type : Nat
  die : Nat
  offset : Nat
  length : Nat
deriving DecidableEq, Repr

/-- Directory entry `i` of a directory at `base`. -/
def Staged.section (m : Staged) (base i : Nat) : Section :=
  let e := base + 24 * i
  ⟨e, m.num e 2, m.num (e + 2) 1, m.num (e + 8) 8, m.num (e + 16) 8⟩

/-- The header of a full image (Table 7-1). -/
structure Header where
  sections : List Section
  grade : Nat
  guestUse : Nat
  feature : Nat
  domainSize : Nat
  domainIndex : Nat
  length : Nat
  travel : Nat
  latency : List Nat
  allowance : Nat
  hbmArena : Nat
  deepArena : Nat
  channels : Nat
  compiler : Nat
  imageId : List Byte
deriving DecidableEq, Repr

/-- Read the header of a full image. -/
def Staged.header (m : Staged) : Header where
  sections := (List.range (m.num 0x006 2)).map (m.section 0x080)
  grade := m.num 0x008 1
  guestUse := m.num 0x009 1
  feature := m.num 0x00A 1
  domainSize := m.num 0x00B 1
  domainIndex := m.num 0x00C 1
  length := m.num 0x00E 2
  travel := m.num 0x010 4
  latency := (List.range 16).map fun k => m.num (0x014 + k) 1
  allowance := m.num 0x024 2
  hbmArena := m.num 0x028 8
  deepArena := m.num 0x030 8
  channels := m.num 0x038 4
  compiler := m.num 0x03C 4
  imageId := Sparse.getRun zeroByte m.bytes 0x040 16

/-- Sections of a type, in directory order; and the section of a type for a die. -/
def Header.ofType (h : Header) (t : Nat) : List Section := h.sections.filter fun s => s.type == t
def Header.find (h : Header) (t die : Nat) : Option Section := h.sections.find? fun s => s.type == t && s.die == die

/-- Dies of the grade that the header names (R168). -/
def Header.dies (h : Header) : Nat := h.grade

/-! ### Schedule sections (Table 10-7) -/

/-- Bytes of the schedule row of one die, and its 64-bit words. -/
def rowBytes : Nat := 0x1DC000
def rowWords : Nat := rowBytes / 8

/-- A schedule word of an image: die, step, die-local nib, word, and its offset in the image. -/
structure SchedWord where
  die : Nat
  step : Nat
  id : Nat
  word : BitVec 64
  offset : Nat
deriving DecidableEq, Repr

/-- A route word: die, step, cluster (tile × 32 + cluster), number 0 to 47, word and offset. -/
structure RouteWord where
  die : Nat
  step : Nat
  cluster : Nat
  number : Nat
  word : BitVec 64
  offset : Nat
deriving DecidableEq, Repr

/-- The words of a section that are not all zero, with their index. -/
def Staged.sectionWords (m : Staged) (s : Section) : List (Nat × Nat) := m.records s.offset s.length 8

/-- The schedule words of an image that are not the all-zero NOP, die by die and step by step. -/
def Staged.schedWords (m : Staged) (h : Header) : List SchedWord :=
  (h.ofType 0x0001).flatMap fun s => (m.sectionWords s).filterMap fun e =>
    if e.1 % rowWords < dieNibs then
      some ⟨s.die, e.1 / rowWords, e.1 % rowWords, BitVec.ofNat 64 e.2, s.offset + 8 * e.1⟩
    else none

/-- The route words of an image that are not zero. -/
def Staged.routeWords (m : Staged) (h : Header) : List RouteWord :=
  (h.ofType 0x0001).flatMap fun s => (m.sectionWords s).filterMap fun e =>
    let r := e.1 % rowWords - dieNibs
    if dieNibs ≤ e.1 % rowWords ∧ r < 2048 * 48 then
      some ⟨s.die, e.1 / rowWords, r / 48, r % 48, BitVec.ofNat 64 e.2, s.offset + 8 * e.1⟩
    else none

/-- The parity nibble stored for word `i` of the row of `step`, whose nibbles start at `base` in the row. -/
def Staged.parityNibble (m : Staged) (s : Section) (step base i : Nat) : Nat :=
  bits (m.num (s.offset + step * rowBytes + base + i / 2) 1) (4 * (i % 2)) 4

/-- The stored parity of a schedule word, and of a route word. -/
def Staged.wordParity (m : Staged) (h : Header) (w : SchedWord) : Nat := match h.find 0x0001 w.die with
  | some s => m.parityNibble s w.step 0x1C0000 w.id
  | none => 0
def Staged.routeParity (m : Staged) (h : Header) (w : RouteWord) : Nat := match h.find 0x0001 w.die with
  | some s => m.parityNibble s w.step 0x1D0000 (w.cluster * 48 + w.number)
  | none => 0

/-- Offsets of the all-zero words of a section whose stored parity is not zero. -/
def Staged.strayParity (m : Staged) (s : Section) : List Nat :=
  (m.records s.offset s.length 1).flatMap fun e =>
    let row := s.offset + e.1 / rowBytes * rowBytes
    let r := e.1 % rowBytes
    [0, 1].filterMap fun j =>
      let at' := if r < 0x1D0000 then row + (2 * (r - 0x1C0000) + j) * 8
        else row + 0x100000 + (2 * (r - 0x1D0000) + j) * 8
      if 0x1C0000 ≤ r ∧ bits e.2 (4 * j) 4 ≠ 0 ∧ m.num at' 8 = 0 then some at' else none

/-! ### Descriptors, calendars and regions -/

/-- A descriptor of an image: its port (die × 256 + tile × 4 + port), number, value as the image gives it, and offset. -/
structure ImageDesc where
  port : Nat
  desc : Nat
  value : BitVec 128
  offset : Nat
deriving DecidableEq, Repr

/-- The descriptors of an image that are not zero, die by die in order of tile, port and number. -/
def Staged.descriptors (m : Staged) (h : Header) : List ImageDesc :=
  (h.ofType 0x0004).flatMap fun s => (m.records s.offset s.length 16).map fun e =>
    ⟨s.die * 256 + e.1 / 64, e.1 % 64, BitVec.ofNat 128 e.2, s.offset + 16 * e.1⟩

/-- The valid ones. -/
def Staged.validDescs (m : Staged) (h : Header) : List ImageDesc := (m.descriptors h).filter fun d => descValid d.value

/-- The valid descriptor of a port and number. -/
def findDesc (ds : List ImageDesc) (port desc : Nat) : Option ImageDesc := ds.find? fun d => d.port == port && d.desc == desc

/-- Port of a schedule word's nib (Table 6-1: eight clusters to a port). -/
def SchedWord.port (w : SchedWord) : Nat := w.die * 256 + w.id / 512

def SchedWord.cls (w : SchedWord) : Option NibClass := opcodeClass (wordOpcode w.word)

/-- ENQ and WAIT words of a queue. -/
def queueWords (ws : List SchedWord) (cls : NibClass) (port desc : Nat) : List SchedWord :=
  ws.filter fun w => w.cls == some cls && w.port == port && wordDesc w.word == desc

/-- The calendar that the schedule gives a queue (R97, R100). -/
def calendarOf (ws : List SchedWord) (port desc : Nat) : Calendar :=
  let e := queueWords ws .enq port desc
  { enq := (e.map SchedWord.step).eraseDups.map fun t => (t, e.any fun w => w.step == t && wordPosition w.word == 127)
    waits := ((queueWords ws .wait port desc).map SchedWord.step).eraseDups }

/-- The arena base added to a descriptor's Base (R183). -/
def relocate (hbm deep : Nat) (d : BitVec 128) : BitVec 128 :=
  let b := if descClass d = 1 then hbm else if descClass d = 2 then deep else 0
  BitVec.ofNat 128 (setBits d.toNat 84 44 (descBase d + b))

/-- Base of the deep arena (R182): the lowest multiple of 1 GiB above every control region. -/
def State.deepBase (s : State) : Nat := (s.controlEnd + 2 ^ 30 - 1) / 2 ^ 30 * 2 ^ 30

/-- Bytes of a region, and its word count as a length in bytes. -/
def regionBytes (d : BitVec 128) : Nat := descWords d * unitBytes (descW d)

/-! ### MemoryInit records -/

/-- A MemoryInit record (below Table 7-3): where it stands, what it names, its first word, its count, the storage unit and the
offset of its words. -/
structure MemRecord where
  offset : Nat
  die : Nat
  tile : Nat
  port : Nat
  desc : Nat
  first : Nat
  count : Nat
  unit : Nat
  data : Nat
deriving DecidableEq, Repr

/-- Storage unit of the descriptor that a record names; 8 where there is none. [DEDUCED, unsafe: log 32] -/
def recordUnit (ds : List ImageDesc) (die tile port desc : Nat) : Nat :=
  if port < 4 ∧ tile < 64 ∧ desc < 64 then
    match ds.find? fun d => d.port == die * 256 + tile * 4 + port && d.desc == desc with
    | some d => unitBytes (descW d.value)
    | none => 8
  else 8

/-- The records of a section from `pos` to `stop`; the offset of the first one that breaks the layout ends the walk. -/
def Staged.memRecords (m : Staged) (ds : List ImageDesc) : (fuel pos stop : Nat) → List MemRecord × Option Nat
  | 0, _, _ => ([], none)
  | fuel + 1, pos, stop =>
    if pos = stop then ([], none)
    else if stop < pos + 24 then ([], some pos)
    else
      let r : MemRecord := { offset := pos, die := m.num pos 1, tile := m.num (pos + 1) 1, port := m.num (pos + 2) 1,
                             desc := m.num (pos + 3) 1, first := m.num (pos + 8) 8, count := m.num (pos + 16) 8,
                             unit := recordUnit ds (m.num pos 1) (m.num (pos + 1) 1) (m.num (pos + 2) 1) (m.num (pos + 3) 1),
                             data := pos + 24 }
      let used := r.count * r.unit
      let next := r.data + (used + 7) / 8 * 8
      if m.num (pos + 4) 4 ≠ 0 ∨ r.count = 0 ∨ stop < next ∨ m.isZero (r.data + used) (next - r.data - used) = false then
        ([], some pos)
      else
        let rest := Staged.memRecords m ds fuel next stop
        (r :: rest.1, rest.2)

/-- Every record of a section. -/
def Staged.sectionRecords (m : Staged) (h : Header) (s : Section) : List MemRecord × Option Nat :=
  m.memRecords (m.descriptors h) (s.length / 24 + 1) s.offset (s.offset + s.length)

/-! ### Region frames (R248, Tables 9-8 to 9-10) -/

/-- A frame of an image: its die, header fields, body as a number, and offset. -/
structure Frame where
  die : Nat
  kind : Nat
  tile : Nat
  cluster : Nat
  engine : Nat
  body : Nat
  offset : Nat
deriving DecidableEq, Repr

/-- Body length of a frame kind. -/
def bodyLength (kind : Nat) : Option Nat :=
  if kind = 1 then some 752 else if kind = 2 then some 496 else if kind = 3 then some 16 else if kind = 4 then some 96 else none

/-- The header fields of a frame are right (Table 9-8). -/
def frameHeaderOk (h : Nat) : Bool :=
  let k := bits h 60 4
  bits h 32 14 == 0 && bodyLength k == some (bits h 0 32) && (k == 1 || bits h 49 5 == 0) && (k == 3 || bits h 46 3 == 0)
    && (k != 4 || bits h 54 6 == 0)

/-- The frames of a section from `pos` to `stop`; the offset of the first malformed header ends the walk. -/
def Staged.framesFrom (m : Staged) (die : Nat) : (fuel pos stop : Nat) → List Frame × Option Nat
  | 0, _, _ => ([], none)
  | fuel + 1, pos, stop =>
    if pos = stop then ([], none)
    else
      let h := m.num pos 8
      if stop < pos + 8 ∨ frameHeaderOk h = false ∨ stop < pos + 8 + bits h 0 32 then ([], some pos)
      else
        let f : Frame := ⟨die, bits h 60 4, bits h 54 6, bits h 49 5, bits h 46 3, m.num (pos + 8) (bits h 0 32), pos⟩
        let rest := Staged.framesFrom m die fuel (pos + 8 + bits h 0 32) stop
        (f :: rest.1, rest.2)

/-- The frames of one WordCellFrames section. -/
def Staged.sectionFrames (m : Staged) (s : Section) : List Frame × Option Nat :=
  m.framesFrom s.die (s.length / 24 + 1) s.offset (s.offset + s.length)

/-- Every frame of a directory. -/
def Staged.frames (m : Staged) (ss : List Section) : List Frame :=
  (ss.filter fun s => s.type == 0x0003).flatMap fun s => (m.sectionFrames s).1

def Frame.tileKey (f : Frame) : Nat := f.die * 64 + f.tile
def Frame.clusterKey (f : Frame) : Nat := (f.die * 64 + f.tile) * 32 + f.cluster
def Frame.binding (f : Frame) : BridgeBinding := ⟨f.die, f.tile, f.body⟩

/-! ### Channel declarations and patches -/

/-- A channel declaration (Table 7-9). -/
structure Declaration where
  type : Nat
  toDesign : Bool
  depth : Nat
  bytes : Nat
  offset : Nat
deriving DecidableEq, Repr

/-- The declarations of an image. -/
def Staged.declarations (m : Staged) (h : Header) : List Declaration :=
  (h.ofType 0x0008).flatMap fun s => (List.range (s.length / 16)).map fun i =>
    let o := s.offset + 16 * i
    ⟨m.num o 1 % 16, m.num (o + 1) 1 == 1, m.num (o + 4) 4, m.num (o + 8) 4, o⟩

/-- A patch entry (Table 7-10). -/
structure Patch where
  kind : Nat
  width : Nat
  sect : Nat
  expect : Nat
  source : Nat
  target : Nat
  offset : Nat
deriving DecidableEq, Repr

/-- The patches of a directory, in table order. -/
def Staged.patches (m : Staged) (ss : List Section) : List Patch :=
  (ss.filter fun s => s.type == 0x0009).flatMap fun s => (List.range (s.length / 16)).map fun i =>
    let o := s.offset + 16 * i
    ⟨m.num o 1, m.num (o + 1) 1, m.num (o + 2) 1, m.num (o + 3) 1, m.num (o + 4) 4, m.num (o + 8) 8, o⟩

/-- Write one bit of an image. -/
def Staged.setBit (m : Staged) (i : Nat) (v : Bool) : Staged :=
  let b := Sparse.get zeroByte m.bytes (i / 8)
  { m with bytes := Sparse.set zeroByte m.bytes (i / 8) (bvSet b (i % 8) v) }

/-- Write a value of `w` bits from bit `at'` of a section upwards (R185). -/
def Staged.patchBits (m : Staged) (sect : Section) (at' w v : Nat) : Staged :=
  (List.range w).foldl (fun m i => m.setBit (8 * sect.offset + at' + i) (bit v i)) m

end Sys2Proof.Machine
end

