-- ==== Sys2Proof/Machine/ImageChecks.lean ====
section
/-! DEFINITION. The load checks of Table 7-11 (R168, R189, R522), stage by stage, and the power of an image (R171). Each check
answers the fault it finds with its argument and the offset that R522 records. -/

namespace Sys2Proof.Machine

/-- A fault that refuses an image or a stream: code, argument, and the 64-bit offset of R522. -/
structure LoadFault where
  code : Nat
  arg : Nat
  offset : Nat
deriving DecidableEq, Repr

/-- A fault of one item at an offset (Table 7-15, last row). -/
def LoadFault.item (code offset : Nat) : LoadFault := ⟨code, offset % 2 ^ 32, offset⟩

/-- A fault of no single item. [DEDUCED, unsafe: log 32] -/
def LoadFault.whole (code : Nat) : LoadFault := ⟨code, 2 ^ 32 - 1, 2 ^ 64 - 1⟩

/-- The fault of the first condition in a list that does not hold. -/
def firstBad (code : Nat) (l : List (Bool × Nat)) : Option LoadFault :=
  (l.find? fun x => !x.1).map fun x => LoadFault.item code x.2

/-- The lowest of a list of numbers. -/
def lowest (l : List Nat) : Option Nat := l.foldl (fun m x => match m with
  | none => some x
  | some y => some (min x y)) none

/-- A fault at the lowest of the offsets of failing items. -/
def faultAt (code : Nat) (l : List Nat) : Option LoadFault := (lowest l).map (LoadFault.item code)

/-- Fault when a condition does not hold. -/
def require (ok : Bool) (f : LoadFault) : Option LoadFault := if ok then none else some f

/-- The first fault of a list of checks. -/
def firstFault : List (Option LoadFault) → Option LoadFault
  | [] => none
  | some f :: _ => some f
  | none :: l => firstFault l

/-! ### Stage 1: header and directory (R167, R168) -/

/-- Section types of Table 7-3 that name a die. -/
def perDie (t : Nat) : Bool := decide (1 ≤ t ∧ t ≤ 5)

/-- Offset and length fields of a header in their order. -/
def Staged.headerFields (m : Staged) (h : Header) : List (Bool × Nat) := [
  (m.num 0x000 4 == 0x3958524B, 0x000), (m.num 0x004 2 == 1, 0x004),
  (decide (1 ≤ m.num 0x006 2 ∧ m.num 0x006 2 ≤ 255), 0x006),
  (h.grade == 8 || h.grade == 4 || h.grade == 2, 0x008), (decide (h.guestUse ≤ 1), 0x009),
  (h.feature == 1 || h.feature == 2, 0x00A), (h.domainSize == 0 || decide (2 ≤ h.domainSize ∧ h.domainSize ≤ 16), 0x00B),
  (if h.domainSize = 0 then h.domainIndex == 0 else decide (h.domainIndex < h.domainSize), 0x00C),
  (m.isZero 0x00D 1, 0x00D), (m.isZero 0x01E 6, 0x01E),
  (decide (h.allowance ≤ if h.guestUse = 1 then 250 else 0), 0x024), (m.isZero 0x026 2, 0x026),
  (decide (h.channels ≤ 65536), 0x038), (m.isZero 0x050 48, 0x050)]

/-- Length that stage 1 requires of a section, where the chapter fixes one before L is known. -/
def Header.lengthOk (h : Header) (s : Section) : Bool :=
  if s.type = 2 then s.length == dieNibs * 224
  else if s.type = 4 then s.length == 256 * 1024
  else if s.type = 8 then s.length == 16 * h.channels
  else if s.type = 9 then s.length % 16 == 0
  else if s.type = 11 then s.length % 4 == 0
  else true

/-- A directory entry on its own. [DESIGN CHOICE, unsafe: log 80] -/
def Staged.sectionOk (m : Staged) (h : Header) (s : Section) : Bool :=
  decide (1 ≤ s.type ∧ s.type ≤ 11) && m.isZero (s.entry + 3) 5 &&
    (if perDie s.type then decide (s.die < h.dies) else s.die == 0xFF) &&
    s.offset % 64 == 0 && decide (0x080 + 24 * h.sections.length ≤ s.offset ∧ s.offset + s.length ≤ m.length) && h.lengthOk s

/-- How often a type may stand in an image for each die, or module-wide (Table 7-3). -/
def Header.countOk (h : Header) (t : Nat) : Bool :=
  let n := (h.ofType t).length
  let each (k : Nat) : Nat := ((h.ofType t).filter fun s => s.die == k).length
  if 1 ≤ t ∧ t ≤ 4 then (List.range h.dies).all fun d => each d == 1
  else if t = 5 then (List.range h.dies).all fun d => decide (each d ≤ 1)
  else if t = 7 then n == 1
  else if t = 8 then n == if h.channels = 0 then 0 else 1
  else if t = 9 ∨ t = 10 then decide (n ≤ 1)
  else if t = 11 then n == if h.domainSize = 0 then 0 else 1
  else true

/-- Entries of sections that overlap an earlier one. -/
def overlapping (ss : List Section) : List Nat :=
  (List.range ss.length).filterMap fun i => match ss[i]? with
    | some s => if (ss.take i).any fun t => overlaps t.offset t.length s.offset s.length then some s.entry else none
    | none => none

/-- Lane records of a LaneLatencies section: reserved byte zero, Λ from 64 to 512 (Table 7-3). [DESIGN CHOICE, unsafe: log 80] -/
def Staged.laneRecordsBad (m : Staged) (h : Header) : List Nat :=
  (h.ofType 0x000B).flatMap fun s => (List.range (s.length / 4)).filterMap fun i =>
    let o := s.offset + 4 * i
    if m.num (o + 1) 1 = 0 ∧ m.num o 1 < 32 ∧ 64 ≤ m.num (o + 2) 2 ∧ m.num (o + 2) 2 ≤ 512 then none else some o

/-- Stage 1. [DEDUCED, unsafe: log 32] -/
def Staged.stage1 (m : Staged) (h : Header) : Option LoadFault :=
  firstFault [
    firstBad 0x4A16 (m.headerFields h),
    faultAt 0x4A16 ((h.sections.filter fun s => !m.sectionOk h s).map Section.entry),
    require ((List.range 12).all h.countOk) (LoadFault.whole 0x4A16),
    faultAt 0x4A16 (overlapping h.sections),
    faultAt 0x4A16 ((h.ofType 0x0006).filterMap fun s => (m.sectionRecords h s).2),
    faultAt 0x4A16 (m.laneRecordsBad h)]

/-! ### Stages 2 to 7 -/

/-- Feature level of a stepping (R178). -/
def State.moduleFeature (s : State) : Nat := (s.part.roms.map DieRom.feature).foldl min 2

/-- Bits 15-0 of 0x2D01:01: the bundles at half width (R113). -/
def State.halfMask (s : State) : Nat := maskOf ((List.range 16).filter s.halfWidth)

/-- `TravelTableVersion` (R113, R180): the base version in bits 31-16, the half-width mask in bits 15-0. -/
def State.travelVersion (s : State) : Nat :=
  (match s.part.grade with
    | .e8 => 0x0801
    | .e4 => 0x0401
    | .e2 => 0x0201) * 2 ^ 16 + s.halfMask

/-- Stage 6: the lowest die and class whose image latency lies outside native to native + 15 (R177). -/
def State.latencyFault (s : State) (latency : List Nat) : Option LoadFault :=
  ((List.range s.dies).flatMap fun d => (List.range 10).filterMap fun k =>
    let n := s.nativeLatency d k
    let i := latency.getD k 0
    if n ≤ i ∧ i ≤ n + 15 then none else some ⟨0x4A12, d * 2 ^ 24 + k * 2 ^ 16 + n * 2 ^ 8 + i, 0x014 + k⟩).head?

/-- Fitted tiles of a header's grade. -/
def Header.tiles (h : Header) : Nat := 64 * h.dies

/-- Stage 7 (R105, R168). -/
def Staged.stage7 (h : Header) : Option LoadFault :=
  if h.length % 16 ≠ 0 ∨ h.length < 64 ∨ 4096 < h.length then some ⟨0x4104, h.length, 0x00E⟩
  else faultAt 0x4A16 ((h.sections.filter fun s =>
    (s.type == 1 && s.length != h.length * rowBytes) || (s.type == 7 && s.length != 2 * h.tiles * (h.length / 16 + 1))).map
      Section.entry)

/-! ### Stage 8: power (R170 to R172) -/

/-- B[u][g] and W[u] of the BudgetVector section. -/
def Staged.budget (m : Staged) (h : Header) (u g : Nat) : Nat := match (h.ofType 7).head? with
  | some s => m.num (s.offset + 2 * (u * (h.length / 16) + g)) 2
  | none => 0
def Staged.cellBudget (m : Staged) (h : Header) (u : Nat) : Nat := match (h.ofType 7).head? with
  | some s => m.num (s.offset + 2 * (h.tiles * (h.length / 16) + u)) 2
  | none => 0

/-- Offsets of budget entries out of range. -/
def Staged.budgetBad (m : Staged) (h : Header) : List Nat := match (h.ofType 7).head? with
  | some s => (m.records s.offset s.length 2).filterMap fun e =>
      if e.2 ≤ (if e.1 < h.tiles * (h.length / 16) then 33280 else 12288) then none else some (s.offset + 2 * e.1)
  | none => []

/-- p_fixed in 0.1 W (Table 7-5). -/
def Grade.fixedPower : Grade → Nat
  | .e8 => 2650
  | .e4 => 1600
  | .e2 => 1064

/-- P_image in 0.1 W, rounded up (R171): 1.08 × (p_fixed + 0.42 pJ × peak ÷ 12.8 ns + 0.42 pJ × cells ÷ 10 ns + guest). -/
def imagePower (g : Grade) (peak cells guest : Nat) : Nat :=
  (27 * ((g.fixedPower + guest) * 1600000 + 525 * peak + 672 * cells) + 39999999) / 40000000

/-- Sum over the tiles of `f`. -/
def sumTiles (n : Nat) (f : Nat → Nat) : Nat := (List.range n).foldl (fun t u => t + f u) 0

/-- Largest segment sum of the vector. -/
def Staged.segmentPeak (m : Staged) (h : Header) : Nat :=
  (List.range (h.length / 16)).foldl (fun p g => max p (sumTiles h.tiles fun u => m.budget h u g)) 0

/-- P_image of an image. -/
def State.powerOf (s : State) (m : Staged) (h : Header) : Nat :=
  imagePower s.part.grade (m.segmentPeak h) (sumTiles h.tiles (m.cellBudget h)) (if h.guestUse = 1 then h.allowance else 0)

/-- Key of `PowerCeiling`. -/
def ceilingKey : Nat := 0x220101

/-- Stage 8. -/
def State.stage8 (s : State) (m : Staged) (h : Header) : Option LoadFault :=
  firstFault [faultAt 0x4A16 (m.budgetBad h),
    require (decide (s.powerOf m h ≤ s.entry ceilingKey)) ⟨0x4A14, s.powerOf m h, 2 ^ 64 - 1⟩]

/-! ### Stage 9: schedule and route words -/

/-- The first `k` operand fields obey R55. -/
def operandsOk (w : BitVec 64) (k : Nat) : Bool :=
  (List.range k).all fun j => !wordSelect w j || decide (wordOperand w j < 256)

/-- A schedule word is valid (R55, R88, R89). -/
def wordValid (w : BitVec 64) : Bool :=
  let zero (lo n : Nat) : Bool := bits w.toNat lo n == 0
  match opcodeClass (wordOpcode w) with
  | none => false
  | some .nop => w == 0
  | some .eval => operandsOk w 4
  | some .send => operandsOk w 4
  | some .store => operandsOk w 3 && zero 48 8 && zero 8 2
  | some .probe => operandsOk w 3 && zero 48 8 && zero 6 4
  | some .sync => operandsOk w 3 && zero 1 9
  | some .enq => operandsOk w 3 && zero 54 2 && zero 7 3
  | some .wait => zero 54 2 && zero 7 41

/-- A crossing-out entry (route words 32 to 47) has a nonzero Rx field (R74). -/
def routeWordBad (w : RouteWord) : Bool :=
  decide (32 ≤ w.number) && (List.range 4).any fun e => bits w.word.toNat (16 * e) 8 != 0

/-- Decision lead of an image (R116). -/
def Staged.lambdas (m : Staged) (h : Header) : List Nat :=
  (h.ofType 0x000B).flatMap fun s => (List.range (s.length / 4)).map fun i => m.num (s.offset + 4 * i + 2) 2
def Staged.lead (m : Staged) (h : Header) : Nat :=
  if h.domainSize = 0 then 12 else 32 + (m.lambdas h).foldl max 0

/-- SYNC stands too late: above L − 1 − D, or above L − 13 (R94, R130). -/
def Staged.lateSync (m : Staged) (h : Header) (t : Nat) : Bool := decide (h.length < t + 1 + m.lead h ∨ h.length < 13 + t)

/-- Placement of WAIT and SYNC words (R94, R99, R130). -/
def Staged.misplaced (m : Staged) (h : Header) (w : SchedWord) : Bool :=
  (w.cls == some .wait && w.step % 16 != 0) ||
    (w.cls == some .sync && m.lateSync h w.step)

/-- What a WAIT names (R99). -/
def waitNames (ds : List ImageDesc) (w : SchedWord) : Bool := match findDesc ds w.port (wordDesc w.word) with
  | none => false
  | some d => !descWrite d.value && decide (wordPosition w.word < descW d.value)

/-- Request width of a descriptor: address, and data of a write (R98). -/
def requestWidth (d : BitVec 128) : Nat := descA d + if descWrite d then descW d else 0

/-- What an ENQ names (R98). -/
def enqNames (ds : List ImageDesc) (w : SchedWord) : Bool := match findDesc ds w.port (wordDesc w.word) with
  | none => false
  | some d => wordPosition w.word == 127 || decide (wordPosition w.word < requestWidth d.value)

/-- Two ENQ words of one group name one position (R98), or two groups issue on one port in one step (R138). -/
def enqClash (ws : List SchedWord) (w : SchedWord) : Bool :=
  ws.any fun x => x.offset != w.offset && x.cls == some .enq && x.port == w.port && x.step == w.step &&
    (wordDesc x.word != wordDesc w.word || wordPosition x.word == wordPosition w.word)

/-- Two PROBE words of one tile name one lane at one step (R92). -/
def probeClash (ws : List SchedWord) (w : SchedWord) : Bool :=
  ws.any fun x => x.offset != w.offset && x.cls == some .probe && x.die == w.die && x.id / 2048 == w.id / 2048 &&
    x.step == w.step && wordLane x.word == wordLane w.word

/-- Stage 9. -/
def Staged.stage9 (m : Staged) (h : Header) : Option LoadFault :=
  let ws := m.schedWords h
  let rs := m.routeWords h
  let ds := m.validDescs h
  let enq := ws.filter fun w => w.cls == some .enq
  let at' (l : List SchedWord) := l.map SchedWord.offset
  firstFault [
    faultAt 0x4101 (at' (ws.filter fun w => !wordValid w.word) ++ (rs.filter routeWordBad).map RouteWord.offset),
    faultAt 0x4102 (at' (ws.filter (m.misplaced h))),
    faultAt 0x4101 (at' (ws.filter fun w => w.cls == some .probe && probeClash ws w)),
    faultAt 0x4101 (at' ((enq.filter fun w => !enqNames ds w || enqClash ws w) ++
      ws.filter fun w => w.cls == some .wait && !waitNames ds w)),
    faultAt 0x4106 (at' (ws.filter fun w => m.wordParity h w != (parityOf w.word).toNat) ++
      (rs.filter fun w => m.routeParity h w != (parityOf w.word).toNat).map RouteWord.offset ++
      (h.ofType 0x0001).flatMap m.strayParity)]

/-! ### Stage 10: arenas, descriptors, memory contents -/

/-- A valid descriptor keeps the field ranges of Table 6-3 and the first cases of R142. -/
def descFieldsOk (d : BitVec 128) : Bool :=
  let n := d.toNat
  decide (1 ≤ descWords d ∧ bits n 40 3 = 0 ∧ 1 ≤ descA d ∧ descA d ≤ 40 ∧ 1 ≤ descW d ∧ descW d ≤ 64 ∧ descClass d ≠ 3 ∧
      1 ≤ descDepth d ∧ bits n 0 8 = 0) &&
    (!descWrite d || (descCarry d == 0 && decide (descA d + descW d ≤ 127))) &&
    descBase d % unitBytes (descW d) == 0 && decide (descWords d ≤ 2 ^ descA d)

/-- The region lies in its tile's banks or in its arena (R142). -/
def Header.regionFits (h : Header) (d : ImageDesc) : Bool :=
  let lo := descBase d.value
  let hi := lo + regionBytes d.value
  if descClass d.value = 0 then
    let t := d.port % 256 / 4
    decide (t * 0x300000 ≤ lo ∧ hi ≤ (t + 1) * 0x300000)
  else if descClass d.value = 1 then decide (hi ≤ h.hbmArena)
  else decide (hi ≤ h.deepArena)

/-- First and last on-die bank of a region, within its die (R136). -/
def regionBanks (d : BitVec 128) : Nat × Nat := (descBase d / 0x20000, (descBase d + regionBytes d - 1) / 0x20000)

/-- Regions of two ports conflict (R142): they overlap, or cover bytes of one bank. -/
def regionsClash (a b : ImageDesc) : Bool :=
  a.port != b.port && descClass a.value == descClass b.value &&
    if descClass a.value = 0 then
      let x := regionBanks a.value
      let y := regionBanks b.value
      portDie a.port == portDie b.port && decide (x.1 ≤ y.2 ∧ y.1 ≤ x.2)
    else overlaps (descBase a.value) (regionBytes a.value) (descBase b.value) (regionBytes b.value)

/-- Offsets of descriptors that conflict with an earlier one. -/
def clashing (ds : List ImageDesc) : List Nat :=
  (List.range ds.length).filterMap fun i => match ds[i]? with
    | some d => if (ds.take i).any fun e => regionsClash e d then some d.offset else none
    | none => none

/-- Sum of the depths of a port. -/
def portDepth (ds : List ImageDesc) (port : Nat) : Nat :=
  (ds.filter fun d => d.port == port).foldl (fun n d => n + descDepth d.value) 0

/-- Follow one cycle of a read descriptor (R146): the occupancy stays within Depth. -/
def carryRun (c : Calendar) (depth : Nat) : (fuel step occ : Nat) → Bool
  | 0, _, _ => true
  | fuel + 1, step, occ =>
    let occ := occ + b2n (c.enq.any fun e => e.1 == step)
    decide (occ ≤ depth) && carryRun c depth fuel (step + 1) (occ - b2n (c.waits.contains step))

/-- R146 for a read descriptor. -/
def carryOk (h : Header) (c : Calendar) (d : BitVec 128) : Bool :=
  c.enq.length == c.waits.length && carryRun c (descDepth d) h.length 0 (descCarry d)

/-- ENQ steps within the `n` steps that end with step `t`, over repeating cycles of L steps. -/
def inWindow (L : Nat) (steps : List Nat) (n t : Nat) : Nat :=
  n / L * steps.length + (steps.filter fun e => decide ((t + L - e) % L < n % L)).length

/-- The greatest number of ENQ steps within `n` consecutive steps. -/
def busiest (L : Nat) (steps : List Nat) (n : Nat) : Nat := steps.foldl (fun m t => max m (inWindow L steps n t)) 0

/-- P and M of a write descriptor (R148). -/
def writeMargins (L D : Nat) (c : Calendar) (d : BitVec 128) : Nat × Nat :=
  let steps := c.enq.map Prod.fst
  (busiest L steps (classWindow (descClass d) 0 + (D - 12)), busiest L steps (D + 16))

/-- A region covers an unavailable bank (R165). -/
def State.coversLost (s : State) (d : ImageDesc) : Bool :=
  descClass d.value == 0 && s.mem.march.unavailable.any fun b =>
    b / 1536 == portDie d.port && decide ((regionBanks d.value).1 ≤ b % 1536 ∧ b % 1536 ≤ (regionBanks d.value).2)

/-- Carry entries of the read descriptors of a die, in order of tile, port and descriptor. -/
def carries (ds : List ImageDesc) (die : Nat) : List ImageDesc :=
  ds.filter fun d => portDie d.port == die && !descWrite d.value && descCarry d.value != 0

/-- The InitialAnswers section of a die is missing, of a wrong length, or has a bit at or above W. -/
def Staged.answersFault (m : Staged) (h : Header) (ds : List ImageDesc) (die : Nat) : Option LoadFault :=
  let cs := carries ds die
  let ws := cs.flatMap fun d => List.replicate (descCarry d.value) (descW d.value)
  match h.find 0x0005 die with
  | none => if cs.isEmpty then none else some (LoadFault.whole 0x4A16)
  | some s =>
    if s.length ≠ 8 * ws.length then some (LoadFault.item 0x4A16 s.entry)
    else faultAt 0x4A16 ((m.records s.offset s.length 8).filterMap fun e =>
      if e.2 < 2 ^ ws.getD e.1 0 then none else some (s.offset + 8 * e.1))

/-- Every MemoryInit record. -/
def Staged.allRecords (m : Staged) (h : Header) : List MemRecord := (h.ofType 0x0006).flatMap fun s => (m.sectionRecords h s).1

/-- A record names a valid descriptor and stays within its region (R183). -/
def recordOk (ds : List ImageDesc) (r : MemRecord) : Bool :=
  decide (r.tile < 64 ∧ r.port < 4 ∧ r.desc < 64) && match findDesc ds (r.die * 256 + r.tile * 4 + r.port) r.desc with
    | some d => decide (r.first + r.count ≤ descWords d.value)
    | none => false

/-- Stage 10. -/
def State.stage10 (s : State) (m : Staged) (h : Header) : Option LoadFault :=
  let ws := m.schedWords h
  let ds := m.validDescs h
  let bad (p : ImageDesc → Bool) : List Nat := (ds.filter p).map ImageDesc.offset
  let cal (d : ImageDesc) := calendarOf ws d.port d.desc
  firstFault ([
    require (h.hbmArena % 2 ^ 30 == 0 && decide (h.hbmArena ≤ s.part.grade.hbmBytes)) (LoadFault.item 0x5102 0x028),
    require (h.deepArena % 2 ^ 30 == 0 && (h.deepArena == 0 || decide (s.deepBase + h.deepArena ≤ s.ddrEnd)))
      (LoadFault.item 0x5102 0x030),
    faultAt 0x5102 (bad fun d => !descFieldsOk d.value || !h.regionFits d),
    faultAt 0x5102 (clashing ds),
    faultAt 0x4109 (bad fun d => decide (256 < portDepth ds d.port)),
    faultAt 0x4109 (bad fun d => !descWrite d.value && !carryOk h (cal d) d.value),
    faultAt 0x4109 (bad fun d => descWrite d.value &&
      decide (descDepth d.value < (writeMargins h.length (m.lead h) (cal d) d.value).1
        + (writeMargins h.length (m.lead h) (cal d) d.value).2)),
    faultAt 0x5103 (bad s.coversLost)]
    ++ (List.range h.dies).map (m.answersFault h ds)
    ++ [faultAt 0x5102 (((m.allRecords h).filter fun r => !recordOk ds r).map MemRecord.offset)])

/-! ### Stage 11: word-cell frames (R249) -/

/-- A word-cell instruction entry is valid (Table 9-2). -/
def cellEntryOk (e : Nat) : Bool :=
  decide (bits e 43 5 ≤ 23 ∧ bits e 40 3 ≤ 5 ∧ bits e 36 4 ≤ 11 ∧ bits e 32 4 ≤ 11 ∧ bits e 18 3 ≤ 6 ∧ bits e 0 13 = 0)

/-- Fields and reserved bits of a ClusterFrame. -/
def clusterBodyOk (b : Nat) : Bool :=
  ((List.range 8).all fun c => (List.range 8).all (fun e => cellEntryOk (bits b (704 * c + 48 * e) 48)) &&
    bits b (704 * c + 609) 7 == 0 && bits b (704 * c + 692) 12 == 0) && bits b 5968 48 == 0

/-- FCLK field `k` of a ModuleFrame. [DEDUCED, unsafe: log 32] -/
def fclkOf (b k : Nat) : Nat := bits b (16 * k) 16

/-- A burst spine is sourced from an FCLK that is on. -/
def spineOk (fclk : List Nat) (b p : Nat) : Bool :=
  bits b (128 * p + 93) 35 == 0 && (bits b (128 * p + 81) 12 == 0 || match lowestBit (bits b (128 * p) 81) 81 with
    | some c => decide (c < 16) && fclkK (fclk.getD c 0) != 0
    | none => false)

/-- Channel-port entry `p` of a TileFrame. -/
def portField (b p : Nat) : Nat := bits b (3328 + 192 * p) 192

/-- An enabled channel port names a declaration of its direction (R249). -/
def portDeclOk (decls : List Bool) (v : Nat) : Bool :=
  v / 2 ^ 133 == 0 && (!portEnable v || decls[portDecl v]? == some (portToDesign v))

/-- Global input `j` of a tile names no neighbour beyond the die edge (R225). -/
def globalInOk (tk b j : Nat) : Bool :=
  (List.range 64).all fun i => !bit (bits b (2304 + 64 * j) 64) i || (neighbourTile tk (i / 16)).isSome

/-- Fields and reserved bits of a TileFrame. -/
def tileBodyOk (fclk : List Nat) (decls : List Bool) (tk b : Nat) : Bool :=
  (List.range 8).all (spineOk fclk b) && (List.range 16).all (globalInOk tk b) &&
    portDeclOk decls (portField b 0) && portDeclOk decls (portField b 1)

/-- Field ranges of a BridgeFrame (Table 9-10). -/
def bridgeBodyOk (x : BridgeBinding) : Bool :=
  x.body / 2 ^ 73 == 0 && decide (x.firstLane ≤ if x.laneKind = 0 then 31 else 95) &&
    decide (1 ≤ x.laneCount ∧ x.laneCount ≤ 16 ∧ x.laneRate ≤ (if x.laneKind = 0 then 2 else 0) ∧
      1 ≤ x.txDepth ∧ x.txDepth ≤ 2048 ∧ 1 ≤ x.rxDepth ∧ x.rxDepth ≤ 2048 ∧ 1 ≤ x.beatsPerCycle ∧
      1 ≤ x.highWater ∧ x.highWater ≤ x.rxDepth)

/-- Lanes of an enabled engine: within the grade or the pins, and a pin lane's clock at most 200 MHz (R240, R249). -/
def bridgeLanesOk (g : Grade) (fclk : List Nat) (x : BridgeBinding) : Bool :=
  !x.enable || if x.laneKind = 0 then decide (x.firstLane + x.laneCount ≤ g.lanes)
    else decide (x.firstLane + x.laneCount ≤ 96 ∧ fclkM (fclk.getD x.clock 0) ≤ 2 * fclkK (fclk.getD x.clock 0))

/-- Two enabled engines claim one lane. -/
def lanesClash (x y : BridgeBinding) : Bool :=
  x.enable && y.enable && x.laneKind == y.laneKind && overlaps x.firstLane x.laneCount y.firstLane y.laneCount

/-- Reserved bits and probe selects of a ModuleFrame. -/
def moduleBodyOk (dies b : Nat) : Bool :=
  ((List.range 16).all fun k => !bit (fclkOf b k) 15) && (List.range 16).all fun i =>
    let v := bits b (256 + 32 * i) 32
    bits v 0 15 == 0 && bits v 30 2 != 3 && (bits v 30 2 == 0 || decide (bits v 27 3 < dies))

/-- Frames of the fabric as it would stand after the commit, with the declarations and terms they are checked against. -/
structure FabricCheck where
  grade : Grade
  frames : List Frame
  fclk : List Nat
  /-- Directions of the declarations (true: software to design) and their depths. -/
  decls : List Bool
  depths : List Nat
  length : Nat
  lead : Nat
  crossStage : Nat
deriving DecidableEq, Repr

def FabricCheck.ofKind (c : FabricCheck) (k : Nat) : List Frame := c.frames.filter fun f => f.kind == k

/-- Cluster keys with an enabled channel port. -/
def FabricCheck.portClusters (c : FabricCheck) : List Nat :=
  (c.ofKind 2).flatMap fun f => [0, 1].filterMap fun p =>
    if portEnable (portField f.body p) then some (f.tileKey * 32 + portCluster (portField f.body p)) else none

/-- Check 1 of one frame. -/
def FabricCheck.frameOk (c : FabricCheck) (f : Frame) : Bool :=
  if f.kind = 1 then clusterBodyOk f.body
  else if f.kind = 2 then tileBodyOk c.fclk c.decls f.tileKey f.body
  else if f.kind = 3 then bridgeBodyOk f.binding && bridgeLanesOk c.grade c.fclk f.binding &&
    !(f.binding.enable && c.portClusters.contains f.binding.cluster)
  else f.die == 0 && moduleBodyOk c.grade.dies f.body

/-- Two frames that may not stand together: one cluster, tile, engine or module twice, or one lane claimed twice. -/
def framesClash (x y : Frame) : Bool :=
  x.kind == y.kind &&
    if x.kind = 1 then x.clusterKey == y.clusterKey
    else if x.kind = 2 then x.tileKey == y.tileKey
    else if x.kind = 3 then x.engine == y.engine || lanesClash x.binding y.binding
    else true

/-- Offsets of frames that clash with an earlier one. -/
def repeated (fs : List Frame) : List Nat :=
  (List.range fs.length).filterMap fun i => match fs[i]? with
    | some f => if (fs.take i).any fun g => framesClash g f then some f.offset else none
    | none => none

/-- Every select field of a frame body: start and width. -/
def selectFields (kind : Nat) : List (Nat × Nat) :=
  if kind = 1 then
    ((List.range 8).flatMap fun c => (List.range 4).map (fun i => (704 * c + 616 + 17 * i, 16)) ++ [(704 * c + 684, 8)]) ++
      [(5632, 8), (5640, 8)] ++ (List.range 4).map fun p => (5648 + 80 * p, 80)
  else if kind = 2 then
    (List.range 8).map (fun p => (128 * p, 81)) ++ (List.range 16).map (fun j => (1024 + 80 * j, 80)) ++
      (List.range 16).map (fun j => (2304 + 64 * j, 64)) ++ (List.range 4).map fun o => (3712 + 64 * o, 64)
  else []

/-- At most one bit of a field is set. -/
def oneHot (x n : Nat) : Bool := decide (((List.range n).filter fun i => bit x i).length ≤ 1)

/-- The fabric that the frames make, released. -/
def FabricCheck.fabric (c : FabricCheck) (base : Fabric) : Fabric :=
  { base with
    clusterFrames := (c.ofKind 1).foldl (fun m f => Sparse.set (fun _ => 0) m f.clusterKey f.body) []
    tileFrames := (c.ofKind 2).foldl (fun m f => Sparse.set (fun _ => 0) m f.tileKey f.body) []
    fclk := c.fclk
    cells := []
    release := (List.range (c.grade.dies * 64)).map fun tk => (tk, 3) }

/-- The clock domain of a cell (R231): an FCLK with its BurstCount, the I/O clock, or a flag spine of one tile. -/
def Fabric.domainOf (f : Fabric) (k : Nat) : Option (Nat × Nat × Nat) :=
  match f.spineOf k with
  | none => none
  | some p => match lowestBit (f.spineSelect (k / 256) p) 81 with
    | none => none
    | some c => some (if c < 16 then (c, f.burstCount (k / 256) p, 0) else if c = 16 then (16, 0, 0) else (17, k / 256, p))

/-- The cell at which the route of input `i` of cell `k` starts. -/
def Fabric.routeSource (f : Fabric) (k i : Nat) : Option Nat := match lowestBit (f.inputSelect k i) 16 with
  | some c => if c < 8 then some (k / 8 * 8 + c) else if 9 ≤ c ∧ c ≤ 12 then (f.clusterIn (k / 8) (c - 9)).source else none
  | none => none

/-- An input joins two domains without Sync (R231). -/
def Fabric.unsynced (f : Fabric) (k i : Nat) : Bool :=
  !f.inputSync k i && match f.routeSource k i with
    | some src => match f.domainOf k, f.domainOf src with
      | some a, some b => a != b
      | _, _ => false
    | none => false

/-- Room margin M of R242 and R245 for the terms of an image. -/
def FabricCheck.margin (c : FabricCheck) (n : Nat) : Nat := n * (1 + (c.length - 1 + c.lead) / c.length)

/-- R230 for a spine: (3 + N + CrossStage) × T ≤ (L − 8) × 0.8 ns, with T = 10 ns × K ÷ M. -/
def FabricCheck.burstOk (c : FabricCheck) (b p : Nat) : Bool :=
  bits b (128 * p + 81) 12 == 0 || match lowestBit (bits b (128 * p) 81) 81 with
    | some k =>
      let v := c.fclk.getD k 0
      decide ((3 + bits b (128 * p + 81) 12 + c.crossStage) * 100 * fclkK v ≤ (c.length - 8) * 8 * fclkM v)
    | none => true

/-- Sum of Width × 32 × clock over the enabled engines, in Mb/s, as a fraction (R241). -/
def FabricCheck.bandwidth (c : FabricCheck) : Nat × Nat :=
  (c.ofKind 3).foldl (fun t f =>
    let v := c.fclk.getD f.binding.clock 0
    if f.binding.enable && fclkK v != 0 then
      (t.1 * fclkK v + f.binding.width * 32 * 100 * fclkM v * t.2, t.2 * fclkK v)
    else t) (0, 1)

/-- Checks 1 to 7 of R249 on well-formed frames. -/
def FabricCheck.run (c : FabricCheck) (base : Fabric) : Option LoadFault :=
  let f := c.fabric base
  let bad (k : Nat) (p : Frame → Bool) : List Nat := ((c.ofKind k).filter p).map Frame.offset
  firstFault [
    faultAt 0x3102 ((c.frames.filter fun x => !c.frameOk x).map Frame.offset ++ repeated c.frames),
    faultAt 0x3101 ((c.frames.filter fun x => !(selectFields x.kind).all fun s => oneHot (bits x.body s.1 s.2) s.2).map
      Frame.offset),
    faultAt 0x3103 (bad 4 fun x => (List.range 16).any fun k =>
      let v := fclkOf x.body k
      fclkK v != 0 && !decide (8 ≤ fclkM v ∧ fclkM v ≤ 96 ∧ fclkM v ≤ 8 * fclkK v ∧ fclkK v ≤ 100 * fclkM v)),
    faultAt 0x3104 (bad 1 fun x => (List.range 8).any fun w => (List.range 4).any fun i => f.unsynced (x.clusterKey * 8 + w) i),
    faultAt 0x3105 (bad 2 fun x => (List.range 8).any fun p => !c.burstOk x.body p),
    faultAt 0x3106 ((bad 3 fun x => x.binding.enable && decide (x.binding.txDepth ≤ c.margin x.binding.beatsPerCycle)) ++
      bad 2 fun x => [0, 1].any fun p =>
        let v := portField x.body p
        portEnable v && !portToDesign v && decide (c.depths.getD (portDecl v) 0 ≤ c.margin (portRate v))),
    require (decide (c.bandwidth.1 ≤ 1600000 * c.bandwidth.2)) (LoadFault.whole 0x3107)]

/-- Frame counts of a full image (R248): one ClusterFrame for each cluster, one TileFrame for each tile, one ModuleFrame. -/
def FabricCheck.countsOk (c : FabricCheck) : Bool :=
  (c.ofKind 1).length == c.grade.dies * 2048 && (c.ofKind 2).length == c.grade.dies * 64 && (c.ofKind 4).length == 1

/-- FCLK fields of the ModuleFrame. -/
def fclkList (fs : List Frame) : List Nat := match fs.find? fun f => f.kind == 4 with
  | some f => (List.range 16).map (fclkOf f.body)
  | none => List.replicate 16 0

/-- What stage 11 checks in a full image. -/
def State.fabricCheck (s : State) (m : Staged) (h : Header) : FabricCheck where
  grade := s.part.grade
  frames := m.frames h.sections
  fclk := fclkList (m.frames h.sections)
  decls := (m.declarations h).map Declaration.toDesign
  depths := (m.declarations h).map Declaration.depth
  length := h.length
  lead := m.lead h
  crossStage := h.latency.getD 7 0

/-- Malformed frame headers. -/
def Staged.frameHeaderFault (m : Staged) (ss : List Section) : Option LoadFault :=
  faultAt 0x3102 ((ss.filter fun s => s.type == 0x0003).filterMap fun s => (m.sectionFrames s).2)

/-- Stage 11. -/
def State.stage11 (s : State) (m : Staged) (h : Header) : Option LoadFault :=
  let c := s.fabricCheck m h
  firstFault [m.frameHeaderFault h.sections, (c.run s.fabric).bind fun f => if f.code = 0x3102 then some f else none,
    require c.countsOk (LoadFault.whole 0x3102), c.run s.fabric]

/-! ### Stage 12: channels (R184) -/

/-- Fields of a declaration (Table 7-9); types 1 and 3 have Direction 0, type 2 Direction 1 (R310). -/
def Staged.declOk (m : Staged) (d : Declaration) : Bool :=
  m.num d.offset 1 / 16 == 0 && decide (1 ≤ d.type ∧ d.type ≤ 3) && d.toDesign == (d.type == 2) &&
    decide (m.num (d.offset + 1) 1 ≤ 1) && m.isZero (d.offset + 2) 2 &&
    decide (1 ≤ d.depth ∧ d.depth ≤ 65536 ∧ 8 ≤ d.bytes ∧ d.bytes ≤ 4096) && d.bytes % 8 == 0 && m.isZero (d.offset + 12) 4

/-- Blocks of the general scratchpad in use: buffers of live channels and the binding table. -/
def State.scratchUsed (s : State) : List (Nat × Nat) :=
  (s.chan.live.map fun c => (c.2.buffer, c.2.depth * c.2.bytes)) ++ match s.image with
    | some i => [(i.bindingAddress, i.bindingLength)]
    | none => []

/-- A block at `a` of `n` bytes is clear of the blocks in use. -/
def placeOk (used : List (Nat × Nat)) (a n : Nat) : Bool :=
  a % 64 == 0 && decide (a + n ≤ secureBase) && used.all fun u => !overlaps a n u.1 u.2

/-- Place a block of `n` bytes: where the loader chooses if it is free, else at the first free place. -/
def placeBlock (used : List (Nat × Nat)) (n : Nat) : Option Nat :=
  (Config.scratchPlace used n :: 0 :: used.map fun u => (u.1 + u.2 + 63) / 64 * 64).find? fun a => placeOk used a n

/-- Place the buffers of the declarations in order. -/
def placeAll (used : List (Nat × Nat)) : List Nat → Option (List Nat)
  | [] => some []
  | n :: ns => match placeBlock used n with
    | none => none
    | some a => (placeAll ((a, n) :: used) ns).map fun l => a :: l

/-- The lowest channel slots that are neither live nor declared. -/
def State.freeSlots (s : State) (n : Nat) : List Nat :=
  ((List.range 65536).filter fun k => !s.chan.declared.contains k && !s.chan.live.any fun c => c.1 == k).take n

/-- What the loader has reserved for the declarations (R184): slots and buffers. -/
structure Reservation where
  slots : List Nat
  buffers : List Nat
deriving DecidableEq, Repr

/-- Reserve slots and buffers. -/
def State.reserve (s : State) (ds : List Declaration) : Option Reservation :=
  let slots := s.freeSlots ds.length
  if slots.length < ds.length then none
  else (placeAll s.scratchUsed (ds.map fun d => d.depth * d.bytes)).map fun b => ⟨slots, b⟩

/-- Stage 12. -/
def State.stage12 (s : State) (m : Staged) (h : Header) : Option LoadFault :=
  let ds := m.declarations h
  firstFault [faultAt 0x4A16 ((ds.filter fun d => !m.declOk d).map Declaration.offset),
    require (s.reserve ds).isSome ⟨0x4A15, h.channels, 2 ^ 64 - 1⟩]

/-! ### Stage 13: patches (R185, R186) -/

/-- Source of a patch: what the descriptors and declarations in force give it. -/
structure PatchSources where
  /-- Relocated Base of a valid descriptor by die × 16,384 + tile × 256 + port × 64 + descriptor. -/
  base : List (Nat × Nat)
  /-- Type, handle and buffer of each declaration. -/
  decls : List (Nat × Nat × Nat)
deriving DecidableEq, Repr

/-- The value that a patch writes, where its source exists. -/
def PatchSources.value (p : PatchSources) (e : Patch) : Option Nat :=
  if e.kind = 1 then (p.base.find? fun b => b.1 == e.source).map Prod.snd
  else if e.kind = 2 then (p.decls[e.source]?).map fun d => d.2.1
  else if e.kind = 3 then (p.decls[e.source]?).map fun d => d.2.2
  else none

/-- Width and ExpectType are in range (Table 7-10). -/
def patchFieldsOk (e : Patch) : Bool :=
  if e.kind = 2 then e.width == 32 && decide (e.expect < 16)
  else decide ((e.kind = 1 ∨ e.kind = 3) ∧ 1 ≤ e.width ∧ e.width ≤ 44 ∧ e.expect = 0)

/-- The target section is a WordCellFrames or BindingTable section that holds the field. -/
def patchTargetOk (ss : List Section) (e : Patch) : Bool := match ss[e.sect]? with
  | some s => (s.type == 0x0003 || s.type == 0x000A) && decide (e.target + e.width ≤ 8 * s.length)
  | none => false

/-- A patch entry on its own. -/
def PatchSources.ok (p : PatchSources) (ss : List Section) (e : Patch) : Bool :=
  patchFieldsOk e && patchTargetOk ss e && match p.value e with
    | some v => decide (v < 2 ^ e.width)
    | none => false

/-- Entries whose fields overlap those of an earlier one. -/
def patchOverlaps (ps : List Patch) : List Nat :=
  (List.range ps.length).filterMap fun i => match ps[i]? with
    | some e => if (ps.take i).any fun q => q.sect == e.sect && overlaps q.target q.width e.target e.width then some e.offset
        else none
    | none => none

/-- Entries whose ExpectType differs from the declared type (R186). -/
def PatchSources.typeBad (p : PatchSources) (e : Patch) : Bool :=
  e.kind == 2 && e.expect != 0 && match p.decls[e.source]? with
    | some d => d.1 != e.expect
    | none => false

/-- Stage 13. -/
def PatchSources.check (p : PatchSources) (ss : List Section) (ps : List Patch) : Option LoadFault :=
  firstFault [faultAt 0x4A18 ((ps.filter fun e => !p.ok ss e).map Patch.offset ++ patchOverlaps ps),
    faultAt 0x4112 ((ps.filter p.typeBad).map Patch.offset)]

/-- Apply the patches in table order. -/
def PatchSources.apply (p : PatchSources) (m : Staged) (ss : List Section) (ps : List Patch) : Staged :=
  ps.foldl (fun m e => match ss[e.sect]?, p.value e with
    | some s, some v => m.patchBits s e.target e.width v
    | _, _ => m) m

/-- Patch number of a port and descriptor. -/
def patchSource (port desc : Nat) : Nat := port / 256 * 16384 + port % 256 * 64 + desc

/-- The sources of a full image: descriptors as relocated, declarations as reserved. -/
def State.sources (s : State) (m : Staged) (h : Header) : PatchSources where
  base := (m.validDescs h).map fun d => (patchSource d.port d.desc, descBase (relocate hbmStart s.deepBase d.value))
  decls := match s.reserve (m.declarations h) with
    | some r => (m.declarations h).zip (r.slots.zip r.buffers) |>.map fun x =>
        (x.1.type, x.1.type * 2 ^ 28 + s.chan.gen x.2.1 * 2 ^ 16 + x.2.1, x.2.2)
    | none => []

/-! ### The load checks in order (R189) -/

/-- Table 7-11. [DEDUCED, unsafe: log 32] -/
def State.loadChecks (s : State) (m : Staged) : Option LoadFault :=
  let h := m.header
  firstFault [
    m.stage1 h,
    require (h.grade == s.part.grade.code) ⟨0x4A10, s.part.grade.code * 2 ^ 8 + h.grade, 0x008⟩,
    require (h.guestUse == 0 || s.part.guest) (LoadFault.item 0x4A17 0x009),
    require (decide (h.feature ≤ s.moduleFeature)) ⟨0x4A11, s.moduleFeature * 2 ^ 8 + h.feature, 0x00A⟩,
    require (h.travel == s.travelVersion) ⟨0x4A13, h.travel, 0x010⟩,
    s.latencyFault h.latency,
    Staged.stage7 h,
    s.stage8 m h,
    m.stage9 h,
    s.stage10 m h,
    s.stage11 m h,
    s.stage12 m h,
    (s.sources m h).check h.sections (m.patches h.sections)]

end Sys2Proof.Machine
end

