-- ==== Sys2Proof/Machine/Lanes.lean ====
section
/-! DEFINITION. Zulon lanes (R127, R128, R131, R431 to R446, R470): use, bring-up, loss, the dark state, and what refuses a domain
start. -/

namespace Sys2Proof.Machine

/-! ### Use (R431) -/

/-- The lane's record in the committed image, if it is a domain lane. -/
def State.domainLane (s : State) (l : Nat) : Option DomainLane := match s.image with
  | some i => i.domainLanes.find? fun d => d.lane == l
  | none => none

/-- The bridge engine whose frame covers the lane. -/
def State.bridgeOfLane (s : State) (l : Nat) : Option BridgeBinding :=
  if s.image.isNone then none
  else (s.fabric.engines.filterMap BridgeEngine.bound).find? fun b =>
    b.laneKind == 0 && decide (b.firstLane ≤ l ∧ l < b.firstLane + b.laneCount)

/-- `LaneUse`: 0 none, 1 domain, 2 bridge. -/
def State.laneUse (s : State) (l : Nat) : Nat :=
  if (s.domainLane l).isSome then 1 else if (s.bridgeOfLane l).isSome then 2 else 0

/-- The rate cap (R435). -/
def State.laneCap (s : State) (l : Nat) : Nat :=
  if s.laneUse l = 2 then (s.bridgeOfLane l).elim 4 BridgeBinding.laneRate else 4

/-- Use and cap of every lane. -/
def State.laneUses (s : State) : List (Nat × Nat) := (List.range s.lanes.length).map fun l => (s.laneUse l, s.laneCap l)

/-! ### Bring-up (R435, R436) -/

/-- Begin a bring-up. -/
def Lane.train (x : Lane) (manual : Bool) : Lane :=
  if x.fitted then { x with state := 2, blockLock := false, manual := manual, fromDark := x.state == 5 } else x

def State.trainLane (s : State) (l : Nat) : State := s.setLane l ((s.lane l).train (s.entry 0x280001 == 1))

/-- Bring up every lane (POR, SYS reset; Wake for the dark ones). -/
def State.trainLanes (s : State) (p : Lane → Bool) : State :=
  { s with lanes := s.lanes.map fun (x : Lane) => if p x then x.train (s.entry 0x280001 == 1) else x }

/-- After a commit: the lanes whose use or cap has changed (R435). -/
def State.retrainChanged (s : State) (before : List (Nat × Nat)) : State :=
  ((before.zip s.laneUses).zip (List.range s.lanes.length)).foldl
    (fun s x => if x.1.1 = x.1.2 then s else s.trainLane x.2) s

/-- A domain lane has lost its pinned latency or its lock (R131, R439): 0x6210, and a stop at the step of the find. The domain runs
again once the lane is trained again and the members are restored or committed anew. [DEDUCED, unsafe: log 69] -/
def State.loseDomain (s : State) (l : Nat) : State :=
  let s := { s with run := { s.run with domainLost := true } }.setLane l { s.lane l with lostPin := true }
  (s.log1 0x6210 srcHub l).raiseStop 7 hubUnit 0x6210

/-- A lane that stops being pinned. -/
def State.unpin (s : State) (l : Nat) : State :=
  if (s.lane l).state = 4 ∧ s.laneUse l = 1 then s.loseDomain l else s

def laneCommandKey (l : Nat) : Nat := keyOf (0x2810 + l) 4

/-- LANE_BRING_UP (R435, R443): `LaneCommand` 1. [DEDUCED, unsafe: log 69] -/
def execLaneBringUp (req lane : Nat) (s : State) : Host.Outcome State Fault Refusal :=
  .next (s.writing req (laneCommandKey lane) 1 fun s =>
    if (s.lane lane).fitted then ((s.unpin lane).trainLane lane).accept
    else s.refuse req (laneCommandKey lane) 0x9011)

/-- A domain lane is scrambled (R470). -/
def State.laneScrambled (s : State) (l : Nat) : Bool := s.laneUse l == 1 && bit (s.entry 0x262001) l

/-- The stage 5 of a domain lane pins it. -/
def State.pinsLane (s : State) (l rate : Nat) (r : BringUpResult) : Bool :=
  s.laneUse l == 1 && decide (2 ≤ rate) && r.roundTrip.isSome && (!s.laneScrambled l || r.keyOk) && !(s.lane l).fromDark

/-- Λn: half a round trip in ps, rounded up to whole step periods of 800 ps at point 0 (R438, Table 5-1).
[DEDUCED, unsafe: log 69] -/
def nativeSteps (roundTrip : Nat) : Nat := (roundTrip + 1599) / 1600

/-- The lane as its bring-up leaves it. [DEDUCED, unsafe: log 69] -/
def State.broughtUp (s : State) (l : Nat) (r : BringUpResult) : Lane :=
  let x := { s.lane l with
    headerErrors := min r.headerErrors 1024, blockErrors := sat32 (s.lane l).blockErrors r.discarded
    fecCorrected := sat32 (s.lane l).fecCorrected r.corrected, manual := false, fromDark := false }
  match r.rate with
  | none => { x with state := 1, blockLock := false, rate := 0 }
  | some v =>
    let rate := min v (s.laneCap l)
    { x with lostPin := false, state := if s.pinsLane l rate r then 4 else 3, rate := rate, blockLock := true
             native := if s.laneUse l = 1 then r.roundTrip.elim x.native nativeSteps else x.native
             depth := if s.laneUse l = 1 ∧ r.roundTrip.isSome then r.depth else x.depth
             keyMismatch := s.laneScrambled l && r.roundTrip.isSome && !r.keyOk }

/-- Some domain lane of this member has a native latency above its Λ (R128). -/
def State.latencyBad (s : State) : Bool := s.image.any fun i => i.domainLanes.any fun d => decide (d.latency < (s.lane d.lane).native)

/-- A domain member tells its peers whether the latencies of its lanes fit, so that every member refuses the start (R128).
[DESIGN CHOICE, unsafe: log 84] -/
def State.tellLatency (s : State) : State :=
  if s.inDomain then { s with notices := s.notices ++ [.latency s.latencyBad] } else s

/-- Stage 5 aligns the counts of reference edges of the two ends (R129). -/
def State.alignEdges (s : State) (l : Nat) (r : BringUpResult) : State :=
  match r.edges with
  | some n => if s.laneUse l = 1 then { s with time := { s.time with edges := n } } else s
  | none => s

/-- LANE_BRING_UP_DONE (R435, R438, R470); one that leaves its slips to the host comes up only with block lock (R436).
[DESIGN CHOICE, unsafe: log 2] -/
def execLaneBringUpDone (lane : Nat) (result : BringUpResult) (s : State) : Host.Outcome State Fault Refusal :=
  .next (if (s.lane lane).state = 2 ∧ ((s.lane lane).manual = false ∨ (s.lane lane).blockLock = true ∨ result.rate = none) then
      let x := s.broughtUp lane result
      let s := (s.setLane lane x).alignEdges lane result
      let s := if s.laneUse lane = 1 then s.tellLatency else s
      let s := match result.rate, result.failedStage with
        | some _, none => s
        | _, f => s.logAs 0x8101 .self srcHub (Config.packArg 0x8101 [lane, f.getD 1])
      if x.keyMismatch then s.logAs 0x7501 .refused srcHub lane else s
    else s)

/-- LANE_TRAIN_RETRY (R435): every 100 ms a down lane is brought up again. [DEDUCED, unsafe: log 69] -/
def execLaneTrainRetry (lane : Nat) (s : State) : Host.Outcome State Fault Refusal :=
  .next (if (s.lane lane).state = 1 then s.trainLane lane else s)

/-- LANE_BIT_SLIP (R436): the test that follows finds `invalidHeaders`; it gives block lock where it finds none. -/
def execLaneBitSlip (req lane invalidHeaders : Nat) (s : State) : Host.Outcome State Fault Refusal :=
  let key := keyOf (0x2810 + lane) 5
  let x := s.lane lane
  .next (s.writing req key 1 fun s =>
    if x.state = 2 ∧ x.manual = true ∧ x.blockLock = false then
      (s.setLane lane { x with headerErrors := min invalidHeaders 1024, blockLock := invalidHeaders == 0 }).accept
    else s.refuse req key 0x9011)

/-- LANE_LOST (R437): a lane with block lock loses it, or its signal. [DEDUCED, unsafe: log 69] -/
def execLaneLost (lane : Nat) (s : State) : Host.Outcome State Fault Refusal :=
  .next (if (s.lane lane).up then
      let s := (s.unpin lane).logAs 0x8102 .self srcHub lane
      (s.setLane lane { s.lane lane with losses := sat32 (s.lane lane).losses 1 }).trainLane lane
    else s)

/-- The array has run to step `t` where it can (a finding made at a step). -/
def State.reachStep (s : State) (t : Nat) : State := if s.canReach t then s.runTo t else s

/-- The fill of a pinned buffer has moved more than 8 blocks from its pinned depth (R439). -/
def Lane.slipped (x : Lane) (fill : Nat) : Bool := decide (x.depth + 8 < fill ∨ fill + 8 < x.depth)

/-- DOMAIN_LINK_LOST (R131, R439): a pinned lane whose buffer has slipped loses its pinned latency; it stays up and unpinned. -/
def execDomainLinkLost (lane : Nat) (find : BufferFind) (s : State) : Host.Outcome State Fault Refusal :=
  .next (if (s.lane lane).state = 4 ∧ s.laneUse lane = 1 ∧ (s.lane lane).slipped find.fill = true then
      let s := (s.reachStep find.atStep).loseDomain lane
      s.setLane lane { s.lane lane with state := 3 }
    else s)

/-! ### The dark state (R442, R443) -/

/-- A lane goes dark: its transmitter, if it is on, sends one DARK block first. -/
def Lane.darken (x : Lane) : Lane :=
  if x.state = 0 ∨ x.state = 5 then x
  else { x with state := 5, blockLock := false, sent := if x.state = 1 then x.sent else x.sent ++ [.dark] }

/-- Every lane goes dark (STANDBY, DORMANT). -/
def State.darkLanes (s : State) : State := { s with lanes := s.lanes.map Lane.darken }

/-- LANE_DARK_COMMAND (R442, R443): `LaneCommand` 2. -/
def execLaneDarkCommand (req lane : Nat) (s : State) : Host.Outcome State Fault Refusal :=
  .next (s.writing req (laneCommandKey lane) 2 fun s =>
    if (s.lane lane).fitted && s.laneUse lane == 0 then (s.setLane lane (s.lane lane).darken).accept
    else s.refuse req (laneCommandKey lane) 0x9011)

/-- DARK_BLOCK_RECEIVED (R442, R443): a lane with use none goes dark; one in use answers with NEG and stays up. -/
def execDarkBlockReceived (wire : LaneWire) (s : State) : Host.Outcome State Fault Refusal :=
  .next (match s.receive wire.lane wire.block with
    | (t, some .dark) =>
      if t.laneUse wire.lane = 0 then t.setLane wire.lane (t.lane wire.lane).darken
      else t.sendBlock wire.lane (.neg (t.laneCap wire.lane) (t.laneUse wire.lane == 1))
    | (t, _) => t)

/-- DARK_IDLE_TIMEOUT (R442): `LaneDarkIdle` ms without data blocks. -/
def execDarkIdleTimeout (lane : Nat) (s : State) : Host.Outcome State Fault Refusal :=
  .next (if (s.lane lane).up && s.laneUse lane == 0 && s.entry 0x280002 != 0 then s.setLane lane (s.lane lane).darken else s)

/-- LANE_SIGNAL_DETECT (R443): a dark lane sees a signal and returns to the rate last trained, or falls back to a full bring-up.
In STANDBY and DORMANT the lanes stay dark. [DEDUCED, unsafe: log 69] -/
def execLaneSignalDetect (lane : Nat) (restored : Bool) (s : State) : Host.Outcome State Fault Refusal :=
  .next (if (s.lane lane).state = 5 ∧ s.asleep = false then
      if restored then s.setLane lane { s.lane lane with state := 3, blockLock := true } else s.trainLane lane
    else s)

/-! ### Domain start (R127, R128, R439, R470) -/

/-- Bit-slots per step of a trained rate (Table 18-1). -/
def laneSlots (rate : Nat) : Nat := if rate < 2 then 0 else 2 ^ (rate + 2)

/-- The greatest number of bit-slots that any step of the schedule claims on a lane. -/
def State.laneNeed (s : State) (l : Nat) : Nat :=
  let steps := (s.arr.routes.filter fun r => r.cls == .laneOut && r.lane == l).map fun r =>
    (r.step + 48 + s.extra (8 + nibDie r.src)) % s.L
  steps.foldl (fun m t => max m (steps.count t)) 0

/-- A lane's trained rate is too low. -/
def State.laneTooSlow (s : State) (l : Nat) : Bool :=
  !(s.lane l).up || decide ((s.lane l).rate < 2) || decide (laneSlots (s.lane l).rate < s.laneNeed l)

/-- The fault that refuses a domain start, the lowest code first; one that R131 still forbids has no fault of its own (R26).
[DEDUCED, unsafe: log 69] -/
def State.domainRefusal (s : State) : Option Nat := match s.image with
  | none => none
  | some i =>
    let ls := i.domainLanes
    if s.time.refInUse ≠ 1 then some 0x2210
    else if s.latencyBad || !s.run.peerMismatch.isEmpty then some 0x4A12
    else if ls.any fun d => (s.lane d.lane).keyMismatch || (s.laneScrambled d.lane && s.sec.slot2.isNone) then some 0x7501
    else if ls.any fun d => s.laneTooSlow d.lane then some 0x8104
    else if s.run.domainLost || ls.any fun d => (s.lane d.lane).lostPin then some 0x9011
    else none

/-- A domain start pins the lanes that are up and have been trained since they lost their pinned latency (R131, R443).
[DEDUCED, unsafe: log 69] -/
def State.pinDomain (s : State) : State := match s.image with
  | none => s
  | some i => i.domainLanes.foldl (fun s d =>
    if (s.lane d.lane).state = 3 ∧ (s.lane d.lane).lostPin = false then s.setLane d.lane { s.lane d.lane with state := 4 } else s) s

/-! ### The window of BAR2 (R445) -/

/-- WINDOW_BASE_WRITE (R445): a write of BAR4 at offset 0, `WindowBaseLow`, or 4, bits 43-32 of the base; one that leaves no multiple of
16 GiB is ignored. [DEDUCED, unsafe: log 74] -/
def execWindowBaseWrite (write : BaseWrite) (s : State) : Host.Outcome State Fault Refusal :=
  let old := s.host.windowBase
  let base := if write.offset = 0 then old - old % 2 ^ 32 + write.value % 2 ^ 32 else write.value % 2 ^ 12 * 2 ^ 32 + old % 2 ^ 32
  .next (if (write.offset = 0 ∨ write.offset = 4) ∧ base % 2 ^ 34 = 0 then { s with host := { s.host with windowBase := base } } else s)

end Sys2Proof.Machine
end

