-- ==== Sys2Proof/Machine/Rings.lean ====
section
/-! DEFINITION. The rings (R324 to R333): headers and priorities, link arbitration, credits, the slots of bridge engines, sleeping
domains and the completion timer. -/

namespace Sys2Proof.Machine

/-! ### Headers (Table 13-2) -/

def hdrDest (h : Nat) : Nat := bits h 59 5
def hdrSrc (h : Nat) : Nat := bits h 54 5
def hdrType (h : Nat) : Nat := bits h 48 4
def hdrFlits (h : Nat) : Nat := bits h 45 3 + 1
def hdrTag (h : Nat) : Nat := bits h 33 12
def hdrRequester (h : Nat) : Nat := bits h 25 8
def hdrDesign (h : Nat) : Bool := bit h 24
def hdrPrio (h : Nat) : Nat := bits h 52 2

/-- A header from its fields; the reserved bits are 0. -/
def ringHeader (dest src prio type flits tag requester : Nat) (design : Bool) : Nat :=
  dest % 2 ^ 5 * 2 ^ 59 + src % 2 ^ 5 * 2 ^ 54 + prio % 2 ^ 2 * 2 ^ 52 + type % 2 ^ 4 * 2 ^ 48 + (flits - 1) % 2 ^ 3 * 2 ^ 45 +
    tag % 2 ^ 12 * 2 ^ 33 + requester % 2 ^ 8 * 2 ^ 25 + b2n design * 2 ^ 24

/-- The priority of a packet's traffic (Table 13-3): the design class, channel messages and credit returns; dictionary transfers and
error completions; trace, and the bulk transfers of the management firmware; every other. [DESIGN CHOICE, unsafe: log 48] -/
def priorityOf (h : Nat) : Nat :=
  if hdrDesign h || [4, 5].contains (hdrType h) then 3
  else if [7, 9].contains (hdrType h) then 2
  else if hdrType h = 6 || (hdrRequester h == 5 && decide (hdrType h < 4)) then 0
  else 1

/-- Payload bits of a packet of `flits` flits: 440 in the first, 512 in each later one (R325). -/
def payloadBits (flits : Nat) : Nat := 440 + 512 * (flits - 1)

/-- Flits of a packet that carries `n` bytes. -/
def flitsFor (n : Nat) : Nat := min 8 (1 + (8 * n + 71) / 512)

/-- The packet as its source sends it: its priority, no reserved bit, and no more data than its flits carry (R325, R328). -/
def packetSent (p : RingPacket) : RingPacket :=
  let h := p.header
  { p with
    header := ringHeader (hdrDest h) (hdrSrc h) (priorityOf h) (hdrType h) (hdrFlits h) (hdrTag h) (hdrRequester h) (hdrDesign h)
    data := p.data % 2 ^ payloadBits (hdrFlits h) }

/-- The 512-bit flits of a packet: header, check byte and payload in the first, payload in the later ones (R325).
[DESIGN CHOICE, unsafe: log 48] -/
def packetFlits (p : RingPacket) : List Nat :=
  let payload := Config.ringPayload p.header p.address p.size p.data
  (p.header + (Config.headerCode p.header).toNat * 2 ^ 64 + bits payload 0 440 * 2 ^ 72) ::
    (List.range (hdrFlits p.header - 1)).map fun i => bits payload (440 + 512 * i) 512

/-- A system-class request whose answer the hub's timer awaits (R327): a read, a write or a dictionary transfer. -/
def isRequest (h : Nat) : Bool := !hdrDesign h && [0, 1, 7].contains (hdrType h)

/-- An answer to a system-class request: data, acknowledgement, error completion. -/
def isAnswer (h : Nat) : Bool := !hdrDesign h && [2, 3, 9].contains (hdrType h)

/-! ### Sleeping domains (R332, R333) -/

/-- Source byte of a stop (Table 2-4). -/
def StopOwner.source : StopOwner → Nat
  | .hub => srcHub
  | .die d => srcDie d
  | .hbm k => srcStack k
  | .guest => srcGuest
  | .ddr c => srcDdr c

/-- Sleeping domain of a stop (Table 13-4). -/
def StopOwner.domain : StopOwner → Option Nat
  | .hbm k => some k
  | .ddr c => some (4 + c)
  | .guest => some 8
  | .hub => none
  | .die _ => none

/-- The stop is powered off in STANDBY and DORMANT (R333). -/
def StopOwner.sleepsOff : StopOwner → Bool
  | .die _ => true
  | .hbm _ => true
  | .ddr _ => true
  | .hub => false
  | .guest => false

def State.withRings (s : State) (f : Rings → Rings) : State := { s with rings := f s.rings }

/-- A domain is asleep. -/
def State.domainAsleep (s : State) (d : Nat) : Bool := s.rings.sleeping.contains d

/-- What the debug port captures of an answer to its access: status 0 done, 1 busy, 2 refused, and the data read (R457).
[DEDUCED, unsafe: log 51] -/
def State.capture (s : State) (a : Answer) : State := match a with
  | .ok v => { s with sec := { s.sec with dbgStatus := 0, dbgData := v % 2 ^ 32 } }
  | .waiting => { s with sec := { s.sec with dbgStatus := 1 } }
  | .deferred => { s with sec := { s.sec with dbgStatus := 1 } }
  | .dropped => { s with sec := { s.sec with dbgStatus := 2 } }
  | .none => { s with sec := { s.sec with dbgStatus := 2 } }
  | .error => { s with sec := { s.sec with dbgStatus := 2 } }
  | .amoFault => { s with sec := { s.sec with dbgStatus := 2 } }
  | .completerAbort => { s with sec := { s.sec with dbgStatus := 2 } }
  | .sdoAbort => { s with sec := { s.sec with dbgStatus := 2 } }
  | .illegal => { s with sec := { s.sec with dbgStatus := 2 } }

/-- An answer that comes later than its command. [DESIGN CHOICE, unsafe: log 48] -/
def State.complete (s : State) (req : Nat) (a : Answer) : State :=
  let s := s.withRings fun r => { r with completions := r.completions ++ [(req, a)] }
  if req = 2 then s.capture a else s

/-- A stop that is powered off answers with an error completion at once (R333). -/
def State.poweredOff (s : State) (o : StopOwner) : State := s.log1 0x6111 o.source 0

/-- Hold an item in the wake buffer of a sleeping domain; the first wakes it (R332). -/
def State.holdFor (s : State) (d : Nat) (x : Held) : State :=
  let s := if s.rings.held.any fun h => h.1 == d then s else s.bump 0x2D0403
  s.withRings fun r => { r with held := r.held ++ [(d, x)] }

/-! ### Packets (R325, R326, R330) -/

/-- A request that has been answered waits no longer; an answer that nothing waits for is discarded (R327). -/
def State.answered (s : State) (h : Nat) (a : Answer) : State :=
  match s.rings.outstanding.find? fun o => o.tag == hdrTag h && o.requester == hdrRequester h with
  | none => s
  | some o => (s.withRings fun r => { r with outstanding := r.outstanding.erase o }).complete o.requester a

/-- A packet joins the injection queue of its source; a request starts its timer. -/
def State.inject (s : State) (x : Transit) : State :=
  let h := x.packet.header
  s.withRings fun r => { r with
    transit := r.transit ++ [x]
    outstanding := if isRequest h then r.outstanding ++ [⟨hdrTag h, hdrRequester h, x.packet.address⟩] else r.outstanding }

/-- A packet at its source, not injected yet. -/
def packetWaiting (n : Nat) (p : RingPacket) : Transit :=
  let a := hdrSrc p.header
  ⟨ringOf n a (hdrDest p.header), a, 0, true, 0, p⟩

/-- A stop answers a request over the ring: data, acknowledgement or error completion, with the request's tag (R325). -/
def State.sendAnswer (s : State) (stop : Nat) (p : RingPacket) (a : Answer) : State :=
  let h := p.header
  let (type, size, data) := match a with
    | .ok v => if p.op.reads then (2, p.size, v) else (3, 0, 0)
    | _ => (9, 0, 0)
  let q : RingPacket := { p with
    header := ringHeader (hdrSrc h) stop 0 type (flitsFor size) (hdrTag h) (hdrRequester h) false, size := size, data := data }
  s.inject (packetWaiting s.part.grade.stops.length (packetSent q))

/-! ### Flit buffers and links (R329, R330) -/

/-- Credits that a packet at a stop holds: one for each flit in the stop's buffers, none in the injection queue. -/
def Transit.credits (x : Transit) : Nat := if x.injecting then 0 else hdrFlits x.packet.header

def Transit.prio (x : Transit) : Nat := hdrPrio x.packet.header

/-- Two packets wait in one queue of a stop. -/
def Transit.sameQueue (x y : Transit) : Bool :=
  x.ring == y.ring && x.stop == y.stop && x.channel == y.channel && x.injecting == y.injecting && x.prio == y.prio

/-- The packet heads its queue: packets of one queue leave in order (R324). -/
def State.isHead (s : State) (x : Transit) : Bool := s.rings.transit.find? x.sameQueue == some x

/-- The virtual channel of the next stop: the second from the link that closes the ring on (R330). [DESIGN CHOICE, unsafe: log 48] -/
def Transit.nextChannel (n : Nat) (x : Transit) : Nat :=
  if x.stop = (if x.ring < 2 then n - 1 else 0) then 1 else x.channel

/-- The next stop has eight flit buffers for each ring, priority and channel: there is a credit for every flit (R330). -/
def State.hasCredit (s : State) (n : Nat) (x : Transit) : Bool :=
  let y := { x with stop := nextStop n x.ring x.stop, channel := x.nextChannel n, injecting := false }
  decide ((s.rings.transit.filter y.sameQueue).foldl (fun k z => k + z.credits) (hdrFlits x.packet.header) ≤ 8)

/-- Packets that want the link by which `ring` leaves `stop`, and may take it. -/
def State.candidates (s : State) (n ring stop : Nat) : List Transit :=
  s.rings.transit.filter fun x =>
    x.ring == ring && x.stop == stop && hdrDest x.packet.header != stop && s.isHead x && s.hasCredit n x

/-- The arbiter of a link; the transit queue has the first turn. [DESIGN CHOICE, unsafe: log 48] -/
def State.linkTurn (s : State) (ring stop : Nat) : LinkTurn :=
  (s.rings.links.find? fun l => l.ring == ring && l.stop == stop).getD ⟨ring, stop, true, 16⟩

/-- A candidate of lower priority that has waited 16 ring cycles, where the link has served no such packet for 16 (R329).
[DESIGN CHOICE, unsafe: log 48] -/
def State.starving (s : State) (n ring stop : Nat) : Option Transit :=
  if (s.linkTurn ring stop).since < 16 then none
  else
    let c := s.candidates n ring stop
    c.find? fun x => decide (16 ≤ x.waited) && c.any fun y => decide (x.prio < y.prio)

/-- The candidate that the link carries: a starving one, else the highest priority, among equals the queue whose turn it is (R329). -/
def State.linkWinner (s : State) (n ring stop : Nat) : Option Transit :=
  match s.starving n ring stop with
  | some x => some x
  | none =>
    let c := s.candidates n ring stop
    let top := c.filter fun x => c.all fun y => decide (y.prio ≤ x.prio)
    match top.find? fun x => x.injecting != (s.linkTurn ring stop).injected with
    | some x => some x
    | none => top.head?

/-- A packet leaves a stop: its credits there return. -/
def State.leaveStop (s : State) (x : Transit) : State := s.withRings fun r =>
  { r with returned := r.returned + x.credits, transit := r.transit.erase x }

/-- The link carries a packet, first flit to last, against credits of the next stop; the other candidates wait (R329, R330). -/
def State.carry (s : State) (n : Nat) (x : Transit) : State :=
  let flits := hdrFlits x.packet.header
  let exception := s.starving n x.ring x.stop == some x
  let others := s.candidates n x.ring x.stop
  let turn := s.linkTurn x.ring x.stop
  let s := if exception then (s.bump 0x2D0405).countEvent 2 x.stop 1 else s
  (s.leaveStop x).withRings fun r => { r with
    granted := r.granted + flits
    transit := (r.transit.map fun y => if others.contains y then { y with waited := y.waited + flits } else y) ++
      [{ x with stop := nextStop n x.ring x.stop, channel := x.nextChannel n, injecting := false, waited := 0 }]
    links := (r.links.filter fun l => !(l.ring == x.ring && l.stop == x.stop)) ++
      [{ turn with injected := x.injecting, since := if exception then 0 else min 16 (turn.since + flits) }] }

/-! ### The header check (R326) -/

/-- What the check of a header shows. -/
inductive HeaderCheck where
  | clean | corrected | uncorrectable
deriving DecidableEq, Repr

/-- Bits set among the lowest 72. -/
def bitsWrong (flips : Nat) : Nat := ((List.range 72).filter fun k => flips.testBit k).length

/-- Single errors in the header and its check byte are corrected, double errors detected (R326). [DESIGN CHOICE, unsafe: log 48] -/
def headerCheck (h flips : Nat) : HeaderCheck :=
  if bitsWrong flips = 0 then .clean
  else if bitsWrong flips = 1 then .corrected
  else if bitsWrong flips = 2 then .uncorrectable
  else if Config.headerAliased h flips then .corrected
  else .uncorrectable

/-- A packet whose header cannot be corrected is discarded; 0x6102 names the stop and the ring, and stops the array from outside. -/
def State.discardPacket (s : State) (o : StopOwner) (x : Transit) : State :=
  (((s.leaveStop x).bump 0x2D0402).logAs 0x6102 .stop o.source (Config.packArg 0x6102 [x.stop, x.ring])).raiseStop 7 hubUnit 0x6102

/-! ### Slots of bridge engines (R331) -/

/-- Slots of 512 bits in a calendar of 32 ring cycles (16 ns) that the beats of a binding fill: Width × 32 × bridge clock × 16 ns ÷ 512.
[DESIGN CHOICE, unsafe: log 48] -/
def slotsNeeded (width m k : Nat) : Nat := (width * m + 10 * k - 1) / (10 * k)

/-- Slots of a link that engines own. -/
def Rings.slotsUsed (r : Rings) (ring stop : Nat) : List Nat :=
  (r.calendar.filter fun x => x.ring == ring && x.stop == stop).flatMap RingSlots.slots

/-- Start slots at which a flit finds its slot free on every link of a path: each hop takes one cycle. [DESIGN CHOICE, unsafe: log 48] -/
def Rings.phases (r : Rings) (ring : Nat) (path : List Nat) : List Nat :=
  (List.range 32).filter fun t => ((List.range path.length).zip path).all fun l =>
    !(r.slotsUsed ring l.2).contains ((t + l.1) % 32)

/-- `need` more slots of every link of a path keep within 26 of 32, and can be placed. -/
def Rings.roomFor (r : Rings) (ring : Nat) (path : List Nat) (need : Nat) : Bool :=
  decide (need ≤ (r.phases ring path).length) && path.all fun l => decide ((r.slotsUsed ring l).length + need ≤ 26)

/-- Reserve slots for an engine from one stop to another: on the ring of R324, or on the other ring of its direction.
[DESIGN CHOICE, unsafe: log 48] -/
def Rings.reservePath (n engine need : Nat) (r : Rings) (p : Nat × Nat) : Rings :=
  let ring := ringOf n p.1 p.2
  let other := if ring % 2 = 0 then ring + 1 else ring - 1
  let path := pathStops n ring p.1 (hops n p.1 p.2)
  let ring := if r.roomFor ring path need then ring else other
  let starts := (r.phases ring path).take need
  { r with calendar := r.calendar ++ ((List.range path.length).zip path).map fun l =>
      ⟨engine, ring, l.2, starts.map fun t => (t + l.1) % 32⟩ }

/-- Reserve the slots of a bound engine, in each direction, at the hub stop nearest to a stop of its tile's die. -/
def State.reserveEngine (s : State) (e : Nat) : State :=
  let s := s.withRings fun r => { r with calendar := r.calendar.filter fun x => x.engine != e }
  match (s.engine e).binding with
  | none => s
  | some b =>
    let v := s.fabric.fclk.getD b.clock 0
    if !b.enable || fclkK v == 0 then s
    else match s.part.grade.nearest .hub (.die b.die) with
      | none => s
      | some (h, d) =>
        let n := s.part.grade.stops.length
        let need := slotsNeeded b.width (fclkM v) (fclkK v)
        s.withRings fun r => (r.reservePath n e need (h, d)).reservePath n e need (d, h)

/-- Reserve the slots of engines, in order. -/
def State.reserveEngines (s : State) (es : List Nat) : State := es.foldl State.reserveEngine s

/-! ### Sleep and timeouts -/

/-- A memory controller that the grade fits (Table 13-4). -/
def State.controllerFitted (s : State) (d : Nat) : Bool :=
  decide (d < s.part.grade.stacks) || (decide (4 ≤ d ∧ d < 4 + s.part.ddrChannels) && s.ddrPresent)

/-- Work that keeps the DDR5 controllers awake. -/
def State.ddrBusy (s : State) : Bool :=
  s.loader.state != 0 || s.entry 0x212002 == 1 || s.mem.march.status == 1

/-- DOMAIN_SLEEP (R332): an idle controller enters power-down outside RUN; the guest asks for its own sleep. -/
def execDomainSleep (domain : Nat) (s : State) : Host.Outcome State Fault Refusal :=
  .next (if s.controllerFitted domain && !s.sec.halted && s.modeIn quietModes && !s.domainAsleep domain &&
      (decide (domain < 4) || !s.ddrBusy) then
      s.withRings fun r => { r with sleeping := r.sleeping ++ [domain] }
    else s)

/-- A held item gets an error completion. -/
def State.failHeld (s : State) : Held → State
  | .packet p => if isRequest p.header then s.sendAnswer (hdrDest p.header) p .error else s
  | .access a => s.complete a.req (errorAnswer a.req false)

/-- Source byte of a domain's stop. -/
def domainSource (d : Nat) : Nat := if d < 4 then srcStack d else if d < 8 then srcDdr (d - 4) else srcGuest

/-- DOMAIN_WAKE_TIMEOUT (R333). -/
def execDomainWakeTimeout (domain : Nat) (s : State) : Host.Outcome State Fault Refusal :=
  let items := (s.rings.held.filter fun h => h.1 == domain).map Prod.snd
  .next (if items.isEmpty then s
    else
      let s := s.withRings fun r => { r with held := r.held.filter fun h => h.1 != domain }
      ((items.foldl State.failHeld s).log1 0x6110 (domainSource domain) 0).bump 0x2D0404)

/-- How the hub itself answers a request whose time has run out (R327). -/
def timeoutAnswer (req : Nat) : Answer := if req = 0 then .completerAbort else if req = 1 then .sdoAbort else .error

/-- REQUEST_TIMEOUT (R327): logged for the first timeout of each requester after a run command or a change of mode. -/
def execRequestTimeout (tag : Nat) (s : State) : Host.Outcome State Fault Refusal :=
  .next (match s.rings.outstanding.find? fun o => o.tag == tag with
    | none => s
    | some o =>
      let s := (s.withRings fun r => { r with outstanding := r.outstanding.erase o }).bump 0x2D0406
      let s := if s.run.timeoutLogged.contains o.requester then s
        else { s.logDetail 0x6104 .refused srcHub (addressArg o.requester o.address) o.address 0 with
               run := { s.run with timeoutLogged := o.requester :: s.run.timeoutLogged } }
      s.complete o.requester (timeoutAnswer o.requester))

end Sys2Proof.Machine
end

