-- ==== Sys2Proof/Machine/Commit.lean ====
section
/-! DEFINITION. Commits (R269 to R276, Table 10-5): what a full image and a partial image put into the module, the golden
contents of the fixer (R280, R281), and the checks of a partial image (R274). -/

namespace Sys2Proof.Machine

/-! ### Contents of a full image (steps C3 to C5) -/

/-- Collect (key, value) pairs into a sparse array. -/
def sparseOf {α : Type} [DecidableEq α] (d : Nat → α) (l : List (Nat × α)) : Sparse α :=
  l.foldl (fun m e => Sparse.set d m e.1 e.2) []

/-- Instruction tiers: schedule words and route words with their parity. -/
def Staged.tierWords (m : Staged) (h : Header) : Sparse TierWord :=
  sparseOf (fun _ => TierWord.zero) ((m.schedWords h).map fun w => (wordKey w.die w.step w.id, TierWord.of w.word))
def Staged.tierRoutes (m : Staged) (h : Header) : Sparse TierWord :=
  sparseOf (fun _ => TierWord.zero) ((m.routeWords h).map fun w => (routeKey w.die w.step w.cluster w.number, TierWord.of w.word))

/-- A nib's initial state of 224 bytes (R81): rolling window 96, receive window 32, arrival-valid bits 32, carry mask 32, state
file 32. [DEDUCED, unsafe: log 31] -/
def nibOf (v : Nat) : Nib where
  data := BitVec.ofNat 1024 v
  valid := BitVec.ofNat 256 (v / 2 ^ 1024)
  carry := BitVec.ofNat 256 (v / 2 ^ 1280)
  file := BitVec.ofNat 256 (v / 2 ^ 1536)
  latch := TierWord.zero
  out := false

/-- Initial state of every nib that is not all zero. [DEDUCED, unsafe: log 31] -/
def Staged.nibStates (m : Staged) (h : Header) : Sparse Nib :=
  sparseOf (fun _ => Nib.zero) ((h.ofType 0x0002).flatMap fun s =>
    (m.records s.offset s.length 224).map fun e => (s.die * dieNibs + e.1, nibOf e.2))

/-- The answers of the carry entries of each read descriptor of a die, in the order of its InitialAnswers section. -/
def Staged.initialAnswers (m : Staged) (h : Header) (ds : List ImageDesc) (die : Nat) : List (Nat × List Nat) :=
  let base := match h.find 0x0005 die with
    | some s => s.offset
    | none => 0
  ((carries ds die).foldl (fun (acc : List (Nat × List Nat) × Nat) d =>
    (acc.1 ++ [(queueKey d.port d.desc, (List.range (descCarry d.value)).map fun i => m.num (base + 8 * (acc.2 + i)) 8)],
     acc.2 + descCarry d.value)) ([], 0)).1

/-- A carry entry (R147): its answer is present. -/
def QEntry.carried (answer : Nat) : QEntry := ⟨false, 0, 0, true, true, answer, 0, 0, 0, false⟩

/-- The queue of a descriptor at commit (R139, R147, R148). -/
def State.imageQueue (s : State) (m : Staged) (h : Header) (ws : List SchedWord) (answers : List (Nat × List Nat))
    (d : ImageDesc) : Queue :=
  let c := calendarOf ws d.port d.desc
  let pm := if descWrite d.value then writeMargins h.length (m.lead h) c d.value else (0, 0)
  let as := match answers.find? fun a => a.1 == queueKey d.port d.desc with
    | some a => a.2
    | none => []
  { Queue.empty with
    desc := relocate hbmStart s.deepBase d.value
    entries := as.map QEntry.carried
    calendar := c
    p := pm.1
    m := pm.2 }

/-- Every queue of the image. -/
def State.imageQueues (s : State) (m : Staged) (h : Header) : Sparse Queue :=
  let ds := m.validDescs h
  let ws := m.schedWords h
  let as := (List.range h.dies).flatMap (m.initialAnswers h ds)
  sparseOf (fun _ => Queue.empty) (ds.map fun d => (queueKey d.port d.desc, s.imageQueue m h ws as d))

/-- Path class of a code of `Config.routeTable`. -/
def pathOf : Nat → PathClass
  | 0 => .tileSwitch
  | 1 => .dieNetwork
  | 2 => .ringBundle
  | 3 => .hubRelay
  | 4 => .laneOut
  | _ => .laneIn

/-- A route as its record gives it. -/
def routeOf (r : Config.RouteRecord) : Route :=
  ⟨r.step, r.src, r.dst, r.rx, r.port, pathOf r.cls, r.lane, if r.farDegraded then 4 else 0, r.slots⟩

/-- The path of a route exists (Table 5-2, R12, R109): a tile switch joins clusters of one tile, the die network tiles of one E-die, a
ring bundle neighbours of Table 1-2, a hub relay any two fitted dies, a lane this module with another. -/
def Route.exists (r : Route) (g : Grade) : Bool :=
  let a := nibDie r.src
  let b := nibDie r.dst
  let ends := match r.cls with
    | .tileSwitch => a == b && nibTile r.src == nibTile r.dst && clusterKey r.src != clusterKey r.dst
    | .dieNetwork => a == b
    | .ringBundle => neighbours g a b
    | .hubRelay => true
    | .laneOut => decide (r.lane < g.lanes)
    | .laneIn => decide (r.lane < g.lanes)
  ends && (decide (a < g.dies) || r.cls == .laneIn) && (decide (b < g.dies) || r.cls == .laneOut)
    && decide (r.rx < 256) && (r.port == 2 || r.port == 3)

/-- Routes of the image beyond the crossbar: the interconnect has no others than those whose path exists. -/
def Staged.routes (m : Staged) (g : Grade) : List Route :=
  ((Config.routeTable m.bytes).map routeOf).filter fun r => r.exists g

/-- The directions that the image sets for the data lanes of the bundles (R111). -/
def State.setDirections (s : State) (m : Staged) : State :=
  { s with bundles := (List.range s.bundles.length).map fun b =>
      { s.bundles.getD b Bundle.unfitted with directions := Config.laneDirections m.bytes b } }

/-- Groups of one cycle: port, descriptor and step. -/
def enqGroups (ws : List SchedWord) : List (Nat × Nat × Nat) :=
  ((ws.filter fun w => w.cls == some .enq).map fun w => (w.port, wordDesc w.word, w.step)).eraseDups

/-- Tokens that the schedule draws in one cycle (R169, R175). -/
def scheduledTokens (ws : List SchedWord) : Nat := ws.length + 8 * (enqGroups ws).length

/-- Zero the available on-die banks (R136). -/
def State.zeroBanks (s : State) : State :=
  { s with mem := { s.mem with onDie := Sparse.keep (fun k =>
      s.mem.march.unavailable.contains (k / 2 ^ 28 * 1536 + k % 2 ^ 28 / 0x20000)) s.mem.onDie, cache := [] } }

/-- Write one MemoryInit record (R183). -/
def State.writeRecord (s : State) (m : Staged) (ds : List ImageDesc) (r : MemRecord) : State :=
  let port := r.die * 256 + r.tile * 4 + r.port
  match findDesc ds port r.desc with
  | none => s
  | some d =>
    let v := relocate hbmStart s.deepBase d.value
    let bs := Sparse.getRun zeroByte m.bytes r.data (r.count * r.unit)
    if descClass v = 0 then s.writeOnDie r.die (descBase v + r.first * r.unit) bs
    else s.writeBytes (descBase v + r.first * r.unit) bs

/-- The nib array as the commit leaves it. [DEDUCED, unsafe: log 31] -/
def State.commitArray (s : State) (m : Staged) (h : Header) : State :=
  (s.setDirections m).withArr fun a => NibArray.fetchAll (t := 0)
    { a with
      nibs := m.nibStates h
      words := m.tierWords h
      routeWords := m.tierRoutes h
      clusters := []
      tiles := []
      flights := []
      claims := []
      routes := m.routes s.part.grade
      sched := { Sched.fresh with point := a.sched.point, inForce := a.sched.inForce }
      cyclog := CycleLog.empty
      queues := s.imageQueues m h
      requests := []
      votes := []
      upperPowered := decide (2048 < h.length) }

/-- Preloaded counts of guarantee 2, with its other counts cleared (R504). -/
def preloaded (n : Nat) (qs : Sparse Queue) : List Nat :=
  (List.range n).flatMap fun d =>
    [(qs.filter fun e => e.1 / 64 / 256 == d && !e.2.isWrite).foldl (fun t e => t + e.2.entries.length) 0, 0, 0]

/-- Banks that the on-die regions of an image cover: each belongs to a port (R137). -/
def ownedBanks (ds : List ImageDesc) : List Nat :=
  ((ds.filter fun d => descClass d.value == 0).flatMap fun d =>
    let b := regionBanks d.value
    (List.range (b.2 + 1 - b.1)).map fun k => portDie d.port * 1536 + b.1 + k).eraseDups

/-- Zero the on-die banks, write the MemoryInit records, power the banks that no port owns off, and preload the queues (step C4). -/
def State.commitMemory (s : State) (m : Staged) (h : Header) : State :=
  let ds := m.validDescs h
  let s := (m.allRecords h).foldl (fun s r => s.writeRecord m ds r) s.zeroBanks
  { s with queueCounts := preloaded 8 s.arr.queues, mem := { s.mem with owned := some (ownedBanks ds) } }

/-- Engines bound by BridgeFrames: a new binding, the FIFOs empty. -/
def bindEngines (old : List BridgeEngine) (fs : List Frame) : List BridgeEngine :=
  (List.range 8).map fun e => match fs.find? fun f => f.kind == 3 && f.engine == e with
    | some f => { BridgeEngine.idle with binding := some f.binding, held := (old.getD e BridgeEngine.idle).held }
    | none => { BridgeEngine.idle with held := (old.getD e BridgeEngine.idle).held }

/-- Hold every configured cell of a fabric at its initial values. -/
def Fabric.initialCells (f : Fabric) : Fabric :=
  f.cellKeys.foldl (fun f k => f.setCell k (f.initialCell k)) { f with cells := [] }

/-- The delay registers of R177. [DEDUCED, unsafe: log 68] -/
def State.pads (s : State) (latency : List Nat) : List Nat :=
  (List.range s.dies).flatMap fun d => (List.range 10).map fun k =>
    latency.getD k 0 - s.nativeLatency d k

/-- Step C5 of a full image: frames, pads, clocks, the ring slots of the engines (R331), probe selects. -/
def State.commitFabric (s : State) (fs : List Frame) (latency : List Nat) : State :=
  let s := s.withFabric fun f =>
    Fabric.initialCells { f with
      clusterFrames := sparseOf (fun _ => 0) ((fs.filter fun x => x.kind == 1).map fun x => (x.clusterKey, x.body))
      tileFrames := sparseOf (fun _ => 0) ((fs.filter fun x => x.kind == 2).map fun x => (x.tileKey, x.body))
      fclk := fclkList fs
      engines := bindEngines f.engines fs
      ports := []
      delays := s.pads latency }
  let s := s.reserveEngines (List.range 8)
  match fs.find? fun x => x.kind == 4 with
  | some x => (List.range 16).foldl (fun s i => s.putEntry (keyOf 0x2750 (i + 1)) (bits x.body (256 + 32 * i) 32)) s
  | none => s

/-! ### Channels and the binding table (step C7) -/

/-- Destroy the channels that the committed image declared (R184). -/
def State.destroyDeclared (s : State) : State :=
  let s' := s.chan.declared.foldl (fun s slot => match s.channel slot with
    | some c => s.destroyChannel 0 slot c
    | none => s) s
  { s' with chan := { s'.chan with declared := [] } }

/-- The channel port whose frame names declaration `i`. -/
def boundPort (fs : List Frame) (i : Nat) : Option Nat :=
  (fs.flatMap fun f => if f.kind = 2 then [0, 1].filterMap fun p =>
      let v := portField f.body p
      if portEnable v ∧ portDecl v = i then some (f.tileKey * 2 + p) else none
    else []).head?

/-- Create the declared channels in the slots and buffers reserved. -/
def State.createDeclared (s : State) (ds : List Declaration) (fs : List Frame) (r : Reservation) : State :=
  let s' := ((List.range ds.length).zip (ds.zip (r.slots.zip r.buffers))).foldl (fun s x =>
    s.addChannel 0 x.2.2.1 (Channel.fresh x.2.1.type true x.2.1.depth x.2.1.bytes x.2.2.2 (boundPort fs x.1))) s
  { s' with chan := { s'.chan with declared := r.slots } }

/-- Write the patched binding table (R188): its address and length. [DESIGN CHOICE, unsafe: log 82] -/
def State.writeBinding (s : State) (m : Staged) (h : Header) (used : List (Nat × Nat)) : State × Nat × Nat :=
  match (h.ofType 0x000A).head? with
  | none => (s, 0, 0)
  | some x => match placeBlock used x.length with
    | some a => (s.writeBytes a (Sparse.getRun zeroByte m.bytes x.offset x.length), a, x.length)
    | none => (s, 0, 0)

/-! ### Golden contents (step C8) -/

/-- Take the contents of the module as golden, and start scrubbing (R280, R281). -/
def State.takeGolden (s : State) : State :=
  { s with fixer := { s.fixer with
    goldenWords := s.arr.words
    goldenRoutes := s.arr.routeWords
    goldenCarry := s.arr.nibs.filterMap fun e => if e.2.carry = 0 then none else some (e.1, e.2.carry.toNat)
    goldenDescriptors := s.arr.queues.map fun e => (e.1, e.2.desc.toNat)
    goldenClusters := s.fabric.clusterFrames
    goldenTiles := s.fabric.tileFrames
    goldenEngines := s.fabric.engines.map BridgeEngine.binding
    goldenFclk := s.fabric.fclk
    goldenProbes := (List.range 16).map s.probeSelect
    goldenDelays := s.fabric.delays
    controlFlips := s.fixer.controlFlips.filter fun f => decide (f.1 < 3)
    running := true } }

/-- A partial commit rewrites the groups of its region tiles in the golden store, and those of the engines that its frames rebind
(R281). [DEDUCED, unsafe: log 33] [DESIGN CHOICE, unsafe: log 44] -/
def State.takeGoldenRegion (s : State) (region : List Nat) (fs : List Frame) : State :=
  let x := s.fixer
  let put (l : List Nat) (f : Nat → Nat) (m : Sparse Nat) : Sparse Nat := l.foldl (fun m k => Sparse.set (fun _ => 0) m k (f k)) m
  let parts (n : Nat) : List Nat := region.flatMap fun tk => (List.range n).map fun c => tk * n + c
  let rebound (e : Nat) : Bool := fs.any fun f => f.kind == 3 && f.engine == e
  let engines := (List.range x.goldenEngines.length).map fun e => if rebound e then (s.engine e).binding else x.goldenEngines.getD e none
  { s with fixer := { x with
    goldenCarry := put (parts 2048) (fun n => (s.arr.nib n).carry.toNat) x.goldenCarry
    goldenDescriptors := put (parts 256) (fun q => (s.arr.queue q).desc.toNat) x.goldenDescriptors
    goldenClusters := put (parts 32) s.fabric.clusterFrame x.goldenClusters
    goldenTiles := put region s.fabric.tileFrame x.goldenTiles
    goldenEngines := engines
    controlFlips := x.controlFlips.filter fun f => decide (f.1 < 3)
    running := true } }

/-- A new pass starts from group 0 (R284). -/
def State.newPass (s : State) : State :=
  let x := s.fixer
  { s with fixer := { x with checked := [], differing := 0, warned := false, passStart := s.mgmt.uptime } }

/-! ### The image record and counters (step C9) -/

/-- Lanes of the domain (Table 7-3). -/
def Staged.domainLanesOf (m : Staged) (h : Header) : List DomainLane :=
  (h.ofType 0x000B).flatMap fun x => (List.range (x.length / 4)).map fun i =>
    let lane := m.num (x.offset + 4 * i) 1
    ⟨lane, m.num (x.offset + 4 * i + 2) 2⟩

/-- Digest of an image: the SHA3-512 of its bytes. -/
def Staged.digest (m : Staged) : Nat := Config.sha3 (Sparse.getRun zeroByte m.bytes 0 m.length)

/-- The record of a committed full image. -/
def State.imageRecord (s : State) (m : Staged) (h : Header) (address length : Nat) : Image where
  grade := h.grade
  feature := h.feature
  compiler := h.compiler
  imageId := h.imageId
  travelTable := h.travel
  latency := h.latency
  guestUse := h.guestUse == 1
  guestAllowance := h.allowance
  length := h.length
  domainSize := h.domainSize
  domainIndex := h.domainIndex
  domainLanes := m.domainLanesOf h
  hbmArenaSize := h.hbmArena
  deepArenaSize := h.deepArena
  hbmBase := hbmStart
  deepBase := s.deepBase
  budget := s.powerOf m h
  segmentBudget := sparseOf (fun _ => 0) ((List.range h.tiles).flatMap fun u =>
    (List.range (h.length / 16)).map fun g => (u * 256 + g, m.budget h u g))
  cellBudget := sparseOf (fun _ => 0) ((List.range h.tiles).map fun u => (u, m.cellBudget h u))
  tokensPerCycle := scheduledTokens (m.schedWords h)
  bindingAddress := address
  bindingLength := length
  digest := m.digest

/-- Counters that a commit clears (Tables 5-8, 6-7, 7-13, 9-13). -/
def commitCleared : List Nat :=
  [0x213003, 0x213004, 0x231003, 0x2E1001, 0x2E1002, 0x2E1003] ++
    ((List.range 8).flatMap fun e => [3, 4, 5, 6].map (bridgeKey e)) ++
    (List.range 8).map fun d => keyOf (0x3030 + d * 0x100) 2

def State.clearEntries (s : State) (keys : List Nat) : State := keys.foldl (fun s k => s.putEntry k 0) s

/-- No tokens counted. -/
def Tokens.none : Tokens := ⟨0, 0, 0, 0, 0, []⟩

/-- Blocked faults that a commit ends (Table 21-2). [DEDUCED, unsafe: log 56] -/
def State.endCommitFaults (s : State) : State :=
  let s := (s.endCode 0x3211).endCode 0x3304
  match s.image with
  | some i => if i.travelTable = s.travelVersion then s.endCodeClass 0x4A13 .blocked else s
  | none => s

/-- Put an image out of force (R270, R476). -/
def State.dropImage (s : State) : State :=
  { s with image := none, run := { s.run with valid := false }, fixer := { s.fixer with running := false } }

/-- The pins that the fabric drives through tiles (step C1): those of the engines bound to them that no condition holds yet. -/
def State.fabricPins (s : State) (tiles : List Nat) : List Nat :=
  let bound (e : Nat) : Bool := (s.engine e).binding.any fun b => tiles.contains (b.die * 64 + b.tile)
  allPins.filter fun n => !s.isHeld n && (s.bridgePin n).any fun x => bound x.1

/-- Steps C1 to C5 of a full commit. -/
def State.commitContents (s : State) (m : Staged) (h : Header) (fs : List Frame) : State :=
  let s := s.abortSamplers fun k => s.sampleClock k != 1
  let s := s.holdPins (s.fabricPins s.allTiles)
  let s := { s.isolateAll with fixer := { s.fixer with running := false } }
  ((((s.destroyDeclared).commitArray m h).commitMemory m h).commitFabric fs h.latency)

/-- Steps C7 to C10 of a full commit: channels and binding table, golden contents, the image record, and stage 1 of the release.
[DEDUCED, unsafe: log 33] -/
def State.commitFinish (s : State) (m patched : Staged) (h : Header) (fs : List Frame) (r : Reservation) : State :=
  let s := s.createDeclared (m.declarations h) fs r
  let b := s.writeBinding patched h (s.chan.live.map fun c => (c.2.buffer, c.2.depth * c.2.bytes))
  let s := { b.1 with image := some (b.1.imageRecord m h b.2.1 b.2.2), tokens := Tokens.none,
                      run := { b.1.run with valid := true, domainLost := false } }
  let s := { s with bundles := s.bundles.map fun (x : Bundle) => { x with firstCycle := none } }
  let s := { s with loader := { s.loader with retained := some m, chain := [] } }
  let s := { s.takeGolden with fixer := { s.takeGolden.fixer with failed := [] } }.newPass
  (((s.clearEntries commitCleared).endCommitFaults).removeIsolation s.allTiles).releaseBridgePins

/-- A full commit of an image that has passed its checks, up to the start of the release (Table 10-5). A failed read-back at step
C6 leaves no image, SERVICE, and every tile isolated (R270); `failure` is the argument of 0x3211. -/
def State.commitFull (s : State) (m : Staged) (failure : Option Nat) : State :=
  let h := m.header
  let uses := s.laneUses
  let held := s.fabricPins s.allTiles
  match s.reserve (m.declarations h) with
  | none => s
  | some r =>
    let patched := (s.sources m h).apply m h.sections (m.patches h.sections)
    let fs := patched.frames h.sections
    let old := s
    let s := s.commitContents m h fs
    match failure with
    | some arg => ((s.dropImage).logAs 0x3211 .blocked srcHub arg).setMode .service
    | none => ((old.repin fun _ => (s.commitFinish m patched h fs r).endHold held)).retrainChanged uses

/-! ### Partial images (R273 to R276) -/

/-- The header of a partial image (Table 10-6). -/
structure PartialHeader where
  sections : List Section
  grade : Nat
  baseDigest : Nat
  /-- Region tiles in the order of R170. -/
  region : List Nat
deriving DecidableEq, Repr

/-- Read it. -/
def Staged.partialHeader (m : Staged) : PartialHeader where
  sections := (List.range (m.num 0x006 2)).map (m.section 0x0C0)
  grade := m.num 0x008 1
  baseDigest := m.num 0x010 64
  region := (List.range 512).filter (bit (m.num 0x050 64))

/-- Directory and section rules of a partial image. [DESIGN CHOICE, unsafe: log 80] -/
def Staged.partialSectionOk (m : Staged) (h : PartialHeader) (x : Section) : Bool :=
  (x.type == 0x0003 || x.type == 0x0009 || x.type == 0x000C) && m.isZero (x.entry + 3) 5 &&
    (if x.type = 0x0003 then decide (x.die < h.grade) else x.die == 0xFF) && x.offset % 64 == 0 &&
    decide (0x0C0 + 24 * h.sections.length ≤ x.offset ∧ x.offset + x.length ≤ m.length) &&
    (x.type != 0x0009 || x.length % 16 == 0) && (x.type != 0x000C || x.length == 2 * h.region.length)

/-- How often each section stands in a partial image. -/
def PartialHeader.countsOk (h : PartialHeader) : Bool :=
  let n (t : Nat) : Nat := (h.sections.filter fun x => x.type == t).length
  decide (n 0x0009 ≤ 1) && n 0x000C == 1 &&
    (List.range 8).all fun d => decide ((h.sections.filter fun x => x.type == 3 && x.die == d).length ≤ 1)

/-- Check 1 of R274 apart from the grade. -/
def Staged.partialHeaderFault (m : Staged) (h : PartialHeader) : Option LoadFault :=
  firstFault [
    firstBad 0x4A16 [(m.num 0x000 4 == 0x5052524B, 0x000), (m.num 0x004 2 == 1, 0x004),
      (decide (1 ≤ h.sections.length ∧ h.sections.length ≤ 17), 0x006), (h.grade == 8 || h.grade == 4 || h.grade == 2, 0x008),
      (m.isZero 0x009 7, 0x009), (m.isZero 0x090 48, 0x090)],
    faultAt 0x4A16 ((h.sections.filter fun x => !m.partialSectionOk h x).map Section.entry),
    require h.countsOk (LoadFault.whole 0x4A16),
    faultAt 0x4A16 (overlapping h.sections)]

/-- The binding of an engine in use in the committed image. -/
def State.engineTile (s : State) (e : Nat) : Option Nat := match (s.engine e).binding with
  | some b => if b.enable then some (b.die * 64 + b.tile) else none
  | none => none

/-- A frame lies within the region (R274). -/
def State.inRegion (s : State) (region : List Nat) (f : Frame) : Bool :=
  if f.kind = 1 ∨ f.kind = 2 then region.contains f.tileKey
  else if f.kind = 3 then region.contains f.tileKey && match s.engineTile f.engine with
    | some t => region.contains t
    | none => true
  else false

/-- Every region tile is fitted and has one TileFrame and 32 ClusterFrames. -/
def regionComplete (dies : Nat) (region : List Nat) (fs : List Frame) : Bool :=
  !region.isEmpty && region.all fun tk => decide (tk / 64 < dies) &&
    (fs.filter fun f => f.kind == 2 && f.tileKey == tk).length == 1 &&
    (List.range 32).all fun c => (fs.filter fun f => f.kind == 1 && f.clusterKey == tk * 32 + c).length == 1

/-- W[u] of a region tile in the RegionBudget section. -/
def Staged.regionBudgets (m : Staged) (h : PartialHeader) : List (Nat × Nat) :=
  match h.sections.find? fun x => x.type == 0x000C with
  | some x => ((List.range h.region.length).zip h.region).map fun p => (p.2, m.num (x.offset + 2 * p.1) 2)
  | none => []

/-- Cell budgets of the committed image with those of the region replaced. -/
def mergedBudgets (i : Image) (ws : List (Nat × Nat)) : Sparse Nat :=
  ws.foldl (fun b w => Sparse.set (fun _ => 0) b w.1 w.2) i.cellBudget

/-- P_image of the committed image with other cell budgets. -/
def State.powerWith (s : State) (i : Image) (cells : Sparse Nat) : Nat :=
  let tiles := s.dies * 64
  let peak := (List.range (i.length / 16)).foldl (fun p g =>
    max p (sumTiles tiles fun u => Sparse.get (fun _ => 0) i.segmentBudget (u * 256 + g))) 0
  imagePower s.part.grade peak (sumTiles tiles fun u => Sparse.get (fun _ => 0) cells u) (if i.guestUse then i.guestAllowance else 0)

/-- The committed frames outside a region, with no offset in the partial image. -/
def State.committedFrames (s : State) (region : List Nat) (engines : List Nat) : List Frame :=
  let none' := 2 ^ 64 - 1
  (s.fabric.clusterFrames.filter fun e => !region.contains (e.1 / 32)).map
      (fun e => (⟨e.1 / 2048, 1, e.1 / 32 % 64, e.1 % 32, 0, e.2, none'⟩ : Frame)) ++
    (s.fabric.tileFrames.filter fun e => !region.contains e.1).map
      (fun e => (⟨e.1 / 64, 2, e.1 % 64, 0, 0, e.2, none'⟩ : Frame)) ++
    (List.range 8).filterMap fun e => match (s.engine e).binding with
      | some b => if engines.contains e then none else some ⟨b.die, 3, b.tile, 0, e, b.body, none'⟩
      | none => none

/-- Check 7 of R274: the fabric as it would stand after the commit. -/
def State.partialFabric (s : State) (i : Image) (h : PartialHeader) (fs : List Frame) : FabricCheck where
  grade := s.part.grade
  frames := fs ++ s.committedFrames h.region ((fs.filter fun f => f.kind == 3).map Frame.engine)
  fclk := s.fabric.fclk
  decls := s.chan.declared.map fun slot => match s.channel slot with
    | some c => c.type == 2
    | none => false
  depths := s.chan.declared.map fun slot => match s.channel slot with
    | some c => c.depth
    | none => 0
  length := i.length
  lead := s.lead
  crossStage := i.latency.getD 7 0

/-- Patch sources of the committed image. -/
def State.committedSources (s : State) : PatchSources where
  base := (s.arr.queues.filter fun e => descValid e.2.desc).map fun e => (patchSource (e.1 / 64) (e.1 % 64), descBase e.2.desc)
  decls := s.chan.declared.map fun slot => match s.channel slot with
    | some c => (c.type, s.handleOf slot c, c.buffer)
    | none => (0, 0, 0)

/-- Patches whose target is no WordCellFrames section of the partial image (R274, check 4). -/
def PartialHeader.strayPatches (h : PartialHeader) (ps : List Patch) : List Nat :=
  (ps.filter fun e => match h.sections[e.sect]? with
    | some _ => false
    | none => true).map Patch.offset

/-- The checks of R274 in order. -/
def State.partialChecks (s : State) (i : Image) (m : Staged) : Option LoadFault :=
  let h := m.partialHeader
  let fs := m.frames h.sections
  let ps := m.patches h.sections
  let ws := m.regionBudgets h
  firstFault [
    m.partialHeaderFault h,
    require (h.grade == s.part.grade.code) ⟨0x4A10, s.part.grade.code * 2 ^ 8 + h.grade, 0x008⟩,
    require (decide (s.loader.chain.length < 15)) (LoadFault.whole 0x3209),
    require (h.baseDigest == i.digest) (LoadFault.item 0x3206 0x010),
    faultAt 0x3207 ((fs.filter fun f => !s.inRegion h.region f).map Frame.offset ++ h.strayPatches ps),
    require (regionComplete s.dies h.region fs) (LoadFault.item 0x3208 0x050),
    faultAt 0x4A16 (match h.sections.find? fun x => x.type == 0x000C with
      | some x => ((List.range h.region.length).zip ws).filterMap fun p =>
          if p.2.2 ≤ 12288 then none else some (x.offset + 2 * p.1)
      | none => []),
    require (decide (s.powerWith i (mergedBudgets i ws) ≤ s.entry ceilingKey))
      ⟨0x4A14, s.powerWith i (mergedBudgets i ws), 2 ^ 64 - 1⟩,
    m.frameHeaderFault h.sections,
    (s.partialFabric i h fs).run s.fabric,
    s.committedSources.check h.sections ps]

/-- Write the frames of a region, with its cells at their initial values (R275); an engine keeps its FIFOs. -/
def State.writeRegion' (s : State) (region : List Nat) (fs : List Frame) : State :=
  let s := s.withFabric fun f => fs.foldl (fun f x =>
    if x.kind = 1 then { f with clusterFrames := Sparse.set (fun _ => 0) f.clusterFrames x.clusterKey x.body }
    else if x.kind = 2 then { f with tileFrames := Sparse.set (fun _ => 0) f.tileFrames x.tileKey x.body }
    else if x.kind = 3 then
      { f with engines := listSet f.engines x.engine { f.engines.getD x.engine BridgeEngine.idle with binding := some x.binding } }
    else f) f
  (s.reserveEngines ((fs.filter fun x => x.kind == 3).map Frame.engine)).withFabric fun f => region.foldl Fabric.resetTile f

/-- The committed image as a successful partial commit leaves it: digest, ImageBudget and the budgets of the region (R276). -/
def State.partialImageOf (s : State) (i : Image) (m : Staged) : Image :=
  let cells := mergedBudgets i (m.regionBudgets m.partialHeader)
  { i with cellBudget := cells, budget := s.powerWith i cells, digest := Config.sha3 (toBytes 64 i.digest ++ toBytes 64 m.digest) }

/-- A partial commit has succeeded (R276). -/
def State.partialDone (s : State) (i : Image) (m : Staged) : State :=
  { s with image := some (s.partialImageOf i m), loader := { s.loader with chain := s.loader.chain ++ [m] } }

/-- A partial commit up to the start of its release: steps C1, C5, C6 and C8 on the region tiles, and stage 1 of C10 (R275).
[DEDUCED, unsafe: log 33] -/
def State.commitPartial (s : State) (i : Image) (m : Staged) (failure : Option Nat) : State :=
  let h := m.partialHeader
  let uses := s.laneUses
  let held := s.fabricPins h.region
  let patched := s.committedSources.apply m h.sections (m.patches h.sections)
  let fs := patched.frames h.sections
  let old := s
  let s := h.region.foldl State.isolate (s.holdPins held)
  let s := s.writeRegion' h.region fs
  match failure with
  | some arg => (((s.isolateAll).dropImage).logAs 0x3211 .blocked srcHub arg).setMode .service
  | none =>
    let s := (s.takeGoldenRegion h.region fs).newPass
    (old.repin fun _ => ((s.endCode 0x3211).removeIsolation h.region).endHold held).retrainChanged uses

end Sys2Proof.Machine
end

