-- ==== Sys2Proof/Machine/Loader.lean ====
section
/-! DEFINITION. Configuration streams (R251 to R272, R522): slave ports, stream frames and their checks S1 to S4, staging, the
load checks and the commit, and refusals. -/

namespace Sys2Proof.Machine

/-! ### Checksums -/

/-- One bit of the reflected CRC-32 of IEEE 802.3. -/
def crcBit (c : Nat) : Nat := if c % 2 = 1 then (c / 2) ^^^ 0xEDB88320 else c / 2

/-- One byte of it. -/
def crcByte (c : Nat) (b : Byte) : Nat := (List.range 8).foldl (fun x _ => crcBit x) (c ^^^ b.toNat)

/-- CRC-32 with the IEEE 802.3 polynomial. -/
def crc32 (bs : List Byte) : Nat := (bs.foldl crcByte 0xFFFFFFFF) ^^^ 0xFFFFFFFF

/-- A list of zero bytes. -/
def allZero (bs : List Byte) : Bool := bs.all fun b => b == 0

end Sys2Proof.Machine

namespace Sys2Proof

open Machine

/-! ### The frame header (Table 10-2) -/

/-- The frame that bytes spell: the header, the payload of its Length, the frame end. -/
def StreamFrame.ofWire (bs : List Byte) : StreamFrame :=
  let n := ofBytes ((bs.drop 0x08).take 4)
  ⟨bs.take 32, (bs.drop 32).take n, bs.drop (32 + n)⟩

/-- All its bytes. -/
def StreamFrame.bytes (f : StreamFrame) : List Byte := f.header ++ f.payload ++ f.frameEnd

def StreamFrame.num (f : StreamFrame) (off n : Nat) : Nat := ofBytes ((f.header.drop off).take n)
def StreamFrame.type (f : StreamFrame) : Nat := f.num 0x00 1
def StreamFrame.select (f : StreamFrame) : Nat := f.num 0x01 1
def StreamFrame.seq (f : StreamFrame) : Nat := f.num 0x04 4
def StreamFrame.length (f : StreamFrame) : Nat := f.num 0x08 4
def StreamFrame.id (f : StreamFrame) : Nat := f.num 0x0C 4
def StreamFrame.offset (f : StreamFrame) : Nat := f.num 0x10 8

/-- The header of a frame is valid for its type; the frame end holds zeros where they are required (R256). -/
def StreamFrame.headerOk (f : StreamFrame) (encrypted : Bool) : Bool :=
  f.header.length == 32 && f.frameEnd.length == 32 && f.payload.length == f.length && f.num 0x1C 4 == crc32 (f.header.take 28) &&
    decide (1 ≤ f.type ∧ f.type ≤ 3) && (decide (f.select < 16) || f.select == 0xFF) && f.num 0x02 2 == 0 && f.num 0x18 4 == 0 &&
    f.length % 64 == 0 && decide (f.length ≤ 65536) && (f.type == 2 || f.offset == 0) &&
    (f.type != 1 || f.length == 192) && (f.type != 3 || f.length == 7232) &&
    allZero (if f.type = 2 ∧ encrypted = true then f.frameEnd.drop 16 else f.frameEnd)

/-! ### The stream header (Table 10-3) -/

def StreamFrame.field (f : StreamFrame) (off n : Nat) : Nat := ofBytes ((f.payload.drop off).take n)

/-- Fields and reserved bytes of a stream-header payload. -/
def StreamFrame.streamFieldsOk (f : StreamFrame) : Bool :=
  f.field 0x00 4 == 0x53545856 && f.field 0x04 2 == 1 && decide (f.field 0x06 1 ≤ 1 ∧ f.field 0x07 1 ≤ 1 ∧ f.field 0x08 1 ≤ 1) &&
    (f.field 0x07 1 == 1 || f.field 0x08 1 == 0) && (f.field 0x09 1 == 8 || f.field 0x09 1 == 4 || f.field 0x09 1 == 2) &&
    f.field 0x0A 6 == 0 && f.field 0x24 92 == 0 && decide (128 ≤ f.field 0x18 8)

/-! ### The trailer (R259) -/

/-- The verifying key that it carries, and its signature. -/
def StreamFrame.key (f : StreamFrame) : List Byte := f.payload.take 2592
def StreamFrame.signature (f : StreamFrame) : List Byte := (f.payload.drop 2592).take 4627

end Sys2Proof

namespace Sys2Proof.Machine

/-! ### Loader state -/

def State.withLoader (s : State) (g : Loader → Loader) : State := { s with loader := g s.loader }

/-- A stream is being staged, checked or committed (R266). -/
def State.loading (s : State) : Bool := s.loader.state != 0

/-- A sheet command, or a march, is busy. -/
def sheetStatusKey : Nat := 0x212002
def State.sheetBusy (s : State) : Bool := s.entry sheetStatusKey == 1
def State.marchBusy (s : State) : Bool := s.mem.march.status == 1

/-- Port bits of `StreamPortEnable`. -/
def State.portEnabled (s : State) (port : Nat) : Bool := decide (1 ≤ port ∧ port ≤ 3) && bit (s.entry 0x240101) (port - 1)

/-- The row of a fault that refuses a stream (R498). -/
def loadClass (code : Nat) : FaultClass := if code = 0x3202 then .refused else .image

/-- Record a refusal: the fault alone is logged, with the entries of R522 and R279. -/
def State.refuseStream (s : State) (f : LoadFault) : State :=
  let s := s.withLoader fun l => { l with fault := f.code, offset := f.offset }
  (s.logAs f.code (loadClass f.code) srcHub f.arg).bump 0x240802

/-- No further frame of a StreamId is taken; the receive buffer of its port is free again and its WAIT land released (R263), and a
load DMA that brings it has failed. [DEDUCED, unsafe: log 34] -/
def State.ignoreStream (s : State) (port id : Nat) : State := s.withLoader fun l =>
  { l with
    ignored := if l.ignored.contains id then l.ignored else id :: l.ignored
    buffered := Sparse.set (fun _ => 0) l.buffered port 0
    dmaStatus := if port = 3 then 3 else l.dmaStatus }

/-- A stream of a port is refused. -/
def State.refuseFirst (s : State) (port id : Nat) (f : LoadFault) : State := (s.ignoreStream port id).refuseStream f

/-- The stream in progress is refused (R267). -/
def State.refuseCurrent (s : State) (f : LoadFault) : State :=
  match s.loader.stream with
  | none => s
  | some x => ((s.withLoader fun l => { l with state := 0, stream := none }).refuseFirst x.port x.id f)

/-! ### Edges of the ports (R252, R253, R255) -/

/-- Half bytes that a receive buffer of 4 KiB holds, and how full its port pulls the WAIT land low: with 256 bytes of room or less. -/
def bufferSize : Nat := 8192
def bufferLow (level : Nat) : Bool := decide (bufferSize ≤ level + 512)

/-- One edge: the half bytes taken from it, low first, with the level of the receive buffer. The parallel port takes a word only while
PS_WAIT_N is high; the serial port takes a nibble at every edge, but what finds no room is lost. -/
def portEdge (port : Nat) (e : PortEdge) (level : Nat) : List Nat × Nat :=
  let level := level - e.drained
  let n := if port = 1 then 1 else if port = 2 then 8 else 2
  let ready := if port = 1 then decide (level < bufferSize) else port != 2 || !(bufferLow level || e.busWait)
  if e.enabled && ready then ((List.range n).map fun i => bits e.data (4 * i) 4, if port = 3 then level else level + n) else ([], level)

/-- The half bytes of a run of edges, and the level that it leaves. -/
def portEdges (port : Nat) : List PortEdge → Nat → List Nat × Nat
  | [], level => ([], level)
  | e :: es, level =>
    let a := portEdge port e level
    let b := portEdges port es a.2
    (a.1 ++ b.1, b.2)

/-- Bytes in stream order: bits 3-0 of a byte come first. A transfer ends on a byte. -/
def pairNibbles : List Nat → List Byte
  | a :: b :: ns => BitVec.ofNat 8 (a + 16 * b) :: pairNibbles ns
  | _ => []

/-- Half bytes in a receive buffer. -/
def State.buffered (s : State) (port : Nat) : Nat := Sparse.get (fun _ => 0) s.loader.buffered port

/-- The bytes that edges bring over a port; the load DMA reads no more than the host has named. [DEDUCED, unsafe: log 34] -/
def State.portBytes (s : State) (port : Nat) (edges : List PortEdge) : List Byte :=
  let bs := pairNibbles (portEdges port edges (s.buffered port)).1
  if port = 3 then bs.take s.loader.dmaLeft else bs

/-- The port after those edges: its buffer, or the address and the bytes left of the load DMA. -/
def State.afterEdges (s : State) (port : Nat) (edges : List PortEdge) : State :=
  let n := (s.portBytes port edges).length
  s.withLoader fun l =>
    if port = 3 then { l with dmaAddress := l.dmaAddress + n, dmaLeft := l.dmaLeft - n }
    else { l with buffered := Sparse.set (fun _ => 0) l.buffered port (portEdges port edges (s.buffered port)).2 }

/-! ### What a port sees (R256, R257) -/

/-- The StreamId and StreamSeq last seen on a slave port. [DEDUCED, unsafe: log 34] -/
def State.track (s : State) (port : Nat) : PortTrack := Sparse.get (fun _ => PortTrack.none) s.loader.tracks port

/-- A frame passes on a port: StreamSeq starts at 0 with each stream and rises by 1. [DEDUCED, unsafe: log 34] -/
def PortTrack.see (t : PortTrack) (f : StreamFrame) : PortTrack :=
  let first := f.type == 1 && f.seq == 0
  let same := !first && t.id == f.id
  { id := f.id
    next := f.seq + 1
    position := (if same then t.position else 0) + 64 + f.length
    ok := if same then t.ok && t.next == f.seq else first }

def State.seeFrame (s : State) (port : Nat) (f : StreamFrame) : State :=
  s.withLoader fun l => { l with tracks := Sparse.set (fun _ => PortTrack.none) l.tracks port ((s.track port).see f) }

/-- Select names this module, or all (R257): it counts on the parallel port alone. -/
def State.selected (s : State) (port : Nat) (f : StreamFrame) : Bool := port != 2 || f.select == s.loader.select || f.select == 0xFF

/-- Offset in the stream of the frame that has just passed (R522). -/
def State.frameOffset (s : State) (port : Nat) (f : StreamFrame) : Nat := (s.track port).position - 64 - f.length

/-- A fault of a frame at stages S1 and S2: 0x3204 and 0x7101 carry StreamSeq (Table 7-15). -/
def State.frameFault (s : State) (port : Nat) (f : StreamFrame) (code : Nat) : LoadFault :=
  let o := s.frameOffset port f
  ⟨code, if code = 0x3204 ∨ code = 0x7101 then f.seq else o % 2 ^ 32, o⟩

/-! ### The first frame (Table 10-4, stage S1) -/

/-- The key that a stream names is usable (R260, Table 19-1). -/
def State.streamKey (s : State) (slot : Nat) : Bool :=
  (s.sec.lifeCycle == .develop || s.sec.lifeCycle == .deploy) &&
    if slot = 0 then s.sec.slot0.isSome && !s.sec.slot0Invalid else s.sec.slot1.isSome

/-- A life-cycle state that accepts streams with Cipher 0 (Table 19-1). -/
def State.plainStreams (s : State) : Bool :=
  s.sec.lifeCycle == .blank || s.sec.lifeCycle == .develop || s.sec.lifeCycle == .returned

/-- Free part of the partial staging area (R277). -/
def State.partialRoom (s : State) : Nat := 2 ^ 26 - s.loader.chain.foldl (fun n m => n + m.length) 0

/-- The lowest failed bundle (R339). -/
def State.failedBundle (s : State) : Option Nat := (List.range 16).find? fun b => match s.bundles[b]? with
  | some x => x.state == 3
  | none => false

/-- The ROM of a die: E-die 0 to 7, or the hub (8). -/
def State.romOf (s : State) (d : Nat) : DieRom := if d = 8 then s.part.hubRom else s.rom d

/-- A ROM that leaves its die admitted: Magic, DieKind, a stepping of hub H1's rules, Crc (R342, Table 13-7). -/
def DieRom.admitted (r : DieRom) (hub : Bool) : Bool :=
  r.magic == 0x44534544 && r.kind == (if hub then 2 else 1) && (if hub then [0x01] else [0x11, 0x20]).contains r.stepping &&
    r.crc == crc64 r.bytes

/-- The lowest fitted die that is not admitted; the hub comes last (R342). -/
def State.unadmitted (s : State) : Option Nat := (List.range s.dies ++ [8]).find? fun d => !(s.romOf d).admitted (d == 8)

/-- Mode rule of R268 and R273. -/
def State.streamMode (s : State) (isPartial : Bool) : Bool :=
  if isPartial then s.modeIn quietModes && s.image.isSome else s.modeIn [.loaded, .service]

/-- Stage S1 of a stream-header frame (Table 10-4): the frame, its payload and grade, then R254, space and mode, then key and cipher. -/
def State.headerFault (s : State) (port : Nat) (f : StreamFrame) : Option LoadFault :=
  let at' (c : Nat) := s.frameFault port f c
  let isPartial := f.field 0x06 1 == 1
  let o := s.frameOffset port f
  firstFault [
    require (f.headerOk false && f.type == 1 && (s.track port).ok && f.streamFieldsOk) (at' 0x3204),
    require (f.field 0x09 1 == s.part.grade.code) ⟨0x4A10, s.part.grade.code * 2 ^ 8 + f.field 0x09 1, o + 0x29⟩,
    require s.ddrPresent (at' 0x3201),
    require (!s.loading && !s.sheetBusy && !s.marchBusy) (at' 0x3202),
    require (decide (f.field 0x18 8 ≤ if isPartial then s.partialRoom else s.entry stagingKey * 2 ^ 30)) (at' 0x3201),
    require (s.streamMode isPartial) (at' 0x3203),
    (if isPartial then none else s.failedBundle.map fun b => ⟨0x6204, b, 2 ^ 64 - 1⟩),
    (if isPartial then none else s.unadmitted.map fun d => ⟨0x6301, d * 2 ^ 8 + (s.romOf d).stepping, 2 ^ 64 - 1⟩),
    require (f.field 0x07 1 == 0 || s.streamKey (f.field 0x08 1)) (at' 0x7103),
    require (f.field 0x07 1 == 1 || s.plainStreams) (at' 0x7104)]

/-- The stream that a header frame announces. -/
def State.newStream (s : State) (port : Nat) (f : StreamFrame) : Stream where
  port := port
  id := f.id
  partialImage := f.field 0x06 1 == 1
  encrypted := f.field 0x07 1 == 1
  keySlot := f.field 0x08 1
  nonce := f.field 0x10 8
  frameCount := f.field 0x20 4
  taken := 1
  keyDigest := f.field 0x80 64
  image := ⟨[], f.field 0x18 8⟩
  pieces := []
  digested := f.bytes
  openedAt := s.time.edges
  displaced := ⟨s.loader.retained, s.loader.chain, s.run.runAt⟩

/-- A stream begins: a full stream discards the retained image and the chain (R265), and an armed RunAt is disarmed (R214). -/
def State.beginStream (s : State) (port : Nat) (f : StreamFrame) : State :=
  let x := s.newStream port f
  let s := s.withLoader fun l =>
    { l with state := 1, stream := some x, retained := if x.partialImage then l.retained else none,
             chain := if x.partialImage then l.chain else [] }
  { s with run := { s.run with runAt := none } }.wakeDdr

/-- A stream that has begun in this I/O clock cycle gives way to one of a port that goes before its own (R254: PCI Express, then
parallel, then serial): it is refused, and what its first frame discarded stands again. -/
def State.giveWay (s : State) (port : Nat) : State := match s.loader.stream with
  | some x =>
    if s.loader.state = 1 ∧ x.taken = 1 ∧ x.openedAt = s.time.edges ∧ x.port < port then
      let s := s.refuseCurrent ⟨0x3202, 0, 0⟩
      let s := s.withLoader fun l => { l with retained := x.displaced.retained, chain := x.displaced.chain }
      { s with run := { s.run with runAt := x.displaced.runAt } }
    else s
  | none => s

/-- The port takes streams at all: its bit, the firmware, and any march after POR (R254). -/
def State.portOpen (s : State) (port : Nat) : Bool := s.portEnabled port && s.serving && !(s.marchBusy && s.mem.march.atStart)

/-- The first frame of a stream on a port that is not in use (R254, R257): a stream that is not taken is remembered. -/
def State.firstFrame (s : State) (port : Nat) (f : StreamFrame) : State :=
  if !s.portOpen port then s.ignoreStream port f.id
  else
    let s := s.giveWay port
    match s.headerFault port f with
    | some e => s.refuseFirst port f.id e
    | none => s.beginStream port f

/-- A port accepts a stream now (R254). -/
def State.accepts (s : State) (port : Nat) : Bool :=
  s.portOpen port && s.ddrPresent && !s.sheetBusy && !s.marchBusy &&
    (!s.loading || s.loader.stream.any fun x => x.port == port && s.loader.state == 1)

/-- The module holds SS_WAIT_N low; it holds PS_WAIT_N low (R253, R263). -/
def State.holdsSerialWait (s : State) : Bool := bufferLow (s.buffered 1) || !s.accepts 1
def State.holdsParallelWait (s : State) : Bool := bufferLow (s.buffered 2)

/-! ### Later frames -/

/-- The frame belongs to the stream that the module takes on that port. -/
def State.current (s : State) (port : Nat) (f : StreamFrame) : Option Stream := match s.loader.stream with
  | some x => if x.port = port ∧ s.loader.state = 1 ∧ (x.id = f.id ∨ port ≠ 2) then some x else none
  | none => none

/-- The stream key that a slot holds. -/
def State.keyOfSlot (s : State) (slot : Nat) : Option Nat := if slot = 0 then s.sec.slot0 else s.sec.slot1

/-- IV of a data frame: StreamNonce, then StreamSeq (R260). -/
def Stream.iv (x : Stream) (f : StreamFrame) : List Byte := toBytes 8 x.nonce ++ toBytes 4 f.seq

/-- The frame tag is that of header and ciphertext under the stream key (R260, R261). -/
def State.tagOk (s : State) (x : Stream) (f : StreamFrame) : Bool :=
  (s.keyOfSlot x.keySlot).any fun k => Config.gcmTag k (x.iv f) f.header f.payload == f.frameEnd.take 16

/-- The plaintext of a data frame. -/
def State.plaintext (s : State) (x : Stream) (f : StreamFrame) : List Byte := match x.encrypted, s.keyOfSlot x.keySlot with
  | true, some k => (f.payload.zip (List.range f.payload.length)).map fun b => b.1 ^^^ Config.gcmStream k (x.iv f) b.2
  | _, _ => f.payload

/-- Stages S1 and S2 of a data frame. -/
def State.dataFault (s : State) (x : Stream) (f : StreamFrame) : Option LoadFault :=
  firstFault [
    require (f.headerOk x.encrypted && f.type == 2 && f.id == x.id && (s.track x.port).ok &&
      decide (f.offset + f.length ≤ x.image.length) && !x.pieces.any fun p => overlaps p.1 p.2 f.offset f.length)
      (s.frameFault x.port f 0x3204),
    require (!x.encrypted || s.tagOk x f) (s.frameFault x.port f 0x7101)]

/-- A data frame with plaintext `bs` joins the stream. -/
def Stream.stage (x : Stream) (f : StreamFrame) (bs : List Byte) : Stream :=
  { x with
    taken := x.taken + 1
    image := { x.image with bytes := Sparse.setRun zeroByte x.image.bytes f.offset bs }
    pieces := (f.offset, f.length) :: x.pieces
    digested := x.digested ++ f.bytes }

/-- Where a stream is staged (R261, R277): a full image at the start of the staging area, a partial image behind the chain in the area
of its own. [DEDUCED, unsafe: log 34] -/
def State.stagingBase (s : State) (x : Stream) : Nat :=
  if x.partialImage then ddrStart + s.entry stagingKey * 9 * 2 ^ 27 + s.loader.chain.foldl (fun n m => n + m.length) 0 else ddrStart

/-- `StagedKiB`. -/
def Stream.staged (x : Stream) : Nat := x.pieces.foldl (fun n p => n + p.2) 0

/-- A data frame of the stream in progress. -/
def State.dataFrame (s : State) (x : Stream) (f : StreamFrame) : State :=
  match s.dataFault x f with
  | some e => s.refuseCurrent e
  | none =>
    let bs := s.plaintext x f
    (s.writeBytes (s.stagingBase x + f.offset) bs).withLoader fun l => { l with stream := some (x.stage f bs) }

/-- The digest is that of a stream-signing key that the module holds and that is not revoked (R262). -/
def State.signerKnown (s : State) (digest : Nat) : Bool :=
  (s.sec.digests.zip (List.range 4)).any fun d => d.1 == some digest && !s.sec.revoked.contains d.2

/-- Stage S4: VerifyKeyDigest is the digest of the key of the trailer and one that the module holds, and the signature over the stream
digest verifies (R259, R262). -/
def State.signatureOk (s : State) (x : Stream) (f : StreamFrame) : Bool :=
  Config.sha3 f.key == x.keyDigest && s.signerKnown x.keyDigest && Config.mlDsa f.key (Config.sha3 x.digested) f.signature

/-- Stages S1, S3 and S4 at the trailer frame: the frame itself, FrameCount and coverage, the key digest and the signature. The
pieces do not overlap, so they cover the image when their lengths add up to it. [DESIGN CHOICE, safe: log 10] -/
def State.trailerFault (s : State) (x : Stream) (f : StreamFrame) : Option LoadFault :=
  firstFault [
    require (f.headerOk false && f.type == 3 && f.id == x.id && (s.track x.port).ok && allZero (f.payload.drop 7219))
      (s.frameFault x.port f 0x3204),
    require (x.taken + 1 == x.frameCount && x.staged == x.image.length) ⟨0x3204, 2 ^ 32 - 1, 2 ^ 64 - 1⟩,
    require (s.signatureOk x f) (LoadFault.whole 0x7102)]

/-- The trailer frame: the stream is complete and its image is checked (R262, R267). -/
def State.trailerFrame (s : State) (x : Stream) (f : StreamFrame) : State :=
  match s.trailerFault x f with
  | some e => s.refuseCurrent e
  | none => s.withLoader fun l =>
    { l with state := 2, stream := some { x with taken := x.taken + 1 }, ignored := x.id :: l.ignored }

/-- Any frame on a port: it passes the port; a frame of the stream in progress goes to `k`, another begins a stream unless its StreamId
is ignored. A module takes no frame that does not name it. -/
def State.anyFrame (s : State) (port : Nat) (f : StreamFrame) (k : Stream → State → State) : State :=
  let s := s.seeFrame port f
  if s.sec.halted || !s.selected port f then s.withLoader fun l => { l with buffered := Sparse.set (fun _ => 0) l.buffered port 0 }
  else match s.current port f with
    | some x => k x s
    | none => if s.loader.ignored.contains f.id then s.ignoreStream port f.id else s.firstFrame port f

/-- The edges of one frame arrive on a port: the frame that their bytes spell passes it; no byte, no frame. The load DMA reads only
while it is busy. [DEDUCED, unsafe: log 34] -/
def State.arriveFrame (s : State) (port : Nat) (edges : List PortEdge) (k : StreamFrame → Stream → State → State) : State :=
  if port == 1 || port == 2 || (port == 3 && s.loader.dmaStatus == 1) then
    let bs := s.portBytes port edges
    let s := s.afterEdges port edges
    if bs.isEmpty then s else s.anyFrame port (StreamFrame.ofWire bs) (k (StreamFrame.ofWire bs))
  else s

/-- DMA_COMMAND (R29, R255): a write of 1 starts the load DMA at DmaSource, which reads DmaLength bytes; of no bytes it is done.
[DEDUCED, unsafe: log 34] -/
def execDmaCommand (req value : Nat) (s : State) : Host.Outcome State Fault Refusal :=
  .next (s.writing req 0x240205 value fun s =>
    let n := s.entry 0x240203 + s.entry 0x240204 * 2 ^ 32
    if value ≠ 1 ∨ s.loader.dmaStatus = 1 then s.refuse req 0x240205 0x9011
    else (s.withLoader fun l =>
      { l with dmaStatus := if n = 0 then 2 else 1, dmaAddress := s.entry 0x240201 + s.entry 0x240202 * 2 ^ 32, dmaLeft := n }).accept)

/-- STREAM_HEADER_FRAME (R252, R257, R258, R267): a second one in a stream is no valid frame of it. [DEDUCED, unsafe: log 74] -/
def execStreamHeaderFrame (port : Nat) (edges : List PortEdge) (s : State) : Host.Outcome State Fault Refusal :=
  .next (s.arriveFrame port edges fun f x s => s.refuseCurrent (s.frameFault x.port f 0x3204))

/-- DATA_FRAME (R252, R256, R260, R261): the edges that carry the frame header, and those that carry what follows it. -/
def execDataFrame (port : Nat) (head body : List PortEdge) (s : State) : Host.Outcome State Fault Refusal :=
  .next (s.arriveFrame port (head ++ body) fun f x s => s.dataFrame x f)

/-- TRAILER_FRAME (R252, R259, R262): its edges, as those of a data frame. -/
def execTrailerFrame (port : Nat) (head body : List PortEdge) (s : State) : Host.Outcome State Fault Refusal :=
  .next (s.arriveFrame port (head ++ body) fun f x s => s.trailerFrame x f)

/-! ### Checks, commit, abort -/

/-- Stage S5 and, when it passes, the commit up to the release (R189, R267, R269): `readBackFailure` is the argument of 0x3211
where step C6 finds a difference. [DEDUCED, unsafe: log 33] -/
def State.checkAndCommit (s : State) (x : Stream) (readBackFailure : Option Nat) : State :=
  let fault := if x.partialImage then match s.image with
      | some i => s.partialChecks i x.image
      | none => some (LoadFault.whole 0x3203)
    else s.loadChecks x.image
  match fault with
  | some e => s.refuseCurrent e
  | none =>
    let s := { s.withLoader fun l => { l with state := 3 } with rst := { s.rst with commitFaults := 0 } }
    let s := match x.partialImage, s.image with
      | true, some i => s.commitPartial i x.image readBackFailure
      | _, _ => s.commitFull x.image readBackFailure
    match readBackFailure with
    | some _ => s.withLoader fun l =>
        { l with state := 0, stream := none, dmaStatus := if x.port = 3 then 3 else l.dmaStatus }
    | none => s

/-- LOAD_CHECKS_COMPLETE (R189, R267, R269, R270). -/
def execLoadChecksComplete (readBackFailure : Option Nat) (s : State) : Host.Outcome State Fault Refusal :=
  .next (match s.loader.stream with
    | some x => if s.loader.state = 2 then s.checkAndCommit x readBackFailure else s
    | none => s)

/-- The commit reports done (R269): a full commit ends in LOADED, and a domain member tells its peers whether its lanes fit (R128); a
partial commit puts its image in force (R276). [DEDUCED, unsafe: log 33] -/
def State.commitDone (s : State) (x : Stream) : State :=
  let s := s.withLoader fun l =>
    { l with state := 0, stream := none, fault := 0, offset := 0, dmaStatus := if x.port = 3 then 2 else l.dmaStatus }
  let s := s.bump 0x240801
  if x.partialImage then match s.image with
    | some i => s.partialDone i x.image
    | none => s
  else (s.setMode .loaded).tellLatency

/-- Tiles of which each has been released. -/
def State.allReleased (s : State) (tiles : List Nat) : Bool := tiles.all fun tk => s.fabric.stage tk == 3

/-- Every fitted tile has been released. -/
def State.released (s : State) : Bool := s.allReleased s.allTiles

/-- Tiles that a commit releases: all of them, or those of the region (R269, R275). -/
def State.commitTiles (s : State) (x : Stream) : List Nat := if x.partialImage then x.image.partialHeader.region else s.allTiles

/-- COMMIT_COMPLETE (R237, R269, R275): the commit reports done only after stage 3 of the release. [DEDUCED, unsafe: log 33] -/
def execCommitComplete (s : State) : Host.Outcome State Fault Refusal :=
  .next (match s.loader.stream with
    | some x => if s.loader.state = 3 ∧ s.allReleased (s.commitTiles x) = true ∧ s.rst.commitFaults < 2 then s.commitDone x else s
    | none => s)

/-- LOAD_ABORT (R266): during a commit it is refused; with no stream there is nothing to abort. [DEDUCED, unsafe: log 34] -/
def execLoadAbort (req : Nat) (s : State) : Host.Outcome State Fault Refusal :=
  .next (s.writing req 0x240301 1 fun s =>
    if s.loader.state = 3 then s.refuse req 0x240301 0x9011
    else (s.refuseCurrent (LoadFault.whole 0x320A)).accept)

/-- STREAM_TIMEOUT (R266): no frame for `LoadTimeout`. -/
def execStreamTimeout (s : State) : Host.Outcome State Fault Refusal :=
  .next (if s.loader.state = 1 then s.refuseCurrent (LoadFault.whole 0x3205) else s)

end Sys2Proof.Machine
end

