-- ==== Sys2Proof/Machine/Sheets.lean ====
section
/-! DEFINITION. Contact sheets (R205 to R209), the refusals that run and sheet commands share (R523), and the write-back of the
remote-data caches (R17, R156). -/

namespace Sys2Proof.Machine

/-! ### Remote-data caches (R155, R156) -/

/-- Write back and invalidate the lines of the caches of which `p` holds; a bank that is powered off takes nothing (R137).
[DESIGN CHOICE, safe: log 39] -/
def State.flushWhere (s : State) (p : CacheLine → Bool) : State :=
  let s := (s.mem.cache.filter fun l => p l && l.dirty && s.bankPowered (bankOf l.die l.offset)).foldl (fun s l => s.writeOnDie l.die l.offset l.data) s
  { s with mem := { s.mem with cache := s.mem.cache.filter fun l => !p l } }

/-- Write back and invalidate every remote-data cache. [DESIGN CHOICE, safe: log 39] -/
def State.flushCaches (s : State) : State := s.flushWhere fun _ => true

/-! ### Refusals of run and sheet commands (R523) -/

/-- Refusals 3 to 7: `status` is the status of the command's entry, `isRun` tells a run command. -/
def State.commonRefusal (s : State) (status : Nat) (isRun : Bool) (modes : List Mode) : Option Nat :=
  if status = 1 then some 0x9011
  else if s.loading then some 0x3202
  else if s.marchBusy then some 0x5202
  else if isRun && s.sheetBusy then some 0x9012
  else if !s.modeIn modes then some 0x9012
  else none

/-- The guest link is down for an image that uses the guest (R350). -/
def State.guestDown (s : State) : Bool := s.image.any fun i => i.guestUse && s.guest.state != 3 && s.guest.state != 4

/-- The image's travel-table version is no longer that of the module (R180). -/
def State.travelChanged (s : State) : Bool := s.image.any fun i => i.travelTable != s.travelVersion

/-- Refusals 9 and 10 of Run, RunAt and Step. -/
def State.startRefusal (s : State) : Option Nat :=
  if !s.run.valid then some 0x4114
  else if s.therm.critical then some 0x1202
  else if !s.fixer.failed.isEmpty then some 0x3304
  else if s.travelChanged then some 0x4A13
  else if s.failedBundle.isSome then some 0x6204
  else if s.guestDown then some 0x6402
  else none

/-- The class in which run control refuses with a fault (R498). -/
def refusalClass (code : Nat) : FaultClass :=
  if code = 0x1202 ∨ code = 0x3304 ∨ code = 0x4A13 ∨ code = 0x6204 ∨ code = 0x6402 then .blocked else .refused

/-- Argument of a refusal by run control: 0x9010 to 0x9012 name requester and entry; 0x4A13 and 0x6204 as Table 7-15. -/
def State.refusalArg (s : State) (req key code : Nat) : Nat :=
  if 0x9010 ≤ code ∧ code ≤ 0x9012 then accessArg req key
  else if code = 0x4A13 then (match s.image with
    | some i => i.travelTable
    | none => 0)
  else if code = 0x6204 then s.failedBundle.getD 0
  else 0

/-- Refuse a command with its fault. -/
def State.refuseCommand (s : State) (req key code : Nat) : State :=
  (s.logAs code (refusalClass code) srcHub (s.refusalArg req key code)).reply (refusedAnswer req)

/-! ### Bodies (R192, R207, R208) -/

/-- Bytes of a range of the physical address space, by offset. -/
def State.arenaBytes (s : State) (base size : Nat) : Sparse Byte :=
  s.mem.bytes.filterMap fun e => if base ≤ e.1 ∧ e.1 < base + size then some (e.1 - base, e.2) else none

/-- Put the bytes of an arena back. -/
def State.setArena (s : State) (base size : Nat) (bs : Sparse Byte) : State :=
  bs.foldl (fun s e => s.writeBytes (base + e.1) [e.2]) (s.forgetBytes base (base + size))

/-- The design state at the boundary, with the arenas that the scope names. -/
def State.designState (s : State) (scope : Nat) : DesignState where
  nibs := s.arr.nibs.filterMap fun e =>
    let x := { e.2 with latch := TierWord.zero, carry := 0 }
    if x = Nib.zero then none else some (e.1, x)
  clusters := s.arr.clusters
  tiles := s.arr.tiles.filterMap fun e =>
    let x := { e.2 with tokens := 0, wcTokens := 0 }
    if x = Tile.zero then none else some (e.1, x)
  flights := s.arr.flights
  claims := s.arr.claims
  queues := s.arr.queues.map fun e => (e.1, e.2.entries, e.2.discard, e.2.skip)
  cells := s.fabric.cells.filter fun e => s.fabric.isBurst e.1
  cycle := s.arr.sched.cycle
  onDie := s.mem.onDie
  hbm := match s.image with
    | some i => if bit scope 1 then s.arenaBytes i.hbmBase i.hbmArenaSize else []
    | none => []
  deep := match s.image with
    | some i => if bit scope 2 then s.arenaBytes i.deepBase i.deepArenaSize else []
    | none => []

/-- The bytes of a body, by offset, and the design state that bytes spell: the layout within the parts of a body belongs to the grade
(R207). [DEDUCED, unsafe: log 35] -/
opaque Config.bodyBytes : DesignState → Sparse Byte
/-- The design state that bytes spell as a body (R207). [DEDUCED, unsafe: log 35] -/
opaque Config.bodyState : Sparse Byte → DesignState

/-- Write a body of `n` bytes at `a`. -/
def State.storeBody (s : State) (a n : Nat) (d : DesignState) : State :=
  s.setArena a n ((Config.bodyBytes d).filter fun e => decide (e.1 < n))

/-- Length of the core part of a body (R208). -/
def Grade.coreBody (g : Grade) : Nat := g.dies * 220 * 2 ^ 20

/-- Length of a body with a scope. -/
def bodyLengthOf (g : Grade) (scope hbm deep : Nat) : Nat :=
  g.coreBody + (if bit scope 1 then hbm else 0) + (if bit scope 2 then deep else 0)

/-- End of the deep arena in DDR5: bodies lie above it. -/
def State.deepEnd (s : State) : Nat := s.deepBase + match s.image with
  | some i => i.deepArenaSize
  | none => 0

/-- Bodies placed, but for one slot. -/
def State.bodiesUsed (s : State) (slot : Nat) : List (Nat × Nat) :=
  (s.sheets.zip (List.range 16)).filterMap fun x =>
    if x.2 = slot ∨ (x.1.full = false ∧ x.1.reserved = false) then none else some (x.1.address, x.1.length)

/-- Place a body of `n` bytes: where the firmware chooses if it is free, else at the first free place.
[DESIGN CHOICE, safe: log 15] -/
def State.placeBody (s : State) (slot n : Nat) : Option Nat :=
  let used := s.bodiesUsed slot
  (Config.bodyPlace used n :: s.deepEnd :: used.map fun u => u.1 + u.2).find? fun a =>
    decide (s.deepEnd ≤ a ∧ a + n ≤ s.ddrEnd) && used.all fun u => !overlaps a n u.1 u.2

/-! ### Slots -/

def State.slot (s : State) (k : Nat) : Sheet := s.sheets.getD k Sheet.empty
def State.setSlot (s : State) (k : Nat) (x : Sheet) : State := { s with sheets := listSet s.sheets k x }

/-- `SheetSlot` and `SheetScope`. -/
def State.sheetSlot (s : State) : Nat := s.entry 0x212003
def State.sheetScope (s : State) : Nat := s.entry 0x212004

/-- A field of a header (Table 8-6). -/
def Sheet.num (x : Sheet) (off n : Nat) : Nat := ofBytes ((x.header.drop off).take n)

/-- The header of a Save (Table 8-6). -/
def State.sheetHeader (s : State) (i : Image) (scope length digest : Nat) : List Byte :=
  let t := s.stamp
  toBytes 4 0x53484354 ++ toBytes 2 1 ++ toBytes 1 s.part.grade.code ++ toBytes 1 scope ++ i.imageId ++ toBytes 64 i.digest ++
    toBytes 8 s.arr.sched.cycle ++ toBytes 4 i.travelTable ++ toBytes 2 i.length ++ toBytes 2 0 ++ toBytes 8 t.seconds ++
    toBytes 4 t.ns ++ toBytes 1 (b2n t.global) ++ toBytes 3 0 ++ toBytes 8 length ++ toBytes 64 digest ++
    toBytes 8 i.hbmArenaSize ++ toBytes 8 i.deepArenaSize ++ toBytes 48 0

/-- Write the design state into slot `k`, its body of `n` bytes at `a`. -/
def State.fillSlot (s : State) (i : Image) (k scope n a : Nat) : State :=
  let s := s.flushCaches
  let d := s.designState scope
  let s := s.storeBody a n d
  s.setSlot k ⟨true, false, s.sheetHeader i scope n (Config.sha3 (s.readBytes a n)), some d, a, n⟩

/-- Write the design state into a slot; nothing where no body fits. [DEDUCED, unsafe: log 35] -/
def State.saveSlot (s : State) (k scope : Nat) : Option State :=
  match s.image with
  | none => none
  | some i =>
    let n := bodyLengthOf s.part.grade scope i.hbmArenaSize i.deepArenaSize
    (s.placeBody k n).map fun a => s.fillSlot i k scope n a

/-! ### Restore (R206) -/

/-- The design state that the bytes of a body spell: what a Save has written there, while those bytes stand.
[DEDUCED, unsafe: log 35] -/
def State.bodyOf (s : State) (x : Sheet) : DesignState :=
  let now := s.arenaBytes x.address x.length
  match x.body with
  | some d => if now = (s.storeBody x.address x.length d).arenaBytes x.address x.length then d else Config.bodyState now
  | none => Config.bodyState now

/-- The body has the digest that the header states (R206). [DEDUCED, unsafe: log 35] -/
def State.bodyIntact (s : State) (x : Sheet) : Bool := Config.sha3 (s.readBytes x.address x.length) == x.num 0x080 64

/-- Entries of a read or write queue with the saved ones. -/
def restoreQueues (qs : Sparse Queue) (saved : List (Nat × List QEntry × Nat × Nat)) : Sparse Queue :=
  saved.foldl (fun m e =>
    let q := Sparse.get (fun _ => Queue.empty) m e.1
    Sparse.set (fun _ => Queue.empty) m e.1
      { q with entries := e.2.1, discard := e.2.2.1, skip := e.2.2.2, stalled := false, timedOut := false }) qs

/-- Nibs with the saved elements; instruction latch and carry mask stay. -/
def restoreNibs (old saved : Sparse Nib) : Sparse Nib :=
  ((old.map Prod.fst) ++ saved.map Prod.fst).eraseDups.foldl (fun m n =>
    let was := Sparse.get (fun _ => Nib.zero) old n
    let v := Sparse.get (fun _ => Nib.zero) saved n
    Sparse.set (fun _ => Nib.zero) m n { v with latch := was.latch, carry := was.carry }) []

/-- The array with the saved design state at its boundary. -/
def State.restoreArray (s : State) (d : DesignState) : State :=
  s.withArr fun a => NibArray.fetchAll (t := 0)
    { a with
      nibs := restoreNibs a.nibs d.nibs
      clusters := d.clusters
      tiles := d.tiles
      flights := d.flights
      claims := d.claims
      queues := restoreQueues a.queues d.queues
      requests := []
      votes := []
      cyclog := CycleLog.empty
      sched := { a.sched with
        cycle := d.cycle, step := 0, opened := false, done := [], groups := [], p3 := [], stalls := [], stops := [],
        target := none, decided := [], lateCounted := [], begun := false, sampled := false, latchDue := none } }

/-- Write the design state and the arenas of the scope; the queue counts are preloaded (R504). [DEDUCED, unsafe: log 35] -/
def State.restoreDesign (s : State) (d : DesignState) (scope : Nat) : State :=
  let s := s.flushCaches.restoreArray d
  let s := { s with mem := { s.mem with onDie := Sparse.canon zeroByte d.onDie }, queueCounts := preloaded 8 s.arr.queues }
  let s := s.withFabric fun f =>
    d.cells.foldl (fun f e => if f.isBurst e.1 then f.setCell e.1 e.2 else f) { f with cells := f.cells.filter fun e => !f.isBurst e.1 }
  match s.image with
  | none => s
  | some i =>
    let s := if bit scope 1 then s.setArena i.hbmBase i.hbmArenaSize d.hbm else s
    if bit scope 2 then s.setArena i.deepBase i.deepArenaSize d.deep else s

/-- The digest that a recommit of the retained image and its chain gives (R276). -/
def Loader.recommitDigest (l : Loader) (m : Staged) : Nat :=
  l.chain.foldl (fun d p => Config.sha3 (toBytes 64 d ++ toBytes 64 p.digest)) m.digest

/-- The retained image committed anew, with an empty chain. -/
def State.recommitBase (s : State) (m : Staged) (readBackFailure : Option Nat) : State :=
  (s.withLoader fun l => { l with chain := [] }).commitFull m readBackFailure

/-- One partial image of the chain committed anew. -/
def State.recommitNext (s : State) (p : Staged) : State := match s.image with
  | some i => (s.commitPartial i p none).partialDone i p
  | none => s

/-- Recommit the retained image, then each partial image of the chain (R206, R276). -/
def State.recommit (s : State) (m : Staged) : State := s.loader.chain.foldl State.recommitNext (s.recommitBase m none)

/-- The first load check that a recommit fails: those of Table 7-11, then those of R274 for each image of the chain, each on the module
as the images before it leave it. -/
def State.recommitFault (s : State) (m : Staged) : Option LoadFault := match s.loadChecks m with
  | some f => some f
  | none => (s.loader.chain.foldl (fun (x : State × Option LoadFault) p => match x.2, x.1.image with
      | none, some i => match x.1.partialChecks i p with
        | some f => (x.1, some f)
        | none => (x.1.recommitNext p, none)
      | _, _ => x) (s.recommitBase m none, none)).2

/-- The checks of a restore in order: the fault that refuses it, with its argument. -/
def State.restoreFault (s : State) (x : Sheet) : Option (Nat × Nat) :=
  if !x.full || !s.bodyIntact x then some (0x5302, 0)
  else if x.num 0x006 1 ≠ s.part.grade.code then some (0x4A19, 0)
  else match s.image, s.loader.retained with
    | some i, _ => if x.num 0x018 64 = i.digest then none else some (0x4A19, 0)
    | none, none => some (0x4A19, 0)
    | none, some m => match s.recommitFault m with
      | some f => some (f.code, f.arg)
      | none => if x.num 0x018 64 = s.loader.recommitDigest m then none else some (0x4A19, 0)

/-- The image that a restore works on: with none committed the retained one is recommitted first (R206). -/
def State.restoreImage (s : State) : State := match s.image, s.loader.retained with
  | none, some m => s.recommit m
  | _, _ => s

/-- Write the state of a slot that has passed its checks, and begin the staged release of the fabric (R206, R238); the threads whose cycle
has come wake (R308). The body is read before the recommit writes anything. [DEDUCED, unsafe: log 35] -/
def State.writeSheet (s : State) (x : Sheet) : State :=
  let d := s.bodyOf x
  let s := s.restoreImage.restoreDesign d (x.num 0x007 1)
  ((s.removeIsolation (s.allTiles.filter fun tk => s.fabric.stage tk == 0)).releaseBridgePins).wakeCycles

/-- The recommit of a restore fails at its read-back (step C6, R270): no image is left, and none is retained. -/
def State.recommitFails (s : State) (arg : Nat) : State := match s.image, s.loader.retained with
  | none, some m => (s.recommitBase m (some arg)).withLoader fun l => { l with retained := none }
  | _, _ => s

/-- A restore recommits an image first. -/
def State.recommits (s : State) : Bool := s.image.isNone && s.loader.retained.isSome

/-! ### Sheet commands (R205 to R208) -/

def sheetKey : Nat := 0x212001

/-- A sheet command reaches its own rule through R523. -/
def State.sheetCommand (s : State) (req value : Nat) (modes : List Mode) (k : State → State) : State :=
  s.writing req sheetKey value fun s => match s.commonRefusal (s.entry sheetStatusKey) false modes with
    | some c => s.refuseCommand req sheetKey c
    | none => if s.ddrPresent then k s else s.refuseCommand req sheetKey 0x5301

def State.sheetStatus (s : State) (v : Nat) : State :=
  (if v = 1 then s.wakeDdr else s).putEntry sheetStatusKey v

/-- SAVE (R205, R208). -/
def execSave (req : Nat) (s : State) : Host.Outcome State Fault Refusal :=
  .next (s.sheetCommand req 1 [.hold] fun s => match s.saveSlot s.sheetSlot s.sheetScope with
    | some t => (t.sheetStatus 1).accept
    | none => s.refuseCommand req sheetKey 0x5301)

/-- SAVE_COMPLETE: the caches are written back at its end too (R156). [DEDUCED, unsafe: log 35] -/
def execSaveComplete (s : State) : Host.Outcome State Fault Refusal :=
  .next (if s.sheetBusy ∧ s.run.mode = .hold then s.flushCaches.sheetStatus 2 else s)

/-- A restore fails once it has begun to write: the design state is no longer valid (R193). [DEDUCED, unsafe: log 35] -/
def State.restoreFails (s : State) : State := { s.sheetStatus 3 with run := { s.run with valid := false } }

/-- RESTORE (R193, R206): `failure` is there for one that fails once it has begun to write, and is the argument of 0x3211 where a recommit
finds a difference at its step C6. [DEDUCED, unsafe: log 35] -/
def execRestore (req : Nat) (failure : Option Nat) (s : State) : Host.Outcome State Fault Refusal :=
  .next (s.sheetCommand req 2 [.hold, .service] fun s =>
    match s.restoreFault (s.slot s.sheetSlot), failure with
    | some (c, a), _ => (s.logAs c (if c = 0x5302 ∨ c = 0x4A19 then .refused else .image) srcHub a).reply (refusedAnswer req)
    | none, some arg =>
      if s.recommits then ((s.recommitFails arg).sheetStatus 3).accept
      else (s.writeSheet (s.slot s.sheetSlot)).restoreFails.accept
    | none, none => ((s.writeSheet (s.slot s.sheetSlot)).sheetStatus 1).accept)

/-- A restore ends in HOLD with its design state valid (R193, R206). -/
def State.restoreDone (s : State) : State :=
  let s := { s with run := { s.run with valid := true, domainLost := false } }
  (s.flushCaches.sheetStatus 2).setMode .hold

/-- A restore can end: it is busy, no march is (R163), and the fabric has been released (R237). -/
def State.restoreEnds (s : State) : Bool :=
  s.sheetBusy && s.modeIn [.hold, .service] && s.image.isSome && s.released && !s.marchBusy

/-- DISCARD (Table 8-5): empties a full slot, and releases a reserved one (R207). -/
def execDiscard (req : Nat) (s : State) : Host.Outcome State Fault Refusal :=
  .next (s.sheetCommand req 3 quietModes fun s => ((s.setSlot s.sheetSlot Sheet.empty).sheetStatus 2).accept)

/-- ADOPT (R207): BodyLength must match the grade and the scope. [DEDUCED, unsafe: log 35] -/
def execAdopt (req : Nat) (s : State) : Host.Outcome State Fault Refusal :=
  .next (s.sheetCommand req 4 quietModes fun s =>
    let x := s.slot s.sheetSlot
    if x.reserved && x.num 0x078 8 == bodyLengthOf s.part.grade (x.num 0x007 1) (x.num 0x0C0 8) (x.num 0x0C8 8) then
      ((s.setSlot s.sheetSlot { x with full := true, reserved := false, body := none }).sheetStatus 2).accept
    else s.refuseCommand req sheetKey 0x9011)

/-- A header with zeros in its reserved fields (R8, Table 8-6). [DEDUCED, unsafe: log 35] -/
def clearReserved (h : List Byte) : List Byte :=
  (h.zip (List.range h.length)).map fun x =>
    if x.2 = 0x066 ∨ x.2 = 0x067 ∨ (0x075 ≤ x.2 ∧ x.2 < 0x078) ∨ 0x0D0 ≤ x.2 then 0 else x.1

/-- SHEET_HEADER_WRITE (R207): a header of 256 bytes reserves its body; a full slot refuses it. -/
def execSheetHeaderWrite (req : Nat) (header : List Byte) (s : State) : Host.Outcome State Fault Refusal :=
  .next (s.writing req 0x212100 0 fun s =>
    let k := s.sheetSlot
    if (s.slot k).full || header.length != 256 then s.refuse req 0x212100 0x9011
    else
      let n := ofBytes ((header.drop 0x078).take 8)
      match (if s.ddrPresent then s.placeBody k n else none) with
      | none => s.refuseCommand req 0x212100 0x5301
      | some a => (s.setSlot k ⟨false, true, clearReserved header, none, a, n⟩).accept)

end Sys2Proof.Machine
end

