-- ==== Sys2Proof/Machine/Halt.lean ====
section
/-! DEFINITION. The device halt (R471, R472). -/

namespace Sys2Proof.Machine

/-- Bits of `HaltCause`. -/
def haltTag : Nat := 0
def haltTamper : Nat := 1

/-- A stream being received ends, and a commit in progress does not complete: the module then holds no image. -/
def State.stopLoader (s : State) : State :=
  let s := if s.loader.state = 3 then s.dropImage else s
  s.withLoader fun l => { l with state := 0, stream := none, dmaStatus := if l.dmaStatus = 1 then 3 else l.dmaStatus }

/-- What the halt stops (R471): step clock, pins and outputs, cores, scheduler, loader, lanes; the level falls to closed. -/
def State.stopAll (s : State) : State :=
  let s := s.withSched fun c => { c with run := .gated }
  let s := ((s.applySafe allPins causeHalt).releaseOutputs).stopLoader
  { s with
    cores := s.cores.map fun (c : Core) => if c.state = .reset then c else { c with state := .debugHalt }
    lanes := s.lanes.map fun (x : Lane) => if x.fitted then { x with state := 1, blockLock := false } else x
    sec := { s.sec with halted := true, level := 0, levelLogged := [] } }

/-- A cause of a device halt: recorded and logged; the first takes effect (R471). [DEDUCED, unsafe: log 45] -/
def State.deviceHalt (s : State) (cause code arg : Nat) : State :=
  let s := { s with sec := { s.sec with haltCause := setBit s.sec.haltCause cause true } }
  let s := s.log1 code srcHub arg
  let s := { s with log := { s.log with lapsed := true } }
  if s.sec.halted then s else s.stopAll

/-- A tag of a control line fails (R469): 0x7301 names the address and the requester or engine. [DEDUCED, unsafe: log 45] -/
def State.tagFailure (s : State) (address unit : Nat) : State :=
  s.deviceHalt haltTag 0x7301 (Config.packArg 0x7301 [address, unit])

end Sys2Proof.Machine
end

