-- ==== Sys2Proof/Machine/Audit.lean ====
section
/-! DEFINITION. Acknowledgement of faults (R496) and the audit of the conservation guarantees (R504 to R506). -/

namespace Sys2Proof.Machine

def State.withLog (s : State) (f : Log → Log) : State := { s with log := f s.log }

/-- FAULT_ACKNOWLEDGE (R496): a write of 1 ends the active faults of the Image and Stop classes. -/
def execFaultAcknowledge (req : Nat) (s : State) : Host.Outcome State Fault Refusal :=
  .next (s.writing req 0x500002 1 fun s => (s.endFaults fun a => a.cls == .image || a.cls == .stop).accept)

/-! ### Terms (Table 21-6) -/

/-- Largest value of an UNSIGNED64 counter. [DEDUCED, unsafe: log 29] -/
def max64 : Nat := 2 ^ 64 - 1

/-- Credits taken and not yet returned: the flits in the buffers of the stops. -/
def State.creditsOutstanding (s : State) : Nat := s.rings.transit.foldl (fun n x => n + x.credits) 0

/-- A counter of guarantee 2: 0 preloaded, 1 issued, 2 removed. -/
def State.queueCount (s : State) (d which : Nat) : Nat := s.queueCounts.getD (d * 3 + which) 0

/-- Entries of the queues of E-die d, but those that stand for requests never issued (R101, R119). -/
def State.queueResident (s : State) (d : Nat) : Nat :=
  (s.arr.queues.filter fun q => q.1 / 64 / 256 == d).foldl
    (fun n q => n + (q.2.entries.filter fun e => !e.missing && !e.standIn).length) 0

/-- `QueueCountSticky`. [DEDUCED, unsafe: log 29] -/
def State.queueSticky (s : State) (d : Nat) : Bool := [0, 1, 2].any fun k => decide (max64 ≤ s.queueCount d k)

/-- Threads in state code k (Table 12-4). -/
def State.threadsIn (s : State) (k : Nat) : Nat :=
  let listed := (s.sched.threads.filter fun t => t.2.state.code == k).length
  if k = 0 then listed + (threadCount - s.sched.threads.length) else listed

/-- Samples in the buffer of sampler k (R366). -/
def State.samplesResident (s : State) (k : Nat) : Nat :=
  let x := s.sampler k
  if s.streaming k then x.kept - x.drained else min x.kept (s.capacity k)

/-! ### The audit -/

/-- Guarantee k is broken at this instant. -/
def State.broken (s : State) (k : Nat) : Bool :=
  if k = 0 then s.rings.granted != s.rings.returned + s.creditsOutstanding
  else if k = 1 then s.chan.live.any fun c => c.2.depth != c.2.free + c.2.reserved + c.2.occupied + c.2.inFlight
  else if k = 2 then (List.range s.dies).any fun d =>
    s.queueCount d 0 + s.queueCount d 1 != s.queueCount d 2 + s.queueResident d
  else if k = 3 then ((List.range 6).foldl (fun n j => n + s.threadsIn j) 0) != threadCount
  else if k = 4 then s.image.any fun i => s.tokens.drawnLast + s.tokens.withheldLast != i.tokensPerCycle
  else if k = 5 then
    let e (j : Nat) : Nat := s.entry (keyOf 0x2A20 j)
    e 1 != e 2 + e 3 || e 2 != s.trace.unread + e 4 + e 5
  else (List.range 4).any fun j =>
    let e (i : Nat) : Nat := s.entry (keyOf (0x2920 + j) i)
    e 1 != e 2 + e 3 || e 3 != s.samplesResident j + e 4 + e 5

/-- A cycle has been completed since the commit: the token counts of the last cycle stand. -/
def State.cycleCompleted (s : State) : Bool := s.image.isSome && s.tokens.drawnLast + s.tokens.withheldLast != 0

/-- A counter of guarantee k has saturated, or its instant is not now (Table 21-6). [DEDUCED, unsafe: log 55] -/
def State.uncheckable (s : State) (k : Nat) : Bool :=
  if k = 0 then decide (max64 ≤ s.rings.granted)
  else if k = 1 then s.chan.live.any fun c => c.2.posted == max32 || c.2.freed == max32
  else if k = 2 then (List.range s.dies).any s.queueSticky
  else if k = 3 then false
  else if k = 4 then !s.cycleCompleted
  else if k = 5 then s.tracing || s.trace.waiting != 0 || s.entry 0x2A2006 == 1
  else (List.range 4).any fun j => s.entry (keyOf (0x2920 + j) 6) == 1

/-- Guarantee k cannot be checked (R504). [DEDUCED, unsafe: log 55] -/
def State.unchecked (s : State) (k : Nat) : Bool := s.log.lapsed || s.uncheckable k

/-- Guarantees found broken, in order. -/
def State.brokenList (s : State) : List Nat := (List.range 7).filter fun k => !s.unchecked k && s.broken k

/-- AUDIT_COMMAND (R29, R505): refused while busy, and in STANDBY and DORMANT. [DEDUCED, unsafe: log 55] -/
def execAuditCommand (req : Nat) (s : State) : Host.Outcome State Fault Refusal :=
  .next (s.writing req 0x510001 1 fun s =>
    if s.log.auditStatus = 1 then s.refuse req 0x510001 0x9011
    else if s.asleep then s.refuse req 0x510001 0x9012
    else (s.withLog fun g => { g with auditStatus := 1 }).accept)

/-- Log a broken guarantee (R506). -/
def State.logBroken (s : State) (k : Nat) : State := if k = 0 then s.log1 0x6103 srcHub 0 else s.log1 0x9050 srcHub k

/-- AUDIT_COMPLETE (R505, R506). [DEDUCED, unsafe: log 55] -/
def execAuditComplete (s : State) : Host.Outcome State Fault Refusal :=
  .next (if s.log.auditStatus = 1 then
      let bad := s.brokenList
      let skipped := (List.range 7).filter s.unchecked
      (bad.foldl State.logBroken s).withLog fun g =>
        { g with auditStatus := 2, auditResult := maskOf bad, auditUnchecked := maskOf skipped }
    else s)

end Sys2Proof.Machine
end

