-- ==== Sys2Proof/Machine/Fixer.lean ====
section
/-! DEFINITION. The fixer (R280 to R291): frame groups, their golden contents and signatures, the scrub pass, detection and repair, and
the protected set. -/

namespace Sys2Proof.Machine

/-! ### Frame groups (Table 11-1) -/

/-- Kinds in code order. -/
def FrameKind.ofCode : Nat → Option FrameKind
  | 0 => some .tierRow
  | 1 => some .carryMask
  | 2 => some .descriptor
  | 3 => some .clusterFrame
  | 4 => some .tileFrame
  | 5 => some .bridgeFrame
  | 6 => some .moduleFrame
  | 7 => some .pads
  | _ => none

def FrameKind.code : FrameKind → Nat
  | .tierRow => 0
  | .carryMask => 1
  | .descriptor => 2
  | .clusterFrame => 3
  | .tileFrame => 4
  | .bridgeFrame => 5
  | .moduleFrame => 6
  | .pads => 7

/-- Words of a group, as the model indexes them: a tier row's 2,048 nib words and 32 × 48 route words, a tile's carry masks and
descriptors, one body of a frame, one word of pads. -/
def FrameKind.size : FrameKind → Nat
  | .tierRow => 3584
  | .carryMask => 2048
  | .descriptor => 256
  | .clusterFrame => 1
  | .tileFrame => 1
  | .bridgeFrame => 1
  | .moduleFrame => 1
  | .pads => 1

/-- Bits of one such word; a tier word is 64 bits with its parity above them. -/
def FrameKind.width : FrameKind → Nat
  | .tierRow => 68
  | .carryMask => 256
  | .descriptor => 128
  | .clusterFrame => 6016
  | .tileFrame => 3968
  | .bridgeFrame => 128
  | .moduleFrame => 768
  | .pads => 128

/-- Numbers of `n` bits side by side, the first lowest. -/
def packFields (n : Nat) (l : List Nat) : Nat := l.foldr (fun v acc => v % 2 ^ n + acc * 2 ^ n) 0

/-- A ModuleFrame body: sixteen clocks, then sixteen probe selects (Table 9-10). -/
def moduleBody (fclk probes : List Nat) : Nat := packFields 16 fclk + packFields 32 probes * 2 ^ 256

/-- The pads of a die, one byte each. [DESIGN CHOICE, unsafe: log 44] -/
def padsBody (delays : List Nat) (die : Nat) : Nat := packFields 8 ((List.range 10).map fun k => delays.getD (die * 10 + k) 0)

/-- A tier word with its parity as one number. -/
def TierWord.num (t : TierWord) : Nat := t.word.toNat + t.parity.toNat * 2 ^ 64
def TierWord.ofNum (v : Nat) : TierWord := ⟨BitVec.ofNat 64 v, BitVec.ofNat 4 (v / 2 ^ 64)⟩

def FrameGroupId.tileKey (g : FrameGroupId) : Nat := g.die * 64 + g.tile

/-- Key of the nib word `i` or route word `i` − 2,048 of a tier row. -/
def FrameGroupId.rowKey (g : FrameGroupId) (i : Nat) : Nat :=
  if i < 2048 then wordKey g.die g.item (g.tile * 2048 + i)
  else routeKey g.die g.item (g.tile * 32 + (i - 2048) / 48) ((i - 2048) % 48)

/-- Queue key of descriptor `i` of a tile. -/
def FrameGroupId.descKey (g : FrameGroupId) (i : Nat) : Nat := queueKey (g.die * 256 + g.tile * 4 + i / 64) (i % 64)

/-- Word `i` of a group as the dies hold it. -/
def State.groupWord (s : State) (g : FrameGroupId) (i : Nat) : Nat := match g.kind with
  | .tierRow =>
    (Sparse.get (fun _ => TierWord.zero) (if i < 2048 then s.arr.words else s.arr.routeWords) (g.rowKey i)).num
  | .carryMask => (s.arr.nib (g.tileKey * 2048 + i)).carry.toNat
  | .descriptor => (s.arr.queue (g.descKey i)).desc.toNat
  | .clusterFrame => s.fabric.clusterFrame (g.tileKey * 32 + g.item)
  | .tileFrame => s.fabric.tileFrame g.tileKey
  | .bridgeFrame => match (s.engine g.item).binding with
    | some b => b.body
    | none => 0
  | .moduleFrame => moduleBody s.fabric.fclk ((List.range 16).map s.probeSelect)
  | .pads => padsBody s.fabric.delays g.die

/-- Word `i` of a group as its golden contents have it. -/
def Fixer.goldenWord (x : Fixer) (g : FrameGroupId) (i : Nat) : Nat := match g.kind with
  | .tierRow =>
    (Sparse.get (fun _ => TierWord.zero) (if i < 2048 then x.goldenWords else x.goldenRoutes) (g.rowKey i)).num
  | .carryMask => Sparse.get (fun _ => 0) x.goldenCarry (g.tileKey * 2048 + i)
  | .descriptor => Sparse.get (fun _ => 0) x.goldenDescriptors (g.descKey i)
  | .clusterFrame => Sparse.get (fun _ => 0) x.goldenClusters (g.tileKey * 32 + g.item)
  | .tileFrame => Sparse.get (fun _ => 0) x.goldenTiles g.tileKey
  | .bridgeFrame => match x.goldenEngines.getD g.item none with
    | some b => b.body
    | none => 0
  | .moduleFrame => moduleBody x.goldenFclk x.goldenProbes
  | .pads => padsBody x.goldenDelays g.die

/-- Write word `i` of a group, atomically with its parity (R285). -/
def State.setGroupWord (s : State) (g : FrameGroupId) (i v : Nat) : State := match g.kind with
  | .tierRow => s.withArr fun a =>
    if i < 2048 then { a with words := Sparse.set (fun _ => TierWord.zero) a.words (g.rowKey i) (TierWord.ofNum v) }
    else { a with routeWords := Sparse.set (fun _ => TierWord.zero) a.routeWords (g.rowKey i) (TierWord.ofNum v) }
  | .carryMask => s.withArr fun a =>
    a.setNib (g.tileKey * 2048 + i) { a.nib (g.tileKey * 2048 + i) with carry := BitVec.ofNat 256 v }
  | .descriptor => s.withArr fun a =>
    a.setQueue (g.descKey i) { a.queue (g.descKey i) with desc := BitVec.ofNat 128 v }
  | .clusterFrame => s.withFabric fun f =>
    { f with clusterFrames := Sparse.set (fun _ => 0) f.clusterFrames (g.tileKey * 32 + g.item) v }
  | .tileFrame => s.withFabric fun f => { f with tileFrames := Sparse.set (fun _ => 0) f.tileFrames g.tileKey v }
  | .bridgeFrame =>
    let e := s.engine g.item
    s.setEngine g.item { e with binding := e.binding.map fun b => { b with body := v } }
  | .moduleFrame =>
    let s := s.withFabric fun f => { f with fclk := (List.range 16).map fun k => bits v (16 * k) 16 }
    (List.range 16).foldl (fun s k => s.putEntry (keyOf 0x2750 (k + 1)) (bits v (256 + 32 * k) 32)) s
  | .pads => s.withFabric fun f =>
    { f with delays := (List.range 10).foldl (fun l k => listSet l (g.die * 10 + k) (bits v (8 * k) 8)) f.delays }

/-! ### Signatures (R280) -/

/-- The bytes of a group in ascending address order, from its words. A tier row is laid out as its part of Table 10-7: nib words, route
words, and the parity of both packed two to a byte. -/
def FrameKind.bytes (k : FrameKind) (w : Nat → Nat) : List Byte :=
  if k = .tierRow then
    ((List.range 3584).flatMap fun i => toBytes 8 (w i)) ++
      (List.range 1792).map fun j => BitVec.ofNat 8 (bits (w (2 * j)) 64 4 + 16 * bits (w (2 * j + 1)) 64 4)
  else (List.range k.size).flatMap fun i => toBytes (k.width / 8) (w i)

/-- 64-bit words of two values that differ; a tier word with its parity counts as one. -/
def chunksDiffering (a b : Nat) : Nat :=
  ((List.range 94).filter fun k => bits (a ^^^ b) (64 * k) 64 != 0).length

/-- Words of a group that differ from its repair source (step 1 of R285). [DESIGN CHOICE, unsafe: log 44] -/
def State.groupDiff (s : State) (g : FrameGroupId) : List Nat :=
  (List.range g.kind.size).filter fun i => s.groupWord g i != s.fixer.goldenWord g i

/-- The signature of a group differs from its golden signature; contents that are equal have one signature. -/
def State.signatureDiffers (s : State) (g : FrameGroupId) : Bool :=
  !(s.groupDiff g).isEmpty && crc64 (g.kind.bytes (s.groupWord g)) != crc64 (g.kind.bytes (s.fixer.goldenWord g))

/-- How many 64-bit words a repair of these words rewrites. -/
def State.wordsRewritten (s : State) (g : FrameGroupId) (l : List Nat) : Nat :=
  if g.kind = .tierRow then l.length
  else l.foldl (fun n i => n + chunksDiffering (s.groupWord g i) (s.fixer.goldenWord g i)) 0

/-- Rewrite words from the golden contents. -/
def State.rewrite (s : State) (g : FrameGroupId) (l : List Nat) : State :=
  l.foldl (fun s i => s.setGroupWord g i (s.fixer.goldenWord g i)) s

/-- Upsets flip bits of words. -/
def State.upset (s : State) (g : FrameGroupId) (flips : BitFlips) : State :=
  flips.foldl (fun s f => if f.1 < g.kind.size then s.setGroupWord g f.1 (s.groupWord g f.1 ^^^ (f.2 % 2 ^ g.kind.width)) else s) s

/-- A select field of a frame with two or more bits set (R287): its bit offset. -/
def State.invalidSelect (s : State) (g : FrameGroupId) : Option Nat :=
  ((selectFields (if g.kind = .clusterFrame then 1 else if g.kind = .tileFrame then 2 else 0)).find? fun f =>
    !oneHot (bits (s.groupWord g 0) f.1 f.2) f.2).map Prod.fst

/-! ### The pass (R283, R284) -/

def fixerEnableKey : Nat := 0x250001

/-- Engines in use (Enable 1) in the committed image. -/
def Fixer.engineUsed (x : Fixer) (e : Nat) : Bool := (x.goldenEngines.getD e none).any fun b => b.enable
def Fixer.enginesUsed (x : Fixer) : Nat := ((List.range x.goldenEngines.length).filter x.engineUsed).length

/-- Groups of one E-die: tier rows, then per tile the masks, descriptors, 32 cluster frames and tile frame, and the pads. -/
def State.dieGroups (s : State) : Nat := 64 * s.L + 64 * 35 + 1

/-- `GroupsPerPass`: those of the dies, the engines in use and the module frame. -/
def State.groupsPerPass (s : State) : Nat := if s.image.isSome then s.dies * s.dieGroups + s.fixer.enginesUsed + 1 else 0

/-- The protected set as the controller has written it: FixerEnable, StopOnRepair, UpsetLimit, the golden-store base, the group counts of
the dies, and the address of the staged image. [DESIGN CHOICE, unsafe: log 44] -/
def State.controlSet (s : State) : List Nat :=
  let golden := ddrStart + s.entry stagingKey * 9 * 2 ^ 27 + 72 * 2 ^ 20
  [s.entry fixerEnableKey, s.entry 0x250002, s.entry 0x250004, golden] ++
    ((List.range s.dies).map fun _ => if s.image.isSome then s.dieGroups else 0) ++ [ddrStart]

/-- Register `i` of the protected set, with the upsets that stand in it. -/
def State.control (s : State) (i : Nat) : Nat :=
  s.fixer.controlFlips.foldl (fun v f => if f.1 = i then v ^^^ f.2 else v) (s.controlSet.getD i 0)

/-- The fixer scrubs (R284). -/
def State.scrubs (s : State) : Bool :=
  s.fixer.running && !s.fixer.resetting && bit (s.control 0) 0 && s.image.isSome && !s.sec.halted &&
    s.modeIn [.loaded, .run, .hold, .service]

/-- `FixerState` (R291). [DEDUCED, unsafe: log 33] -/
def State.fixerState (s : State) : Nat :=
  if s.fixer.resetting then 3 else if s.scrubs then 1 else if s.image.isSome && !s.fixer.running then 2 else 0

/-- The group exists in the committed image. -/
def State.groupExists (s : State) (g : FrameGroupId) : Bool := match g.kind with
  | .tierRow => decide (g.die < s.dies ∧ g.tile < 64 ∧ g.item < s.L)
  | .carryMask => decide (g.die < s.dies ∧ g.tile < 64 ∧ g.item = 0)
  | .descriptor => decide (g.die < s.dies ∧ g.tile < 64 ∧ g.item = 0)
  | .clusterFrame => decide (g.die < s.dies ∧ g.tile < 64 ∧ g.item < 32)
  | .tileFrame => decide (g.die < s.dies ∧ g.tile < 64 ∧ g.item = 0)
  | .bridgeFrame => decide (g.die = 0 ∧ g.tile = 0) && s.fixer.engineUsed g.item
  | .moduleFrame => decide (g.die = 0 ∧ g.tile = 0 ∧ g.item = 0)
  | .pads => decide (g.die < s.dies ∧ g.tile = 0 ∧ g.item = 0)

/-- The unit that finds: the scrub engine of the die, or the hub. -/
def FrameGroupId.unit (g : FrameGroupId) : Nat :=
  if g.kind = .bridgeFrame ∨ g.kind = .moduleFrame then hubUnit else g.die

/-- Place of a group in the order of its engine (R283): a die's tier rows in order of step, then of tile; its other groups in tile order,
and the pads of the die last; the hub's engines in order, then the module frame. [DESIGN CHOICE, unsafe: log 44] -/
def State.groupPlace (s : State) (g : FrameGroupId) : Nat :=
  let tile := 64 * s.L + g.tile * 35
  match g.kind with
  | .tierRow => g.item * 64 + g.tile
  | .carryMask => tile
  | .descriptor => tile + 1
  | .clusterFrame => tile + 2 + g.item
  | .tileFrame => tile + 34
  | .pads => 64 * s.L + 64 * 35
  | .bridgeFrame => ((List.range g.item).filter s.fixer.engineUsed).length
  | .moduleFrame => s.fixer.enginesUsed

/-- The group is the one that its engine takes next. -/
def State.groupNext (s : State) (g : FrameGroupId) : Bool := s.groupExists g && s.groupPlace g == s.fixer.checked.getD g.unit 0

/-- The group has been checked; with the last of the slowest engine a pass has ended and the next begins (R283). -/
def State.groupChecked (s : State) (g : FrameGroupId) : State :=
  let x := s.fixer
  let done := (List.range 9).map fun u => x.checked.getD u 0 + b2n (u == g.unit)
  let s := { s with fixer := { x with checked := done } }
  if done.foldl (· + ·) 0 < s.groupsPerPass then s
  else ((s.bump 0x250101).putEntry 0x250102 (min max32 ((s.mgmt.uptime - x.passStart) / 1000))).newPass

/-! ### Detection and repair (R285 to R288) -/

/-- A record of Table 11-2. -/
def fixerRecord (code : Nat) (g : FrameGroupId) (select stopped : Bool) (words cycle : Nat) : Nat :=
  code * 2 ^ 112 + g.die * 2 ^ 109 + g.kind.code * 2 ^ 106 + b2n select * 2 ^ 105 + b2n stopped * 2 ^ 104 +
    (if g.kind = .tierRow then g.item else 0) * 2 ^ 92 + g.tile * 2 ^ 86 +
    (if g.kind = .clusterFrame then g.item else 0) * 2 ^ 81 + (if g.kind = .bridgeFrame then g.item else 0) * 2 ^ 78 +
    min words 0x3FFF * 2 ^ 64 + cycle % 2 ^ 64

/-- Keep a record (R290). -/
def State.keepRecord (s : State) (r : Nat) : State :=
  { s with fixer := { s.fixer with records := (appendCapped 64 s.fixer.records r).1 } }

/-- The numbers that the fault of a group carries; the spec does not lay them out. [DESIGN CHOICE, unsafe: log 44] -/
def FrameGroupId.named (g : FrameGroupId) (words : Nat) : List Nat := [g.die, g.kind.code, g.item, g.tile, words]

/-- Fault of a repaired group: 0x3301 for a tier row, 0x3303 for a frame with an invalid select field, 0x3302 otherwise. -/
def repairCode (g : FrameGroupId) (select : Option Nat) : Nat :=
  if g.kind = .tierRow then 0x3301 else if select.isSome then 0x3303 else 0x3302

/-- The repair has succeeded (R285): counted, logged, recorded; in RUN a fault stop while `StopOnRepair` reads 1. -/
def State.repaired (s : State) (g : FrameGroupId) (select : Option Nat) (words : Nat) : State :=
  let code := repairCode g select
  let s := s.bump (if g.kind = .tierRow then 0x250104 else 0x250105)
  let arg := match select with
    | some off => Config.packArg 0x3303 [g.die, g.tile, g.item, off]
    | none => Config.packArg code (g.named words)
  let s := s.logAs code .stop (unitSource g.unit) arg
  let stops := s.run.mode == .run && bit (s.control 1) 0
  let s := s.keepRecord (fixerRecord code g select.isSome stops words s.arr.sched.cycle)
  if stops then s.raiseStop 7 g.unit code else s

/-- The repair has failed after rewriting `words` words, or its source is missing (R286): 0x3304, a fault stop, and runs refused until the
group matches. -/
def State.repairFailed (s : State) (g : FrameGroupId) (select : Option Nat) (words : Nat) (missing : Bool) : State :=
  let s := s.bump 0x250107
  let arg := Config.packArg 0x3304 [g.die, g.kind.code, g.item, g.tile] % 2 ^ 31 + b2n missing * 2 ^ 31
  let s := s.logAs 0x3304 .blocked (unitSource g.unit) arg
  let s := s.keepRecord (fixerRecord 0x3304 g select.isSome (s.run.mode == .run) words s.arr.sched.cycle)
  let s := { s with fixer := { s.fixer with failed := if s.fixer.failed.contains g then s.fixer.failed else g :: s.fixer.failed } }
  s.raiseStop 7 g.unit 0x3304

/-- A failed group has matched; with the last of them 0x3304 ends (R286). -/
def State.groupMatched (s : State) (g : FrameGroupId) : State :=
  if s.fixer.failed.contains g then
    let s := { s with fixer := { s.fixer with failed := s.fixer.failed.filter fun h => h != g } }
    if s.fixer.failed.isEmpty then s.endCode 0x3304 else s
  else s

/-- More groups than `UpsetLimit` differ in one pass (R288): 0x3305, once per pass. -/
def State.countDiffering (s : State) : State :=
  let n := s.fixer.differing + 1
  let s := { s with fixer := { s.fixer with differing := n } }
  if s.control 2 < n ∧ s.fixer.warned = false then
    { s.log1 0x3305 srcHub n with fixer := { s.fixer with warned := true } }
  else s

/-- The tier repair source is missing (R282). -/
def State.sourceMissing (s : State) (g : FrameGroupId) : Bool := g.kind == .tierRow && s.loader.retained.isNone

/-- A group that differs (R285 to R288): its words are rewritten, `stuck` strikes, and the signature is read back. -/
def State.repairGroup (s : State) (g : FrameGroupId) (stuck : BitFlips) : State :=
  let l := s.groupDiff g
  let words := s.wordsRewritten g l
  let select := s.invalidSelect g
  let s := if select.isSome then s.bump 0x250106 else s
  let t := (s.rewrite g l).upset g stuck
  let s := if s.sourceMissing g then s.repairFailed g select 0 true
    else if t.signatureDiffers g then t.repairFailed g select words false
    else (t.repaired g select words).groupMatched g
  s.countDiffering

/-- One group checked. [DESIGN CHOICE, unsafe: log 44] -/
def State.checkGroup (s : State) (g : FrameGroupId) (stuck : BitFlips) : State :=
  (if s.signatureDiffers g then s.repairGroup g stuck else s.groupMatched g).groupChecked g

/-- FIXER_GROUP_CHECK (R285): the upsets of the group strike, then its engine checks it; a golden line or a staged line whose tag
fails halts the device (R281, R469). [DESIGN CHOICE, unsafe: log 44] -/
def execFixerGroupCheck (group : FrameGroup) (sourceTagOk : Bool) (s : State) : Host.Outcome State Fault Refusal :=
  .next (match FrameKind.ofCode group.kind with
    | none => s
    | some kind =>
      let g : FrameGroupId := ⟨kind, group.die, group.tile, group.item⟩
      if !s.scrubs || !s.groupNext g then s
      else
        let s := s.upset g group.flips
        if sourceTagOk then s.checkGroup g group.stuck
        else s.deviceHalt haltTag 0x7301 (Config.packArg 0x7301 (g.named 0)))

/-! ### The fixer's control (R284, R289) -/

/-- The controller writes register `i` of the protected set: an upset in it is gone. -/
def State.controlWritten (s : State) (i : Nat) : State :=
  { s with fixer := { s.fixer with controlFlips := s.fixer.controlFlips.filter fun f => f.1 != i } }

/-- FIXER_ENABLE_WRITE (R284): the fixer resumes with a new pass. -/
def execFixerEnableWrite (req value : Nat) (s : State) : Host.Outcome State Fault Refusal :=
  .next (s.writingValue req fixerEnableKey value fun v s => (((s.putEntry fixerEnableKey v).controlWritten 0).newPass).accept)

/-- The golden signature of a protected set (R289): the spec does not lay its bytes out. [DESIGN CHOICE, unsafe: log 44] -/
def controlSignature (set : List Nat) : Nat := crc64 (Config.packBytes 0x2500 set)

/-- The protected set does not have the signature that the controller computed when it wrote the set. -/
def State.controlUpset (s : State) : Bool :=
  controlSignature ((List.range s.controlSet.length).map s.control) != controlSignature s.controlSet

/-- The controller resets the fixer and reloads the set from its own copy (R289): the interrupted pass does not count. The reset lasts
until the next edge of the I/O clock. [DESIGN CHOICE, unsafe: log 44] -/
def State.resetFixer (s : State) : State :=
  let s := ((s.log1 0x3F01 srcFirmware 0).bump 0x250109).newPass
  { s with fixer := { s.fixer with controlFlips := [], resetting := true } }

/-- PROTECTED_SET_CHECK (R289): the check, and the upsets that strike the set after it, which the next check finds. -/
def execProtectedSetCheck (flips : BitFlips) (s : State) : Host.Outcome State Fault Refusal :=
  .next (
    let s := if s.serving && s.controlUpset then s.resetFixer else s
    { s with fixer := { s.fixer with controlFlips := s.fixer.controlFlips ++ flips } })

/-- An edge of the I/O clock ends a reset of the fixer. -/
def State.fixerEdge (s : State) : State := { s with fixer := { s.fixer with resetting := false } }

end Sys2Proof.Machine
end

