-- ==== Sys2Proof/Machine/Memory.lean ====
section
/-! DEFINITION. System-class accesses to memory (R18 to R21, R460, R463, R468, R469): rights, powered-off and sleeping controllers,
the tags of control lines, and the access itself. -/

namespace Sys2Proof.Machine

/-- Number of bytes of an access. -/
def accessLen (a : SysAccess) : Nat := a.data.length

/-- The rights that an access needs (R460). -/
def State.permits (s : State) (req addr len : Nat) (op : AccessOp) : Bool :=
  (!op.reads || s.allowed req addr len false op.atomic) && (!op.writes || s.allowed req addr len true op.atomic)

/-- Control regions: base and size, each followed by its tag region, in the order of Table 19-7 (R468). -/
def State.controlRegions (s : State) : List (Nat × Nat) :=
  let mib := 2 ^ 20
  let p := ddrStart + s.entry stagingKey * 9 * 2 ^ 27
  if s.controlEnd = ddrStart then []
  else [(ddrStart, s.entry stagingKey * 2 ^ 30), (p, 64 * mib), (p + 72 * mib, 128 * mib), (p + 216 * mib, 2 ^ 16),
        (p + 218 * mib, mib), (p + 220 * mib, 64 * mib)]

/-- The access touches a line that carries a tag. -/
def State.tagged (s : State) (addr len : Nat) : Bool :=
  s.controlRegions.any fun r => decide (addr < r.1 + r.2 ∧ r.1 < addr + len)

/-- The access reads the lines that it touches: a read, or a write of a part of a line (R469). -/
def readsLines (a : SysAccess) : Bool := a.op.reads || a.addr % 64 != 0 || accessLen a % 64 != 0

/-- Memory controllers that serve the bytes of an access: HBM 0 to 3 (R21), DDR5 4 to 7. -/
def State.controllers (s : State) (addr len : Nat) : List Nat :=
  if addr < hbmStart ∨ guestStart ≤ addr then []
  else (((List.range len).map fun i =>
    if addr < ddrStart then hbmStack s.part.grade (addr + i) else 4 + s.ddrChannelOf (addr + i))).eraseDups

/-- Stop of a memory controller. -/
def controllerStop (d : Nat) : StopOwner := if d < 4 then .hbm d else .ddr (d - 4)

/-- Count a system-class request at the first of its controllers (Table 15-7, codes 4 and 6). -/
def State.countSystem (s : State) : List Nat → State
  | [] => s
  | d :: _ => if d < 4 then s.countEvent 4 d 1 else s.countEvent 6 (d - 4) 1

/-- The bytes move: a read returns them, an AMO returns what it replaces, a write stores. -/
def State.moveBytes (s : State) (a : SysAccess) : State :=
  let old := ofBytes (s.readBytes a.addr (accessLen a))
  (if a.op.writes then s.writeBytes a.addr a.data else s).reply (.ok (if a.op.reads then old else 0))

/-- The controller performs the access: a tag that fails halts the device, and nothing is written (R469). -/
def State.performMemory (s : State) (a : SysAccess) : State :=
  let s := s.countSystem (s.controllers a.addr (accessLen a))
  if s.tagged a.addr (accessLen a) && readsLines a && !a.tagOk then (s.tagFailure a.addr a.req).reply .error
  else s.moveBytes a

/-- An access to memory that is there, after its rights check: the secure part during its wipe, a controller that is powered off or
asleep, or the access (R332, R333, R463). -/
def State.memoryAccess (s : State) (a : SysAccess) : State :=
  let ds := s.controllers a.addr (accessLen a)
  if s.sec.wiping && touchesSecure a.addr (accessLen a) then s.reply .error
  else match ds with
    | [] => s.performMemory a
    | d :: _ =>
      if s.asleep then (s.poweredOff (controllerStop d)).reply .error
      else match ds.find? s.domainAsleep with
        | some d => (s.holdFor d (.access a)).reply .waiting
        | none => s.performMemory a

end Sys2Proof.Machine
end

