-- ==== Sys2Proof/Machine/Guest.lean ====
section
/-! DEFINITION. The guest die behind the firewall (R343 to R350): windows, rate limits, the channel aperture, power and link. -/

namespace Sys2Proof.Machine

/-- Requester index of the guest die (Table 19-5). -/
def guestRequester : Nat := 0x04

def State.withGuest (s : State) (f : Guest → Guest) : State := { s with guest := f s.guest }

/-- The link is up. -/
def State.guestUp (s : State) : Bool := s.guest.state == 3

/-! ### Windows (R346, Table 13-10) -/

def guestKey (w sub : Nat) : Nat := keyOf (0x3810 + w) sub

/-- A window as its entries give it: guest base, module base and size in bytes, rights, rate and burst. -/
structure GuestWindow where
  guestBase : Nat
  moduleBase : Nat
  size : Nat
  rights : Nat
  rate : Nat
  burst : Nat
deriving DecidableEq, Repr

def State.guestWindow (s : State) (w : Nat) : GuestWindow :=
  let e (k : Nat) : Nat := s.entry (guestKey w k)
  ⟨e 1 + e 2 * 2 ^ 32, e 3 + e 4 % 2 ^ 12 * 2 ^ 32, e 5 * 2 ^ 20, e 6, e 7, e 8⟩

/-- The range lies wholly within another. -/
def withinRange (a n lo hi : Nat) : Bool := decide (lo ≤ a ∧ a + n ≤ hi)

/-- A window may map into the general scratchpad, the HBM arena and the DDR5 data regions. -/
def State.windowTarget (s : State) (a n : Nat) : Bool :=
  withinRange a n scratchBase secureBase || withinRange a n s.controlEnd s.ddrEnd ||
    s.image.any fun i => withinRange a n i.hbmBase (i.hbmBase + i.hbmArenaSize)

/-- The windows of this state may stand: bases on 1 MiB, targets allowed, no overlap on the guest side. -/
def State.windowsOk (s : State) (w : Nat) : Bool :=
  let x := s.guestWindow w
  x.guestBase % 2 ^ 20 == 0 && x.moduleBase % 2 ^ 20 == 0 &&
    (x.size == 0 || (s.windowTarget x.moduleBase x.size && (List.range 8).all fun v =>
      v == w || !overlaps x.guestBase x.size (s.guestWindow v).guestBase (s.guestWindow v).size))

/-- A bucket filled to its burst, in thousandths of a byte. [DEDUCED, unsafe: log 49] -/
def GuestWindow.full (x : GuestWindow) : Nat := x.burst * 1024 * 1000

/-- GUEST_WINDOW_WRITE (R346). -/
def execGuestWindowWrite (req window sub value : Nat) (s : State) : Host.Outcome State Fault Refusal :=
  let key := guestKey window sub
  .next (if 8 ≤ window then s.refuse req key 0x9010
    else s.writingValue req key value fun v s =>
      let v := if sub = 4 then v % 2 ^ 12 else if sub = 6 then v % 2 ^ 3 else v
      let t := s.putEntry key v
      if t.windowsOk window then
        (t.withGuest fun g => { g with tokens := listSet g.tokens window (t.guestWindow window).full }).accept
      else s.refuse req key 0x9011)

/-! ### Accesses (R346, R347) -/

/-- The window that contains every byte of a guest access. [DEDUCED, unsafe: log 49] -/
def State.windowOfAccess (s : State) (a : GuestAccess) : Option Nat := (List.range 8).find? fun w =>
  let x := s.guestWindow w
  withinRange a.addr a.data.length x.guestBase (x.guestBase + x.size)

/-- The window grants the right that the access needs. -/
def GuestWindow.grants (x : GuestWindow) (a : GuestAccess) : Bool :=
  (!a.op.writes || bit x.rights 1) && (!a.op.reads || bit x.rights 0) && (!a.op.atomic || bit x.rights 2)

/-- The firewall denies an access: counted, and logged once per window per run command. -/
def State.guestDenied (s : State) (w : Nat) : State :=
  let s := s.bump 0x381801
  let s := if s.guest.logged.contains w then s
    else { s.logAs 0x7401 .refused srcGuest 0 with guest := { s.guest with logged := w :: s.guest.logged } }
  s.reply .error

/-- An access that the firewall has accepted reaches its memory, as far as the guest's rights table permits (R459). -/
def State.guestMemory (s : State) (x : GuestWindow) (a : GuestAccess) : State :=
  let addr := x.moduleBase + (a.addr - x.guestBase)
  if s.permits guestRequester addr a.data.length a.op then s.memoryAccess ⟨guestRequester, a.op, addr, a.data, true⟩
  else s.denied guestRequester addr a.op.writes

/-- Bytes of an access as tokens. -/
def accessTokens (a : GuestAccess) : Nat := a.data.length * 1000

/-- An accepted access takes its tokens, or waits for them behind the earlier accesses of its window (R347). -/
def State.guestRate (s : State) (w : Nat) (a : GuestAccess) : State :=
  let x := s.guestWindow w
  let have_ := s.guest.tokens.getD w 0
  if x.rate = 0 then s.guestMemory x a
  else if accessTokens a ≤ have_ ∧ s.guest.waiting.all (fun q => q.1 != w) = true then
    (s.withGuest fun g => { g with tokens := listSet g.tokens w (have_ - accessTokens a) }).guestMemory x a
  else ((s.withGuest fun g => { g with waiting := g.waiting ++ [(w, a)] }).bump 0x381802).reply .waiting

/-- The first waiting access of a window goes on once its tokens suffice. -/
def State.serveWindow (s : State) (w : Nat) : State :=
  match s.guest.waiting.find? fun q => q.1 == w with
  | none => s
  | some q =>
    let have_ := s.guest.tokens.getD w 0
    if (s.guestWindow w).rate ≠ 0 ∧ have_ < accessTokens q.2 then s
    else
      let was := s.answer
      let s := (s.withGuest fun g =>
        { g with tokens := listSet g.tokens w (have_ - accessTokens q.2), waiting := g.waiting.erase q }).guestMemory
          (s.guestWindow w) q.2
      (if s.answer = .waiting then s else s.complete guestRequester s.answer).reply was

/-- A nanosecond passes: every bucket gains its rate, up to its burst (R347). -/
def State.guestTick (s : State) : State :=
  if s.guest.waiting.isEmpty ∧ (List.range 8).all (fun w => s.entry (guestKey w 7) == 0) = true then s
  else
    let fill (w : Nat) : Nat := min ((s.guest.tokens.getD w 0) + (s.guestWindow w).rate) (s.guestWindow w).full
    (List.range 8).foldl State.serveWindow (s.withGuest fun g => { g with tokens := (List.range 8).map fill })

/-! ### The channel aperture (R348) -/

/-- Base of the aperture. [DEDUCED, unsafe: log 49] -/
def State.guestAperture (s : State) : Nat := s.entry 0x380201 + s.entry 0x380202 * 2 ^ 32

/-- Channel operation `op`: the CSR 0x800 + op. -/
def State.channelOp (s : State) (op v : Nat) : ChanResult := match op with
  | 0 => s.chrecv v
  | 1 => s.chrelease v
  | 2 => s.chreserve v
  | 3 => s.chpost v
  | _ => s.chcount v

/-- The handle is open to the guest. -/
def State.guestHandle (s : State) (h : Nat) : Bool := h != 0 && (List.range 16).any fun k => s.entry (keyOf 0x3803 (k + 1)) == h

/-- The address lies in the aperture. -/
def State.inAperture (s : State) (address : Nat) : Bool := decide (s.guestAperture ≤ address ∧ address < s.guestAperture + 2 ^ 54)

/-- An 8-byte read in the aperture. -/
def State.apertureRead (s : State) (address : Nat) : State :=
  let x := address - s.guestAperture
  let op := x / 2 ^ 51
  let v := x % 2 ^ 51 / 8
  if 5 ≤ op then s.reply .error
  else if !s.guestHandle (v % 2 ^ 32) then (s.bump 0x381801).reply (.ok (2 ^ 63 + 1))
  else match s.channelOp op v with
    | .inl e => (s.bump 0x2C0301).reply (.ok (2 ^ 63 + e))
    | .inr (t, r) => t.reply (.ok r)

/-- GUEST_APERTURE_READ (R348): an 8-byte read at `address`. -/
def execGuestApertureRead (address : Nat) (s : State) : Host.Outcome State Fault Refusal :=
  .next (if !s.guestUp || s.sec.halted || !s.inAperture address then s else s.apertureRead address)

/-- GUEST_ACCESS (R346 to R348): through a window, or in the aperture where one is placed, in which only 8-byte reads are no error.
[DEDUCED, unsafe: log 49] -/
def execGuestAccess (access : GuestAccess) (s : State) : Host.Outcome State Fault Refusal :=
  .next (if !s.guestUp || s.sec.halted then s
    else match s.windowOfAccess access with
      | none =>
        if s.guestAperture = 0 ∨ s.inAperture access.addr = false then s.guestDenied 8
        else if access.op = .read ∧ access.data.length = 8 then s.apertureRead access.addr else s.reply .error
      | some w => if (s.guestWindow w).grants access then s.guestRate w access else s.guestDenied w)

/-! ### Link and power (R343, R344, R349, R350) -/

/-- GUEST_LINK_UP (R343): the highest of 16, 12, 8 and 4 GT/s that all four modules pass; 0x6402 ends. -/
def execGuestLinkUp (rateGT : Nat) (s : State) : Host.Outcome State Fault Refusal :=
  .next (if s.guest.state = 2 ∧ [4, 8, 12, 16].contains rateGT = true then
      (s.withGuest fun g => { g with state := 3, linkRate := rateGT }).endCode 0x6402
    else s)

/-- The link goes down: requests to the guest get error completions, and requests of the guest not yet accepted are discarded. -/
def State.guestDrop (s : State) (state : Nat) : State :=
  let lost := s.rings.outstanding.filter fun o => decide (guestStart ≤ o.address)
  let s := lost.foldl (fun s o =>
    (s.withRings fun r => { r with outstanding := r.outstanding.erase o }).complete o.requester .error) s
  let items := (s.rings.held.filter fun h => h.1 == 8).map Prod.snd
  let s := s.withRings fun r =>
    { r with held := r.held.filter fun h => h.1 != 8, sleeping := r.sleeping.filter fun d => d != 8 }
  (items.foldl State.failHeld s).withGuest fun g => { g with state := state, linkRate := 0, waiting := [] }

/-- The committed image uses the guest. -/
def State.usesGuest (s : State) : Bool := s.image.any fun i => i.guestUse

/-- GUEST_LINK_LOST (R350): the link of a powered guest goes down and trains again. [DEDUCED, unsafe: log 49] -/
def execGuestLinkLost (s : State) : Host.Outcome State Fault Refusal :=
  .next (if s.guest.state = 3 ∨ s.guest.state = 4 then
      let s := (s.guestDrop 2).logAs 0x6401 .stop srcGuest 0
      if s.usesGuest then s.raiseStop 7 hubUnit 0x6401 else s
    else s)

/-- GUEST_SLEEP_REQUEST (R332, R344): only with no request outstanding in either direction. -/
def execGuestSleepRequest (s : State) : Host.Outcome State Fault Refusal :=
  .next (if s.guestUp && s.guest.waiting.isEmpty && !(s.rings.held.any fun h => h.1 == 8) &&
      !(s.rings.outstanding.any fun o => o.requester == guestRequester || decide (guestStart ≤ o.address)) then
      (s.withGuest fun g => { g with state := 4 }).withRings fun r => { r with sleeping := r.sleeping ++ [8] }
    else s)

/-- GUEST_DESCRIPTOR_RECEIVED (R344): 256 bytes over the sideband. -/
def execGuestDescriptorReceived (descriptor : List Byte) (s : State) : Host.Outcome State Fault Refusal :=
  .next (if s.guestUp ∧ descriptor.length = 256 then s.withGuest fun g => { g with descriptor := descriptor } else s)

/-- `GuestPowerLimit` in 0.1 W (R349). -/
def State.guestLimit (s : State) : Nat := match s.image with
  | some i => if i.guestUse then i.guestAllowance else 20
  | none => 20

/-- Remove GUEST_VDD and isolate the guest stop (R349). [DEDUCED, unsafe: log 49] -/
def State.cutGuest (s : State) : State :=
  (((s.guestDrop 5).withGuest fun g => { g with cut := true, zeroWritten := false })).logAs 0x1411 .blocked srcHub 0

/-- GUEST_POWER_REPORT (R349): the guest's power averaged over 10 ms, 1 ms or 10 µs, in 0.1 W. -/
def execGuestPowerReport (span : PowerSpan) (deciwatts : Nat) (s : State) : Host.Outcome State Fault Refusal :=
  .next (if s.guest.state < 2 ∨ s.guest.state = 5 then s
    else match span with
      | .tenMilliseconds =>
        if s.guestLimit < deciwatts then (s.logAs 0x1410 .stop srcHub 0).raiseStop 7 hubUnit 0x1410 else s
      | .oneMillisecond =>
        let s := s.withGuest fun g => { g with power := deciwatts % 2 ^ 16 }
        if 5 * s.guestLimit < 4 * deciwatts then s.cutGuest else s
      | .tenMicroseconds => if 275 < deciwatts then s.cutGuest else s)

def guestEnableKey : Nat := 0x380003

/-- Supply the guest while the entry reads 1, except in STANDBY and DORMANT and after a cut (R349). -/
def State.supplyGuest (s : State) : State :=
  if !s.part.guest || s.guest.cut then s
  else if s.entry guestEnableKey = 1 ∧ s.asleep = false then
    if s.guest.state = 1 ∨ s.guest.state = 5 then s.withGuest fun g => { g with state := 2 } else s
  else if s.guest.state = 1 then s
  else s.guestDrop 1

/-- GUEST_POWER_ENABLE_WRITE (R349): after a cut, power returns only after a 0 and then a 1, which ends 0x1411. -/
def execGuestPowerEnableWrite (req value : Nat) (s : State) : Host.Outcome State Fault Refusal :=
  .next (s.writingValue req guestEnableKey value fun v s =>
    let s := s.putEntry guestEnableKey v
    let s := if s.guest.cut then
        if v = 0 then s.withGuest fun g => { g with zeroWritten := true }
        else if s.guest.zeroWritten then (s.withGuest fun g => { g with cut := false, zeroWritten := false }).endCode 0x1411
        else s
      else s
    s.supplyGuest.accept)

end Sys2Proof.Machine
end

