-- ==== Sys2Proof/Machine/Time.lean ====
section
/-! DEFINITION. The time base, its states and the two Ethernet ports (R394 to R405). -/

namespace Sys2Proof.Machine

/-! ### The time base (R396, R397) -/

/-- Units of the time base after which its 48-bit seconds wrap. -/
def timeWrap : Nat := 2 ^ 48 * 1000000000 * 2 ^ 32

def State.withTime (s : State) (f : TimeBase → TimeBase) : State := { s with time := f s.time }

/-- One advance of the time base: 1 + r ns (R396). -/
def TimeBase.advance (t : TimeBase) : TimeBase :=
  { t with units := ((t.units : Int) + 2 ^ 32 + t.rate).toNat % timeWrap }

/-- A read of `TimeSecondsLow` latches the rest (R397). -/
def TimeBase.latch (t : TimeBase) : TimeBase :=
  { t with latchedSecondsHigh := t.seconds / 2 ^ 32, latchedNs := t.nanoseconds, latchedFraction := t.fraction }

/-- A signed value limited to 32 bits. -/
def saturate (x : Int) : Int := max (-(2 ^ 31)) (min (2 ^ 31 - 1) x)

/-- `RateAdjust` is limited to ±500 ppm (R396). -/
def rateLimit : Int := 2147483

/-- A rate stays within the limit of the servo. [DEDUCED, unsafe: log 66] -/
def limitRate (r : Int) : Int := max (-rateLimit) (min rateLimit r)

/-! ### States (Table 16-1) -/

def State.ptpOn (s : State) : Bool := s.entry 0x230201 == 1

/-- Enter a state: changes into and out of the locked states write a Sync record (R376, R398). [DEDUCED, unsafe: log 66] -/
def State.timeState (s : State) (n : Nat) : State :=
  if s.time.state = n then s
  else
    let was := s.time.locked
    let s := s.withTime fun t => { t with state := n, below := 0, stepped := if n ≤ 1 ∨ n = 4 then false else t.stepped }
    if was = s.time.locked then s else s.sync

/-- A step of `delta` units (R403): counted, logged with its nanoseconds, and every generator is disarmed (R409). -/
def State.stepTime (s : State) (delta : Int) : State :=
  let s := s.withTime fun t =>
    { t with units := (((t.units : Int) + delta) % (timeWrap : Int)).toNat, stepCount := sat32 t.stepCount 1, offsets := [], below := 0 }
  (s.log1 0x2302 srcHub (unsigned 32 (saturate (delta / 2 ^ 32)))).disarmPulses

/-- Insert in ascending order. -/
def insertInt (x : Int) : List Int → List Int
  | [] => [x]
  | y :: ys => if x ≤ y then x :: y :: ys else y :: insertInt x ys

/-- Twice the median of eight offsets: the sum of the two in the middle. [DEDUCED, unsafe: log 66] -/
def medianTwice (l : List Int) : Int :=
  let xs := l.foldr insertInt []
  xs.getD 3 0 + xs.getD 4 0

/-- A step is due in state 1 or 4 (R403, R404). -/
def State.stepAllowed (s : State) : Bool :=
  !s.time.stepped && (s.time.state == 1 || (s.time.state == 4 && (s.entry 0x230206 == 0 || !s.time.acquired)))

/-- The acquisition step, outside RUN, once 8 exchanges have been taken (R403). [DEDUCED, unsafe: log 66] -/
def State.tryAcquire (s : State) : State :=
  if s.stepAllowed && decide (8 ≤ s.time.offsets.length) && s.run.mode != .run then
    (s.stepTime (-(medianTwice s.time.offsets * 2 ^ 31 / 1000))).withTime fun t => { t with stepped := true, acquired := true }
  else s

/-! ### Ports (R401, R405) -/

def PtpPort.none : PtpPort := ⟨Option.none, 0, 0, false, false⟩
def State.ptpPort (s : State) (p : Nat) : PtpPort := s.time.ports.getD p PtpPort.none
def State.setPtpPort (s : State) (p : Nat) (x : PtpPort) : State := s.withTime fun t => { t with ports := listSet t.ports p x }

/-- A port runs its instance of the protocol. -/
def State.portRuns (s : State) (p : Nat) : Bool :=
  decide (p < 2) && s.ptpOn && s.entry (keyOf (0x2330 + p) 1) != 0 && !s.asleep

/-- portState of IEEE 1588: SLAVE with a master, LISTENING without, DISABLED where the protocol does not run, and INITIALIZING there after
a block reset (Table 20-4). [PRESUMED, unsafe: log 65] -/
def State.ptpPortState (s : State) (p : Nat) : Nat :=
  if s.portRuns p then (if (s.ptpPort p).master.isSome then 9 else 4) else if (s.ptpPort p).initializing then 1 else 3

/-- The source port: the better master; equal ones, the lower `PortPriority`, then port 0 (R401). -/
def State.bestPort (s : State) : Nat :=
  match (s.ptpPort 0).master, (s.ptpPort 1).master with
  | some a, some b =>
    if a < b then 0 else if b < a then 1 else if s.entry 0x233009 ≤ s.entry 0x233109 then 0 else 1
  | some _, none => 0
  | none, some _ => 1
  | none, none => 0xFF

/-- Choose the source port afresh: without a master, state 2 becomes holdover and state 1 unlocked (R398, R405). -/
def State.chooseSource (s : State) : State :=
  let p := s.bestPort
  if p = s.time.sourcePort then s
  else
    let s := s.withTime fun t => { t with sourcePort := p, offsets := [] }
    if p = 0xFF then s.timeState (if s.time.state = 2 then 3 else if s.time.state = 1 then 4 else s.time.state) else s

/-- A message of this domain number and transport is one of the port's instance of the protocol (R401, Table 16-2). -/
def State.portHears (s : State) (p domain transport : Nat) : Bool :=
  s.portRuns p && domain == s.entry 0x230202 && transport == s.entry (keyOf (0x2330 + p) 2)

/-- PTP_ANNOUNCE_RECEIVED (R401): the port hears a master. -/
def execPtpAnnounceReceived (port : Nat) (announce : Announce) (s : State) : Host.Outcome State Fault Refusal :=
  .next (if s.portHears port announce.domain announce.transport then
      (s.setPtpPort port { s.ptpPort port with master := some announce.rank, linkUp := true }).chooseSource
    else s)

/-- PTP_MASTER_LOST (R405). -/
def execPtpMasterLost (port : Nat) (s : State) : Host.Outcome State Fault Refusal :=
  .next (if s.portRuns port && (s.ptpPort port).master.isSome then
      ((s.setPtpPort port { s.ptpPort port with master := none }).log1 0x2301 srcHub port).chooseSource
    else s)

/-- The signed value of one of a port's compensation entries, in ps (R402). -/
def State.compensation (s : State) (p sub : Nat) : Int :=
  (BitVec.ofNat 32 (s.entry (keyOf (0x2330 + p) sub))).toInt

/-- The stamps of one exchange. -/
def stampsOf (sync : PtpSync) (delay : PtpDelay) : PtpStamps :=
  ⟨sync.sent, sync.received, delay.requestSent, delay.requestReceived, delay.responseSent, delay.responseReceived⟩

/-- The stamps corrected: an ingress stamp reduced by `IngressLatencyPs`, an egress stamp increased by `EgressLatencyPs` (R402). -/
def State.corrected (s : State) (p : Nat) (t : PtpStamps) : PtpStamps :=
  { t with
    syncReceived := t.syncReceived - s.compensation p 4
    requestSent := t.requestSent + s.compensation p 5
    responseReceived := t.responseReceived - s.compensation p 4 }

/-- The mean path delay in ps of an exchange with corrected stamps: request-response, or peer-to-peer (Table 16-2).
[PRESUMED, unsafe: log 65] -/
def State.meanDelay (s : State) (p : Nat) (t : PtpStamps) : Int :=
  if s.entry (keyOf (0x2330 + p) 3) = 0 then ((t.syncReceived - t.syncSent) + (t.requestReceived - t.requestSent)) / 2
  else ((t.requestReceived - t.requestSent) + (t.responseReceived - t.responseSent)) / 2

/-- The offset from the master in ps: the Sync's delay less the path delay towards here, which is the mean and `DelayAsymmetryPs`
(R402). [PRESUMED, unsafe: log 65] -/
def State.measuredOffset (s : State) (p : Nat) (t : PtpStamps) : Int :=
  (t.syncReceived - t.syncSent) - (s.meanDelay p t + s.compensation p 6)

/-- The rate that a Sync exchange leaves (R403, R404): the correction after the step, the full slew in state 4 without a step.
[DEDUCED, unsafe: log 66] -/
def State.nextRate (s : State) (offset rate : Int) : Int :=
  if s.time.state = 4 ∧ s.stepAllowed = false ∧ s.time.stepped = false then (if 0 < offset then -rateLimit else rateLimit)
  else if s.time.state ≤ 1 ∧ s.time.stepped = false then s.time.rate
  else if s.stepAllowed then s.time.rate
  else limitRate rate

/-- Sync intervals in a row below `LockThreshold`, counted once no step is due (R398, R404). -/
def State.nextBelow (s : State) (offset : Int) : Nat :=
  if s.stepAllowed = false ∧ offset.natAbs < 1000 * s.entry 0x230203 then s.time.below + 1 else 0

/-- A Sync exchange of the source port (R398, R403, R404). [DEDUCED, unsafe: log 66] -/
def State.sourceSync (s : State) (offset rate : Int) : State :=
  let r := s.nextRate offset rate
  let n := s.nextBelow offset
  let s := s.withTime fun t =>
    { t with offset := offset, rate := r, below := n
             offsets := if t.offsets.length < 8 then offset :: t.offsets else t.offsets }
  if 16 ≤ n ∧ s.time.state ≠ 0 then s.timeState 2 else s.tryAcquire

/-- PTP_SYNC_RECEIVED (R402, R403): a Sync exchange of a port with a master, its stamps, and the correction that the control loop takes
from it. [DEDUCED, unsafe: log 66] -/
def execPtpSyncReceived (port : Nat) (sync : PtpSync) (delay : PtpDelay) (rate : Int) (s : State) : Host.Outcome State Fault Refusal :=
  let x := s.ptpPort port
  let t := s.corrected port (stampsOf sync delay)
  .next (if s.portRuns port && x.master.isSome then
      let s := s.setPtpPort port
        { x with pathDelay := min (s.meanDelay port t).toNat max32, syncReceived := sat32 x.syncReceived 1, linkUp := true }
      if s.time.sourcePort = port then s.sourceSync (s.measuredOffset port t) rate else s
    else s)

/-- HOLDOVER_EXPIRY (R398). -/
def execHoldoverExpiry (s : State) : Host.Outcome State Fault Refusal :=
  .next (if s.time.state = 3 ∧ s.asleep = false then s.timeState 4 else s)

/-- OFFSET_UNLOCK_EXPIRY (R398): |offset| above `UnlockThreshold` for 1 s in state 2. -/
def execOffsetUnlockExpiry (s : State) : Host.Outcome State Fault Refusal :=
  .next (if s.time.state = 2 ∧ s.asleep = false ∧ 1000 * s.entry 0x230204 < s.time.offset.natAbs then s.timeState 4 else s)

/-! ### Commands -/

/-- A read of `TimeSecondsLow` (R397). -/
def State.readTime (s : State) : State := (s.withTime TimeBase.latch).reply (.ok (s.time.seconds % 2 ^ 32))

/-- TIME_READ (R397). -/
def execTimeRead (req : Nat) (s : State) : Host.Outcome State Fault Refusal := .next (s.reading req 0x230001 State.readTime)

/-- The value that the entries of R400 set, in units. [DEDUCED, unsafe: log 66] -/
def State.setTimeUnits (s : State) : Int :=
  (((s.entry 0x230301 * 2 ^ 32 + s.entry 0x230302) * 1000000000 + s.entry 0x230303) * 2 ^ 32 : Nat)

/-- SET_TIME_COMMAND (R400). [DEDUCED, unsafe: log 66] -/
def execSetTimeCommand (req : Nat) (s : State) : Host.Outcome State Fault Refusal :=
  .next (s.writing req 0x230304 1 fun s =>
    if s.ptpOn || s.run.mode == .run then s.refuse req 0x230304 0x9011
    else (s.stepTime (s.setTimeUnits - (s.time.units : Int))).accept)

/-- `PtpEnable` has been written (R398): state 0 becomes 1; without PTP no port has a master and the time base runs free. -/
def State.ptpChanged (s : State) : State :=
  if s.ptpOn then (if s.time.state = 0 ∧ s.asleep = false then s.timeState 1 else s)
  else (s.withTime fun t =>
    { t with ports := t.ports.map fun (p : PtpPort) => { p with master := none }, sourcePort := 0xFF, offsets := [] }).timeState 0

/-- STANDBY and DORMANT stop the time base (R399): the ports lose their links and the generators are disarmed. -/
def State.sleepTime (s : State) : State :=
  { s with pulses := s.pulses.map fun (p : Pulse) => if p.busy then { p with state := 0, active := false } else p }.withTime fun t =>
    { t with ports := t.ports.map fun (p : PtpPort) => { p with master := none, linkUp := false }, sourcePort := 0xFF, offsets := [] }

/-- At Wake the time base starts in state 0 or 1 from the value that it held (R399). -/
def State.wakeTime (s : State) : State :=
  let s := s.timeState (if s.ptpOn then 1 else 0)
  s.withTime fun t => { t with stepped := false, acquired := false, below := 0 }

end Sys2Proof.Machine
end

