-- ==== Sys2Proof/Machine/RunControl.lean ====
section
/-! DEFINITION. Run commands and their transitions (R192 to R203, R214, R523), the domain start and the notices of domain peers (R129,
R130, R197), the cycle mark and the latched records (R106, R211, R212). STANDBY, DORMANT and WAKE stand in Machine/Sleep.lean. -/

namespace Sys2Proof.Machine

/-! ### Accepting a run command (R195) -/

def runKey : Nat := 0x210101

def State.withRun (s : State) (f : RunCtl → RunCtl) : State := { s with run := f s.run }

/-- `RunCommandStatus`. -/
def State.runStatus (s : State) (v : Nat) : State := s.withRun fun r => { r with status := v }

/-- What is counted, limited or reset per run command, in the part of the state beyond run control (R115, R174, R243, R344, R462,
R489). -/
def State.freshLimits (s : State) : State :=
  { s with
    sec := { s.sec with deniedLogged := [] }
    guest := { s.guest with logged := [] }
    rst := { s.rst with powerLogged := false }
    tokens := { s.tokens with logged := [] }
    fabric := { s.fabric with engines := s.fabric.engines.map fun (e : BridgeEngine) => { e with overflowLogged := false } } }

/-- A run command is accepted (R195); an armed RunAt is disarmed (R214). -/
def State.acceptRun (s : State) : State :=
  (s.freshLimits.withRun fun r => { r with commands := r.commands + 1, timeoutLogged := [], runAt := none }).accept

/-- Run, RunAt and Step end the active Stop-class faults (Table 21-1). -/
def State.endStopFaults (s : State) : State := s.endFaults fun a => a.cls == .stop

/-- A run command reaches its own rule through refusals 1 to 7 of R523. -/
def State.runCommand (s : State) (req value : Nat) (modes : List Mode) (k : State → State) : State :=
  s.writing req runKey value fun s => match s.commonRefusal s.run.status true modes with
    | some c => s.refuseCommand req runKey c
    | none => k s

/-- Other members of the domain. -/
def State.peers (s : State) : List Nat := match s.image with
  | some i => if 2 ≤ i.domainSize then (List.range i.domainSize).filter fun m => m != i.domainIndex else []
  | none => []

/-- Member 0 of the domain, or no domain: the module that takes Run, RunAt and Step (R197). -/
def State.takesRuns (s : State) : Bool := match s.image with
  | some i => decide (i.domainSize < 2 ∨ i.domainIndex = 0)
  | none => true

/-- Refusals of a start beyond those that every run command shares: the member, then 9 and 10 of R523, then the domain start. -/
def State.runRefusal (s : State) : Option Nat :=
  if !s.takesRuns then some 0x9012
  else match s.startRefusal with
    | some c => some c
    | none => if s.inDomain then s.domainRefusal else none

/-! ### Starts (R122, R129, R201) -/

/-- The target cycle of a Step of `limit` cycles (R202); 0 means none. -/
def State.targetOf (s : State) (limit : Nat) : Option Nat := if limit = 0 then none else some (s.arr.sched.cycle + limit - 1)

/-- A domain member waits for the start edge that member 0 names, with the target of a Step (R129, R202). -/
def State.awaitStart (s : State) (edge : Nat) (target : Option Nat) : State :=
  ((s.pinDomain).withRun fun r => { r with peersRunning := s.peers, startEdge := edge }).withSched fun c =>
    { c with run := .awaitingEdge, target := target }

/-- Member 0 names the start, a count of reference edges at least 1 ms ahead, and tells its peers with the target of a Step (R129,
R202). [DESIGN CHOICE, unsafe: log 84] -/
def State.nameStart (s : State) (target : Option Nat) : State :=
  let edge := s.time.edges + 100000 + Config.startLead
  { s with notices := s.notices ++ [NoticeOut.start edge target] }.awaitStart edge target

/-- RUN is entered, with the caches written back (R156) and the record of SYNC votes cleared (R95). -/
def State.openRun (s : State) : State := (s.flushCaches.withArr fun a => { a with syncMask := 0 }).setMode .run

/-- RUN is entered, with the target cycle of a Step `limit` cycles ahead (0: none); member 0 of a domain names the start edge. -/
def State.enterRun (s : State) (limit : Nat) : State :=
  let s := s.openRun
  if s.inDomain then s.nameStart (s.targetOf limit)
  else (s.withSched fun c => { c with target := s.targetOf limit }).startOrWait

/-- Run, with no cycle limit, or Step. -/
def State.startNow (s : State) (limit : Nat) : State :=
  (((s.acceptRun).endStopFaults).enterRun limit).runStatus 2

/-- RUN (R195, R523). -/
def execRun (req : Nat) (s : State) : Host.Outcome State Fault Refusal :=
  .next (s.runCommand req 1 [.loaded, .hold] fun s => match s.runRefusal with
    | some c => s.refuseCommand req runKey c
    | none => s.startNow 0)

def cycleLimitKey : Nat := 0x210103

/-- STEP (R202, R523). -/
def execStep (req : Nat) (s : State) : Host.Outcome State Fault Refusal :=
  .next (s.runCommand req 2 [.loaded, .hold] fun s => match s.runRefusal with
    | some c => s.refuseCommand req runKey c
    | none => if s.entry cycleLimitKey = 0 then s.refuse req runKey 0x9011 else s.startNow (s.entry cycleLimitKey))

/-! ### RunAt (R214) -/

/-- Target time of `RunAt` in nanoseconds of the time base. -/
def State.runAtTarget (s : State) : Nat :=
  (s.entry 0x210401 % 2 ^ 16 * 2 ^ 32 + s.entry 0x210402) * 1000000000 + s.entry 0x210403

/-- The least lead of a target: 100 µs, 1 ms in a schedule domain. -/
def State.runAtLead (s : State) : Nat := if s.inDomain then 1000000 else 100000

/-- RUN_AT (R214, R523): the command is done once the start is armed. [DESIGN CHOICE, unsafe: log 4] -/
def execRunAt (req : Nat) (s : State) : Host.Outcome State Fault Refusal :=
  .next (s.runCommand req 3 [.loaded, .hold] fun s => match s.runRefusal with
    | some c => s.refuseCommand req runKey c
    | none =>
      let t := s.runAtTarget
      if !s.time.locked then s.refuseCommand req runKey 0x2311
      else if t * 2 ^ 32 < s.time.units + s.runAtLead * 2 ^ 32 then s.refuseCommand req runKey 0x2310
      else (((s.acceptRun).endStopFaults).withRun fun r =>
        { r with runAt := some (t / 1000000000, t % 1000000000, s.entry cycleLimitKey) }).runStatus 2)

/-- The module's own requester index in the start of an armed RunAt: the management firmware (Table 19-5).
[DEDUCED, unsafe: log 37] -/
def firmwareRequester : Nat := 0x05

/-- Refusals 4 to 10 of R523. -/
def State.fireRefusal (s : State) : Option Nat :=
  match s.commonRefusal 0 true [.loaded, .hold] with
  | some c => some c
  | none => s.runRefusal

/-- RUN_AT_FIRE (R214): the internal run command of an armed RunAt; one that meets a refusal disarms it and fails.
[DEDUCED, unsafe: log 37] -/
def execRunAtFire (s : State) : Host.Outcome State Fault Refusal :=
  .next (match s.run.runAt with
    | none => s
    | some (_, _, limit) =>
      let s := s.withRun fun r => { r with runAt := none }
      match s.fireRefusal with
      | some c => (s.logAs c (refusalClass c) srcHub (s.refusalArg firmwareRequester runKey c)).runStatus 3
      | none => s.enterRun limit)

/-- DOMAIN_START_EDGE (R129): every member begins its cycle at the agreed edge of the reference. -/
def execDomainStartEdge (s : State) : Host.Outcome State Fault Refusal :=
  .next (if s.run.mode = .run ∧ s.arr.sched.run = .awaitingEdge ∧ s.run.startEdge ≤ s.time.edges then s.startOrWait else s)

/-- The array of a module resumes from a stop for room as if given a run command (R199); in a domain member 0 names the edge of the
resume, and its peers wait for it (R129). [DESIGN CHOICE, unsafe: log 84] -/
def State.resumeRoom (s : State) : State :=
  if !s.inDomain then s.launchArray
  else if s.takesRuns then s.nameStart s.arr.sched.target
  else s

/-- ROOM_RESUME (R199): every source has room again. -/
def execRoomResume (s : State) : Host.Outcome State Fault Refusal :=
  .next (if s.run.mode = .run ∧ s.arr.sched.run = .stoppedForRoom ∧ s.arr.sched.rooms = [] then s.resumeRoom else s)

/-! ### Hold (R195, R200) -/

/-- HOLD is reported: caches written back, the word-cell side of the latches loaded, the array gated (R200). -/
def State.reportHold (s : State) : State :=
  let s := s.flushCaches
  let s := if s.arr.sched.latchDue.isSome then s.loadWordSide else s
  let s := (s.withSched fun c => { c with run := .gated }).setMode .hold
  let s := if s.run.status = 1 then s.runStatus 2 else s
  let s := if s.inDomain then { s with notices := s.notices ++ [.held] } else s
  s.tryAcquire

/-- HOLD (R195): in RUN a stop cause from outside the array, raised at the step at which its notice leaves the hub. -/
def execHold (req atStep : Nat) (s : State) : Host.Outcome State Fault Refusal :=
  .next (s.runCommand req 4 [.loaded, .run] fun s =>
    if s.run.mode = .run then
      let s := if s.canReach atStep then s.runTo atStep else s
      ((s.acceptRun).runStatus 1).raiseStop 0 hubUnit 0
    else ((s.acceptRun).flushCaches.runStatus 2).setMode .hold)

/-- Every request already issued has completed (R151). [DEDUCED, unsafe: log 38] -/
def State.requestsDone (s : State) : Bool :=
  s.arr.requests.isEmpty && s.arr.queues.all fun e =>
    e.2.discard == 0 && if e.2.isWrite then e.2.entries.isEmpty else e.2.entries.all QEntry.present

/-- HOLD_REPORT (R200). [DEDUCED, unsafe: log 38] -/
def execHoldReport (s : State) : Host.Outcome State Fault Refusal :=
  .next (if s.run.mode = .run ∧ s.arr.sched.run = .enteringHold ∧ s.requestsDone = true then s.reportHold else s)

/-! ### Park, Service, Leave, Cancel (R195 to R197) -/

/-- Another member of the domain is in RUN (R197). -/
def State.peerRuns (s : State) : Bool := s.run.mode == .hold && s.inDomain && !s.run.peersRunning.isEmpty

/-- A command that acts on one member only (R197). -/
def State.ownCommand (s : State) (req value : Nat) (modes : List Mode) (k : State → State) : State :=
  s.runCommand req value modes fun s => if s.peerRuns then s.refuseCommand req runKey 0x9012 else k s

/-- PARK (R195). -/
def execPark (req : Nat) (s : State) : Host.Outcome State Fault Refusal :=
  .next (s.ownCommand req 5 [.hold] fun s => ((s.acceptRun).flushCaches.runStatus 2).setMode .loaded)

/-- SERVICE (R195). -/
def execService (req : Nat) (s : State) : Host.Outcome State Fault Refusal :=
  .next (s.ownCommand req 6 [.loaded, .hold] fun s => ((s.acceptRun).flushCaches.runStatus 2).setMode .service)

/-- LEAVE (R195): refused with no image committed. -/
def execLeave (req : Nat) (s : State) : Host.Outcome State Fault Refusal :=
  .next (s.runCommand req 7 [.service] fun s =>
    if s.image.isNone then s.refuseCommand req runKey 0x9012 else ((s.acceptRun).flushCaches.runStatus 2).setMode .loaded)

/-- CANCEL (R195): disarms a RunAt. -/
def execCancel (req : Nat) (s : State) : Host.Outcome State Fault Refusal :=
  .next (s.runCommand req 11 [.loaded, .hold] fun s => (s.acceptRun).runStatus 2)

/-! ### Mark and records (R106, R211, R212) -/

/-- MARK_CONTROL_WRITE (R212): arming clears `MarkDone`; the time of the earlier mark stays. [DEDUCED, unsafe: log 37] -/
def execMarkControlWrite (req value : Nat) (s : State) : Host.Outcome State Fault Refusal :=
  .next (s.writingValue req 0x214103 value fun v s =>
    ((s.putEntry 0x214103 (v % 2 ^ 5)).withRun fun r => { r with markArmed := bit v 0, markDone := r.markDone && !bit v 0 }).accept)

/-- BOUNDARY_RECORD_READ (R211): bits 31-0 of the most recently begun cycle; the rest of the record is latched. -/
def execBoundaryRecordRead (req : Nat) (s : State) : Host.Outcome State Fault Refusal :=
  .next (s.reading req 0x214001 fun s =>
    (s.withRun fun r => { r with latchedCycle := r.lastCycle, latchedStart := r.lastStart }).reply (.ok (s.run.lastCycle % 2 ^ 32)))

/-- CYCLE_COUNT_READ (R106): `CycleCountLow`; the high word is latched. -/
def execCycleCountRead (req : Nat) (s : State) : Host.Outcome State Fault Refusal :=
  .next (s.reading req 0x213001 fun s =>
    (s.withSched fun c => { c with cycleHigh := c.cycle / 2 ^ 32 % 2 ^ 32 }).reply (.ok (s.arr.sched.cycle % 2 ^ 32)))

/-! ### Notices of domain peers (R129 to R131, R197) -/

/-- The notice comes over a pinned lane of the domain. -/
def State.noticeLane (s : State) (l : Nat) : Bool := (s.lane l).state == 4 && (s.domainLane l).isSome

/-- A stall that a peer has released. -/
def State.peerRelease (s : State) (cycle slot : Nat) : State :=
  s.withSched fun c => { c with stalls := c.stalls.map fun (x : Stall) =>
    if x.cycle = cycle ∧ x.slot = slot then { x with peers := x.peers - 1 } else x }

/-- A peer's cause counts as raised at its step: here it is cause `b`. -/
def State.peerStop (s : State) (b cycle st : Nat) : State := s.raiseStopAt b cycle st hubUnit 0

/-- A peer demands a point: it takes effect at the boundary of R123, or at once while the array is stopped. -/
def State.peerPoint (s : State) (l p cycle st : Nat) : State :=
  let was := s.arr.sched.peerPoints.any fun e => e.1 == l && decide (p ≤ e.2)
  let s := s.withSched fun c =>
    { c with peerPoints := (c.peerPoints.filter fun e => e.1 != l) ++ if p = 0 then [] else [(l, p)] }
  s.demandAt cycle st (if was ∨ p = 0 then [] else [(1000 + l, p)])

/-- What refuses the start of a peer beside its mode: refusals 4 to 6 and 9 and 10 of R523, then the domain start.
[DESIGN CHOICE, unsafe: log 84] -/
def State.peerRefusal (s : State) : Option Nat :=
  match s.commonRefusal 0 true [.loaded, .hold] with
  | some c => some c
  | none => match s.startRefusal with
    | some c => some c
    | none => s.domainRefusal

/-- Member 0 has named a start: this member enters RUN, or leaves a stop for room, at that edge, unless it refuses the start (R128,
R129). [DESIGN CHOICE, unsafe: log 84] -/
def State.peerStart (s : State) (edge : Nat) (target : Option Nat) : State :=
  if s.takesRuns then s
  else if s.run.mode = .run ∧ s.arr.sched.run = .stoppedForRoom then s.awaitStart edge target
  else if !s.modeIn [.loaded, .hold] then s
  else match s.peerRefusal with
    | some c => s.logAs c (refusalClass c) srcHub (s.refusalArg firmwareRequester runKey c)
    | none => s.endStopFaults.openRun.awaitStart edge target

/-- The slot of a peer's stall is still ahead of the array. -/
def State.slotAhead (s : State) (cycle slot : Nat) : Bool :=
  decide (s.now < cycle * s.L + slot) || (decide (s.now = cycle * s.L + slot) && !s.arr.sched.opened)

/-- A notice over a pinned lane of the domain. -/
def State.takeNotice (s : State) (lane : Nat) : Notice → State
  | .stall cycle slot => if s.run.mode = .run ∧ s.slotAhead cycle slot = true then s.addStall ⟨cycle, slot, [], [], 1⟩ else s
  | .release cycle slot => s.peerRelease cycle slot
  | .stop cycle st => s.peerStop 3 cycle st
  | .vote event cycle st => (s.withArr fun a => { a with votes := a.votes ++ [(cycle, event, 1)] }).peerStop 2 cycle st
  | .point p cycle st => s.peerPoint lane p cycle st
  | .start edge target => s.peerStart edge target
  | .latency bad => s.withRun fun r =>
      { r with peerMismatch := (r.peerMismatch.filter fun l => l != lane) ++ if bad then [lane] else [] }
  | .held member => s.withRun fun r => { r with peersRunning := r.peersRunning.filter fun m => m != member }

/-- What a peer tells over a domain lane that is up though not pinned: the lane's own latency, or a start.
[DESIGN CHOICE, unsafe: log 84] -/
def toldBeforeStart : Notice → Bool
  | .start _ _ => true
  | .latency _ => true
  | _ => false

/-- LANE_NOTICE_RECEIVED (R130). [DESIGN CHOICE, safe: log 75] -/
def execLaneNoticeReceived (lane : Nat) (notice : Notice) (s : State) : Host.Outcome State Fault Refusal :=
  .next (if s.noticeLane lane || (toldBeforeStart notice && (s.domainLane lane).isSome && (s.lane lane).up) then s.takeNotice lane notice
    else s)

end Sys2Proof.Machine
end

