-- ==== Sys2Proof/Machine/Security.lean ====
section
/-! DEFINITION. Life cycle, keys, authorisation records, debug levels, rights tables, tamper and attestation (R447 to R463, R464,
R465, R473). The accesses of the debug port stand in Machine/System.lean, its reset requests in Machine/Reset.lean. -/

namespace Sys2Proof.Machine

def State.withSec (s : State) (f : Security → Security) : State := { s with sec := f s.sec }

/-! ### Life cycle (Table 19-1) -/

def LifeCycle.code : LifeCycle → Nat
  | .blank => 0
  | .develop => 1
  | .deploy => 2
  | .returned => 3
  | .ended => 4

def LifeCycle.ofCode : Nat → Option LifeCycle
  | 0 => some .blank
  | 1 => some .develop
  | 2 => some .deploy
  | 3 => some .returned
  | 4 => some .ended
  | _ => none

/-- Debug level at start. -/
def LifeCycle.startLevel : LifeCycle → Nat
  | .blank => 3
  | .develop => 2
  | .deploy => 0
  | .returned => 0
  | .ended => 0

/-- Debug ceiling. -/
def LifeCycle.ceiling : LifeCycle → Nat
  | .blank => 3
  | .develop => 2
  | .deploy => 2
  | .returned => 3
  | .ended => 0

/-- May change from one state to another, by which signer (0 owner, 1 Yelrov) (R448). -/
def LifeCycle.mayChange (a b : LifeCycle) (signer : Nat) : Bool := match a, b with
  | .blank, .develop => signer == 1
  | .develop, .deploy => signer == 0
  | .deploy, .returned => signer == 1
  | .blank, .ended => true
  | .develop, .ended => true
  | .deploy, .ended => true
  | .returned, .ended => true
  | _, _ => false

/-! ### Random values -/

/-- A 256-bit value from the random source: four free words. [DESIGN CHOICE, safe: log 11] -/
def State.drawKey (s : State) : Nat × State :=
  let w (k : Nat) : Nat := (Config.freeWord (s.free + k)).toNat
  (w 0 + w 1 * 2 ^ 64 + w 2 * 2 ^ 128 + w 3 * 2 ^ 192, { s with free := s.free + 4 })

/-- A new nonce (R453). -/
def State.newNonce (s : State) : State := s.drawKey.2.withSec fun x => { x with nonce := s.drawKey.1 }

/-! ### The secure scratchpad (R463) -/

/-- The wipe begins: its bytes read zero from then on. -/
def State.beginWipe (s : State) : State := (s.forgetBytes secureBase secureEnd).withSec fun x => { x with wiping := true }

/-- SECURE_WIPE_COMPLETE (R463). -/
def execSecureWipeComplete (s : State) : Host.Outcome State Fault Refusal :=
  .next (s.withSec fun x => { x with wiping := false })

/-! ### Authorisation records (R448, R452 to R454) -/

def authKey : Nat := keyOf 0x2601 0

/-- A little-endian field of a record: its offset and width in bytes. -/
def recNum (bs : List Byte) (off n : Nat) : Nat := ofBytes ((bs.drop off).take n)

/-- Fields of an authorisation record (Table 19-3). -/
def recPurpose (bs : List Byte) : Nat := recNum bs 0x004 1
def recTarget (bs : List Byte) : Nat := recNum bs 0x005 1
def recSigner (bs : List Byte) : Nat := recNum bs 0x006 1
def recKey (bs : List Byte) : List Byte := (bs.drop 0x030).take 2592
def recSignature (bs : List Byte) : List Byte := bs.drop 0xA50

/-- The signer's fused digest is that of the verifying key. -/
def State.signerOk (s : State) (bs : List Byte) : Bool :=
  if recSigner bs = 0 then s.sec.ownerDigest == some (Config.sha3 (recKey bs))
  else recSigner bs == 1 && s.sec.yelrovDigest == Config.sha3 (recKey bs)

/-- The signature over SHA3-512 of bytes 0x000 to 0xA4F verifies. -/
def signatureVerifies (bs : List Byte) : Bool := Config.mlDsa (recKey bs) (Config.sha3 (bs.take 0xA50)) (recSignature bs)

/-- Purpose, Target and Signer are permitted together. -/
def State.permitted (s : State) (bs : List Byte) : Bool :=
  let target := recTarget bs
  if recPurpose bs = 1 then match LifeCycle.ofCode target with
    | some b => s.sec.lifeCycle.mayChange b (recSigner bs)
    | none => false
  else if recPurpose bs = 2 then
    decide (target ≤ s.sec.lifeCycle.ceiling) && (recSigner bs == 1 || decide (1 ≤ target ∧ target ≤ 2))
  else recPurpose bs == 3 && decide (1 ≤ target ∧ target ≤ 4)

/-- The record has its length and passes every check of R453. [DEDUCED, unsafe: log 50] -/
def State.recordOk (s : State) (bs : List Byte) : Bool :=
  bs.length == 0xA50 + 4627 && recNum bs 0x000 4 == 0x48545541 && recNum bs 0x008 4 == s.part.hubSerial && recNum bs 0x010 32 == s.sec.nonce &&
    s.signerOk bs && signatureVerifies bs && s.permitted bs

/-- A record is verified: it acts or is refused with 0x7603; either way a new nonce is drawn. [DEDUCED, unsafe: log 50] -/
def State.authorise (s : State) (req : Nat) (bs : List Byte) (k : State → State) : State :=
  s.writing req authKey 0 fun s =>
    if s.recordOk bs then ((k s.newNonce).withSec fun x => { x with authStatus := 2 }).accept
    else (s.newNonce.withSec fun x => { x with authStatus := 3 }).refuseCommand req authKey 0x7603

/-- Steps 1 to 4 of R448; the SYS reset of step 5 is then due. -/
def State.changeLifeCycle (s : State) (b : LifeCycle) : State :=
  let s := s.beginWipe
  let s := if b = .returned ∨ b = .ended then
      s.withSec fun x => { x with slot1 := none, slot2 := none, slot0Invalid := true }
    else s
  let s := if b = .develop then s.drawKey.2.withSec fun x => { x with identitySeed := some s.drawKey.1 } else s
  s.withSec fun x => { x with lifeCycle := b, resetDue := true }

/-- LIFE_CYCLE_CHANGE (R448): a record of purpose 1, or of a purpose that does not exist. -/
def execLifeCycleChange (req : Nat) (record : List Byte) (s : State) : Host.Outcome State Fault Refusal :=
  .next (if recPurpose record = 2 ∨ recPurpose record = 3 then s
    else s.authorise req record fun s => match LifeCycle.ofCode (recTarget record) with
      | some b => s.changeLifeCycle b
      | none => s)

/-- The level in effect changes: 0x7202 may be logged again (R455). -/
def State.setLevel (s : State) (n : Nat) : State :=
  if s.sec.level = n then s else s.withSec fun x => { x with level := n, levelLogged := [] }

/-- DEBUG_LEVEL_RAISE (R454): a record of purpose 2. [DEDUCED, unsafe: log 50] -/
def execDebugLevelRaise (req : Nat) (record : List Byte) (s : State) : Host.Outcome State Fault Refusal :=
  .next (if recPurpose record ≠ 2 then s
    else s.authorise req record fun s => s.setLevel (max s.sec.level (recTarget record)))

/-- REVOKE_DIGEST (R452): a record of purpose 3. [DEDUCED, unsafe: log 50] -/
def execRevokeDigest (req : Nat) (record : List Byte) (s : State) : Host.Outcome State Fault Refusal :=
  .next (if recPurpose record ≠ 3 then s
    else s.authorise req record fun s => s.withSec fun x =>
      { x with revoked := if x.revoked.contains (recTarget record) then x.revoked else x.revoked ++ [recTarget record] })

/-! ### Debug levels (R454, R458) -/

/-- A core halted by debug resumes what it was doing; an event that came meanwhile completes its `schask`.
[DEDUCED, unsafe: log 50] -/
def State.resumeCore (s : State) (c : Nat) : State :=
  let s := s.wakeCore c
  s.withCore c fun x =>
    if x.state = .debugHalt then
      ({ x with state := x.before } : Core).interrupt s.coreTime
    else x

/-- DEBUG_LEVEL_LOWER (R454): a level below 2 resumes every core halted by debug. -/
def execDebugLevelLower (req value : Nat) (s : State) : Host.Outcome State Fault Refusal :=
  .next (s.writingValue req 0x260401 value fun v s =>
    if s.sec.level < v then s.refuse req 0x260401 0x9011
    else
      let s := s.setLevel v
      (if v < 2 then (List.range s.cores.length).foldl State.resumeCore s else s).accept)

/-- Halt a released core. [DEDUCED, unsafe: log 45] -/
def Core.debugHalt (c : Core) : Core :=
  if c.state = .reset ∨ c.state = .debugHalt ∨ c.state = .lockedUp then c else { c with state := .debugHalt, before := c.state }

/-- DBG_REQ (R458): below level open the edge is ignored and logged under R455. -/
def execDbgReq (s : State) : Host.Outcome State Fault Refusal :=
  .next (if s.sec.halted then s
    else if s.sec.level < 2 then s.levelRefused 2
    else { s with cores := s.cores.map Core.debugHalt })

/-! ### Key material (R449 to R452) -/

/-- Item i of a Provision record may be fused: in DEVELOP, once, with its length (R450, R452). -/
def State.provisionOk (s : State) (item length : Nat) : Bool :=
  s.sec.lifeCycle == .develop &&
    (if item = 0 then s.sec.slot0.isNone && length == 32
     else if item ≤ 4 then (s.sec.digests.getD (item - 1) none).isNone && !s.sec.revoked.contains item && length == 64
     else item == 5 && s.sec.ownerDigest.isNone && length == 64)

/-- PROVISION (R450): Item in byte 0, zeros in bytes 1 to 3, then the value. -/
def execProvision (req : Nat) (item value : List Byte) (s : State) : Host.Outcome State Fault Refusal :=
  let item := ofBytes item
  .next (s.writing req (keyOf 0x2611 0) 0 fun s =>
    if !s.provisionOk item value.length then s.refuseCommand req (keyOf 0x2611 0) 0x7602
    else
      let v := some (ofBytes value)
      (s.withSec fun x =>
        if item = 0 then { x with slot0 := v }
        else if item = 5 then { x with ownerDigest := v }
        else { x with digests := listSet x.digests (item - 1) v }).accept)

/-- Write or erase battery slot 1 or 2. -/
def Security.setSlot (x : Security) (slot : Nat) (v : Option Nat) : Security :=
  if slot = 1 then { x with slot1 := v } else if slot = 2 then { x with slot2 := v } else x

/-- A KeyLoad record (R451): the slot in bits 6-0 of byte 0, of which bit 7 erases it, zeros in bytes 1 to 7, then the key. -/
def keySlot (bs : List Byte) : Nat := recNum bs 0 1 % 2 ^ 7
def keyErases (bs : List Byte) : Bool := bit (recNum bs 0 1) 7

/-- The key that a KeyLoad record gives, unless its length, the state or its wrap refuses it (R451). -/
def State.loadedKey (s : State) (key : List Byte) : Option Nat :=
  if key.length = 32 then (if s.sec.lifeCycle = .develop then some (ofBytes key) else none)
  else if key.length = 40 ∧ (s.sec.lifeCycle = .develop ∨ s.sec.lifeCycle = .deploy) then Config.unwrapKey (s.sec.slot0.getD 0) key
  else none

/-- Refusals that every KeyLoad record shares: its zeros, a slot other than 1 or 2, slot 0 empty. [DEDUCED, unsafe: log 50] -/
def State.keyRecordBad (s : State) (bs : List Byte) : Bool :=
  decide (bs.length < 8) || recNum bs 1 7 != 0 || (keySlot bs != 1 && keySlot bs != 2) || s.sec.slot0.isNone

/-- KEY_LOAD (R451): the first 8 bytes of a record, with bit 7 of byte 0 clear, and the key that follows them. -/
def execKeyLoad (req : Nat) (head key : List Byte) (s : State) : Host.Outcome State Fault Refusal :=
  .next (if keyErases head then s
    else s.writing req (keyOf 0x2612 0) 0 fun s =>
      match s.loadedKey key with
      | none => s.refuseCommand req (keyOf 0x2612 0) 0x7602
      | some k => if s.keyRecordBad head then s.refuseCommand req (keyOf 0x2612 0) 0x7602
        else (s.withSec fun x => x.setSlot (keySlot head) (some (k % 2 ^ 256))).accept)

/-- KEY_ERASE (R451): a record with bit 7 of byte 0 set. [DEDUCED, unsafe: log 50] -/
def execKeyErase (req : Nat) (record : List Byte) (s : State) : Host.Outcome State Fault Refusal :=
  .next (if !keyErases record then s
    else s.writing req (keyOf 0x2612 0) 0 fun s =>
      if s.keyRecordBad record || record.length != 8 then s.refuseCommand req (keyOf 0x2612 0) 0x7602
      else (s.withSec fun x => x.setSlot (keySlot record) none).accept)

/-- BATTERY_SLOT_LOST (R451): VBAT below 2.0 V while VIN is absent. -/
def execBatterySlotLost (s : State) : Host.Outcome State Fault Refusal :=
  .next (if s.rst.vin then s else s.withSec fun x => { x with slot1 := none, slot2 := none, batteryLost := true })

/-- `DigestState` of sub-index k: 0 empty, 1 valid, 2 revoked. -/
def State.digestState (s : State) (k : Nat) : Nat :=
  if k = 5 then b2n s.sec.ownerDigest.isSome
  else if k = 6 then 1
  else if s.sec.revoked.contains k then 2
  else b2n (s.sec.digests.getD (k - 1) none).isSome

/-- `KeySlotState`. -/
def State.keySlotState (s : State) : Nat :=
  b2n s.sec.slot0.isSome + 2 * b2n s.sec.slot1.isSome + 4 * b2n s.sec.slot2.isSome + 8 * b2n s.sec.slot0Invalid

/-! ### Rights tables (R461) -/

/-- A requester that may write rights tables now. -/
def State.mayWriteRights (s : State) (req : Nat) : Bool :=
  req == firmwareRequester || (decide (req < 3) && (s.sec.lifeCycle == .blank || s.sec.lifeCycle == .develop) && !s.sec.rightsLock)

/-- An entry that R461 refuses outside table 0x05. [DEDUCED, unsafe: log 50] -/
def State.grantBad (s : State) (e : Nat) : Bool :=
  bits e 0 35 != 0 || bit e 35 || (bit e 39 && decide (grantBase e < s.controlEnd ∧ ddrStart ≤ grantLimit e))

/-- RIGHTS_TABLE_WRITE (R461): sixteen entries of 128 bits; the firmware's own table is fixed. -/
def execRightsTableWrite (req table : Nat) (entries : List Nat) (s : State) : Host.Outcome State Fault Refusal :=
  let key := keyOf (0x2640 + table) 0
  .next (s.writing req key 0 fun s =>
    if table = 5 ∨ s.mayWriteRights req = false ∨ entries.length ≠ 16 ∨ entries.any s.grantBad = true then s.refuse req key 0x9011
    else (s.withSec fun x =>
      { x with tables := (x.tables.filter fun t => t.1 != table) ++ [(table, entries.map fun e => e % 2 ^ 128)] }).accept)

/-- RIGHTS_LOCK_WRITE (R461): a write of 1. -/
def execRightsLockWrite (req : Nat) (s : State) : Host.Outcome State Fault Refusal :=
  .next (s.writing req 0x263001 1 fun s => (s.withSec fun x => { x with rightsLock := true }).accept)

/-! ### Tamper (R464, R465) -/

/-- The tamper monitor is on. -/
def State.tamperOn (s : State) : Bool :=
  !((s.sec.lifeCycle == .blank || s.sec.lifeCycle == .develop) && s.entry 0x262101 == 0)

/-- TAMPER_EVENT (R465), an alarm of the always-on domain (R40). -/
def execTamperEvent (s : State) : Host.Outcome State Fault Refusal :=
  .next (if !s.tamperOn then s
    else
      let s := ((s.withSec fun x => { x with slot1 := none, slot2 := none }).bump 0x262102).wakeClock
      if s.rst.vin then s.beginWipe.deviceHalt haltTamper 0x7310 0
      else s.withSec fun x => { x with tamperRecorded := true })

/-! ### The debug port's instructions (R456) -/

/-- The level and mode that an instruction needs (Table 19-4). [DEDUCED, unsafe: log 51] -/
def State.tapAllowed (s : State) : TapInstr → Bool
  | .bypass => true
  | .idcode => true
  | .dbgacc => true
  | .samplePreload => decide (2 ≤ s.sec.level) && s.run.mode == .service
  | .extest => decide (2 ≤ s.sec.level) && s.run.mode == .service
  | .scan => decide (3 ≤ s.sec.level) && s.run.mode == .service

/-- PCI Express device number of a grade (Table 18-4). -/
def Grade.deviceId : Grade → Nat
  | .e8 => 0x0908
  | .e4 => 0x0904
  | .e2 => 0x0902

/-- What IDCODE reads (R456): the hub's stepping, the device number, and 0x56F. -/
def State.idcode (s : State) : Nat := s.part.hubRom.stepping % 16 * 2 ^ 28 + s.part.grade.deviceId * 2 ^ 12 + 0x56F

/-- TAP_INSTRUCTION (R456): an instruction below its level is refused and the port falls back to BYPASS; IDCODE is read; SAMPLE/PRELOAD and
EXTEST take the boundary-scan cells shifted in; on leaving EXTEST every pin becomes held. [DEDUCED, unsafe: log 50]
[DEDUCED, unsafe: log 51] -/
def execTapInstruction (scan : TapScan) (s : State) : Host.Outcome State Fault Refusal :=
  let next : TapInstr := if s.tapAllowed scan.instr then scan.instr else .bypass
  let s := if s.sec.tap = .extest ∧ next ≠ .extest then s.holdPins allPins else s
  let s := if s.tapAllowed scan.instr then s else s.levelRefused 2
  let s := if next = .idcode then { s with answer := .ok s.idcode } else s
  .next (s.withSec fun x =>
    { x with tap := next, boundary := if next = .samplePreload ∨ next = .extest then scan.cells.take 96 else x.boundary })

/-! ### Attestation (R473) -/

/-- Version of the running firmware. -/
def State.firmwareVersion (s : State) : Nat := match if s.boot.slot = 0 then s.boot.slotA else s.boot.slotB with
  | some f => f.version
  | none => 0

/-- The report up to its signature (Table 19-8). -/
def State.attestation (s : State) (nonce : List Byte) : List Byte :=
  nonce ++ toBytes 4 s.part.hubSerial ++ toBytes 1 s.sec.lifeCycle.code ++ toBytes 1 s.sec.level ++ toBytes 1 s.moduleFeature ++
    toBytes 1 s.boot.rollback ++ toBytes 4 s.firmwareVersion ++ toBytes 4 (b2n s.sec.rightsLock) ++
    toBytes 64 (match s.image with
      | some i => i.digest
      | none => 0)

/-- ATTEST_REQUEST (R473). -/
def execAttestRequest (req : Nat) (nonce : List Byte) (s : State) : Host.Outcome State Fault Refusal :=
  .next (s.writing req (keyOf 0x2624 0) 0 fun s =>
    if s.sec.lifeCycle = .blank ∨ s.sec.lifeCycle = .ended then s.refuseCommand req (keyOf 0x2624 0) 0x7602
    else if nonce.length ≠ 64 then s.refuse req (keyOf 0x2624 0) 0x9011
    else (s.withSec fun x => { x with report := s.attestation nonce }).accept)

end Sys2Proof.Machine
end

