-- ==== Sys2Proof/Machine/Sleep.lean ====
section
/-! DEFINITION. STANDBY, DORMANT and Wake (R195, R208, R209, R320, R388, R399, R420, R487), the wake pins and the input edges of pins
(R418, R419), and the fast clock (R40). -/

namespace Sys2Proof.Machine

/-! ### Cores held in reset (R295, R320) -/

/-- A core held in reset. -/
def Core.inReset (c : Core) : Core :=
  { c with
    state := .reset, thread := none, sevpend := 0, seven := 0, preempt := false, ssip := false, priv := 3, csr := [], uch := false
    pc := 0, mepc := 0, mcause := 0, result := 0, mtimecmp := 0, before := .reset
    hpmEvent := List.replicate 8 0, hpmCounter := List.replicate 8 0 }

/-- The running thread of a core becomes SUSPENDED. -/
def State.suspendRunning (s : State) (c : Nat) : State := match s.coreThread c with
  | some t => (s.unlist t).setThread t { s.thread t with state := .suspended, handle := 0, suspendNext := none }
  | none => s

/-- Hold a core in reset: it sleeps there (R388). -/
def State.holdCore (s : State) (c : Nat) : State :=
  if (s.cores[c]?).any fun x => x.state != .reset then ((s.suspendRunning c).withCore c Core.inReset).sleepCore c else s

/-- Hold every core. -/
def State.holdCores (s : State) : State := (List.range s.cores.length).foldl State.holdCore s

/-- Cores that are not in reset. -/
def State.releasedCores (s : State) : List Nat :=
  (List.range s.cores.length).filter fun c => (s.cores[c]?).any fun x => x.state != .reset

/-! ### Threads and channels (R320) -/

/-- Every thread is free. -/
def State.freeThreads (s : State) : State :=
  s.withScheduler fun d => { d with threads := [], ready := [], tickList := [], cycleList := [] }

/-- Destroy the channels of which `p` holds. -/
def State.destroyChannels (s : State) (p : Channel → Bool) : State :=
  (s.chan.live.filter fun e => p e.2).foldl (fun s e => s.destroyChannel 0 e.1 e.2) s

/-- Destroy every channel, the declared ones too. -/
def State.destroyAllChannels (s : State) : State :=
  let s := s.destroyChannels fun _ => true
  { s with chan := { s.chan with declared := [] } }

/-! ### Design state (R82, R192) -/

/-- A nib of which only the carry mask is kept. [DESIGN CHOICE, unsafe: log 78] -/
def Nib.cleared (x : Nib) : Nib := { Nib.zero with carry := x.carry }

/-- A queue without entries. -/
def Queue.cleared (q : Queue) : Queue := { q with entries := [], discard := 0, skip := 0, stalled := false, timedOut := false }

/-- Clear the design state of the array: nibs but their carry masks, crossings, tiles, values in flight, queue entries, and the
schedule position. -/
def State.clearDesign (s : State) : State := s.withArr fun a =>
  { a with
    nibs := ((a.nibs.map fun e => (e.1, e.2.cleared)).filter fun e => e.2 != Nib.zero)
    queues := ((a.queues.map fun e => (e.1, e.2.cleared)).filter fun e => e.2 != Queue.empty)
    clusters := [], tiles := [], flights := [], claims := [], requests := [], votes := [], cyclog := CycleLog.empty
    sched := { Sched.fresh with point := a.sched.point, inForce := a.sched.inForce, peerPoints := a.sched.peerPoints } }

/-- Bridge engines and channel ports without beats. -/
def State.clearEngines (s : State) : State := s.withFabric fun f =>
  { f with ports := [], engines := f.engines.map fun (e : BridgeEngine) => { BridgeEngine.idle with binding := e.binding, sent := e.sent, beats := e.beats } }

/-- Tiers, frames and carry masks are lost (DORMANT, POR). [DESIGN CHOICE, unsafe: log 78] -/
def State.loseTiers (s : State) : State :=
  let s := s.withArr fun a => { a with nibs := [], words := [], routeWords := [], routes := [], queues := [] }
  s.withFabric fun f =>
    { f with
      clusterFrames := [], tileFrames := [], fclk := f.fclk.map fun _ => 0, cells := [], parked := []
      engines := f.engines.map fun _ => BridgeEngine.idle, delays := f.delays.map fun _ => 0 }

/-! ### Entering STANDBY and DORMANT -/

/-- The save of slot 0 with scope 1 (R208), and whether one was made. [DEDUCED, unsafe: log 52] -/
def State.saveForSleep (s : State) : State × Bool :=
  if s.image.isSome && s.run.valid && s.modeIn quietModes then match s.saveSlot 0 1 with
    | some t => (t, true)
    | none => (s.logAs 0x5301 .refused srcHub 0, false)
  else (s, false)

/-- The cores are held; the released ones are remembered for Wake (R320). -/
def State.quiesce (s : State) : State :=
  let s := if s.asleep then s else s.withScheduler fun d => { d with releasedBefore := s.releasedCores }
  s.holdCores

/-- What the array, the banks and the fabric lose without supply (R487). -/
def State.powerArrayOff (s : State) : State :=
  let s := (s.isolateAll.clearDesign).clearEngines
  { s with mem := { s.mem with onDie := [], cache := [] }, rings := { s.rings with sleeping := [] } }

/-- What DORMANT loses beyond STANDBY: threads, channels, tiers, the image, the scratchpad and the acquisition SRAM.
[DEDUCED, unsafe: log 52] -/
def State.loseInDormant (s : State) : State :=
  let s := ((s.freeThreads).destroyAllChannels).loseTiers.dropImage
  (s.forgetBytes scratchBase secureEnd).forgetBytes acqBase dictBase

/-- Pins, outputs, time base and lanes go to sleep (R370, R399, R420, R442). -/
def State.sleepUnits (s : State) : State := ((s.sleepTriggers.sleepPins).sleepTime).darkLanes

/-- Enter STANDBY or DORMANT (R208). [DEDUCED, unsafe: log 52] -/
def State.enterSleep (s : State) (m : Mode) : State :=
  let was := s.run.mode
  let r := s.saveForSleep
  let s := r.1.flushCaches.quiesce
  let s := if m = .dormant then s.loseInDormant else s
  let s := ((s.setMode m).flushTrace).sleepUnits.powerArrayOff
  let s := s.withRun fun x =>
    { x with valid := false, wakeMode := if was = .standby then x.wakeMode else was, savedSlot0 := decide (m = .standby) && r.2 }
  s.supplyGuest

/-- STANDBY and DORMANT are refused while the 32.768 kHz oscillator has failed (R485). -/
def State.oscillatorFailed (s : State) : Bool := s.rst.failedLoops.contains .oscillator

/-- A command that enters STANDBY or DORMANT. -/
def State.sleepCommand (s : State) (req value : Nat) (modes : List Mode) (m : Mode) : State :=
  s.ownCommand req value modes fun s =>
    if s.oscillatorFailed then s.refuse req runKey 0x9011 else ((s.acceptRun).runStatus 2).enterSleep m

/-- STANDBY (R195, R208). [DEDUCED, unsafe: log 52] -/
def execStandby (req : Nat) (s : State) : Host.Outcome State Fault Refusal := .next (s.sleepCommand req 8 quietModes .standby)

/-- DORMANT (R195, R208). [DEDUCED, unsafe: log 52] -/
def execDormant (req : Nat) (s : State) : Host.Outcome State Fault Refusal :=
  .next (s.sleepCommand req 9 (quietModes ++ [.standby]) .dormant)

/-! ### Wake (R209) -/

/-- Pattern units start disarmed (R427). -/
def State.wakePatterns (s : State) : State :=
  (List.range 8).foldl (fun s u => s.setPattern u (b2n (bit (s.entry (patternKey u 1)) 0))) s

/-- Pins, time base, lanes and the fixer start again (R284, R399, R420, R443). -/
def State.wakeUnits (s : State) : State :=
  let s := ((s.wakePins.wakePatterns).wakeTime).trainLanes fun x => x.state == 5
  if s.image.isSome then s.newPass else s

/-- The fast clock runs again, and the watchdog counts anew. -/
def State.wakeClocks (s : State) : State :=
  { s with mgmt := { s.mgmt with fastClock := true }, rst := { s.rst with watchdogCount := 0 } }

/-- The module has left STANDBY or DORMANT for a mode: the cores that were released before are released at the start address
(R209, R320). -/
def State.awake (s : State) (m : Mode) : State :=
  let s := ((s.setMode m).supplyGuest).settleDemands
  let s := (s.withRun fun r => { r with waking := false }).runStatus 2
  s.sched.releasedBefore.foldl State.releaseCore s

/-- Mode in which a Wake ends. -/
def State.wakeTarget (s : State) : Mode := if s.run.mode = .standby then s.run.wakeMode else .service

/-- The restore of slot 0 that Wake makes first where Standby saved it: the Wake stays busy until the fabric is released; a restore
that is refused is logged and leads to SERVICE. [DEDUCED, unsafe: log 52] -/
def State.wakeRestore (s : State) : State := match s.restoreFault (s.slot 0) with
  | some (c, a) => (s.logAs c .refused srcHub a).awake .service
  | none => (s.writeSheet (s.slot 0)).runStatus 1

/-- Leave STANDBY or DORMANT (R209). [DEDUCED, unsafe: log 52] -/
def State.wakeModule (s : State) : State :=
  let saved := s.run.savedSlot0
  let s := ((s.wakeClocks).withRun fun r => { r with savedSlot0 := false, waking := true }).wakeUnits
  if saved then (s.wakeDdr).wakeRestore else s.awake s.wakeTarget

/-- WAKE (R195, R209). [DEDUCED, unsafe: log 52] -/
def execWake (req : Nat) (s : State) : Host.Outcome State Fault Refusal :=
  .next (s.runCommand req 10 [.standby, .dormant] fun s => (s.acceptRun).wakeModule)

/-- The restore of a Wake has ended: the module returns with its design state valid (R209). [DEDUCED, unsafe: log 52] -/
def State.wakeDone (s : State) : State := (s.awake s.wakeTarget).withRun fun r => { r with valid := true, domainLost := false }

/-- RESTORE_COMPLETE (R193, R206, R209, R237): once the fabric has been released. [DEDUCED, unsafe: log 35] -/
def execRestoreComplete (s : State) : Host.Outcome State Fault Refusal :=
  .next (if s.run.waking then (if s.released then s.wakeDone else s)
    else if s.restoreEnds then s.restoreDone else s)

/-! ### Pins that wake (R418, R419) -/

/-- Levels of WAKE0 and WAKE1. -/
def State.wakeLevels (s : State) : Nat := bits s.pins.functions 25 2

/-- An internal Wake, where the command would be accepted. -/
def State.wakeNow (s : State) : State := match s.commonRefusal s.run.status true [.standby, .dormant] with
  | some _ => s
  | none => (s.acceptRun).wakeModule

/-- The input of a pin goes on from `s` to `t`; a rising edge of WAKE0 or WAKE1 in STANDBY or DORMANT acts as Wake. -/
def State.wakeEdge (s t : State) : State :=
  if s.asleep && t.wakeLevels &&& (3 - s.wakeLevels) != 0 then t.wakeNow else t

/-- PIN_INPUT_CHANGE (R418, R419): the levels of a pad at consecutive edges of its filter's clock, 100 MHz while the module is awake.
[DESIGN CHOICE, unsafe: log 4] -/
def execPinInputChange (pin : Nat) (levels : List Bool) (s : State) : Host.Outcome State Fault Refusal :=
  .next (levels.foldl (fun s v => s.wakeEdge (s.pinSample pin v)) s)

/-- WAKE_PIN_EDGE (R419): a pin that feeds WAKE0 or WAKE1 rises. [DEDUCED, unsafe: log 52] -/
def execWakePinEdge (pin : Nat) (s : State) : Host.Outcome State Fault Refusal :=
  .next (if [25, 26].contains (cfgFunc (s.pinConfig pin)) then s.wakeEdge (s.pinInput pin (!bit (s.pinConfig pin) 23)) else s)

/-! ### The fast clock (R40) -/

/-- FAST_CLOCK_STOP (R40): only in DORMANT and STANDBY. -/
def execFastClockStop (s : State) : Host.Outcome State Fault Refusal :=
  .next (if s.asleep then { s with mgmt := { s.mgmt with fastClock := false } } else s)

end Sys2Proof.Machine
end

