-- ==== Sys2Proof/Machine/Windows.lean ====
section
/-! DEFINITION. The E-die windows (R22, R79, R80, R155 to R157, R204, R235, R278): the readback and forcing aperture, word-cell
records, design-memory and tier pages, and the remote-data caches; march tests (R158 to R164). -/

namespace Sys2Proof.Machine

/-! ### Checks that an access meets (R20, R22, R80, R455, R459, R472) -/

/-- An access to an unmapped address (R20): 0x5010 with the requester and the address. -/
def State.unmapped (s : State) (req addr : Nat) (write : Bool) : State :=
  (s.logDetail 0x5010 .refused srcHub (addressArg req addr) addr 0).reply (errorAnswer req write)

/-- A window access that ends in an error completion with its fault. -/
def State.windowRefused (s : State) (code : Nat) : State := (s.logAs code .refused srcHub 0).reply .error

/-- The memory engine checks an access first (R459); during a device halt the controllers answer none (R471, R472).
[DESIGN CHOICE, safe: log 39] -/
def State.checkedAccess (s : State) (req addr len : Nat) (write atomic : Bool) (k : State → State) : State :=
  if s.sec.halted then s.reply .completerAbort
  else if !s.allowed req addr len write atomic then s.denied req addr write
  else k s

/-- Size of an E-die window, and of each of its halves. -/
def windowSize : Nat := 0x02000000
def windowHalf : Nat := 0x01000000

def windowAddr (die off : Nat) : Nat := windowBase + die * windowSize + off

/-- A window access goes on in HOLD and SERVICE (R22), one that forces in HOLD only (R80, R204), and at level open (R455); in STANDBY
and DORMANT the powered-off stop of the die logs too (R333). [DEDUCED, unsafe: log 71] -/
def State.windowModes (s : State) (req d : Nat) (forces : Bool) (k : State → State) : State :=
  if !s.modeIn [.hold, .service] then
    let s := s.windowRefused 0x5011
    if s.asleep then (s.log1 0x6111 (srcDie d) 0).reply .error else s
  else s.atLevel req 2 fun s => if forces && s.run.mode != .hold then s.windowRefused 0x5011 else k s

/-! ### The lower half (Table 3-8) -/

/-- Byte `k` of a bit vector. -/
def bvByte {n : Nat} (x : BitVec n) (k : Nat) : Byte := BitVec.ofNat 8 (bits x.toNat (8 * k) 8)
def bvSetByte {n : Nat} (x : BitVec n) (k : Nat) (b : Byte) : BitVec n := BitVec.ofNat n (setBits x.toNat (8 * k) 8 b.toNat)

/-- Module nib number of the data-memory page's nib at an offset of its region. -/
def State.pageNib (s : State) (d off : Nat) : Nat :=
  d * dieNibs + s.entry (keyOf (0x3021 + d * 0x100) 1) % 4 * 32768 + off / 128

/-- A byte of a word-cell record (R235). The places of the pipeline registers within their bytes are not given. -/
def State.cellByte (s : State) (k b : Nat) : Byte :=
  let c := s.fabric.cell k
  let regs := toBytes 4 c.t0.toNat ++ toBytes 4 c.t1.toNat ++ toBytes 4 c.t2.toNat ++ toBytes 4 c.t3.toNat ++
    toBytes 4 c.out.toNat ++ toBytes 1 (b2n c.flag + 2 * c.pc) ++ toBytes 3 0 ++
    toBytes 4 (s.fabric.c0 k) ++ toBytes 4 (s.fabric.c1 k)
  if b < 32 then regs.getD b 0 else (Config.packBytes 0x235 c.pipes.flatten).getD (b - 32) 0

/-- A byte of the lower half. -/
def State.apertureByte (s : State) (d off : Nat) : Byte :=
  if off < 0x100000 then 0
  else if off < 0x200000 then s.cellByte (d * 16384 + (off - 0x100000) / 64) (off % 64)
  else if off < 0x400000 then 0
  else if off < 0x800000 then bvByte (s.arr.nib (d * dieNibs + (off - 0x400000) / 32)).file (off % 32)
  else if off < 0xC00000 then bvByte (s.arr.nib (d * dieNibs + (off - 0x800000) / 32)).valid (off % 32)
  else bvByte (s.arr.nib (s.pageNib d (off - 0xC00000))).data (off % 128)

/-- Force a byte of a word-cell record: T0 to T3, OUT, the flag and PC (R235). -/
def WordCell.force (c : WordCell) (b : Nat) (v : Byte) : WordCell :=
  if b < 4 then { c with t0 := bvSetByte c.t0 b v }
  else if b < 8 then { c with t1 := bvSetByte c.t1 (b - 4) v }
  else if b < 12 then { c with t2 := bvSetByte c.t2 (b - 8) v }
  else if b < 16 then { c with t3 := bvSetByte c.t3 (b - 12) v }
  else if b < 20 then { c with out := bvSetByte c.out (b - 16) v }
  else if b = 20 then { c with flag := bit v.toNat 0, pc := bits v.toNat 1 3 }
  else c

/-- Force a byte of the lower half; receive bits written keep their arrival-valid bits (R80). -/
def State.forceByte (s : State) (d off : Nat) (v : Byte) : State :=
  if off < 0x100000 then s
  else if off < 0x200000 then
    let k := d * 16384 + (off - 0x100000) / 64
    if s.fabric.stage (k / 256) < 2 then s else s.withFabric fun f => f.putCell k ((f.cell k).force (off % 64) v)
  else if off < 0x400000 then s
  else s.withArr fun a =>
    if off < 0x800000 then
      let n := d * dieNibs + (off - 0x400000) / 32
      a.setNib n { a.nib n with file := bvSetByte (a.nib n).file (off % 32) v }
    else if off < 0xC00000 then
      let n := d * dieNibs + (off - 0x800000) / 32
      a.setNib n { a.nib n with valid := bvSetByte (a.nib n).valid (off % 32) v }
    else
      let n := s.pageNib d (off - 0xC00000)
      a.setNib n { a.nib n with data := bvSetByte (a.nib n).data (off % 128) v }

/-- Force successive bytes. -/
def State.forceBytes (s : State) (d off : Nat) : List Byte → State
  | [] => s
  | b :: bs => (s.forceByte d off b).forceBytes d (off + 1) bs

/-- The offset lies among the word-cell records, among the regions of nib state. -/
def isCellRecord (off : Nat) : Bool := decide (0x100000 ≤ off ∧ off < 0x200000)
def isNibState (off : Nat) : Bool := decide (0x400000 ≤ off ∧ off < 0x1000000)

/-- A written byte of a record belongs to a cell of a free-running domain (R235). -/
def State.cellNotHeld (s : State) (d off n : Nat) : Bool :=
  (List.range n).any fun i => isCellRecord (off + i) && decide ((off + i) % 64 < 21) &&
    !s.fabric.isBurst (d * 16384 + (off + i - 0x100000) / 64)

/-- A written byte lies among the records or the regions of nib state, so that the write forces. -/
def forcesState (off n : Nat) : Bool := (List.range n).any fun i => isNibState (off + i) || isCellRecord (off + i)

/-! ### Remote-data caches (R155) -/

/-- The line of a die at an offset. -/
def State.cacheLine (s : State) (d off : Nat) : Option CacheLine :=
  s.mem.cache.find? fun l => l.die == d && l.offset == off / 64 * 64

/-- The 64 bytes of a line in its bank; a bank that no port owns is powered off (R137), and what it reads as is open.
[DESIGN CHOICE, safe: log 39] -/
def State.lineBytes (s : State) (d off : Nat) : List Byte × State :=
  if s.bankPowered (bankOf d off) then (s.readOnDie d off 64, s)
  else ((List.range 8).flatMap fun i => toBytes 8 (Config.freeWord (s.free + i)).toNat, { s with free := s.free + 8 })

/-- Set of a line (R155): 4,096 sets of 64-byte lines. [DESIGN CHOICE, safe: log 39] -/
def lineSet (off : Nat) : Nat := off / 64 % 4096

/-- Where the 16 ways of the line's set are taken, one of its lines is written back and leaves: which one the spec does not say.
[DESIGN CHOICE, safe: log 39] -/
def State.makeWay (s : State) (d off : Nat) : State :=
  let lines := s.mem.cache.filter fun l => l.die == d && lineSet l.offset == lineSet off
  if lines.length < 16 then s
  else
    match lines[s.drawFree.1.toNat % lines.length]? with
    | some v => s.drawFree.2.flushWhere fun l => l.die == d && l.offset == v.offset
    | none => s.drawFree.2

/-- A line joins the cache, clean, and is counted (Table 15-7 code 11). -/
def State.addLine (s : State) (d off : Nat) (bs : List Byte) : State :=
  State.countEvent (code := 11) (unit := d) (n := 1)
    { s with mem := { s.mem with cache := s.mem.cache ++ [⟨d, off / 64 * 64, bs, false⟩] } }

/-- Bring the line of an offset into the cache (R155). -/
def State.fillLine (s : State) (d off : Nat) : State := match s.cacheLine d off with
  | some _ => s
  | none =>
    let b := (s.makeWay d off).lineBytes d (off / 64 * 64)
    b.2.addLine d off b.1

/-- A byte through the cache. -/
def State.cachedByte (s : State) (d off : Nat) : Byte := match s.cacheLine d off with
  | some l => l.data.getD (off % 64) 0
  | none => (s.readOnDie d off 1).headD 0

/-- Write a byte in the cache. -/
def State.writeCached (s : State) (d off : Nat) (v : Byte) : State :=
  let s := s.fillLine d off
  { s with mem := { s.mem with cache := s.mem.cache.map fun (l : CacheLine) =>
      if l.die = d ∧ l.offset = off / 64 * 64 then { l with data := listSet l.data (off % 64) v, dirty := true } else l } }

def State.writeCachedBytes (s : State) (d off : Nat) : List Byte → State
  | [] => s
  | b :: bs => (s.writeCached d off b).writeCachedBytes d (off + 1) bs

/-! ### The upper half (R157, R278) -/

/-- Page in the upper half. -/
def State.memoryPage (s : State) (d : Nat) : Nat := s.entry (keyOf (0x3022 + d * 0x100) 1)

/-- An unavailable bank under a range of design-memory offsets (R164). -/
def State.bankMissing (s : State) (d off n : Nat) : Bool :=
  (List.range n).any fun i => s.mem.march.unavailable.contains (bankOf d (off + i))

/-- A tier word of the row of step `t`. -/
def State.rowWord (s : State) (d t id : Nat) : TierWord := Sparse.get (fun _ => TierWord.zero) s.arr.words (wordKey d t id)
def State.rowRoute (s : State) (d t j : Nat) : TierWord :=
  Sparse.get (fun _ => TierWord.zero) s.arr.routeWords (routeKey d t (j / 48) (j % 48))

/-- A byte of a schedule row (Table 10-7). -/
def State.rowByte (s : State) (d t off : Nat) : Byte :=
  if off < 0x100000 then bvByte (s.rowWord d t (off / 8)).word (off % 8)
  else if off < 0x1C0000 then
    let o := off - 0x100000
    bvByte (s.rowRoute d t (o / 384 * 48 + o % 384 / 8)).word (o % 8)
  else if off < 0x1D0000 then
    let i := 2 * (off - 0x1C0000)
    BitVec.ofNat 8 ((s.rowWord d t i).parity.toNat + (s.rowWord d t (i + 1)).parity.toNat * 16)
  else if off < 0x1DC000 then
    let j := 2 * (off - 0x1D0000)
    BitVec.ofNat 8 ((s.rowRoute d t j).parity.toNat + (s.rowRoute d t (j + 1)).parity.toNat * 16)
  else 0

/-- Number of the bytes of an access at window offset `off` that lie in the lower half; the others lie in the upper half. -/
def lowerCount (off n : Nat) : Nat := min n (windowHalf - off)

/-- What turns an access to the upper half away in HOLD and SERVICE: a write to a tier page, which is read-only and ends at L (R278), a
march (R163), or an unavailable bank (R157). -/
def State.upperFault (s : State) (d off n : Nat) (write : Bool) : Option Nat :=
  let page := s.memoryPage d
  if n = 0 then none
  else if 0x100 ≤ page then (if write ∨ s.L ≤ page - 0x100 then some 0x5011 else none)
  else if s.marchBusy then some 0x5011
  else if s.bankMissing d (page * windowHalf + off) n then some 0x5103
  else none

/-- Bytes read through the upper half, the lines of a design-memory page through the cache. -/
def State.upperRead (s : State) (d off n : Nat) : List Byte × State :=
  let page := s.memoryPage d
  if 0x100 ≤ page then ((List.range n).map fun i => s.rowByte d (page - 0x100) (off + i), s)
  else
    let x := page * windowHalf + off
    let t := (List.range n).foldl (fun (t : State) i => t.fillLine d (x + i)) s
    ((List.range n).map fun i => t.cachedByte d (x + i), t)

/-- Bytes written through the upper half. -/
def State.upperWrite (s : State) (d off : Nat) (data : List Byte) : State :=
  s.writeCachedBytes d (s.memoryPage d * windowHalf + off) data

/-- A read of `n` bytes at a window offset: those of the lower half, then those of the upper half.
[DESIGN CHOICE, safe: log 39] -/
def State.windowRead (s : State) (req d off n : Nat) : State :=
  let a := lowerCount off n
  let up := off + a - windowHalf
  s.windowModes req d false fun s => match s.upperFault d up (n - a) false with
    | some c => s.windowRefused c
    | none =>
      let r := s.upperRead d up (n - a)
      r.2.reply (.ok (ofBytes ((List.range a).map (fun i => s.apertureByte d (off + i)) ++ r.1)))

/-- A write at a window offset: to nib state, records and design memory it is forcing; reserved offsets ignore it (R79, R80, R204,
R235). [DESIGN CHOICE, safe: log 39] -/
def State.windowWrite (s : State) (req d off : Nat) (data : List Byte) : State :=
  let a := lowerCount off data.length
  let up := off + a - windowHalf
  let page := s.memoryPage d
  s.windowModes req d (forcesState off a || (decide (a < data.length) && decide (page < 0x100))) fun s =>
    match s.upperFault d up (data.length - a) true with
    | some c => s.windowRefused c
    | none =>
      if s.cellNotHeld d off a then s.windowRefused 0x5012
      else ((s.forceBytes d off (data.take a)).upperWrite d up (data.drop a)).accept

/-! ### Commands -/

/-- Bytes of an access, and whether it writes. -/
def opLen : MemOp → Nat
  | .read n => n
  | .write data => data.length
def opWrites : MemOp → Bool
  | .read _ => false
  | .write _ => true

/-- An access to the window of die `d` at `off`; beyond the window, or in that of a die that the grade does not fit, it is unmapped
(R19, R20). [DESIGN CHOICE, safe: log 39] -/
def State.windowAccess (s : State) (req d off : Nat) (op : MemOp) : State :=
  if s.dies ≤ d ∨ windowSize < off + opLen op then s.unmapped req (windowAddr d off) (opWrites op)
  else match op with
    | .read n => s.windowRead req d off n
    | .write data => s.windowWrite req d off data

/-- A window command after the rights check. -/
def State.windowCommand (s : State) (req d off : Nat) (op : MemOp) : State :=
  s.checkedAccess req (windowAddr d off) (opLen op) (opWrites op) false fun s => s.windowAccess req d off op

/-- APERTURE_WRITE (R80): `offset` from the window base, outside the word-cell records. [DESIGN CHOICE, unsafe: log 77] -/
def execApertureWrite (req die offset : Nat) (data : List Byte) (s : State) : Host.Outcome State Fault Refusal :=
  .next (if offset < windowHalf ∧ isCellRecord offset = false then s.windowCommand req die offset (.write data) else s)

/-- WORD_CELL_RECORD_WRITE (R235): `offset` from the window base, among the word-cell records. -/
def execWordCellRecordWrite (req die offset : Nat) (data : List Byte) (s : State) : Host.Outcome State Fault Refusal :=
  .next (if isCellRecord offset then s.windowCommand req die offset (.write data) else s)

/-- DESIGN_MEMORY_WINDOW_ACCESS (R155, R157): `offset` within the upper half. -/
def execDesignMemoryWindowAccess (req die offset : Nat) (op : MemOp) (s : State) : Host.Outcome State Fault Refusal :=
  .next (if offset < windowHalf then s.windowCommand req die (windowHalf + offset) op else s)

/-- REMOTE_CACHE_FLUSH (R156). -/
def execRemoteCacheFlush (req die : Nat) (s : State) : Host.Outcome State Fault Refusal :=
  .next (s.writing req (keyOf (0x3023 + die * 0x100) 1) 1 fun s => (s.flushWhere fun l => l.die == die).accept)

/-! ### March tests (R158 to R164) -/

def marchKey : Nat := 0x2E4101

def State.withMarch (s : State) (f : March → March) : State := { s with mem := { s.mem with march := f s.mem.march } }

/-- A march command (R161): destructive ones in SERVICE only; while a stream loads, each
is refused in every mode (R266); the caches are written back at its start (R156). -/
def State.marchCommand (s : State) (req kind : Nat) : State :=
  if s.loading && !s.mustWait req marchKey then s.reaching req marchKey true fun s => s.refuse req marchKey 0x3202
  else s.writing req marchKey kind fun s =>
    if s.marchBusy then s.refuse req marchKey 0x9011
    else if kind < 3 ∧ s.run.mode ≠ .service then s.refuse req marchKey 0x9012
    else ((s.flushCaches.wakeDdr).withMarch fun m => { m with status := 1, kind := kind, atStart := false }).accept

/-- MARCH_DESTRUCTIVE_ON_DIE (R161). -/
def execMarchDestructiveOnDie (req : Nat) (s : State) : Host.Outcome State Fault Refusal := .next (s.marchCommand req 1)

/-- MARCH_DESTRUCTIVE_ALL (R161). -/
def execMarchDestructiveAll (req : Nat) (s : State) : Host.Outcome State Fault Refusal := .next (s.marchCommand req 2)

/-- MARCH_PRESERVING_ON_DIE (R161). -/
def execMarchPreservingOnDie (req : Nat) (s : State) : Host.Outcome State Fault Refusal := .next (s.marchCommand req 3)

/-- MARCH_PRESERVING_ALL (R161). -/
def execMarchPreservingAll (req : Nat) (s : State) : Host.Outcome State Fault Refusal := .next (s.marchCommand req 4)

/-- A destructive march leaves every word it tests zero, and no committed image (R158, R162). -/
def State.marchZero (s : State) : State :=
  let m := s.mem.march
  if 2 < m.kind then s
  else
    let s := { s with mem := { s.mem with onDie := [], cache := [] } }
    let s := if m.kind = 2 then s.forgetBytes hbmStart (hbmStart + 24 * 2 ^ 30 * s.part.grade.stacks) else s
    if m.atStart then s else (s.isolateAll).dropImage

/-- Banks that the result names as failing, each once. -/
def marchBanks (r : MarchResult) : List Nat := ((r.rows.map Prod.fst) ++ r.badSpares).eraseDups

/-- Stacks with failing lines. -/
def marchStacks (r : MarchResult) : List Nat := (r.lines.map Prod.fst).eraseDups

/-- A failing bank after a destructive march (R164): its rows take spare rows, or it becomes unavailable.
[DEDUCED, unsafe: log 46] -/
def March.repairBank (m : March) (r : MarchResult) (b : Nat) : March :=
  let rows := ((r.rows.filter fun x => x.1 == b).map Prod.snd).eraseDups
  let used := (m.remapped.filter fun x => x.1 == b).length
  if r.badSpares.contains b ∨ 4 < used + rows.length then
    { m with unavailable := if m.unavailable.contains b then m.unavailable else m.unavailable ++ [b] }
  else { m with remapped := m.remapped ++ rows.map fun x => (b, x) }

/-- Unit and address of a failing row: a row is 64 words of a bank (Table 6-4). [DEDUCED, unsafe: log 46] -/
def rowAddress (x : Nat × Nat) : Nat × Nat :=
  (x.1 / 1536, x.1 % 1536 / 24 * 0x300000 + x.1 % 24 * 0x20000 + x.2 * 1024)

/-- The first 64 failing addresses of each die and stack (R164). [DEDUCED, unsafe: log 46] -/
def marchFailures (r : MarchResult) : List (Nat × Nat) :=
  let all := r.rows.map rowAddress ++ r.lines.map fun x => (8 + x.1, x.2)
  (List.range 12).flatMap fun u => (all.filter fun x => x.1 == u).take 64

/-- A march ends (R158, R164): its failures are logged and recorded; a destructive one repairs. [DEDUCED, unsafe: log 46] -/
def State.marchEnds (s : State) (r : MarchResult) : State :=
  let destructive := decide (s.mem.march.kind ≤ 2)
  let s := s.flushCaches.marchZero
  let s := (marchBanks r).foldl (fun s b => s.log1 0x5201 (srcDie (b / 1536)) 0) s
  let s := (marchStacks r).foldl (fun s k => s.log1 0x5201 (srcStack k) 0) s
  s.withMarch fun m =>
    let m := if destructive then (marchBanks r).foldl (fun m b => m.repairBank r b) m else m
    { m with status := 2, failedBanks := (marchBanks r).length % 2 ^ 16, failedLines := min max32 r.lines.length,
             duration := r.duration % 2 ^ 32, record := marchFailures r }

end Sys2Proof.Machine
end

