-- ==== Sys2Proof/Machine/Reset.lean ====
section
/-! DEFINITION. What each reset level clears (R475, R476, R479, Table 20-1), the session key (R466), and how a reset source acts or
escalates (R478, R500 to R502). -/

namespace Sys2Proof.Machine

def State.withRst (s : State) (f : ResetCtl → ResetCtl) : State := { s with rst := f s.rst }
def State.withBoot (s : State) (f : Boot → Boot) : State := { s with boot := f s.boot }

/-! ### The session key (R466) -/

/-- The key is erased and its identifier retired: nothing of DDR5 can be read afterwards. [DEDUCED, unsafe: log 56] -/
def State.retireKey (s : State) : State := (s.forgetBytes ddrStart guestStart).withSec fun x => { x with sessionKey := false }

/-- What lies in DDR5 is lost with its key: the staged images, the contact sheets and the golden store. -/
def State.loseStaged (s : State) : State :=
  let s := s.withLoader fun l => { l with retained := none, chain := [] }
  { s with sheets := s.sheets.map fun _ => Sheet.empty, fixer := { s.fixer with running := false } }

/-- The hub draws a key at a start; without one the module runs as if no RDIMMs were fitted. -/
def State.drawSession (s : State) : State :=
  let s := s.endCode 0x7320
  if s.rst.env.entropyOk then s.withSec fun x => { x with sessionKey := true, keyId := (x.keyId + 1) % 2 ^ 16 }
  else s.logAs 0x7320 .blocked srcHub 0

/-! ### Pieces of a reset -/

/-- CORE and SYS: pins become held, or take safe state under SafeOnWarmReset (R421, R422). -/
def State.resetPins (s : State) : State :=
  let warm := allPins.filter fun n => bit (s.pinConfig n) 10
  let s := s.holdPins (allPins.filter fun n => !bit (s.pinConfig n) 10)
  let s := if warm.isEmpty then s else s.applySafe warm causeReset
  s.withPins fun p => { p with asleep := none }

/-- POR: every pin is high-impedance with the pull of its bank, and held (R412). -/
def State.porPins (s : State) : State := s.withPins fun p =>
  { p with
    held := allPins.map fun n => (n, ⟨0, false, bits p.fusedPull (2 * (n / 16)) 2, 1, false⟩)
    safe := [], asleep := none, switching := [], sharedLogged := [], functions := 0, settling := [], filtered := 0, filters := [], software := 0, patterns := List.replicate 8 0 }

/-- The array, the fabric and the fixer without an image (R82, R238, R476). -/
def State.resetDesign (s : State) : State :=
  let s := ((s.isolateAll.clearDesign).clearEngines).dropImage.stopLoader
  let s := s.withArr fun a => { a with routes := [], queues := [] }
  let s := { s.loseStaged with
    rings := { s.rings with calendar := [] }
    queueCounts := s.queueCounts.map fun _ => 0
    tokens := { Tokens.none with overdraws := s.tokens.overdraws }
    fixer := { s.fixer with
      running := false, failed := [], goldenWords := [], goldenRoutes := [], goldenCarry := [], goldenDescriptors := [],
      goldenClusters := [], goldenTiles := [], goldenEngines := [], controlFlips := [], resetting := false } }
  s.withRun fun r => { r with valid := false, status := 0, runAt := none, savedSlot0 := false, waking := false, peersRunning := [], peerMismatch := [], domainLost := false }

/-- A declared channel without messages (R320). -/
def Channel.emptied (c : Channel) : Channel :=
  { c with head := 0, slots := [], credits := if c.type = 1 then c.depth else 0, inFlight := 0, waiters := [] }

/-- CORE: threads are freed, run-time channels destroyed, declared channels emptied (R320). -/
def State.resetThreads (s : State) : State :=
  let s := s.freeThreads.destroyChannels fun c => !c.declared
  let s := s.chan.live.foldl (fun s e => s.bumpBy 0x2C0303 e.2.occupied) s
  { s with chan := { s.chan with live := s.chan.live.map fun e => (e.1, e.2.emptied) } }

/-- A busy march or sheet command ends with nothing further written (R476). -/
def State.endEngines (s : State) : State :=
  let s := if s.sheetBusy then s.putEntry sheetStatusKey 3 else s
  s.withMarch fun m => if m.status = 1 then { m with status := 3, atStart := false } else m

/-- The module watchdog stops, and its timeout takes its persistent value (R480). -/
def State.resetWatchdog (s : State) : State :=
  let saved := match s.mgmt.saved with
    | some l => ((l.find? fun e => e.1 == 0x220301).map Prod.snd).getD 0
    | none => 0
  (s.putEntry 0x220301 saved).withRst fun r => { r with watchdogCount := 0 }

/-- The reset controller's own requests and holds end; block resets in progress too. -/
def State.resetController (s : State) : State := s.withRst fun r =>
  { r with request := none, ddrRefused := false, blockHeld := [], blockWaiting := [], blockStatus := 0, commitFaults := 0 }

/-- What a reset at any level does (Table 20-1, column CORE); a new nonce is drawn (R453). [DEDUCED, unsafe: log 56] -/
def State.resetCommon (s : State) : State :=
  let s := (s.resetDesign.holdCores).resetThreads.endEngines
  let s := (s.putEntry 0x2C1103 0).withScheduler fun d => { d with releasedBefore := [] }
  let s := ((s.resetWatchdog.resetController).retireKey.newNonce).setMode .service
  (s.endCode 0x1101).endCode 0x5104

/-! ### SYS reset -/

/-- Lanes are brought up, bundles trained, rings and ports restarted (R335, R435). -/
def State.resetLinks (s : State) : State :=
  let s := (s.trainLanes Lane.fitted).beginTraining
  { s with
    rings := { s.rings with
      returned := s.rings.granted, transit := [], links := [], ejected := [], sleeping := [], held := [], outstanding := [], completions := [] }
    notices := [], laneOut := [] }

/-- The time base goes to state 0, the generators to idle, the ports to their initial state (R398). [DEDUCED, unsafe: log 57] -/
def State.resetTime (s : State) : State :=
  let s := s.timeState 0
  { s with pulses := s.pulses.map fun _ => Pulse.idle }.withTime fun t =>
    { t with
      stepped := false, acquired := false, sourcePort := 0xFF, rate := 0, offset := 0, offsets := [], below := 0
      ports := t.ports.map fun (p : PtpPort) => { p with master := none, pathDelay := 0, linkUp := false, initializing := false } }

/-- Trigger units, outputs and samplers restart (R367, R370). -/
def State.resetTriggers (s : State) : State :=
  let s := s.sleepTriggers
  { s with trig := { s.trig with samplers := s.trig.samplers.map fun _ => Sampler.fresh } }

/-- Trace is disabled: the funnel empties what waits, and the counters clear (R384, R387). -/
def State.resetTrace (s : State) : State :=
  let s := ((s.flushTrace).putEntry 0x2A0001 0).clearTraceCounters
  { s with trace := { s.trace with pf := [], served := s.trace.served.map fun _ => 0 } }

/-- Status entries that a SYS reset clears: SheetStatus, the sticky bits of the edge counters and of the pattern units (R426, R429). -/
def clearedBySys : List Nat := [sheetStatusKey, 0x276101] ++ (List.range 8).map fun u => patternKey u 6

/-- Settings return to their defaults; counters and status, and bits 16-10 of each PinConfig, stay (R28, R413).
[DEDUCED, unsafe: log 56] -/
def State.resetEntries (s : State) : State :=
  let kept := s.dict.filter fun e => (entryOf e.1).any fun r => r.access == .ro
  let pins := allPins.map fun n => (pinConfigKey n, s.pinConfig n)
  let s := { s with dict := kept }.withPins fun p => { p with functions := 0, settling := [] }
  pins.foldl (fun s p => s.putEntry p.1 (setBits (s.entry p.1) 10 7 (bits p.2 10 7))) (s.clearEntries clearedBySys)

/-- The debug level takes its level at start; a halt ends; `RightsLock` clears (R454, R461, R472). -/
def State.resetSecurity (s : State) : State :=
  let s := s.endFaults fun a => a.cls == .halt
  s.withSec fun x =>
    { x with
      level := x.lifeCycle.startLevel, levelLogged := [], deniedLogged := [], rightsLock := false, haltCause := 0, halted := false
      authStatus := 0, resetDue := false, report := [] }

/-- The firmware is restarted by the boot ROM from the preferred slot (R50). -/
def State.restartFirmware (s : State) : State :=
  let s := s.withBoot fun b => { b with phase := .attempt, slot := b.preferred, attempts := 0, writing := none, status := 0 }
  { s with can := { s.can with nmt := .preOperational, sdo := none, held := [], sent := [] } }

/-- What the controller and the hub keep in registers beside the dictionary's entries starts again. -/
def State.resetStatus (s : State) : State :=
  let s := s.withRun fun r => { r with stopCause := 0, stopFault := 0, commands := 0, timeoutLogged := [], markArmed := false, markDone := false }
  let s := { s with log := { s.log with select := 0, auditStatus := 0, auditResult := 0, auditUnchecked := 0 } }
  let s := { s with chan := { s.chan with selects := [] }, arr := { s.arr with syncMask := 0 } }
  (s.withRst fun r => { r with failedLoops := [], powerLogged := false }).withLoader fun l =>
    { l with fault := 0, offset := 0, tracks := [], buffered := [], ignored := [], dmaStatus := 0, dmaAddress := 0, dmaLeft := 0 }

/-- What SYS adds to CORE. -/
def State.resetSys (s : State) : State :=
  let s := (s.destroyAllChannels).resetTrace.resetTriggers.resetTime
  let s := (s.resetLinks.guestDrop (if s.part.guest then 1 else 0)).resetEntries
  ((s.resetSecurity.restartFirmware).resetStatus).newNonce

/-! ### POR -/

/-- Counters that live outside the dictionary clear (R351, R446, R494). -/
def State.clearCounters (s : State) : State :=
  { s with
    lanes := s.lanes.map fun (x : Lane) =>
      { x with headerErrors := 0, native := 0, blockErrors := 0, fecCorrected := 0, losses := 0, keyMismatch := false, sent := [] }
    bundles := s.bundles.map fun (x : Bundle) => { x with repaired := 0, lost := 0, firstCycle := none }
    rings := { s.rings with granted := 0, returned := 0 }
    time := { s.time with stepCount := 0, ports := s.time.ports.map fun (p : PtpPort) => { p with syncReceived := 0 } }
    tokens := Tokens.none
    therm := { s.therm with events := 0 }
    rst := { s.rst with count := 0, excursions := 0, releasesDelayed := 0 }
    fixer := { s.fixer with records := [] } }

/-- The working log, its details and the uptime start again (R44, R508, R524). -/
def State.clearLog (s : State) : State :=
  { s with
    log := { s.log with entries := [], newest := 0, overwritten := 0, sticky := false, faultsLogged := 0, details := [] }
    mgmt := { s.mgmt with uptime := 0, fastClock := true } }

/-- What POR adds to SYS; the count of tamper events is kept in battery-backed memory (R465). [DEDUCED, unsafe: log 50] -/
def State.resetPor (s : State) : State :=
  let s := ((s.loseTiers.porPins).clearCounters).clearLog
  let s := { s with dict := s.dict.filter (fun e => e.1 == 0x262102), chan := { s.chan with gens := [] }, sched := { s.sched with ticks := 0 } }
  let s := (s.forgetBytes blotterBase dictBase).beginWipe
  let s := s.withMarch fun m => { m with unavailable := [], remapped := [], failedBanks := 0, failedLines := 0, duration := 0, record := [] }
  let s := { s with mem := { s.mem with cache := [], owned := none, retrained := [] }, arr := { s.arr with upperPowered := false } }
  let s := { s with trace := { s.trace with tc := 0, fifos := [], gaps := [], writeP := 0, readP := 0 } }
  let s := (s.withTime fun t => { t with units := 0 }).withBoot fun b => { b with waitStep := 0 }
  let s := s.withSec fun x => { x with tap := .bypass, boundary := [], dbgStatus := 0, dbgAddress := 0, dbgData := 0 }
  { s with therm := { s.therm with raised := [] } }.withSched fun c => { c with point := 0, inForce := [], peerPoints := [] }

/-! ### A reset (R475, R479) -/

/-- The profile in effect (R477): the fuse row, or the strap where it is unblown. -/
def Part.profile (p : Part) (strap : Profile) : Profile :=
  if p.profileFuse = 1 then .minimal else if p.profileFuse = 2 then .full else strap

/-- A reset of level 1 CORE, 2 SYS, 3 POR or 4 internal POR, with the source bits of its log entry. [DEDUCED, unsafe: log 56] -/
def State.performReset (s : State) (level sources : Nat) (escalated : Bool) : State :=
  let s := if 3 ≤ level then s else s.resetPins
  let s := s.resetCommon
  let s := if 2 ≤ level then s.resetSys else s
  let s := if 3 ≤ level then s.resetPor else if level = 1 then s.drawSession else s
  let s := s.withRst fun r =>
    { r with lastLevel := level, count := if level < 3 then sat32 r.count 1 else 0, recovery := some level }
  let s := if escalated then { s with log := { s.log with escalations := sat32 s.log.escalations 1 } } else s
  s.logAs 0x1100 .note srcHub (level + sources % 2 ^ 8 * 2 ^ 8 + b2n escalated * 2 ^ 16)

end Sys2Proof.Machine
end

