-- ==== Sys2Proof/Machine/Boot.lean ====
section
/-! DEFINITION. Reset sources (R37, R457, R477 to R481, R500 to R502), supply (R486), the start-up sequence (R46 to R52, R394, R482,
Table 20-3), clock failures (R334, R395, R485), and the block resets (R301, R483, R484). -/

namespace Sys2Proof.Machine

/-! ### Sources -/

/-- Source bits of Table 20-2. -/
def srcBrownOut : Nat := 1
def srcPin : Nat := 2
def srcWatchdog : Nat := 3
def srcSoftware : Nat := 4
def srcDebug : Nat := 5
def srcClock : Nat := 6
def srcLockup : Nat := 7

/-- The module has its supply. -/
def State.powered (s : State) : Bool := s.boot.phase != .off

/-- A source is detected (R479). -/
def State.detect (s : State) (b : Nat) : State := s.withRst fun r => { r with cause := setBit r.cause b true }

/-- The source is ignored (R472, R478). [DEDUCED, unsafe: log 58] -/
def State.ignoreSource (s : State) (b : Nat) : State := s.log1 0x1104 srcHub b

/-- At POR the node ID is sampled: 0 is logged, a valid one ends 0x9020 (R35). -/
def State.checkNode (s : State) : State := if s.can.nodeId = 0 then s.logAs 0x9020 .blocked srcHub 0 else s.endCode 0x9020

/-- An internal POR for source `b` (R476, R479). [DEDUCED, unsafe: log 57] -/
def State.internalPor (s : State) (b : Nat) (escalated : Bool) : State :=
  ((s.withRst fun r => { r with cause := 2 ^ b }).performReset 4 (2 ^ b) escalated).checkNode

/-- A source acts during a SYS or POR recovery: an internal POR after the wait of R502. [DEDUCED, unsafe: log 57] -/
def State.escalate (s : State) (b : Nat) : State :=
  let s := s.internalPor b true
  (s.withRst fun r => { r with escalatedRun := r.escalatedRun + 1, waitingSource := b }).withBoot fun x =>
    { x with phase := .escalationWait, waitStart := s.mgmt.uptime }

/-- A source whose bit is set causes a reset of `level`, or escalates (Table 21-3); the reset that ends a halt does not. -/
def State.takeReset (s : State) (b level : Nat) : State :=
  if s.sec.halted then s.performReset level s.rst.cause false
  else match s.rst.recovery with
    | none => s.performReset level s.rst.cause false
    | some 1 => s.performReset 2 s.rst.cause true
    | some _ => s.escalate b

/-- A source that MINIMAL ignores. [DEDUCED, unsafe: log 56] -/
def State.fullSource (s : State) (b level : Nat) : State :=
  let s := s.detect b
  if s.sec.halted || s.rst.profile == .minimal then s.ignoreSource b else s.takeReset b level

/-- PIN_RESET (R478): SYS under either profile. -/
def execPinReset (s : State) : Host.Outcome State Fault Refusal :=
  .next (if s.powered then (s.detect srcPin).takeReset srcPin 2 else s)

/-- WATCHDOG_EXPIRY (R480). [DEDUCED, unsafe: log 58] -/
def execWatchdogExpiry (s : State) : Host.Outcome State Fault Refusal :=
  .next (if s.entry 0x220301 = 0 ∨ s.asleep = true ∨ s.sec.halted = true ∨ s.powered = false then s
    else
      let s := (s.log1 0x1102 srcHub 0).withRst fun r => { r with watchdogCount := 0 }
      s.fullSource srcWatchdog (s.entry 0x220303))

/-- WATCHDOG_REFRESH (R480): 0xA5 restarts the count. -/
def execWatchdogRefresh (req : Nat) (s : State) : Host.Outcome State Fault Refusal :=
  .next (s.writing req 0x220302 0xA5 fun s => (s.withRst fun r => { r with watchdogCount := 0 }).accept)

/-- A write of `ResetRequest` (R481): under MINIMAL, and during a halt, it is logged only. -/
def State.requestReset (s : State) (req level : Nat) : State :=
  if req = 1 ∧ s.sdoOn = false then s
  else if s.sec.halted && s.serving then ((s.detect srcSoftware).ignoreSource srcSoftware).reply (if req = 1 then .sdoAbort else .completerAbort)
  else s.writing req 0x220201 level fun s =>
    if s.rst.profile = .minimal then ((s.detect srcSoftware).ignoreSource srcSoftware).accept
    else ((s.detect srcSoftware).withRst fun r => { r with request := some (level, srcSoftware) }).accept

/-- RESET_REQUEST_CORE (R481). -/
def execResetRequestCore (req : Nat) (s : State) : Host.Outcome State Fault Refusal := .next (s.requestReset req 1)

/-- RESET_REQUEST_SYS (R481). -/
def execResetRequestSys (req : Nat) (s : State) : Host.Outcome State Fault Refusal := .next (s.requestReset req 2)

/-- REQUESTED_RESET_TAKEN (R481). -/
def execRequestedResetTaken (s : State) : Host.Outcome State Fault Refusal :=
  .next (match s.rst.request with
    | none => s
    | some (level, b) =>
      let s := s.withRst fun r => { r with request := none }
      if s.sec.halted then s.ignoreSource b else s.takeReset b level)

/-- DBGACC_RESET_REQUEST (R457): while DBGACC is selected; needs level open; data 1 is CORE, 2 SYS. -/
def execDbgaccResetRequest (data : Nat) (s : State) : Host.Outcome State Fault Refusal :=
  .next (if !s.powered || s.sec.tap != .dbgacc then s
    else if s.sec.halted then (s.detect srcDebug).ignoreSource srcDebug
    else if s.sec.level < 2 then (s.levelRefused 2).withSec fun x => { x with dbgStatus := 2 }
    else if data = 1 ∨ data = 2 then (s.withSec fun x => { x with dbgStatus := 0 }).fullSource srcDebug data
    else s.withSec fun x => { x with dbgStatus := 2 })

/-- The controller acts on an NMT command for this node (R35, R37, R52). -/
def State.nmtFor (s : State) (node : Nat) : Bool := s.can.nodeId != 0 && s.serving && (node == 0 || node == s.can.nodeId)

/-- NMT_RESET_NODE (R37): a software reset request at level SYS. [DEDUCED, unsafe: log 57] -/
def execNmtResetNode (node : Nat) (s : State) : Host.Outcome State Fault Refusal :=
  .next (if s.nmtFor node then s.wakeClock.fullSource srcSoftware 2 else s)

/-- LIFE_CYCLE_SYS_RESET (R448). -/
def execLifeCycleSysReset (s : State) : Host.Outcome State Fault Refusal :=
  .next (if s.sec.resetDue && !s.sec.halted then s.performReset 2 s.rst.cause false else s)

/-- A second fault of severity error or fatal in a commit: a SYS reset (R270, R501). [DEDUCED, unsafe: log 57] -/
def State.escalateCommit (s : State) : State :=
  if s.loader.state = 3 ∧ 2 ≤ s.rst.commitFaults then s.performReset 2 0 true else s

/-! ### Supply (R478, R486) -/

/-- POWER_ON (R479, R482): memories come up without their contents, straps are sampled, and the boot ROM is entered.
[DEDUCED, unsafe: log 56] [DEDUCED, unsafe: log 57] -/
def execPowerOn (straps : Straps) (environment : StartEnvironment) (s : State) : Host.Outcome State Fault Refusal :=
  let sources := 1 + 2 * b2n s.rst.brownOut
  let s := { s with
    mem := { s.mem with bytes := [], onDie := [], cache := [] }
    can := { s.can with nodeId := straps.nodeId % 2 ^ 7 }
    pins := { s.pins with voltage := straps.voltage % 2 ^ 6, filtered := 0 }
    loader := { s.loader with select := straps.select % 2 ^ 4 }
    sec := { s.sec with keyId := 0 }
    guest := { s.guest with cut := false, zeroWritten := false }
    log := { s.log with escalations := 0, lapsed := false, active := [] }
    therm := { s.therm with limitLogged := false, critical := false, reached := [], hotStacks := [] } }
  let s := s.withRst fun r =>
    { r with
      vin := true, brownOut := false, escalatedRun := 0, clockReset := false, env := environment, cause := sources
      profile := s.part.profile (if straps.fullProfile then .full else .minimal) }
  let s := s.withBoot fun b => { b with attemptsSincePowerOn := 0 }
  .next ((s.performReset 3 sources false).checkNode)

/-- VIN is outside 4.5 V to 18 V: the guarantees lapse until the next POR from power-on (R10, R486, R507). -/
def State.lapse (s : State) : State := { s with log := { s.log with lapsed := true } }

/-- BROWN_OUT (R466, R478): an alarm of the always-on domain; the session key is retired; under MINIMAL 0x1101 refuses DDR5 and stops
the array.
[DEDUCED, unsafe: log 57] -/
def execBrownOut (s : State) : Host.Outcome State Fault Refusal :=
  .next (if !s.powered || s.rst.brownOut then s
    else
      let s := (((s.detect srcBrownOut).withRst fun r => { r with brownOut := true }).wakeClock.lapse).retireKey.loseStaged.stopLoader
      if s.rst.profile = .full then s
      else
        let s := s.withRst fun r => { r with ddrRefused := true }
        (s.logAs 0x1101 .blocked srcHub 0).raiseStop 7 hubUnit 0x1101)

/-- BROWN_OUT_RECOVERY (R478): under FULL an internal POR. -/
def execBrownOutRecovery (s : State) : Host.Outcome State Fault Refusal :=
  .next (if !s.powered || !s.rst.brownOut then s
    else
      let s := (s.withRst fun r => { r with brownOut := false }).wakeClock
      if s.rst.profile = .minimal then s
      else if s.rst.recovery.any (fun l => 1 < l) && !s.sec.halted then s.escalate srcBrownOut
      else if s.rst.recovery = some 1 ∧ s.sec.halted = false then s.performReset 2 s.rst.cause true
      else s.internalPor srcBrownOut false)

/-- ALWAYS_ON_LOSS (R486): the always-on domain stops; only VBAT and what is non-volatile keep their contents. -/
def execAlwaysOnLoss (s : State) : Host.Outcome State Fault Refusal :=
  .next (if !s.rst.vin then s
    else
      let s := ((s.lapse.resetCommon).resetSys.resetPor).withRst fun r => { r with vin := false, brownOut := true, recovery := none }
      { s with mem := { s.mem with bytes := [], onDie := [], cache := [] } }.withBoot fun b => { b with phase := .off })

/-! ### Start attempts (R47, R50, R51) -/

/-- Seconds of the k-th wait of R51 and R502. -/
def waitSeconds (k : Nat) : Nat := min 64 (2 ^ k)

/-- The image in the slot being tried. -/
def Boot.image (b : Boot) : Option FwSlot := if b.slot = 0 then b.slotA else b.slotB

/-- A failed attempt: logged with its fault, and the boot ROM waits. [DEDUCED, unsafe: log 58] -/
def State.attemptFails (s : State) (code : Nat) : State :=
  (s.logAs code .self srcBoot 0).withBoot fun b => { b with phase := .retryWait, waitStart := s.mgmt.uptime }

/-- START_ATTEMPT (R51): the boot ROM loads the slot, checks it, and enters the firmware. -/
def execStartAttempt (signatureOk : Bool) (s : State) : Host.Outcome State Fault Refusal :=
  .next (if s.boot.phase ≠ .attempt then s
    else
      let s := s.withBoot fun b =>
        { b with attempts := b.attempts + 1, attemptsSincePowerOn := sat32 b.attemptsSincePowerOn 1 }
      let s := s.logAs 0x9005 .note srcBoot (s.boot.slot + s.boot.attempts % 2 ^ 31 * 2)
      match s.boot.image with
      | none => s.attemptFails 0x9001
      | some f =>
        if !signatureOk then s.attemptFails 0x9001
        else if f.security < s.boot.rollback then s.attemptFails 0x9002
        else s.withBoot fun b => { b with phase := .entered, enteredAt := s.mgmt.uptime })

/-- START_RETRY_WAIT_EXPIRY (R51): the other slot is tried. -/
def execStartRetryWaitExpiry (s : State) : Host.Outcome State Fault Refusal :=
  .next (if s.boot.phase = .retryWait then
      s.withBoot fun b => { b with phase := .attempt, slot := 1 - b.slot, waitStep := b.waitStep + 1 }
    else s)

/-- FIRMWARE_START_TIMEOUT (R50). -/
def execFirmwareStartTimeout (s : State) : Host.Outcome State Fault Refusal :=
  .next (if s.boot.phase = .entered then s.attemptFails 0x9004 else s)

/-- MGMT_WATCHDOG_EXPIRY (R50): within 10 s of entry the attempt counts as failed. [DEDUCED, unsafe: log 58] -/
def execMgmtWatchdogExpiry (s : State) : Host.Outcome State Fault Refusal :=
  .next (if (s.boot.phase = .entered ∨ s.serving = true) ∧ s.mgmt.uptime ≤ s.boot.enteredAt + 10000000000 then s.attemptFails 0x9004
    else s)

/-- ESCALATION_WAIT_EXPIRY (R502): stage 1 begins. -/
def execEscalationWaitExpiry (s : State) : Host.Outcome State Fault Refusal :=
  .next (if s.boot.phase = .escalationWait then s.withBoot fun b => { b with phase := .attempt } else s)

/-! ### Stages 4 to 10 (Table 20-3) -/

/-- A rights table from its bytes. -/
def tableOfBytes (bs : List Byte) : List Nat := (List.range 16).map fun i => ofBytes ((bs.drop (16 * i)).take 16)

/-- Every entry takes its saved value where it has one (R28, R413). -/
def State.loadEntries (s : State) : State :=
  let s := (s.mgmt.saved.getD []).foldl (fun s e => s.putEntry e.1 e.2) s
  s.withSec fun x => { x with tables := s.mgmt.savedDomains.map fun d => (d.1 / 256 - 0x2640, tableOfBytes d.2) }

/-- What the start reports from battery-backed memory (R451, R465). -/
def State.reportBattery (s : State) : State :=
  let s := if s.sec.batteryLost then s.logAs 0x7311 .note srcHub 0 else s
  let s := if s.sec.tamperRecorded then s.logAs 0x7310 .halt srcHub (2 ^ 31) else s
  s.withSec fun x => { x with batteryLost := false, tamperRecorded := false, rightsLock := x.lifeCycle == .deploy }

/-- The CAN layer starts with the CAN settings (R36). [DESIGN CHOICE, unsafe: log 88] -/
def State.startCan (s : State) : State :=
  let s := { s with can := { s.can with
    nmt := .preOperational, rate := s.entry 0x2F5001, fd := s.entry 0x2F5002 == 1, dataRate := s.entry 0x2F5003, sdo := none, held := [], syncs := 0 } }
  s.send .bootUp

/-- The chassis reference lies within ±50 ppm of the oscillator. -/
def chassisOk (e : StartEnvironment) : Bool := e.chassis.any fun p => decide (p.natAbs ≤ 50000)

/-- Stage 5 (R394): the chassis reference where the entry and its tolerance allow it, else the oscillator. -/
def State.chooseReference (s : State) : State :=
  let want := s.entry 0x230101
  let ok := chassisOk s.rst.env
  let chassis := ok && want != 2 && !(want == 0 && s.rst.clockReset)
  let s := if want = 1 ∧ ok = false then s.logAs 0x2203 .note srcHub 0 else s
  let s := s.withRst fun r => { r with clockReset := false, failedLoops := [] }
  s.withTime fun t =>
    { t with refInUse := if chassis then 1 else 2, refOffset := s.rst.env.chassis.getD 0 }

/-- A staging area of `n` GiB leaves 1 GiB of data regions in `gib` GiB (R265): whole GiB above the control regions, and one more. -/
def stagingFits (gib n : Nat) : Bool :=
  decide (1 ≤ n ∧ (n * 9 * 2 ^ 27 + 292 * 2 ^ 20 + (2 ^ 30 - 1)) / 2 ^ 30 + 1 ≤ gib)

/-- The largest staging area of at most `n` GiB that fits; 0 for none. -/
def stagingSize (gib : Nat) : Nat → Nat
  | 0 => 0
  | n + 1 => if stagingFits gib (n + 1) then n + 1 else stagingSize gib n

/-- The control regions are placed (R265, R468). -/
def State.placeControl (s : State) : State :=
  if !s.ddrPresent then s.putEntry stagingKey 0
  else
    let want := s.entry 0x240501
    let n := stagingSize s.part.ddrGiB want
    let s := s.putEntry stagingKey n
    if n = want then s
    else if n = 0 then ((s.logAs 0x3201 .image srcHub 0).withRst fun r => { r with ddrRefused := true })
    else s.logAs 0x3212 .note srcHub n

/-- Stage 7 (R341, R342): a die that is not admitted is logged. -/
def State.readRoms (s : State) : State := match s.unadmitted with
  | some d => s.logAs 0x6301 .blocked srcHub (d * 2 ^ 8 + (s.romOf d).stepping)
  | none => s.endCodeClass 0x6301 .blocked

/-- The outputs of the settings just loaded: time base, guest supply, step-clock point, input functions, pattern units. -/
def State.applySettings (s : State) : State :=
  let s := if s.ptpOn then s.timeState 1 else s
  let s := s.supplyGuest
  let s := s.settleDemands.configureAll
  (List.range 8).foldl State.restartPattern s

/-- Stage 10 (R194, R476, R500): the recovery ends, and after POR the module enters the mode of `ModeAtStart`.
[DEDUCED, unsafe: log 58] -/
def State.finishRecovery (s : State) : State :=
  let por := s.rst.recovery.any fun l => decide (3 ≤ l)
  let s := (s.withBoot fun b => { b with phase := .ready }).withRst fun r => { r with recovery := none, escalatedRun := 0 }
  let s := s.endFaults fun a => a.cls == .reset
  if por && s.entry 0x210003 == 0 then s.enterSleep .dormant else s

/-- Stages 4 to 8: entries take their saved values, and the hub starts with them. [DEDUCED, unsafe: log 59] -/
def State.startStages (s : State) : State :=
  let s := ((s.loadEntries.reportBattery).startCan).chooseReference
  (((s.readRoms.trainBundles s.rst.env.failing).drawSession).placeControl).applySettings

/-- Stage 9: after POR the march of `MarchAtStart` runs, where it names one (R160). [DEDUCED, unsafe: log 59] -/
def State.marchOrFinish (s : State) : State :=
  let kind := s.entry 0x2E4001
  if s.rst.recovery.any (fun l => decide (3 ≤ l)) && kind != 0 then
    (s.withMarch fun m => { m with status := 1, kind := kind, atStart := true }).withBoot fun b => { b with phase := .starting }
  else s.finishRecovery

/-- The attempt succeeds (R49, R51): its slot becomes preferred, the waits start again, and the rollback counter rises to its
security version, up to 63. [DEDUCED, unsafe: log 58] -/
def State.startSucceeds (s : State) : State :=
  let v := (s.boot.image.map FwSlot.security).getD 0
  let s := s.withBoot fun b => { b with preferred := b.slot, waitStep := 0, rollback := max b.rollback (min v 63) }
  if 63 < v then s.logAs 0x9003 .note srcFirmware 0 else s

/-- A start outside a recovery, after a controller watchdog expiry: every entry takes its default or saved value (R28), and the CAN
layer and the outputs take the settings. [DEDUCED, unsafe: log 59] -/
def State.restartEntries (s : State) : State := ((s.resetEntries.loadEntries).startCan).applySettings

/-- FIRMWARE_START_COMPLETE (R50, R482): in a recovery the stages after it follow. -/
def execFirmwareStartComplete (s : State) : Host.Outcome State Fault Refusal :=
  .next (if s.boot.phase ≠ .entered then s
    else
      let s := s.startSucceeds
      if s.rst.recovery.isNone then (s.withBoot fun b => { b with phase := .ready }).restartEntries
      else ((s.withBoot fun b => { b with phase := .starting }).startStages).marchOrFinish)

/-- MARCH_COMPLETE (R158, R160, R164). [DEDUCED, unsafe: log 46] -/
def execMarchComplete (result : MarchResult) (s : State) : Host.Outcome State Fault Refusal :=
  .next (if s.mem.march.status ≠ 1 then s
    else
      let start := s.mem.march.atStart
      let s := s.marchEnds result
      if start then (s.withMarch fun m => { m with atStart := false }).finishRecovery else s)

end Sys2Proof.Machine
end

