-- ==== Sys2Proof/Machine/Clocks.lean ====
section
/-! DEFINITION. Clock failures (R334, R395, R485), core lock-up (R301) and block resets (R483, R484, Table 20-4). -/

namespace Sys2Proof.Machine

/-! ### Core lock-up (R301) -/

/-- Argument of 0x4140: bit 8 is bit 63 of `mcause`, bits 7-0 its code (Table 21-9). -/
def lockupArg (mcause : Nat) : Nat := b2n (bit mcause 63) * 2 ^ 8 + bits mcause 0 8

/-- The `CoreRelease` bit of a core clears. [DEDUCED, unsafe: log 59] -/
def State.clearRelease (s : State) (c : Nat) : State := s.putEntry 0x2C1103 (setBit (s.entry 0x2C1103) c false)

/-- Code under which a core that locked up is held: Table 20-4 has none above 0x0301. [DEDUCED, unsafe: log 59] -/
def lockupCode (c : Nat) : Nat := 0x1000 + c

/-- CORE_LOCKUP (R301, R478): under FULL the core is reset as a block; under MINIMAL it stays halted. -/
def execCoreLockup (core mepc mcause : Nat) (s : State) : Host.Outcome State Fault Refusal :=
  .next (if (s.cores[core]?).all fun x => x.state != .running then s
    else
      let s := s.withCore core fun x => { x with state := .lockedUp, mepc := mepc % 2 ^ 64, mcause := mcause % 2 ^ 64 }
      let s := (s.logDetail 0x4140 .reset (srcCore core) (lockupArg mcause) (mepc % 2 ^ 64) (mcause % 2 ^ 64)).detect srcLockup
      if s.rst.profile = .minimal ∨ s.sec.halted = true then s.ignoreSource srcLockup
      else ((s.holdCore core).clearRelease core).withRst fun r => { r with blockHeld := r.blockHeld ++ [lockupCode core] })

/-! ### Clock failures -/

/-- Numbers that name a failed clock in the argument of 0x1103: die and loop; 9 the reference, 10 the oscillator.
[DEDUCED, unsafe: log 59] -/
def clockNumbers : ClockSource → List Nat
  | .loop d l => [d, l]
  | .reference => [9, 0]
  | .oscillator => [10, 0]

/-- Source byte of a clock's faults. -/
def clockUnit : ClockSource → Nat
  | .loop d _ => unitSource (min d hubUnit)
  | _ => srcHub

/-- The clock exists and runs: loops and the reference only while the module is awake. -/
def State.clockRuns (s : State) : ClockSource → Bool
  | .loop d l => s.powered && !s.asleep && decide (l < 5 ∧ (d < s.dies ∨ d = 8))
  | .reference => s.powered && !s.asleep
  | .oscillator => s.powered

/-- The fault of a clock that fails: a loop, or the chassis reference. -/
def State.logClock (s : State) (c : ClockSource) : State := match c with
  | .loop _ _ => s.logAs 0x2201 .reset (clockUnit c) (Config.packArg 0x2201 (clockNumbers c))
  | .reference => s.logAs 0x2202 .reset srcHub 0
  | .oscillator => s

/-- Engines of the tiles of die `d` are held, or run again. -/
def State.holdEngines (s : State) (d : Nat) (h : Bool) : State := s.withFabric fun f =>
  { f with engines := f.engines.map fun (e : BridgeEngine) =>
      if e.binding.any fun b => b.die == d then { e with held := h } else e }

/-- The hold of a fabric loop of an E-die: its word cells and its bridge engines. -/
def State.holdFabric (s : State) (d : Nat) : State :=
  let tiles := (List.range 64).map fun t => d * 64 + t
  (s.withFabric fun f => tiles.foldl Fabric.resetTile f).holdEngines d true

/-- Under MINIMAL a failed clock holds what it feeds (R485). [DEDUCED, unsafe: log 58] -/
def State.holdClock (s : State) (c : ClockSource) : State :=
  let s := s.logAs 0x1103 .reset (clockUnit c) (Config.packArg 0x1103 (clockNumbers c))
  let s := s.withRst fun r => { r with failedLoops := if r.failedLoops.contains c then r.failedLoops else r.failedLoops ++ [c] }
  if holdsDies c then (s.resetDesign).setMode .service
  else match c with
    | .loop d 3 => s.holdFabric d
    | _ => s

/-- A clock failure (R478, R485): under FULL a SYS reset, after which automatic mode takes the oscillator.
[DEDUCED, unsafe: log 59] -/
def State.clockFails (s : State) (c : ClockSource) : State :=
  let s := (s.logClock c).detect srcClock
  if s.sec.halted then s.ignoreSource srcClock
  else if s.rst.profile = .full then
    (s.withRst fun r => { r with clockReset := true, env := if c = .reference then { r.env with chassis := none } else r.env }).takeReset
      srcClock 2
  else s.holdClock c

/-- DIE_PLL_UNLOCK (R334). -/
def execDiePllUnlock (die loop : Nat) (s : State) : Host.Outcome State Fault Refusal :=
  .next (if s.clockRuns (.loop die loop) then s.clockFails (.loop die loop) else s)

/-- REFERENCE_LOST (R395): while the chassis reference is in use. -/
def execReferenceLost (s : State) : Host.Outcome State Fault Refusal :=
  .next (if s.clockRuns .reference && s.time.refInUse == 1 then s.clockFails .reference else s)

/-- CLOCK_FAILURE (R485). -/
def execClockFailure (source : ClockSource) (s : State) : Host.Outcome State Fault Refusal :=
  .next (if s.clockRuns source then s.clockFails source else s)

/-! ### Block resets -/

def blockKey : Nat := 0x220401
def portModeKey (p : Nat) : Nat := keyOf (0x2330 + p) 1

/-- Lanes of a bridge engine are brought up again. [DEDUCED, unsafe: log 59] -/
def State.retrainEngine (s : State) (e : Nat) : State :=
  match (s.fabric.engines[e]?).bind BridgeEngine.binding with
  | some b => (List.range s.lanes.length).foldl (fun s l => if s.bridgeOfLane l = some b then s.trainLane l else s) s
  | none => s

/-- A block leaves reset; the reset of a core that locked up ends its fault. -/
def State.releaseBlock (s : State) (code : Nat) : State :=
  if 0x1000 ≤ code then s.endFaults fun a => a.code == 0x4140 && a.source == srcCore (code - 0x1000)
  else
    let s := s.withRst fun r => { r with blockStatus := 2 }
    if 0x100 ≤ code ∧ code < 0x108 then
      let e := code - 0x100
      let s := s.withFabric fun f =>
        { f with engines := (f.engines.zip (List.range f.engines.length)).map fun x =>
            if x.2 = e then { x.1 with held := false } else x.1 }
      s.retrainEngine e
    else s

/-- LOOP_LOCKED_AGAIN (R485): what the clock held is released; the faults of the failure end. [DEDUCED, unsafe: log 59] -/
def execLoopLockedAgain (source : ClockSource) (s : State) : Host.Outcome State Fault Refusal :=
  .next (if !s.rst.failedLoops.contains source then s
    else
      let s := s.withRst fun r => { r with failedLoops := r.failedLoops.filter fun c => c != source }
      let s := s.endFaults fun a =>
        (a.code == 0x1103 && a.source == clockUnit source && !s.rst.failedLoops.any fun c => clockUnit c == clockUnit source)
          || (a.code == 0x2202 && source == .reference)
          || (a.code == 0x2201 && a.source == clockUnit source && !s.rst.failedLoops.any fun c => clockUnit c == clockUnit source)
      let s := match source with
        | .loop d 3 => s.holdEngines d false
        | _ => s
      let waiting := s.rst.blockWaiting
      waiting.foldl State.releaseBlock (s.withRst fun r => { r with blockWaiting := [] }))

/-- BLOCK_RESET_RELEASE (R483, R484): 1 µs has passed; a block whose clock is not stable waits, and the wait is counted.
[DEDUCED, unsafe: log 59] -/
def execBlockResetRelease (clockStable : Bool) (s : State) : Host.Outcome State Fault Refusal :=
  .next (match s.rst.blockHeld with
    | code :: rest =>
      if clockStable then (s.withRst fun r => { r with blockHeld := rest }).releaseBlock code
      else s.withRst fun r =>
        { r with blockHeld := rest, blockWaiting := r.blockWaiting ++ [code], releasesDelayed := sat32 r.releasesDelayed 1 }
    | [] => match s.rst.blockWaiting with
      | code :: rest =>
        if clockStable then (s.withRst fun r => { r with blockWaiting := rest }).releaseBlock code else s
      | [] => s)

/-- A write of a block's code (R483): refused while one is in progress or with a code outside Table 20-4; not idle, 0x1105. -/
def State.blockReset (s : State) (req code : Nat) (valid idle : Bool) (effect : State → State) : State :=
  s.writing req blockKey code fun s =>
    if s.rst.blockStatus = 1 ∨ valid = false then s.refuse req blockKey 0x9011
    else if !idle then s.refuseArg req 0x1105 code
    else (effect (s.withRst fun r => { r with blockHeld := r.blockHeld ++ [code], blockStatus := 1 })).accept

/-- `CoreState` reads 2, 3, 4 or 5. -/
def State.coreIdle (s : State) (c : Nat) : Bool :=
  (s.cores[c]?).any fun x => [CoreRun.blocked, .wfi, .debugHalt, .lockedUp].contains x.state

/-- BLOCK_RESET_CORE (R483). -/
def execBlockResetCore (req core : Nat) (s : State) : Host.Outcome State Fault Refusal :=
  .next (s.blockReset req core (decide (core < 32)) (s.coreIdle core) fun s => (s.holdCore core).clearRelease core)

/-- The engine is outside RUN with both FIFOs empty. -/
def State.engineIdle (s : State) (e : Nat) : Bool :=
  s.run.mode != .run && (s.fabric.engines[e]?).any fun x => x.tx.isEmpty && x.rx.isEmpty

/-- BLOCK_RESET_BRIDGE_ENGINE (R483). -/
def execBlockResetBridgeEngine (req engine : Nat) (s : State) : Host.Outcome State Fault Refusal :=
  .next (s.blockReset req (0x100 + engine) (decide (engine < 8)) (s.engineIdle engine) fun s => s.withFabric fun f =>
    { f with engines := (f.engines.zip (List.range f.engines.length)).map fun x =>
        if x.2 = engine then { BridgeEngine.idle with binding := x.1.binding, held := true, sent := x.1.sent, beats := x.1.beats } else x.1 })

/-- Every `SamplerStatus` reads 0 or 3. -/
def State.triggerIdle (s : State) : Bool := (List.range 4).all fun k => s.samplerStatus k == 0 || s.samplerStatus k == 3

/-- Units disabled, outputs released, samplers idle. -/
def State.resetTriggerEngine (s : State) : State :=
  let s := (List.range 16).foldl (fun s u => s.putEntry (unitKey u 2) 0) s
  let s := s.releaseOutputs
  { s with trig := { s.trig with
      units := s.trig.units.map fun _ => TrigUnit.fresh, samplers := s.trig.samplers.map fun _ => Sampler.fresh } }

/-- BLOCK_RESET_TRIGGER_ENGINE (R483). -/
def execBlockResetTriggerEngine (req : Nat) (s : State) : Host.Outcome State Fault Refusal :=
  .next (s.blockReset req 0x200 true s.triggerIdle State.resetTriggerEngine)

/-- An Ethernet port starts again. -/
def State.resetPort (s : State) (p : Nat) : State := s.withTime fun t =>
  { t with ports := (t.ports.zip (List.range t.ports.length)).map fun x =>
      if x.2 = p then { x.1 with master := none, pathDelay := 0, linkUp := false, initializing := false } else x.1 }

/-- A port leaves a block reset: INITIALIZING (Table 20-4). -/
def State.initPort (s : State) (p : Nat) : State := s.resetPort p |>.setPtpPort p { (s.resetPort p).ptpPort p with initializing := true }

/-- BLOCK_RESET_ETHERNET_PORT (R483): idle while `PortMode` reads 0. -/
def execBlockResetEthernetPort (req port : Nat) (s : State) : Host.Outcome State Fault Refusal :=
  .next (s.blockReset req (0x300 + port) (decide (port < 2)) (s.entry (portModeKey port) == 0) fun s => s.initPort port)

end Sys2Proof.Machine
end

