-- ==== Sys2Proof/Machine/Thermal.lean ====
section
/-! DEFINITION. Sensors, thermal demands and input power (R41, R153, R489 to R493, R507). -/

namespace Sys2Proof.Machine

def State.withTherm (s : State) (f : Thermal → Thermal) : State := { s with therm := f s.therm }

/-! ### Readings (Table 2-3): entry j of `temps` is 0x2F10:(j + 1), entry j of `supply` 0x2F11:(j + 1) -/

/-- Codes of a sensor that is not fitted, and of one that fails its self-check. -/
def noSensor : Nat := 0x8000
def badSensor : Nat := 0x8001

/-- What temperature sensor `j` measures is fitted. -/
def State.sensorFitted (s : State) (j : Nat) : Bool :=
  if j < 24 then decide (j % 8 < s.dies)
  else if j = 24 then true
  else if j < 29 then decide (j - 25 < s.part.grade.stacks)
  else s.part.guest

/-- The 30 temperatures that a sample gives. -/
def State.readTemps (s : State) (l : List Nat) : List Nat :=
  (List.range 30).map fun j => if s.sensorFitted j then l.getD j noSensor % 2 ^ 16 else noSensor

/-- Source byte of a temperature sensor (Table 2-4). -/
def sensorSource (j : Nat) : Nat :=
  if j < 24 then srcDie (j % 8) else if j = 24 then srcHub else if j < 29 then srcStack (j - 25) else srcGuest

/-- Sensors, of `n`, that read 0x8001 now and did not before. -/
def newlyBad (n : Nat) (before now : List Nat) : List Nat :=
  (List.range n).filter fun j => now.getD j 0 == badSensor && before.getD j 0 != badSensor

/-- Sensors that have begun to fail their self-check are logged (R41): temperatures with the source of what they measure and their
sub-index of 0x2F10, supply sensors with source 0x02 and their index and sub-index. [DEDUCED, unsafe: log 53] -/
def State.logSensors (s : State) (temps supply : List Nat) : State :=
  let s := (newlyBad 30 temps s.therm.temps).foldl (fun s j => (s.log1 0x9030 (sensorSource j) (j + 1)).wakeClock) s
  (newlyBad 4 supply s.therm.supply).foldl (fun s j => (s.log1 0x9030 srcHub (keyOf 0x2F11 (j + 1))).wakeClock) s

/-! ### Governing temperatures (R490) -/

/-- 124 °C, and the limits of R492, R493 and R153, in 0.0625 °C. -/
def criticalTemp : Int := 1984
def limitTemp : Int := 2000
def stackCritical : Int := 1680
def stackHot : Int := 1520
def coldLimit : Int := -880

/-- A temperature; a failed sensor counts as at `CriticalThreshold`. -/
def State.temp (s : State) (j : Nat) : Int :=
  if s.therm.temps.getD j noSensor = badSensor then criticalTemp else signed 16 (s.therm.temps.getD j noSensor)

/-- Elements of the fitted dies, coded 3d + 0 die, + 1 lower tier, + 2 upper tier while it is powered (R490, R491). -/
def State.elements (s : State) : List Nat :=
  (List.range (3 * s.dies)).filter fun e => e % 3 != 2 || s.arr.upperPowered

/-- Governing temperature of an element. -/
def State.governing (s : State) (e : Nat) : Int :=
  let d := e / 3
  if e % 3 = 0 then s.temp d
  else if e % 3 = 1 then max (s.temp (8 + d)) (s.temp d)
  else max (s.temp (16 + d)) (s.temp (8 + d))

/-! ### Demands (R491) -/

/-- `ThrottleThreshold`p and `ThrottleHysteresis`. -/
def State.threshold (s : State) (p : Nat) : Int := signed 16 (s.entry (keyOf 0x2210 p))
def State.hysteresis (s : State) : Int := signed 16 (s.entry 0x221004)

/-- Element `e` demands point `p` after this update. -/
def State.demandsPoint (s : State) (e p : Nat) : Bool :=
  decide (s.threshold p ≤ s.governing e) ||
    (s.therm.raised.contains (e, p) && decide (s.threshold p - s.hysteresis ≤ s.governing e))

/-- Every demand after this update. -/
def State.newDemands (s : State) : List (Nat × Nat) :=
  s.elements.flatMap fun e => ([1, 2, 3].filter fun p => s.demandsPoint e p).map fun p => (e, p)

/-- `ThermalPoint`. -/
def Thermal.point (t : Thermal) : Nat := (t.raised.map Prod.snd).foldl max 0

/-- `ThermalSource`: the first element that holds the highest demand; 0xFF with none. -/
def Thermal.source (t : Thermal) : Nat :=
  if t.point = 0 then 0xFF else ((t.raised.find? fun x => x.2 == t.point).map Prod.fst).getD 0xFF

/-- Tell the step clock of the demands that have changed (R123). -/
def State.tellDemands (s : State) (before : List (Nat × Nat)) : State :=
  if s.demands = before then s else s.demandChanged (s.demands.filter fun d => !before.contains d)

/-- The demands of an update; a rise of `ThermalPoint` is logged and counted. -/
def State.updateDemands (s : State) : State :=
  let old := s.therm
  let before := s.demands
  let raised := s.newDemands
  let s := s.withTherm fun t => { t with raised := raised }
  let s := s.tellDemands before
  if old.point < s.therm.point then
    (s.log1 0x1201 srcHub 0).withTherm fun t => { t with events := sat32 t.events 1 }
  else s

/-! ### Critical temperatures (R492, R493) -/

/-- Elements at their critical limit: tiers and dies, the hub (24) and the HBM stacks (25 + k). -/
def State.criticalElements (s : State) : List Nat :=
  (s.elements.filter fun e => decide (criticalTemp ≤ s.governing e)) ++
    (if criticalTemp ≤ s.temp 24 then [24] else []) ++
    ((List.range s.part.grade.stacks).filter fun k => decide (stackCritical ≤ s.temp (25 + k))).map fun k => 25 + k

/-- An element has reached its limit: 0x1202, and a stop from outside the array. [DEDUCED, unsafe: log 53] -/
def State.reachCritical (s : State) (e : Nat) : State :=
  let unit := if e < 24 then e / 3 else hubUnit
  (s.logAs 0x1202 .blocked (if e < 24 then srcDie (e / 3) else srcHub) e).wakeClock.raiseStop 7 unit 0x1202

/-- Runs are refused until every governing temperature is below `ThrottleThreshold3`. -/
def State.updateCritical (s : State) : State :=
  let now := s.criticalElements
  let s := (now.filter fun e => !s.therm.reached.contains e).foldl State.reachCritical s
  let cool := now.isEmpty && s.elements.all fun e => decide (s.governing e < s.threshold 3)
  let critical := !now.isEmpty || (s.therm.critical && !cool)
  let s := s.withTherm fun t => { t with reached := now, critical := critical }
  if critical then s else s.endCode 0x1202

/-- A junction above 125 °C, logged once; guarantees lapse (R492, R507). [DEDUCED, unsafe: log 53] -/
def State.updateLimit (s : State) : State :=
  if s.elements.any (fun e => decide (limitTemp < s.governing e)) || decide (limitTemp < s.temp 24) then
    let s := { s with log := { s.log with lapsed := true } }
    if s.therm.limitLogged then s else (s.log1 0x1203 srcHub 0).withTherm fun t => { t with limitLogged := true }
  else s

/-! ### Commands -/

/-- VIN outside 4.5 V to 18 V: guarantees lapse (R507). [DEDUCED, unsafe: log 53] -/
def State.updateSupply (s : State) : State :=
  if s.therm.supply.getD 0 badSensor < 4500 then { s with log := { s.log with lapsed := true } } else s

/-- A fitted junction, of a die or the hub, is below −55 °C, or VIN is above 18 V: the spec gives no behaviour there (R507).
[DESIGN CHOICE, safe: log 54] -/
def State.outsideSpec (s : State) (temps supply : List Nat) : Bool :=
  decide (supply.getD 0 badSensor ≠ badSensor ∧ 18000 < supply.getD 0 badSensor) ||
    (List.range s.dies ++ [24]).any fun j =>
      temps.getD j noSensor != noSensor && temps.getD j noSensor != badSensor && decide (signed 16 (temps.getD j noSensor) < coldLimit)

/-- The values of an update, and what follows from them; no thermal element has a supply in STANDBY and DORMANT. -/
def State.updateSensors (s : State) (temps supply : List Nat) : State :=
  let before := s.therm
  let hot (t : List Nat) : List Nat := (List.range s.part.grade.stacks).filter fun k =>
    t.getD (25 + k) noSensor != noSensor && decide (stackHot < signed 16 (t.getD (25 + k) noSensor))
  let s := s.withTherm fun t => { t with temps := temps, supply := supply, hotStacks := hot temps }
  let s := (s.logSensors before.temps before.supply).updateSupply
  if s.asleep then s else ((s.updateDemands).updateCritical).updateLimit

/-- SENSOR_UPDATE (R41, R491 to R493). [DESIGN CHOICE, safe: log 54] -/
def execSensorUpdate (sample : SensorSample) (s : State) : Host.Outcome State Fault Refusal :=
  let temps := s.readTemps sample.temps
  let supply := (List.range 5).map fun j => sample.supply.getD j 0 % 2 ^ 16
  if s.outsideSpec temps supply then .fault .outsideSpecification
  else .next (s.updateSensors temps supply)

/-- An average above `PowerCeiling`: counted; logged with the average once per run command; in RUN a stop (R489). -/
def State.overCeiling (s : State) (deciwatts : Nat) : State :=
  let s := { s with rst := { s.rst with excursions := sat32 s.rst.excursions 1 } }
  if s.rst.powerLogged then s
  else
    let s := { s with rst := { s.rst with powerLogged := true } }
    (s.logAs 0x1301 .stop srcHub deciwatts).raiseStop 7 hubUnit 0x1301

/-- POWER_AVERAGE_INTERVAL (R489). [DEDUCED, unsafe: log 53] -/
def execPowerAverageInterval (deciwatts : Nat) (s : State) : Host.Outcome State Fault Refusal :=
  .next (if s.entry 0x220101 < deciwatts then s.overCeiling deciwatts else s)

end Sys2Proof.Machine
end

