-- ==== Sys2Proof/Machine/Status.lean ====
section
/-! DEFINITION. What the entries of access const and ro read (the tables of entries of chapters 02 to 21): values that the state holds
elsewhere than in the dictionary. -/

namespace Sys2Proof.Machine

/-- A row of values: the first key and the value of each sub-index that follows it. -/
def row (key : Nat) (vs : List Nat) : List (Nat × Nat) := (vs.zip (List.range vs.length)).map fun x => (key + x.2, x.1)

/-- Low and high words of a 64-bit value. -/
def lowHigh (v : Nat) : List Nat := [v % 2 ^ 32, v / 2 ^ 32 % 2 ^ 32]

/-- Seconds high, seconds low, nanoseconds and fraction of a stamp. -/
def Stamp.words (t : Stamp) : List Nat := [t.seconds / 2 ^ 32 % 2 ^ 16, t.seconds % 2 ^ 32, t.ns, t.fraction]

/-- A term of the committed image; 0 with no image. -/
def State.ofImage (s : State) (f : Image → Nat) : Nat := (s.image.map f).getD 0

/-! ### Chapters 02 and 08 -/

/-- `RunState` (R199): 2 while stopped for room, 1 while frozen in a stall, else 0. [DESIGN CHOICE, unsafe: log 83] -/
def State.runState (s : State) : Nat :=
  if s.run.mode ≠ .run then 0
  else match s.arr.sched.run with
    | .stoppedForRoom => 2
    | _ => if s.arr.sched.frozen then 1 else 0

/-- Seconds until the boot ROM's next attempt (R52). -/
def State.nextAttempt (s : State) : Nat :=
  let passed := (s.mgmt.uptime - s.boot.waitStart) / 1000000000
  match s.boot.phase with
  | .retryWait => waitSeconds s.boot.waitStep - passed
  | .escalationWait => waitSeconds (s.rst.escalatedRun - 1) - passed
  | _ => 0

/-- Identity and management (R39, R42, R44, R49, R52). [DESIGN CHOICE, unsafe: log 87] -/
def State.statusManagement (s : State) : List (Nat × Nat) :=
  [(0x100000, match s.part.grade with
      | .e8 => 0x00080000
      | .e4 => 0x00040000
      | .e2 => 0x00020000),
   (0x100100, errorRegister s.log.active)] ++
  row 0x101801 [0x00000D3B, 0x00090000 + s.part.grade.code, s.part.hubRevision, s.part.hubSerial] ++
  row 0x2F0001 [s.boot.slot, s.firmwareVersion, b2n s.mgmt.fastClock, s.mgmt.uptime / 1000000000 % 2 ^ 32, s.boot.attemptsSincePowerOn] ++
  row 0x2F1001 s.therm.temps ++ row 0x2F1101 s.therm.supply ++
  row 0x2F2001 [s.log.newest % 2 ^ 32, s.log.overwritten, s.log.select] ++ row 0x2F2004 (s.log.wordsOf s.log.select) ++
  [(0x2F2008, b2n s.log.sticky), (0x2F2301, s.log.persistentOverwritten), (0x2F3004, s.boot.status), (0x2F3201, s.boot.rollback)] ++
  row 0x2F4001 [s.boot.attempts % 2 ^ 32, s.boot.slot, s.nextAttempt]

/-- Run control (R132, R210 to R216). -/
def State.statusRun (s : State) : List (Nat × Nat) :=
  let x := s.sheets.getD (s.entry 0x212003) Sheet.empty
  let kept := x.full || x.reserved
  row 0x210001 [s.run.mode.code, s.runState] ++
  [(0x210004, b2n s.run.valid), (0x210102, s.run.status), (0x210201, s.run.stopCause), (0x210202, s.run.stopFault),
   (0x210404, b2n s.run.runAt.isSome), (0x212005, if kept then x.address else 0), (0x212006, if kept then x.length else 0)] ++
  row 0x211801 ((List.range 8).map fun k => bits s.arr.syncMask (32 * k) 32) ++
  [(0x213001, s.arr.sched.cycle % 2 ^ 32), (0x213002, s.arr.sched.cycleHigh), (0x213006, s.L), (0x213007, s.lead)] ++
  row 0x214001 (lowHigh s.run.latchedCycle ++ s.run.latchedStart.words ++ [b2n s.run.latchedStart.global]) ++
  [(0x214103, setBit (s.entry 0x214103) 0 s.run.markArmed)] ++ row 0x214104 (s.run.markTime.words ++ [b2n s.run.markDone]) ++
  [(0x231001, s.arr.sched.point), (0x231004, s.pointDemand), (0x2D0101, s.travelVersion)] ++
  row 0x2D0301 [if s.inDomain then s.ofImage Image.domainSize else 0, s.ofImage Image.domainIndex, s.lambdaMax]

/-! ### Chapters 20 and 16 -/

/-- `PowerDomainState` (R487): a domain that Table 20-6 does not call off in the mode is powered, in retention and self-refresh too.
[DEDUCED, unsafe: log 62] -/
def State.powerDomains (s : State) : Nat :=
  let awake := !s.asleep
  let upper := decide (2048 < s.L)
  let die (k : Nat) : Bool := decide (k < s.dies)
  let stack (k : Nat) : Bool := decide (k < s.part.grade.stacks)
  ofBits 32 fun b =>
    if b = 0 then true
    else if b = 1 then awake
    else if b < 10 then awake && die (b - 2)
    else if b < 18 then s.run.mode != .dormant && die (b - 10)
    else if b < 26 then s.run.mode != .dormant && upper && die (b - 18)
    else if b < 30 then stack (b - 26)
    else if b = 30 then s.ddrPresent
    else awake && decide (2 ≤ s.guest.state ∧ s.guest.state < 5)

/-- Reset, power and thermal control (R494). -/
def State.statusReset (s : State) : List (Nat × Nat) :=
  row 0x220001 [s.rst.cause, s.rst.lastLevel, if s.rst.profile = .full then 1 else 0, s.rst.count] ++
  [(0x220102, s.ofImage Image.budget), (0x220402, s.rst.blockStatus), (0x220403, s.rst.releasesDelayed)] ++
  row 0x220501 [s.powerDomains, s.rst.excursions] ++ row 0x221101 [s.therm.point, s.therm.source, s.therm.events] ++
  row 0x222001 [s.tokens.overdraws, s.ofImage Image.tokensPerCycle, s.tokens.drawnLast, s.tokens.withheldLast]

/-- Time (R410). -/
def State.statusTime (s : State) : List (Nat × Nat) :=
  let t := s.time
  row 0x230001 [t.seconds % 2 ^ 32, t.latchedSecondsHigh, t.latchedNs, t.latchedFraction, t.state, t.sourcePort, unsigned 32 t.rate,
    unsigned 32 (saturate (t.offset.tdiv 1000)), t.stepCount] ++
  row 0x230102 [t.refInUse, unsigned 32 (saturate t.refOffset)] ++
  row 0x232001 ((List.range 16).map s.fabric.fclkKHz) ++
  ((List.range 2).flatMap fun p =>
    let x := s.ptpPort p
    row (keyOf (0x2330 + p) 7) [s.ptpPortState p, x.pathDelay] ++ row (keyOf (0x2330 + p) 10) [b2n x.linkUp, x.syncReceived]) ++
  ((List.range 8).map fun g => (pulseKey g 8, (s.pulse g).state))

/-! ### Chapters 07, 10 and 11 -/

/-- Frames and KiB of the stream being taken. -/
def State.streamCounts (s : State) : Nat × Nat × Nat := match s.loader.stream with
  | some x => (x.port, x.staged / 1024 % 2 ^ 32, x.taken % 2 ^ 32)
  | none => (0, 0, 0)

/-- The loader and the committed image (R191, R279). -/
def State.statusLoader (s : State) : List (Nat × Nat) :=
  let c := s.streamCounts
  row 0x240001 ([s.loader.state, c.1, s.loader.fault, c.2.1, c.2.2] ++ lowHigh s.loader.offset) ++
  [(0x240102, s.loader.select), (0x240206, s.loader.dmaStatus), (0x240701, s.loader.chain.length),
   (0x240702, b2n s.loader.retained.isSome)] ++
  row 0x241001 [s.ofImage Image.grade, s.ofImage Image.feature, s.ofImage Image.compiler] ++
  [(0x241005, s.ofImage Image.travelTable)] ++
  row 0x241101 ((List.range 16).map fun k => s.ofImage fun i => i.latency.getD k 0) ++
  row 0x241201 ((List.range 10).map fun k => ((List.range s.dies).map fun d => s.nativeLatency d k).foldl max 0) ++
  row 0x241301 [s.ofImage Image.bindingAddress, s.ofImage Image.bindingLength] ++ [(0x241401, s.moduleFeature)] ++
  row 0x241501 [s.ofImage Image.hbmBase, s.ofImage Image.deepBase] ++
  [(0x250003, s.fixerState), (0x250103, s.groupsPerPass), (0x250108, s.fixer.failed.length)]

/-! ### Chapters 19, 17, 18 and 09 -/

/-- Security (R474). -/
def State.statusSecurity (s : State) : List (Nat × Nat) :=
  [(0x260001, s.sec.lifeCycle.code), (0x260201, s.sec.authStatus), (0x260401, s.sec.level), (0x260402, s.sec.lifeCycle.ceiling),
   (0x261001, s.keySlotState), (0x262201, s.sec.haltCause), (0x263001, b2n s.sec.rightsLock), (0x2E3001, s.sec.keyId)] ++
  row 0x261301 ((List.range 6).map fun k => s.digestState (k + 1))

/-- Pins (R430). -/
def State.statusPins (s : State) : List (Nat × Nat) :=
  let banks (i : Nat) (f : Nat → Bool) := row (keyOf i 1) ((List.range 6).map fun b => bankBits b f)
  row 0x270001 ((List.range 6).map fun b => if bit s.pins.voltage b then 3300 else 1800) ++
  [(0x270007, s.pins.fusedPull), (0x270301, s.mgmtInputs)] ++
  banks 0x2732 s.pinLevel ++ banks 0x2734 s.isHeld ++ banks 0x2736 s.isSafe ++
  (List.range 8).map fun u => (patternKey u 5, s.pins.patterns.getD u 0)

/-- Lanes and bridge engines (R250, R446). -/
def State.statusLanes (s : State) : List (Nat × Nat) :=
  ((List.range 32).flatMap fun n =>
    let x := s.lanes.getD n Lane.unfitted
    row (keyOf (0x2810 + n) 1) [x.state, s.laneUse n, x.rate] ++
    row (keyOf (0x2810 + n) 6) [b2n x.blockLock, x.headerErrors, if x.state = 4 then x.native else 0, x.blockErrors, x.fecCorrected,
      x.losses]) ++
  (List.range 8).flatMap fun e => row (bridgeKey e 1) [(s.engine e).tx.length, (s.engine e).rx.length]

/-! ### Chapters 14, 15 and 12 -/

/-- Trigger and acquisition (R371); trace (R384, R385, R391). -/
def State.statusTrigger (s : State) : List (Nat × Nat) :=
  row 0x290001 [s.bandwidthFree, s.lineState] ++
  ((List.range 4).flatMap fun k =>
    [(samplerKey k 23, (s.sampler k).writePointer), (samplerKey k 25, s.samplerStatus k), (samplerKey k 26, (s.sampler k).k),
     (samplerKey k 27, (s.sampler k).sequence)]) ++
  ((List.range 16).map fun u => (unitKey u 11, s.unitStatus u)) ++
  [(0x2A0003, s.trace.writeP), (0x2A0004, s.trace.readP), (0x2A0007, s.trace.unread), (0x2B0004, if s.part.grade = .e8 then 1 else 0)]

/-- `CoreState` codes. -/
def CoreRun.code : CoreRun → Nat
  | .reset => 0
  | .running => 1
  | .blocked => 2
  | .wfi => 3
  | .debugHalt => 4
  | .lockedUp => 5

/-- The channel that the requester's `ChannelSelect` names (Table 12-12); all 0 for none. -/
def State.statusChannel (s : State) (req : Nat) : List (Nat × Nat) :=
  match s.lookup (Sparse.get (fun _ => 0) s.chan.selects req) with
  | .inl _ => []
  | .inr (_, c) =>
    row 0x400101 ([if c.declared then 2 else 1, c.type, c.depth, c.bytes] ++ [c.buffer % 2 ^ 32, c.buffer / 2 ^ 32] ++
      [c.free, c.reserved, c.occupied, c.inFlight, c.posted, c.freed, b2n (c.posted == max32 || c.freed == max32), c.waiters.length,
       match c.port with
       | some p => p / 128 * 2 ^ 13 + p / 2 % 64 * 2 ^ 7 + p % 2 * 2 ^ 6
       | none => max32])

/-- Scheduler, cores and channels (R322). -/
def State.statusCores (s : State) (req : Nat) : List (Nat × Nat) :=
  row 0x2C0001 [threadCount - s.threadsIn 0, s.chan.live.length, s.chan.declared.length] ++
  [(0x2C0102, s.sched.ticks % 2 ^ 32), (0x400001, Sparse.get (fun _ => 0) s.chan.selects req)] ++
  row 0x2C1001 (s.cores.map fun c => c.state.code) ++ row 0x2C1201 (s.cores.map fun c => c.thread.getD 0xFFFF) ++ s.statusChannel req

/-! ### Chapters 13, 06, 09 and 21 -/

/-- Bits of `DiePllLock` (R334): a loop of a die is locked unless it, or the reference, has failed; none while the die has no supply. -/
def State.pllLock (s : State) (d : Nat) : Nat :=
  if s.asleep then 0 else ofBits 5 fun l => !s.loopHeld d l

/-- Per die (R166, R191, R250, R341). -/
def State.statusDie (s : State) (d : Nat) : List (Nat × Nat) :=
  let base := 0x3000 + d * 0x100
  let mine (b : Nat) : Bool := b / 1536 == d
  let rom := s.rom d
  row (keyOf (base + 1) 1) ([rom.stepping, rom.feature] ++ lowHigh rom.serial) ++
  [(keyOf (base + 2) 1, s.pllLock d)] ++
  row (keyOf (base + 0x24) 1)
    [1536 - (s.mem.march.unavailable.filter mine).length, (s.mem.march.remapped.filter fun r => mine r.1).length % 2 ^ 16] ++
  row (keyOf (base + 0x26) 1) ((List.range 10).map fun k => s.nativeLatency d k) ++
  row (keyOf (base + 0x27) 1) ((List.range 10).map fun k => s.fabric.delays.getD (d * 10 + k) 0) ++
  [(keyOf (base + 0x30) 1, s.fabric.clockedCells d), (keyOf (base + 0x30) 3, s.fabric.dieStage d)]

/-- Rings, bundles and the guest (R351); march (R166). -/
def State.statusRings (s : State) : List (Nat × Nat) :=
  let mask (p : Nat → Bool) := ofBits 8 fun d => decide (d < s.dies) && p d
  row 0x200101 [mask fun _ => true, mask fun d => (s.rom d).admitted false] ++
  ((List.range 16).flatMap fun b =>
    let x := s.bundle b
    row (keyOf (0x2D10 + b) 1) ([x.state, x.sparesUsed, x.repaired, x.lost] ++ lowHigh (x.firstCycle.getD 0))) ++
  [(0x380001, b2n s.part.guest), (0x380002, s.guest.state), (0x380004, s.guest.linkRate), (0x380005, s.guestLimit), (0x380006, s.guest.power)] ++
  row 0x2E4102 [s.mem.march.status, s.mem.march.failedBanks, s.mem.march.failedLines, s.mem.march.duration]

/-- Faults, audit and conservation (R504, R505, R508). -/
def State.statusFaults (s : State) : List (Nat × Nat) :=
  [(0x500001, min s.log.active.length 0xFFFF), (0x500003, s.log.faultsLogged), (0x500301, s.log.escalations)] ++
  row 0x510002 [s.log.auditStatus, s.log.auditResult, s.log.auditUnchecked] ++
  ((List.range 8).flatMap fun d =>
    row (keyOf (0x5110 + d) 1)
      [s.queueCount d 0, s.queueCount d 1, s.queueCount d 2, s.queueResident d, b2n (s.queueSticky d)]) ++
  row 0x512001 [s.rings.granted, s.rings.returned, s.creditsOutstanding,
    b2n (decide (max64 ≤ s.rings.granted ∨ max64 ≤ s.rings.returned))] ++
  row 0x513001 ((List.range 6).map s.threadsIn)

/-- The values that an index range reads. -/
def State.statusOf (s : State) (req i : Nat) : List (Nat × Nat) :=
  if i < 0x2000 ∨ 0x2F00 ≤ i ∧ i < 0x3000 then s.statusManagement
  else if i = 0x2001 ∨ i = 0x2D10 ∨ (0x2D10 ≤ i ∧ i < 0x2D20) ∨ i = 0x2E41 ∨ (0x3800 ≤ i ∧ i < 0x4000) then s.statusRings
  else if i < 0x2200 ∨ i = 0x2310 ∨ (0x2D00 ≤ i ∧ i < 0x2D04) then s.statusRun
  else if i < 0x2300 then s.statusReset
  else if i < 0x2400 then s.statusTime
  else if i < 0x2600 then s.statusLoader
  else if i < 0x2700 ∨ i = 0x2E30 then s.statusSecurity
  else if i < 0x2800 then s.statusPins
  else if i < 0x2900 then s.statusLanes
  else if i < 0x2C00 then s.statusTrigger
  else if i < 0x2D00 ∨ (0x4000 ≤ i ∧ i < 0x5000) then s.statusCores req
  else if 0x3000 ≤ i ∧ i < 0x3800 then s.statusDie ((i - 0x3000) / 256)
  else if 0x5000 ≤ i then s.statusFaults
  else []

/-- The number that an entry of at most 64 bits reads for a requester: sub-index 0x00 of an array reads its number of sub-indices; an
entry of access wo reads 0 (R25). -/
def State.readNumber (s : State) (req key : Nat) : Nat := match s.entryRow key with
  | none => if key % 256 = 0 then subCount (key / 256) else 0
  | some e =>
    if e.access = .wo then 0
    else match (s.statusOf req (key / 256)).find? fun v => v.1 == key with
      | some v => v.2 % 2 ^ e.type.width
      | none => s.entry key % 2 ^ e.type.width

/-! ### Domains and strings -/

/-- The sixteen entries of a rights table. -/
def State.rightsBytes (s : State) (r : Nat) : List Byte :=
  (List.range 16).flatMap fun i => toBytes 16 ((s.rights r).getD i 0)

/-- Bases and sizes of the control regions and their tags (R468). -/
def State.controlMap (s : State) : List Nat :=
  if s.controlEnd = ddrStart then []
  else
    let mib := 2 ^ 20
    let sizes := [s.entry stagingKey * 2 ^ 30, 64 * mib, 128 * mib, mib / 16, mib, 64 * mib]
    let up (x : Nat) := (x + mib - 1) / mib * mib
    (sizes.foldl (fun (t : Nat × List Nat) n => (t.1 + up n + up (n / 8), t.2 ++ [t.1, n])) (ddrStart, [])).2

/-- `BankMap` of a die (R166). -/
def State.bankMap (s : State) (d : Nat) : List Byte :=
  toBytes 192 (ofBits 1536 fun b => !s.mem.march.unavailable.contains (d * 1536 + b))

/-- `n` bytes whose content is open. [DESIGN CHOICE, safe: log 39] -/
def openBytes (n key : Nat) (l : List Nat) : List Byte := toBytes n (ofBytes (Config.packBytes key l))

/-- The bytes of a string or domain entry. -/
def State.readBytesOf (s : State) (key : Nat) : List Byte :=
  let i := key / 256
  if i = 0x2121 then (s.sheets.getD (s.entry 0x212003) Sheet.empty).header
  else if i = 0x2406 then toBytes 64 (s.ofImage Image.digest)
  else if i = 0x2410 then (match s.image with
    | some x => x.imageId
    | none => toBytes 16 0)
  else if i = 0x2502 then s.fixer.records.flatMap (toBytes 16)
  else if i = 0x2603 then toBytes 32 s.sec.nonce
  else if i = 0x2623 then openBytes 2592 0x2623 [s.sec.identitySeed.getD 0]
  else if i = 0x2625 then (if s.sec.report.isEmpty then [] else s.sec.report ++ openBytes 4627 0x2625 [s.sec.identitySeed.getD 0, Config.sha3 s.sec.report])
  else if i = 0x2626 then Config.packBytes 0x2626 [s.part.hubSerial]
  else if 0x2640 ≤ i ∧ i < 0x2670 then s.rightsBytes (i - 0x2640)
  else if i = 0x2E32 then Config.packBytes 0x2E32 s.controlMap
  else if i = 0x2E42 then Config.packBytes 0x2E42 (s.mem.march.record.flatMap fun r => [r.1, r.2])
  else if i = 0x2F21 then logBytes s.log.entries
  else if i = 0x2F22 then logBytes s.log.persistent
  else if 0x3000 ≤ i ∧ i < 0x3800 then s.bankMap ((i - 0x3000) / 256)
  else if i = 0x3801 then s.guest.descriptor
  else if i = 0x5001 then activeBytes s.log.active
  else if i = 0x5002 then faultCatalogueBytes
  else if i = 0x5004 then detailBytes s.log.details
  else []

/-- The entry holds a number of at most 64 bits. -/
def EntryType.isNumber (t : EntryType) : Bool := t.width != 0

/-- The bytes that a transfer of an entry carries. -/
def State.entryBytes (s : State) (req key : Nat) : List Byte := match s.entryRow key with
  | some e => if e.type.isNumber then toBytes ((e.type.width + 7) / 8) (s.readNumber req key)
    else if e.access = .wo then [] else s.readBytesOf key
  | none => toBytes 1 (s.readNumber req key)

end Sys2Proof.Machine
end

