-- ==== Sys2Proof/Machine/Management.lean ====
section
/-! DEFINITION. Parameter storage (R28), the log read window (R45), firmware update (R46 to R48), and the heartbeat (R37). -/

namespace Sys2Proof.Machine

/-! ### Parameter storage -/

def storeKey : Nat := 0x101001
def restoreKey : Nat := 0x101101
def storeSignature : Nat := 0x65766173
def restoreSignature : Nat := 0x64616F6C

/-- The settings of persistent entries: an unlisted one has its default, saved or not. [DEDUCED, unsafe: log 60] -/
def State.persistentValues (s : State) : List (Nat × Nat) := s.dict.filter fun e => (entryOf e.1).any fun r => r.persistent

/-- A table as the bytes of its domain. -/
def tableBytes (es : List Nat) : List Byte := es.flatMap (toBytes 16)

/-- Every persistent entry is saved for the next start. -/
def State.store (s : State) : State := { s with mgmt := { s.mgmt with
  saved := some s.persistentValues, savedDomains := s.sec.tables.map fun t => ((0x2640 + t.1) * 256, tableBytes t.2) } }

/-- The saved values are discarded for the next start. -/
def State.discardSaved (s : State) : State := { s with mgmt := { s.mgmt with saved := none, savedDomains := [] } }

/-- STORE_PARAMETERS (R28). -/
def execStoreParameters (req : Nat) (s : State) : Host.Outcome State Fault Refusal :=
  .next (s.writing req storeKey storeSignature fun s => s.store.accept)

/-- RESTORE_DEFAULTS (R28). -/
def execRestoreDefaults (req : Nat) (s : State) : Host.Outcome State Fault Refusal :=
  .next (s.writing req restoreKey restoreSignature fun s => s.discardSaved.accept)

/-! ### Log read window -/

def logSelectKey : Nat := 0x2F2003

/-- LOG_READ_SELECT (R45): 0x2F20:04 to 07 show the entry of this number for as long as it has not been overwritten. -/
def execLogReadSelect (req seq : Nat) (s : State) : Host.Outcome State Fault Refusal :=
  .next (s.writingValue req logSelectKey seq fun v s =>
    { s with log := { s.log with select := v } }.accept)

/-! ### Firmware update -/

def firmwareKey : Nat := 0x2F3003

/-- Replace the inactive slot. -/
def Boot.setInactive (b : Boot) (f : Option FwSlot) : Boot := if b.slot = 0 then { b with slotB := f } else { b with slotA := f }

/-- An event of the update is logged (R43). [DEDUCED, unsafe: log 60] -/
def State.firmwareEvent (s : State) : State := s.logEvent Config.firmwareEventCode srcFirmware (1 - s.boot.slot) .information

/-- A check fails: its fault, status failed, and the inactive slot marked empty. -/
def State.firmwareFails (s : State) (code : Nat) : State :=
  (s.logAs code .refused srcFirmware 0).withBoot fun b => { b.setInactive none with writing := none, status := 3 }

/-- The checks of R47, in their order; an image that passes is written to the inactive slot, which is erased first. -/
def State.checkFirmware (s : State) (f : FirmwareImage) (c : FirmwareChecks) : State :=
  if !c.digestOk || !c.signatureOk then s.firmwareFails 0x9001
  else if f.security < s.boot.rollback then s.firmwareFails 0x9002
  else s.withBoot fun b => { b.setInactive none with writing := some ⟨f.version, f.security, f.length, f.digest⟩, status := 1 }

/-- A firmware command (R46): in LOADED, HOLD and SERVICE, and not while one is busy. [DEDUCED, unsafe: log 60] -/
def State.firmwareCommand (s : State) (req value : Nat) (k : State → State) : State :=
  s.writing req firmwareKey value fun s =>
    if !s.modeIn quietModes || s.boot.status == 1 then s.refuse req firmwareKey 0x9011 else (k s.firmwareEvent).accept

/-- FIRMWARE_CHECK_AND_WRITE (R46, R47). -/
def execFirmwareCheckAndWrite (req : Nat) (image : FirmwareImage) (checks : FirmwareChecks) (s : State) :
    Host.Outcome State Fault Refusal :=
  .next (s.firmwareCommand req 1 fun s => s.checkFirmware image checks)

/-- FIRMWARE_WRITE_COMPLETE (R47). -/
def execFirmwareWriteComplete (readBackOk : Bool) (s : State) : Host.Outcome State Fault Refusal :=
  .next (match s.boot.writing with
    | none => s
    | some f =>
      if readBackOk then (s.withBoot fun b => { b.setInactive (some f) with writing := none, status := 2 }).firmwareEvent
      else s.firmwareFails 0x9040)

/-- FIRMWARE_ACTIVATE (R48): the inactive slot becomes preferred. [DEDUCED, unsafe: log 60] -/
def execFirmwareActivate (req : Nat) (s : State) : Host.Outcome State Fault Refusal :=
  .next (s.firmwareCommand req 2 fun s => s.withBoot fun b => { b with preferred := 1 - b.slot, status := 2 })

/-! ### Heartbeat -/

/-- HEARTBEAT (R37, Table 2-2): a period of 0 sends none. -/
def execHeartbeat (s : State) : Host.Outcome State Fault Refusal :=
  .next (if s.entry 0x101700 = 0 then s else s.send (.heartbeat s.can.nmt))

end Sys2Proof.Machine
end

