-- ==== Sys2Proof/Machine/Dictionary.lean ====
section
/-! DEFINITION. Writes to the object dictionary whatever path they take (R24 to R34): the rules of the settings, the entries whose
write is a command of its own, and the write through the mirror (DICTIONARY_WRITE). -/

namespace Sys2Proof.Machine

/-- The state that a command leaves. [DEDUCED, unsafe: log 32] -/
def after (o : State → Host.Outcome State Fault Refusal) (s : State) : State := match o s with
  | .next t => t
  | _ => s

/-! ### Settings -/

/-- Reserved bits of a setting are not stored: what of a written value an entry keeps (R8). -/
def keptBits (key v : Nat) : Nat :=
  let i := key / 256
  let j := key % 256
  if 0x2740 ≤ i ∧ i < 0x2748 ∧ j = 1 then v % 2 ^ 4
  else if 0x2940 ≤ i ∧ i < 0x2950 ∧ j = 2 then v % 2 ^ 4
  else if 0x2910 ≤ i ∧ i < 0x2914 ∧ j = 2 then v &&& 0xF3
  else if i = 0x2A01 then v % 2 ^ 5
  else if i = 0x2A02 then v &&& 0xFF03
  else if i = 0x2A03 then v % 2 ^ 4
  else if i = 0x2A04 then v - v % 2 ^ 13
  else if 0x2A08 ≤ i ∧ i < 0x2A10 ∧ (j = 2 ∨ j = 4) then v % 2 ^ 12
  else if key = 0x2C1102 then v % 2 ^ 12
  else v

/-- A PDO mapping names a mirrored entry with its width in bits (Table 2-2); 0 names none. [DEDUCED, unsafe: log 61] -/
def mappingOk (v : Nat) : Bool := v == 0 || (entryOf (v / 256)).any fun e => e.type.mirrored && v % 256 == e.type.width

/-- Units that a counter's filter may name (Table 15-7). -/
def State.filterUnits (s : State) (event : Nat) : Nat :=
  if event = 1 ∨ event = 2 then s.part.grade.stops.length
  else if event = 3 ∨ event = 4 then s.part.grade.stacks
  else if event = 5 ∨ event = 6 then 4
  else if 9 ≤ event ∧ event ≤ 11 then s.dies
  else 0x10000

/-- The thresholds rise strictly with `v` as threshold `p` (Table 20-9). -/
def State.thresholdsRise (s : State) (p v : Nat) : Bool :=
  let t (k : Nat) : Nat := if k = p then v else s.entry (keyOf 0x2210 k)
  decide (t 1 < t 2 ∧ t 2 < t 3)

/-- A value that the rule of a setting accepts, beyond the range of its row. [DEDUCED, unsafe: log 61] -/
def State.settingOk (s : State) (key v : Nat) : Bool :=
  let i := key / 256
  let j := key % 256
  if key = 0x220101 then decide (500 ≤ v ∧ v ≤ s.part.grade.maxPower ∧ s.ofImage Image.budget ≤ v) && !s.loading
  else if key = 0x220301 then decide (v = 0 ∨ (10 ≤ v ∧ v ≤ 600000))
  else if i = 0x2210 ∧ j ≤ 3 then s.thresholdsRise j v
  else if key = 0x230203 then decide (v < s.entry 0x230204)
  else if key = 0x230204 then decide (s.entry 0x230203 < v)
  else if 0x2340 ≤ i ∧ i < 0x2348 ∧ j < 7 then !(s.pulse (i - 0x2340)).busy
  else if i = 0x2720 ∨ i = 0x2721 then decide (v < 96 ∨ v = 255)
  else if 0x2740 ≤ i ∧ i < 0x2748 then
    (if j = 1 then decide (bits v 1 3 ≤ 5) else if j = 2 then decide (v ≠ 0) else if j = 4 then decide (v = 0) else true)
  else if 0x2910 ≤ i ∧ i < 0x2914 then !s.acquisitionFrozen key && (!decide (4 ≤ j ∧ j ≤ 11) || s.selectOk v) && (j != 2 || bits v 0 2 != 3)
  else if 0x2940 ≤ i ∧ i < 0x2950 then !s.acquisitionFrozen key && (j != 1 || s.selectOk v)
  else if i = 0x2980 then outSelectOk v
  else if key = 0x2A0002 then !s.tracing
  else if i = 0x2A04 then decide (bits v 28 3 < s.dies)
  else if 0x2B10 ≤ i ∧ i < 0x2B20 ∧ j = 2 then decide (v = 0xFFFF ∨ v < s.filterUnits (s.entry (keyOf i 1)))
  else if key = 0x2C0101 then decide (100 ≤ v ∧ v ≤ 10000000)
  else if 0x3000 ≤ i ∧ i < 0x3800 ∧ i % 256 = 0x22 then decide (v < 12 ∨ (0x100 ≤ v ∧ v < 0x1100))
  else if ((0x1600 ≤ i ∧ i < 0x1604) ∨ (0x1A00 ≤ i ∧ i < 0x1A04)) ∧ j ≠ 0 then mappingOk v
  else true

/-- What follows a setting that has taken its value `v` in place of `old`. [DEDUCED, unsafe: log 61] -/
def State.settingDone (s : State) (key old v : Nat) : State :=
  let i := key / 256
  let j := key % 256
  if key = 0x231002 then s.demandChanged (if old < v then [(0, v)] else [])
  else if key = 0x230201 then s.ptpChanged
  else if key = 0x250002 then s.controlWritten 1
  else if key = 0x250004 then s.controlWritten 2
  else if i = 0x2330 ∨ i = 0x2331 then
    if j = 1 then (if v = 0 ∨ old = 0 then s.resetPort (i - 0x2330) else s).chooseSource else if j = 9 then s.chooseSource else s
  else if 0x2740 ≤ i ∧ i < 0x2748 then
    if j ≤ 3 then s.restartPattern (i - 0x2740) else if j = 4 then s.putEntry (keyOf i 6) 0 else s
  else if 0x2940 ≤ i ∧ i < 0x2950 then s.restartUnit (i - 0x2940)
  else s

/-- A setting is stored; those that choose or drive a pin's output move its pad (R424). -/
def State.storeSetting (s : State) (key v : Nat) : State :=
  let i := key / 256
  let old := s.entry key
  let t := if i = 0x2720 ∨ i = 0x2721 ∨ i = 0x2730 ∨ i = 0x2731 then s.repin fun s => s.putEntry key v else s.putEntry key v
  t.settingDone key old v

/-- Entries in which a write of 1 to a bit clears it (R390, R392, R479). [DEDUCED, unsafe: log 61] -/
def clearsOnOne (key : Nat) : Bool := key == 0x220001 || key == 0x2B0002 || key / 256 == 0x2B01

/-- A write of the bits `v` to clear. -/
def State.clearBits (s : State) (key v : Nat) : State :=
  if key = 0x220001 then s.withRst fun r => { r with cause := r.cause - (r.cause &&& v) }
  else s.putEntry key (s.entry key - (s.entry key &&& v))

/-- A write of `v` to a setting. [DEDUCED, unsafe: log 61] -/
def State.writeSetting (s : State) (req key v : Nat) : State :=
  s.writingValue req key v fun v s =>
    if key = 0x400001 then { s with chan := { s.chan with selects := Sparse.set (fun _ => 0) s.chan.selects req v } }.accept
    else if clearsOnOne key then (s.clearBits key v).accept
    else if s.settingOk key v then (s.storeSetting key (keptBits key v)).accept
    else s.refuse req key 0x9011

/-! ### Entries whose write is a command -/

/-- A value that a command entry does not list (R26). -/
def State.badCommand (s : State) (req key v : Nat) : State := s.writing req key v fun s => s.refuse req key 0x9011

/-- An unlisted value of `SheetCommand`: refused ahead of the debug level (R523). -/
def State.badSheetCommand (s : State) (req v : Nat) : State :=
  s.reaching req sheetKey true fun s =>
    if s.mustWait req sheetKey then s.holdWrite req sheetKey v else s.refuse req sheetKey 0x9011

/-- The commands of Table 8-2, by value. [DESIGN CHOICE, safe: log 63] -/
def State.runCommands (s : State) (req : Nat) : List (State → Host.Outcome State Fault Refusal) :=
  [execRun req, execRunAt req, execStep req, execHold req s.outsideStep.2, execPark req, execService req, execLeave req, execStandby req,
   execDormant req, execWake req, execCancel req]

/-- The commands of Table 8-5, by value; the digest of a body is checked against its header. -/
def State.sheetCommands (s : State) (req : Nat) : List (State → Host.Outcome State Fault Refusal) :=
  [execSave req, execRestore req none, execDiscard req, execAdopt req]

/-- The firmware image that 0x2F30:01 and 0x2F30:02 name. -/
def State.stagedFirmware (s : State) : FirmwareImage × FirmwareChecks :=
  let bs := s.readBytes (s.entry 0x2F3001) (s.entry 0x2F3002)
  let f := Config.firmwareField bs
  (⟨f 0, f 1, f 2, f 3⟩, ⟨Config.verdict 0x2F30 bs, Config.verdict 0x2F31 bs⟩)

/-- The command that a write of `v` to a block-reset code, or to another command entry of a list, names. -/
def blockCommand (req v : Nat) : Option (State → Host.Outcome State Fault Refusal) :=
  if v < 32 then some (execBlockResetCore req v)
  else if 0x100 ≤ v ∧ v < 0x108 then some (execBlockResetBridgeEngine req (v - 0x100))
  else if v = 0x200 then some (execBlockResetTriggerEngine req)
  else if 0x300 ≤ v ∧ v < 0x302 then some (execBlockResetEthernetPort req (v - 0x300))
  else none

/-- The member of a list of commands that a value, counted from 1, names. -/
def listed (l : List (State → Host.Outcome State Fault Refusal)) (v : Nat) : Option (State → Host.Outcome State Fault Refusal) :=
  if v = 0 then none else l[v - 1]?

/-- The command of a value that stands alone. -/
def only (x v : Nat) (c : State → Host.Outcome State Fault Refusal) : Option (State → Host.Outcome State Fault Refusal) :=
  if v = x then some c else none

/-- What a write to an entry is: a setting, a command, or a value that the command entry does not list. -/
inductive WriteKind where
  | setting
  | command (c : State → Host.Outcome State Fault Refusal)
  | unlisted

def WriteKind.of : Option (State → Host.Outcome State Fault Refusal) → WriteKind
  | some c => .command c
  | none => .unlisted

/-- Commands of the indices below 0x2700. -/
def State.commandsLow (s : State) (req key v : Nat) : WriteKind :=
  let i := key / 256
  let g := i - 0x2340
  if key = storeKey then .of (only storeSignature v (execStoreParameters req))
  else if key = restoreKey then .of (only restoreSignature v (execRestoreDefaults req))
  else if key = 0x210101 then .of (listed (s.runCommands req) v)
  else if key = 0x212001 then (match listed (s.sheetCommands req) v with
    | some c => .command c
    | none => .command fun s => .next (s.badSheetCommand req v))
  else if key = 0x214103 then .command (execMarkControlWrite req v)
  else if key = 0x220201 then .of (listed [execResetRequestCore req, execResetRequestSys req] v)
  else if key = 0x220302 then .of (only 0xA5 v (execWatchdogRefresh req))
  else if key = 0x220401 then .of (blockCommand req v)
  else if key = 0x230304 then .of (only 1 v (execSetTimeCommand req))
  else if 0x2340 ≤ i ∧ i < 0x2348 ∧ key % 256 = 7 then .command (if v % 2 = 1 then execPulseArm req g v else execPulseStop req g v)
  else if key = 0x240205 then .command (execDmaCommand req v)
  else if key = 0x240301 then .of (only 1 v (execLoadAbort req))
  else if key = 0x250001 then .command (execFixerEnableWrite req v)
  else if key = 0x260401 then .command (execDebugLevelLower req v)
  else if key = 0x263001 ∧ v % 2 = 1 then .command (execRightsLockWrite req)
  else if key = 0x263001 then .command fun s => .next (s.writing req key v State.accept)
  else .setting

/-- Commands of the indices 0x2700 to 0x2BFF. -/
def State.commandsMiddle (s : State) (req key v : Nat) : WriteKind :=
  let i := key / 256
  let j := key % 256
  if 0x2710 ≤ i ∧ i < 0x2716 then .command (execPinConfigWrite req ((i - 0x2710) * 16 + (j - 1)) v)
  else if i = 0x2733 then .command (execPinRelease req (j - 1) v)
  else if i = 0x2735 then .of (only 1 v (execSafeCommand req))
  else if i = 0x2750 then .command (execProbeSelectWrite req (j - 1) v)
  else if i = 0x2760 then .of (only 0 v (execEdgeCountClear req (j - 1)))
  else if 0x2810 ≤ i ∧ i < 0x2830 ∧ j = 4 then .of (listed [execLaneBringUp req (i - 0x2810), execLaneDarkCommand req (i - 0x2810)] v)
  else if 0x2810 ≤ i ∧ i < 0x2830 ∧ j = 5 then
    .of (only 1 v (execLaneBitSlip req (i - 0x2810) (Config.packArg 0x2810 [i - 0x2810, s.free])))
  else if 0x2910 ≤ i ∧ i < 0x2914 ∧ j = 0x18 then
    .of (listed [execSamplerArm req (i - 0x2910), execSamplerDisarm req (i - 0x2910), execSamplerForceTrigger req (i - 0x2910)] v)
  else if 0x2910 ≤ i ∧ i < 0x2914 ∧ j = 0x16 then .command (execStreamReadPointerWrite req (i - 0x2910) v)
  else if key = 0x2A0001 then .command (execTraceEnableWrite req v)
  else if key = 0x2A0004 then .command (execBlotterReadPointerWrite req v)
  else .setting

/-- Commands of the indices from 0x2C00 on. -/
def State.commandsHigh (s : State) (req key v : Nat) : WriteKind :=
  let i := key / 256
  let j := key % 256
  let f := s.stagedFirmware
  if key = 0x2C0501 then .command (execHostEvent req v)
  else if key = 0x2C1103 then .command (execCoreReleaseWrite req v)
  else if key = 0x2D0501 then .of (only 1 v (execBundleRetrain req))
  else if key = 0x2E4101 then
    .of (listed [execMarchDestructiveOnDie req, execMarchDestructiveAll req, execMarchPreservingOnDie req, execMarchPreservingAll req] v)
  else if key = logSelectKey then .command (execLogReadSelect req v)
  else if key = firmwareKey then .of (listed [execFirmwareCheckAndWrite req f.1 f.2, execFirmwareActivate req] v)
  else if 0x3000 ≤ i ∧ i < 0x3800 ∧ i % 256 = 0x23 then .of (only 1 v (execRemoteCacheFlush req ((i - 0x3000) / 256)))
  else if key = 0x380003 then .command (execGuestPowerEnableWrite req v)
  else if 0x3810 ≤ i ∧ i < 0x3818 then .command (execGuestWindowWrite req (i - 0x3810) j v)
  else if key = 0x400201 then .of (only 1 v (execChannelDestroy req))
  else if key = 0x500002 then .of (only 1 v (execFaultAcknowledge req))
  else if key = 0x510001 then .of (only 1 v (execAuditCommand req))
  else .setting

/-- What a write of `v` to an entry is. [DESIGN CHOICE, safe: log 63] -/
def State.writeKind (s : State) (req key v : Nat) : WriteKind :=
  if key < 0x270000 then s.commandsLow req key v else if key < 0x2C0000 then s.commandsMiddle req key v else s.commandsHigh req key v

/-- What an entry takes of a written number: the bits of its type (R32). -/
def narrowed (key v : Nat) : Nat := match entryOf key with
  | some e => v % 2 ^ e.type.width
  | none => v

/-- A write of the number `v` to the entry `key`, by whatever path (R26). [DESIGN CHOICE, safe: log 63] -/
def State.writeEntry (s : State) (req key v : Nat) : State :=
  if s.countEntry key then s.reaching req key true fun s => s.refuse req key 0x9011
  else match s.writeKind req key (narrowed key v) with
    | .setting => s.writeSetting req key v
    | .command c => after c s
    | .unlisted => s.badCommand req key v

/-! ### Domains -/

/-- A record of purpose 1, 2 or 3. [DESIGN CHOICE, safe: log 63] -/
def recordCommand (req : Nat) (bs : List Byte) : State → Host.Outcome State Fault Refusal :=
  if recPurpose bs = 2 then execDebugLevelRaise req bs else if recPurpose bs = 3 then execRevokeDigest req bs else execLifeCycleChange req bs

/-- A KeyLoad record (R451). [DESIGN CHOICE, safe: log 63] -/
def keyCommand (req : Nat) (bs : List Byte) : State → Host.Outcome State Fault Refusal :=
  if keyErases bs then execKeyErase req bs else execKeyLoad req (bs.take 8) (bs.drop 8)

/-- A write of bytes to a domain entry. [DESIGN CHOICE, safe: log 63] -/
def State.writeDomain (s : State) (req key : Nat) (bs : List Byte) : State :=
  let i := key / 256
  if i = 0x2121 then after (execSheetHeaderWrite req bs) s
  else if i = 0x2601 then after (recordCommand req bs) s
  else if i = 0x2611 then after (execProvision req (bs.take 4) (bs.drop 4)) s
  else if i = 0x2612 then after (keyCommand req bs) s
  else if i = 0x2624 then after (execAttestRequest req bs) s
  else if 0x2640 ≤ i ∧ i < 0x2670 then
    let entries := if bs.length = 256 then tableOfBytes bs else []
    after (execRightsTableWrite req (i - 0x2640) entries) s
  else s.badCommand req key 0

/-- A transfer of bytes to an entry: a number carries exactly the bytes of its type. -/
def State.writeBytesTo (s : State) (req key : Nat) (bs : List Byte) : State := match s.entryRow key with
  | none => s.reaching req key true fun s => s.refuse req key 0x9011
  | some e =>
    if e.type.isNumber then
      if bs.length = (e.type.width + 7) / 8 ∧ ofBytes bs < 2 ^ e.type.width then s.writeEntry req key (ofBytes bs) else s.badCommand req key (ofBytes bs)
    else s.writeDomain req key bs

/-! ### The mirror (R30 to R34) -/

/-- The entry of a mirror offset (R30). No index has sub-indices above 0x3F, so R31 gives no index a second one's space.
[DEDUCED, unsafe: log 61] -/
def mirrorKey (offset : Nat) : Nat := keyOf (0x1000 + offset / 256) (offset % 256 / 4)

/-- A mirror access of the wrong width or alignment (R32). -/
def State.mirrorInvalid (s : State) (req key : Nat) : State := (s.logAs 0x9010 .refused srcHub (accessArg req key)).reply .error

/-- A mirror write at an offset: held while a CAN transfer to the entry is in progress (R34). -/
def State.mirrorWrite (s : State) (req offset width v : Nat) : State :=
  let key := mirrorKey offset
  s.reaching req key true fun s =>
    if width ≠ 4 ∨ offset % 4 ≠ 0 then s.mirrorInvalid req key
    else if !s.mirrored key then s.refuse req key 0x9010
    else if s.mustWait req key then s.holdWrite req key v
    else s.writeEntry req key (v % 2 ^ 32)

/-- Reads that latch other entries (R106, R211, R397). -/
def latchingRead (req key : Nat) : Option (State → Host.Outcome State Fault Refusal) :=
  if key = 0x213001 then some (execCycleCountRead req)
  else if key = 0x214001 then some (execBoundaryRecordRead req)
  else if key = 0x230001 then some (execTimeRead req)
  else none

/-- A read of an entry: the answer is its bytes as a little-endian number. -/
def State.readEntry (s : State) (req key : Nat) : State := match latchingRead req key with
  | some c => after c s
  | none => s.reading req key fun s => s.reply (.ok (ofBytes (s.entryBytes req key)))

/-- A mirror read at an offset: zero where there is no mirrored entry (R33). -/
def State.mirrorRead (s : State) (req offset width : Nat) : State :=
  let key := mirrorKey offset
  s.reaching req key false fun s =>
    if width ≠ 4 ∨ offset % 4 ≠ 0 then s.mirrorInvalid req key
    else if !s.mirrored key then s.reply (.ok 0)
    else s.readEntry req key

/-- DICTIONARY_WRITE (R26): a write of `width` bytes at a mirror offset. -/
def execDictionaryWrite (req offset width value : Nat) (s : State) : Host.Outcome State Fault Refusal :=
  .next (s.mirrorWrite req offset width value)

end Sys2Proof.Machine
end

