-- ==== Sys2Proof/Machine/Can.lean ====
section
/-! DEFINITION. The CANopen services (R34 to R37, Table 2-2): SDO server, PDOs, SYNC consumer and NMT slave. -/

namespace Sys2Proof.Machine

/-- The CAN interface as a requester (Table 19-5). -/
def canRequester : Nat := 1

def State.withCan (s : State) (f : Can → Can) : State := { s with can := f s.can }

/-! ### SDO server (R34) -/

/-- A mirror write that a transfer has held takes effect now. -/
def State.performHeld (s : State) (h : Nat × Nat × Nat) : State :=
  let t := s.writeEntry h.1 h.2.1 h.2.2
  { t.complete h.1 t.answer with answer := s.answer }

/-- The mirror writes that a transfer has held take effect in the order of their arrival. -/
def State.releaseHeld (s : State) : State := s.can.held.foldl State.performHeld (s.withCan fun c => { c with held := [] })

/-- The transfer in progress ends; what it has carried has already taken effect. -/
def State.endTransfer (s : State) : State := (s.withCan fun c => { c with sdo := none }).releaseHeld

/-- The entry exists. [DEDUCED, unsafe: log 62] -/
def State.entryExists (s : State) (key : Nat) : Bool := s.countEntry key || (s.entryRow key).isSome

/-- An SDO abort, where the entry does not exist. -/
def State.sdoAborted (s : State) : State := (s.send .sdoAbort).reply .sdoAbort

/-- An upload: the bytes, or an abort where the read is refused. -/
def State.upload (s : State) (key : Nat) : State :=
  if !s.entryExists key then s.sdoAborted
  else
    let bs := s.entryBytes canRequester key
    let s := s.readEntry canRequester key
    match s.answer with
    | .ok _ => s.send (.sdoData bs)
    | _ => s.send .sdoAbort

/-- A download: confirmed, or aborted where the write is refused, as one to an entry that does not exist is (R26). -/
def State.download (s : State) (key : Nat) (bs : List Byte) : State :=
  let s := s.writeBytesTo canRequester key bs
  match s.answer with
  | .ok _ => s.send .sdoDone
  | _ => s.send .sdoAbort

/-- A transfer begins: an earlier one ends; an upload takes its bytes now, so no part of a later write shows in it.
[PRESUMED, unsafe: log 64] -/
def State.beginTransfer (s : State) (key : Nat) (isDownload : Bool) : State :=
  let s := s.endTransfer
  if !s.entryExists key then (if isDownload then s.download key [] else s.sdoAborted)
  else if isDownload then s.withCan fun c => { c with sdo := some ⟨key, true, []⟩ }
  else
    let bs := s.entryBytes canRequester key
    let s := s.readEntry canRequester key
    match s.answer with
    | .ok _ => s.withCan fun c => { c with sdo := some ⟨key, false, bs⟩ }
    | _ => s.send .sdoAbort

/-- The end of a segmented or block transfer. -/
def State.finishTransfer (s : State) (bs : List Byte) : State := match s.can.sdo with
  | none => s.sdoAborted
  | some t => (if t.download then s.download t.key bs else s.send (.sdoData t.snapshot)).endTransfer

/-- SDO_TRANSFER (R34). -/
def execSdoTransfer (op : SdoOp) (s : State) : Host.Outcome State Fault Refusal :=
  .next (if !s.sdoOn then s
    else
      let s := s.wakeClock
      match op with
      | .upload key => s.endTransfer.upload key
      | .download key data => s.endTransfer.download key data
      | .beginUpload key => s.beginTransfer key false
      | .beginDownload key => s.beginTransfer key true
      | .endTransfer data => s.finishTransfer data
      | .abort => s.endTransfer)

/-! ### PDOs and SYNC (Table 2-2) -/

/-- PDO service runs: NMT operational. [PRESUMED, unsafe: log 64] -/
def State.pdoOn (s : State) : Bool := s.canSpeaks && s.can.nmt == .operational

/-- The mappings of a PDO at `index`: entry and width in bits. -/
def State.mappings (s : State) (index : Nat) : List (Nat × Nat) :=
  (List.range (s.entry (keyOf index 0))).map fun k =>
    let v := s.entry (keyOf index (k + 1))
    (v / 256, v % 256)

/-- Bytes of a mapped entry. -/
def mappedBytes (width : Nat) : Nat := (width + 7) / 8

/-- Longest PDO: 8 bytes, or 64 with CAN FD. -/
def State.pdoLength (s : State) : Nat := if s.can.fd then 64 else 8

/-- TPDO `n` is valid and due at this SYNC: every one for types 0 and 1, every t-th for type t. [PRESUMED, unsafe: log 64] -/
def State.tpdoDue (s : State) (n : Nat) : Bool :=
  let t := s.entry (keyOf (0x1800 + n) 2) % 256
  !bit (s.entry (keyOf (0x1800 + n) 1)) 31 && decide (t ≤ 240) && decide (t ≤ 1 ∨ s.can.syncs % t = 0)

/-- Transmit TPDO `n`, unless its mapping is empty or too long. [PRESUMED, unsafe: log 64] -/
def State.sendTpdo (s : State) (n : Nat) : State :=
  let ms := s.mappings (0x1A00 + n)
  let bs := ms.flatMap fun m => toBytes (mappedBytes m.2) (s.readNumber canRequester m.1)
  if ms.isEmpty || decide (s.pdoLength < bs.length) then s else s.send (.tpdo (n + 1) bs)

/-- CANOPEN_SYNC_RECEIVED (R36): the synchronous TPDOs that are due. -/
def execCanopenSyncReceived (s : State) : Host.Outcome State Fault Refusal :=
  .next (if !s.pdoOn then s
    else
      let s := s.withCan fun c => { c with syncs := c.syncs + 1 }
      (List.range 4).foldl (fun s n => if s.tpdoDue n then s.sendTpdo n else s) s)

/-- The mapped entries take the data, from its low bits up. -/
def State.takeMapped (s : State) : List (Nat × Nat) → Nat → State
  | [], _ => s
  | m :: ms, data => (s.writeEntry canRequester m.1 (data % 2 ^ (8 * mappedBytes m.2))).takeMapped ms (data / 2 ^ (8 * mappedBytes m.2))

/-- RPDO_RECEIVED (R36): RPDO `n`, 1 to 4, with its data as a little-endian number. [PRESUMED, unsafe: log 64] -/
def execRpdoReceived (n data : Nat) (s : State) : Host.Outcome State Fault Refusal :=
  .next (if !s.pdoOn || n == 0 || decide (4 < n) || bit (s.entry (keyOf (0x1400 + (n - 1)) 1)) 31 then s
    else s.wakeClock.takeMapped (s.mappings (0x1600 + (n - 1))) data)

/-! ### NMT slave (R37) -/

/-- NMT_STOP (R37): PDO and SDO service ends; heartbeat and NMT continue. -/
def execNmtStop (node : Nat) (s : State) : Host.Outcome State Fault Refusal :=
  .next (if s.nmtFor node then s.wakeClock.endTransfer.withCan fun c => { c with nmt := .stopped } else s)

/-- NMT_START (R37, CiA 301). -/
def execNmtStart (node : Nat) (s : State) : Host.Outcome State Fault Refusal :=
  .next (if s.nmtFor node then s.wakeClock.withCan fun c => { c with nmt := .operational } else s)

/-- NMT_ENTER_PREOPERATIONAL (R37, CiA 301). -/
def execNmtEnterPreoperational (node : Nat) (s : State) : Host.Outcome State Fault Refusal :=
  .next (if s.nmtFor node then s.wakeClock.withCan fun c => { c with nmt := .preOperational } else s)

/-- The entries 0x1000 to 0x1FFF take their values of a start. [PRESUMED, unsafe: log 64] -/
def State.reloadCommunication (s : State) : State :=
  let s := { s with dict := s.dict.filter fun e => decide (0x200000 ≤ e.1) }
  (s.mgmt.saved.getD []).foldl (fun s e => if e.1 < 0x200000 then s.putEntry e.1 e.2 else s) s

/-- NMT_RESET_COMMUNICATION (R36, R37). [PRESUMED, unsafe: log 64] -/
def execNmtResetCommunication (node : Nat) (s : State) : Host.Outcome State Fault Refusal :=
  .next (if s.nmtFor node then s.wakeClock.endTransfer.reloadCommunication.startCan else s)

end Sys2Proof.Machine
end

