-- ==== Sys2Proof/Machine/System.lean ====
section
/-! DEFINITION. System-class accesses over the whole address map (R19 to R22, R345, R459 to R463) and the debug port's accesses (R457). -/

namespace Sys2Proof.Machine

/-! ### Targets (Table 1-6) -/

/-- The access lies wholly in a range of `size` bytes. [DEDUCED, unsafe: log 70] -/
def inRow (a : SysAccess) (base size : Nat) : Bool := withinRange a.addr (accessLen a) base (base + size)

/-- Sizes of the blotter, the acquisition SRAM and the dictionary window. -/
def blotterBytes : Nat := 0x0080_0000
def acqBytes : Nat := 0x0200_0000
def dictBytes : Nat := 0x0100_0000

/-- Bytes of DDR5 behind its stops: populated, and in use or powered off (R333, R466). -/
def State.ddrBytes (s : State) : Nat := if s.asleep && !s.rst.ddrRefused then s.part.ddrGiB * 2 ^ 30 else s.ddrEnd - ddrStart

/-- Requester index of core 0; cores follow in order (Table 19-5). -/
def isCore (req : Nat) : Bool := decide (0x10 ≤ req ∧ req ≤ 0x2F)

/-- Regions that Table 12-2 marks cacheable: LR, SC and AMO are permitted only there (R294). [DEDUCED, unsafe: log 70] -/
def State.cacheable (s : State) (a : SysAccess) : Bool :=
  inRow a scratchBase secureEnd || inRow a hbmStart s.part.grade.hbmBytes || inRow a ddrStart s.ddrBytes

/-- The blotter and the acquisition SRAM: level safelight, the modes of Table 19-4, and reads only for cores (Table 12-2). -/
def State.captureAccess (s : State) (a : SysAccess) : State :=
  s.atLevel a.req 1 fun s =>
    if !s.modeIn [.loaded, .run, .hold, .service] || (isCore a.req && a.op.writes) then s.reply .error else s.moveBytes a

/-- The dictionary window: the mirror under R30 to R34. -/
def State.dictAccess (s : State) (a : SysAccess) : State :=
  if a.op.writes then s.mirrorWrite a.req (a.addr - dictBase) (accessLen a) (ofBytes a.data)
  else s.mirrorRead a.req (a.addr - dictBase) (accessLen a)

/-- An E-die window. -/
def State.dieAccess (s : State) (a : SysAccess) : State :=
  let x := a.addr - windowBase
  s.windowAccess a.req (x / windowSize) (x % windowSize) (if a.op.writes then .write a.data else .read (accessLen a))

/-- The lowest tag that no request in flight carries. [DEDUCED, unsafe: log 71] -/
def State.freeTag (s : State) : Nat :=
  ((List.range 4096).find? fun t => !(s.rings.outstanding.any fun o => o.tag == t)).getD 0

/-- A request goes to the guest die; its answer comes over the ring (R344, R345).
[DESIGN CHOICE, unsafe: log 28] [DEDUCED, unsafe: log 71] -/
def State.sendGuest (s : State) (a : SysAccess) : State :=
  (s.withRings fun r => { r with outstanding := r.outstanding ++ [⟨s.freeTag, a.req, a.addr⟩] }).reply .waiting

/-- The guest die, asleep or awake (R332, R345). -/
def State.guestTarget (s : State) (a : SysAccess) : State :=
  if s.domainAsleep 8 then (s.holdFor 8 (.access a)).reply .waiting else s.sendGuest a

/-- The link to a fitted guest is up, or the guest sleeps behind it. [DEDUCED, unsafe: log 71] -/
def State.guestMapped (s : State) : Bool := s.part.guest && (s.guest.state == 3 || s.guest.state == 4)

/-- The access lies in the window of an E-die that the grade fits. -/
def State.inWindow (s : State) (a : SysAccess) : Bool :=
  inRow a windowBase (s.dies * windowSize) && decide ((a.addr - windowBase) % windowSize + accessLen a ≤ windowSize)

/-- The access lies within one row of Table 1-6, in what the grade fits and what is populated (R19). -/
def State.mapped (s : State) (a : SysAccess) : Bool :=
  inRow a scratchBase secureEnd || inRow a blotterBase blotterBytes || inRow a acqBase acqBytes || inRow a dictBase dictBytes ||
    s.inWindow a || inRow a hbmStart s.part.grade.hbmBytes || inRow a ddrStart s.ddrBytes ||
    (inRow a guestStart (64 * 2 ^ 30) && s.guestMapped)

/-- The access is unmapped (R20), an LR, SC or AMO outside the cacheable regions (R294), or reaches its target. [DEDUCED, unsafe: log 70] -/
def State.systemTarget (s : State) (a : SysAccess) : State :=
  if !s.mapped a then s.unmapped a.req a.addr (!a.op.reads)
  else if a.op.atomic && !s.cacheable a then s.reply .amoFault
  else if inRow a blotterBase blotterBytes || inRow a acqBase acqBytes then s.captureAccess a
  else if inRow a dictBase dictBytes then s.dictAccess a
  else if s.inWindow a then s.dieAccess a
  else if inRow a guestStart (64 * 2 ^ 30) then s.guestTarget a
  else s.memoryAccess a

/-- The memory engine checks the access against its requester's table before any target (R459); during a device halt only the
dictionary window answers (R472). [DESIGN CHOICE, unsafe: log 28] [DEDUCED, unsafe: log 70] [DESIGN CHOICE, unsafe: log 77] -/
def State.checkedSystem (s : State) (a : SysAccess) (k : State → State) : State :=
  if s.sec.halted && !inRow a dictBase dictBytes then s.reply .completerAbort
  else if s.permits a.req a.addr (accessLen a) a.op then k s
  else s.denied a.req a.addr (!a.op.reads)

/-- The owner of the ring stop behind which an access ends; none where it ends in the hub. -/
def State.targetOwner (s : State) (a : SysAccess) : Option StopOwner :=
  if s.inWindow a then some (.die ((a.addr - windowBase) / windowSize))
  else if inRow a guestStart (64 * 2 ^ 30) then some .guest
  else (s.controllers a.addr (accessLen a)).head?.map controllerStop

/-- Type of the ring packet of a request (Table 13-2). -/
def requestType (a : SysAccess) : Nat := if a.op.writes then 1 else 0

/-- A request waits at its hub stop while its way over the rings is held (R14, R485). [DESIGN CHOICE, unsafe: log 48] -/
def State.routeRequest (s : State) (a : SysAccess) (o : StopOwner) : State :=
  match s.part.grade.nearest .hub o with
  | none => s.reply .error
  | some (h, d) =>
    let size := if a.op.writes then accessLen a else 0
    let p : RingPacket :=
      ⟨ringHeader d h 0 (requestType a) (flitsFor size) s.freeTag a.req false, a.op, a.addr, accessLen a, ofBytes a.data⟩
    (s.inject (packetWaiting s.part.grade.stops.length (packetSent p))).reply .waiting

/-- A system-class access of the hub: over the rings where its target lies behind a ring stop (R14).
[DESIGN CHOICE, unsafe: log 28] [DESIGN CHOICE, unsafe: log 77] -/
def State.systemAccess (s : State) (a : SysAccess) : State :=
  s.checkedSystem a fun s => match s.targetOwner a with
    | none => s.systemTarget a
    | some o => if s.mapped a && s.pathHeld .hub o then s.routeRequest a o else s.systemTarget a

/-- The module address of an access: the host gives an offset in BAR2, which lies at WindowBase (R445).
[DEDUCED, unsafe: log 74] -/
def State.moduleAddress (s : State) (a : SysAccess) : SysAccess :=
  if a.req = 0 then { a with addr := s.host.windowBase + a.addr % 2 ^ 34 } else a

/-- SYSTEM_CLASS_ACCESS (R445, R459). [DEDUCED, unsafe: log 70] -/
def execSystemClassAccess (access : SysAccess) (s : State) : Host.Outcome State Fault Refusal :=
  .next (if s.powered then s.systemAccess (s.moduleAddress access) else s)

/-! ### DBGACC (R457) -/

/-- One 32-bit access of the debug port, under its rights table and the level in effect. [DEDUCED, unsafe: log 51] -/
def State.debugAccess (s : State) (op : AccessOp) (address data : Nat) : State :=
  let s := s.withSec fun x => { x with dbgAddress := address % 2 ^ 44 }
  if address % 4 ≠ 0 then s.withSec fun x => { x with dbgStatus := 2 }
  else
    let t := s.systemAccess ⟨2, op, address % 2 ^ 44, toBytes 4 data, true⟩
    let u := t.capture t.answer
    if op.reads then u else u.withSec fun x => { x with dbgData := t.sec.dbgData }

/-- DBGACC_READ (R457), while the instruction is selected. [DEDUCED, unsafe: log 51] -/
def execDbgaccRead (address : Nat) (s : State) : Host.Outcome State Fault Refusal :=
  .next (if s.powered && s.sec.tap == .dbgacc then s.debugAccess .read address 0 else s)

/-- DBGACC_WRITE (R457), while the instruction is selected. [DEDUCED, unsafe: log 51] -/
def execDbgaccWrite (address data : Nat) (s : State) : Host.Outcome State Fault Refusal :=
  .next (if s.powered && s.sec.tap == .dbgacc then s.debugAccess .write address data else s)

end Sys2Proof.Machine
end

