-- ==== Sys2Proof/Machine/Packets.lean ====
section
/-! DEFINITION. What a ring stop does with a packet (R324 to R333): its check, its link, its delivery, and the answers of woken
domains. -/

namespace Sys2Proof.Machine

/-! ### Delivery -/

/-- The access that a request packet asks for. -/
def packetAccess (p : RingPacket) : SysAccess :=
  ⟨hdrRequester p.header, p.op, p.address, toBytes p.size p.data, true⟩

/-- A request of the system class reaches its target, which answers over the ring; an access that its target's wake buffer takes
is answered from there (R327, R332). [DESIGN CHOICE, unsafe: log 48] -/
def State.serveRequest (s : State) (stop : Nat) (p : RingPacket) : State :=
  let t := s.checkedSystem (packetAccess p) fun s => s.systemTarget (packetAccess p)
  let t := if t.answer = .waiting then
      t.withRings fun r => { r with outstanding := r.outstanding.erase ⟨hdrTag p.header, hdrRequester p.header, p.address⟩ }
    else t.sendAnswer stop p t.answer
  { t with answer := s.answer }

/-- A packet leaves the ring at its destination: an answer ends its request, a request reaches its target; the guest answers its own,
and every other packet acts by the command of its own row. [DESIGN CHOICE, unsafe: log 48] -/
def State.deliver (s : State) (stop : Nat) (p : RingPacket) : State :=
  let s := s.withRings fun r => { r with ejected := r.ejected ++ [(stop, p.header)] }
  if isAnswer p.header then s.answered p.header (if hdrType p.header = 9 then .error else .ok p.data)
  else if isRequest p.header && !decide (guestStart ≤ p.address) then s.serveRequest stop p
  else s

/-- A packet ejects: its stop is powered off, its domain sleeps, or it is delivered (R332, R333). -/
def State.eject (s : State) (stop : Nat) (o : StopOwner) (p : RingPacket) : State :=
  if s.asleep && o.sleepsOff then
    let s := s.poweredOff o
    if isRequest p.header then s.sendAnswer stop p .error else s
  else match o.domain with
    | some d => if s.domainAsleep d then s.holdFor d (.packet p) else s.deliver stop p
    | none => s.deliver stop p

/-! ### RING_PACKET -/

/-- The packet at this stop: the one that waits there, or, at its source, one that joins the injection queue. -/
def State.present (s : State) (ring stop : Nat) (p : RingPacket) : State × Option Transit :=
  match s.rings.transit.find? fun x => x.ring == ring && x.stop == stop && x.packet == p with
  | some x => (s, some x)
  | none =>
    let x := packetWaiting s.part.grade.stops.length p
    if stop = hdrSrc p.header then (s.inject x, some x) else (s, none)

/-- The head of a queue passes a stop: discarded, ejected, or carried by its link when the link's arbiter grants it (R326, R329). -/
def State.passStop (s : State) (n : Nat) (o : StopOwner) (x : Transit) (flips : Nat) : State :=
  let checked := if headerCheck x.packet.header flips = .corrected then s.bump 0x2D0401 else s
  if !s.isHead x then s
  else if headerCheck x.packet.header flips = .uncorrectable then s.discardPacket o x
  else if hdrDest x.packet.header = x.stop then (checked.leaveStop x).eject x.stop o x.packet
  else if s.linkWinner n x.ring x.stop = some x then (checked.carry n x).countEvent 1 x.stop (hdrFlits x.packet.header)
  else s

/-- RING_PACKET (R324 to R330): a stop injects a packet of its own, forwards one or ejects it.
A packet whose link carries another first, or that finds no credit, waits. [DESIGN CHOICE, unsafe: log 48] -/
def execRingPacket (ring stop : Nat) (arrival : RingArrival) (s : State) : Host.Outcome State Fault Refusal :=
  let stops := s.part.grade.stops
  let n := stops.length
  let p := packetSent arrival.packet
  let a := hdrSrc p.header
  let b := hdrDest p.header
  .next (match stops[stop]? with
    | none => s
    | some o =>
      if n ≤ a ∨ n ≤ b ∨ a = b ∨ ring ≠ ringOf n a b ∨ 9 < hdrType p.header ∨ s.ringHeld o.loopDie = true then s
      else match s.present ring stop p with
        | (s, some x) => s.passStop n o x arrival.flips
        | (s, none) => s)

/-! ### The answer of a woken domain (R332) -/

/-- Ring stop of a sleeping domain. [DEDUCED, unsafe: log 71] -/
def State.domainStop (s : State) (d : Nat) : Nat := (s.part.grade.stops.findIdx? fun o => o.domain == some d).getD 0

/-- A held access reaches its target. [DESIGN CHOICE, unsafe: log 28] [DEDUCED, unsafe: log 71] -/
def State.performHeldAccess (s : State) (d : Nat) (a : SysAccess) : State :=
  let t := if d = 8 then s.sendGuest a else s.performMemory a
  { (if t.answer = .waiting then t else t.complete a.req t.answer) with answer := s.answer }

/-- A held item is delivered. -/
def State.deliverHeld (d : Nat) (s : State) : Held → State
  | .packet p => s.deliver (s.domainStop d) p
  | .access a => s.performHeldAccess d a

/-- The domain is awake. [DEDUCED, unsafe: log 71] -/
def State.awaken (s : State) (d : Nat) : State :=
  let s := s.withRings fun r =>
    { r with held := r.held.filter fun h => h.1 != d, sleeping := r.sleeping.filter fun x => x != d }
  if d = 8 then s.withGuest fun g => { g with state := 3 } else s

/-- DOMAIN_WAKE_ANSWER (R332): the stop delivers the held packets in arrival order. -/
def execDomainWakeAnswer (domain : Nat) (s : State) : Host.Outcome State Fault Refusal :=
  let items := (s.rings.held.filter fun h => h.1 == domain).map Prod.snd
  .next (if !s.domainAsleep domain || items.isEmpty || s.sec.halted then s
    else items.foldl (State.deliverHeld domain) (s.awaken domain))

end Sys2Proof.Machine
end

