-- ==== Sys2Proof/Machine/Dispatch.lean ====
section
/-! DEFINITION. The effect of each command on everything but the queue: one arm per constructor, each a direct call of the
command's own meaning. -/

namespace Sys2Proof.Machine

def exec (i : Instr) (s : State) : Host.Outcome State Fault Refusal :=
  match i with
  | .dictionaryWrite req offset width value => Sys2Proof.Machine.execDictionaryWrite req offset width value s
  | .sdoTransfer op => Sys2Proof.Machine.execSdoTransfer op s
  | .rpdoReceived n data => Sys2Proof.Machine.execRpdoReceived n data s
  | .nmtStop node => Sys2Proof.Machine.execNmtStop node s
  | .nmtStart node => Sys2Proof.Machine.execNmtStart node s
  | .nmtEnterPreoperational node => Sys2Proof.Machine.execNmtEnterPreoperational node s
  | .nmtResetCommunication node => Sys2Proof.Machine.execNmtResetCommunication node s
  | .nmtResetNode node => Sys2Proof.Machine.execNmtResetNode node s
  | .heartbeat => Sys2Proof.Machine.execHeartbeat s
  | .fastClockStop => Sys2Proof.Machine.execFastClockStop s
  | .sensorUpdate sample => Sys2Proof.Machine.execSensorUpdate sample s
  | .storeParameters req => Sys2Proof.Machine.execStoreParameters req s
  | .restoreDefaults req => Sys2Proof.Machine.execRestoreDefaults req s
  | .logReadSelect req seq => Sys2Proof.Machine.execLogReadSelect req seq s
  | .firmwareCheckAndWrite req image checks => Sys2Proof.Machine.execFirmwareCheckAndWrite req image checks s
  | .firmwareWriteComplete readBackOk => Sys2Proof.Machine.execFirmwareWriteComplete readBackOk s
  | .firmwareActivate req => Sys2Proof.Machine.execFirmwareActivate req s
  | .startAttempt signatureOk => Sys2Proof.Machine.execStartAttempt signatureOk s
  | .startRetryWaitExpiry => Sys2Proof.Machine.execStartRetryWaitExpiry s
  | .firmwareStartComplete => Sys2Proof.Machine.execFirmwareStartComplete s
  | .firmwareStartTimeout => Sys2Proof.Machine.execFirmwareStartTimeout s
  | .mgmtWatchdogExpiry => Sys2Proof.Machine.execMgmtWatchdogExpiry s
  | .nop atStep nib => Sys2Proof.Machine.execNop atStep nib s
  | .eval atStep nib => Sys2Proof.Machine.execEval atStep nib s
  | .send atStep nib => Sys2Proof.Machine.execSend atStep nib s
  | .store atStep nib => Sys2Proof.Machine.execStore atStep nib s
  | .probe atStep nib => Sys2Proof.Machine.execProbe atStep nib s
  | .sync atStep nib => Sys2Proof.Machine.execSync atStep nib s
  | .enq atStep port desc => Sys2Proof.Machine.execEnq atStep port desc s
  | .wait atStep port desc => Sys2Proof.Machine.execWait atStep port desc s
  | .interconnectArrival atStep nib rx lane => Sys2Proof.Machine.execInterconnectArrival atStep nib rx lane s
  | .stagingSample => Sys2Proof.Machine.execStagingSample s
  | .segmentTokenCheck segment => Sys2Proof.Machine.execSegmentTokenCheck segment s
  | .wordCellTokenInterval => Sys2Proof.Machine.execWordCellTokenInterval s
  | .cycleBoundary => Sys2Proof.Machine.execCycleBoundary s
  | .cycleLimitReached => Sys2Proof.Machine.execCycleLimitReached s
  | .crossingLatchLoad => Sys2Proof.Machine.execCrossingLatchLoad s
  | .waitDecisionPoint slot => Sys2Proof.Machine.execWaitDecisionPoint slot s
  | .designAnswerArrival port desc latencyNs => Sys2Proof.Machine.execDesignAnswerArrival port desc latencyNs s
  | .writeAckArrival port desc latencyNs => Sys2Proof.Machine.execWriteAckArrival port desc latencyNs s
  | .stallResume periods => Sys2Proof.Machine.execStallResume periods s
  | .stallTimeout => Sys2Proof.Machine.execStallTimeout s
  | .writeStallTimeout => Sys2Proof.Machine.execWriteStallTimeout s
  | .memoryRequestReceived port => Sys2Proof.Machine.execMemoryRequestReceived port s
  | .ddr5Retraining channel => Sys2Proof.Machine.execDdr5Retraining channel s
  | .run req => Sys2Proof.Machine.execRun req s
  | .runAt req => Sys2Proof.Machine.execRunAt req s
  | .runAtFire => Sys2Proof.Machine.execRunAtFire s
  | .domainStartEdge => Sys2Proof.Machine.execDomainStartEdge s
  | .step req => Sys2Proof.Machine.execStep req s
  | .hold req atStep => Sys2Proof.Machine.execHold req atStep s
  | .holdReport => Sys2Proof.Machine.execHoldReport s
  | .park req => Sys2Proof.Machine.execPark req s
  | .service req => Sys2Proof.Machine.execService req s
  | .leave req => Sys2Proof.Machine.execLeave req s
  | .standby req => Sys2Proof.Machine.execStandby req s
  | .dormant req => Sys2Proof.Machine.execDormant req s
  | .wake req => Sys2Proof.Machine.execWake req s
  | .cancel req => Sys2Proof.Machine.execCancel req s
  | .roomResume => Sys2Proof.Machine.execRoomResume s
  | .save req => Sys2Proof.Machine.execSave req s
  | .saveComplete => Sys2Proof.Machine.execSaveComplete s
  | .restore req failure => Sys2Proof.Machine.execRestore req failure s
  | .restoreComplete => Sys2Proof.Machine.execRestoreComplete s
  | .discard req => Sys2Proof.Machine.execDiscard req s
  | .adopt req => Sys2Proof.Machine.execAdopt req s
  | .sheetHeaderWrite req header => Sys2Proof.Machine.execSheetHeaderWrite req header s
  | .markControlWrite req value => Sys2Proof.Machine.execMarkControlWrite req value s
  | .boundaryRecordRead req => Sys2Proof.Machine.execBoundaryRecordRead req s
  | .cycleCountRead req => Sys2Proof.Machine.execCycleCountRead req s
  | .systemClassAccess access => Sys2Proof.Machine.execSystemClassAccess access s
  | .apertureWrite req die offset data => Sys2Proof.Machine.execApertureWrite req die offset data s
  | .wordCellRecordWrite req die offset data => Sys2Proof.Machine.execWordCellRecordWrite req die offset data s
  | .designMemoryWindowAccess req die offset op => Sys2Proof.Machine.execDesignMemoryWindowAccess req die offset op s
  | .remoteCacheFlush req die => Sys2Proof.Machine.execRemoteCacheFlush req die s
  | .marchDestructiveOnDie req => Sys2Proof.Machine.execMarchDestructiveOnDie req s
  | .marchDestructiveAll req => Sys2Proof.Machine.execMarchDestructiveAll req s
  | .marchPreservingOnDie req => Sys2Proof.Machine.execMarchPreservingOnDie req s
  | .marchPreservingAll req => Sys2Proof.Machine.execMarchPreservingAll req s
  | .marchComplete result => Sys2Proof.Machine.execMarchComplete result s
  | .wcPass cell => Sys2Proof.Machine.execWcPass cell s
  | .wcAdd cell => Sys2Proof.Machine.execWcAdd cell s
  | .wcSub cell => Sys2Proof.Machine.execWcSub cell s
  | .wcAnd cell => Sys2Proof.Machine.execWcAnd cell s
  | .wcOr cell => Sys2Proof.Machine.execWcOr cell s
  | .wcXor cell => Sys2Proof.Machine.execWcXor cell s
  | .wcNot cell => Sys2Proof.Machine.execWcNot cell s
  | .wcShl cell => Sys2Proof.Machine.execWcShl cell s
  | .wcShr cell => Sys2Proof.Machine.execWcShr cell s
  | .wcSar cell => Sys2Proof.Machine.execWcSar cell s
  | .wcRol cell => Sys2Proof.Machine.execWcRol cell s
  | .wcMullo cell => Sys2Proof.Machine.execWcMullo cell s
  | .wcMulhu cell => Sys2Proof.Machine.execWcMulhu cell s
  | .wcMulhs cell => Sys2Proof.Machine.execWcMulhs cell s
  | .wcEq cell => Sys2Proof.Machine.execWcEq cell s
  | .wcLtu cell => Sys2Proof.Machine.execWcLtu cell s
  | .wcLts cell => Sys2Proof.Machine.execWcLts cell s
  | .wcMinu cell => Sys2Proof.Machine.execWcMinu cell s
  | .wcMaxu cell => Sys2Proof.Machine.execWcMaxu cell s
  | .wcSel cell => Sys2Proof.Machine.execWcSel cell s
  | .wcBit cell => Sys2Proof.Machine.execWcBit cell s
  | .wcPop cell => Sys2Proof.Machine.execWcPop cell s
  | .wcInc cell => Sys2Proof.Machine.execWcInc cell s
  | .wcNop cell => Sys2Proof.Machine.execWcNop cell s
  | .wcResultLand cell => Sys2Proof.Machine.execWcResultLand cell s
  | .crossingStrobeSet cell => Sys2Proof.Machine.execCrossingStrobeSet cell s
  | .stagingByteWrite cell => Sys2Proof.Machine.execStagingByteWrite cell s
  | .releaseWriteEnable => Sys2Proof.Machine.execReleaseWriteEnable s
  | .releaseClockStart => Sys2Proof.Machine.execReleaseClockStart s
  | .probeSelectWrite req mux value => Sys2Proof.Machine.execProbeSelectWrite req mux value s
  | .bridgeBeatReceived engine blocks => Sys2Proof.Machine.execBridgeBeatReceived engine blocks s
  | .bridgeBeatDelivered engine => Sys2Proof.Machine.execBridgeBeatDelivered engine s
  | .bridgeBeatTransmitted engine => Sys2Proof.Machine.execBridgeBeatTransmitted engine s
  | .pauseReceived wire => Sys2Proof.Machine.execPauseReceived wire s
  | .resumeReceived wire => Sys2Proof.Machine.execResumeReceived wire s
  | .creditReturnArrival slot => Sys2Proof.Machine.execCreditReturnArrival slot s
  | .dmaCommand req value => Sys2Proof.Machine.execDmaCommand req value s
  | .streamHeaderFrame port edges => Sys2Proof.Machine.execStreamHeaderFrame port edges s
  | .dataFrame port head body => Sys2Proof.Machine.execDataFrame port head body s
  | .trailerFrame port head body => Sys2Proof.Machine.execTrailerFrame port head body s
  | .loadChecksComplete readBackFailure => Sys2Proof.Machine.execLoadChecksComplete readBackFailure s
  | .commitComplete => Sys2Proof.Machine.execCommitComplete s
  | .loadAbort req => Sys2Proof.Machine.execLoadAbort req s
  | .streamTimeout => Sys2Proof.Machine.execStreamTimeout s
  | .fixerGroupCheck group sourceTagOk => Sys2Proof.Machine.execFixerGroupCheck group sourceTagOk s
  | .protectedSetCheck flips => Sys2Proof.Machine.execProtectedSetCheck flips s
  | .fixerEnableWrite req value => Sys2Proof.Machine.execFixerEnableWrite req value s
  | .coreReleaseWrite req value => Sys2Proof.Machine.execCoreReleaseWrite req value s
  | .hostEvent req value => Sys2Proof.Machine.execHostEvent req value s
  | .chrecv core csr => Sys2Proof.Machine.execChrecv core csr s
  | .chrelease core csr => Sys2Proof.Machine.execChrelease core csr s
  | .chreserve core csr => Sys2Proof.Machine.execChreserve core csr s
  | .chpost core csr => Sys2Proof.Machine.execChpost core csr s
  | .chcount core csr => Sys2Proof.Machine.execChcount core csr s
  | .schask core csr => Sys2Proof.Machine.execSchask core csr s
  | .schwait core csr => Sys2Proof.Machine.execSchwait core csr s
  | .schdelay core csr => Sys2Proof.Machine.execSchdelay core csr s
  | .schcreate core csr => Sys2Proof.Machine.execSchcreate core csr s
  | .schsetReady core csr => Sys2Proof.Machine.execSchsetReady core csr s
  | .schsetSuspend core csr => Sys2Proof.Machine.execSchsetSuspend core csr s
  | .schsetPriority core csr => Sys2Proof.Machine.execSchsetPriority core csr s
  | .schsetAffinity core csr => Sys2Proof.Machine.execSchsetAffinity core csr s
  | .schsetFree core csr => Sys2Proof.Machine.execSchsetFree core csr s
  | .schsetState core csr => Sys2Proof.Machine.execSchsetState core csr s
  | .chcreate core csr => Sys2Proof.Machine.execChcreate core csr s
  | .chdestroy core csr => Sys2Proof.Machine.execChdestroy core csr s
  | .schipi core csr => Sys2Proof.Machine.execSchipi core csr s
  | .schcur core csr => Sys2Proof.Machine.execSchcur core csr s
  | .channelDestroy req => Sys2Proof.Machine.execChannelDestroy req s
  | .tick => Sys2Proof.Machine.execTick s
  | .coreLockup core mepc mcause => Sys2Proof.Machine.execCoreLockup core mepc mcause s
  | .ringPacket ring stop arrival => Sys2Proof.Machine.execRingPacket ring stop arrival s
  | .domainWakeAnswer domain => Sys2Proof.Machine.execDomainWakeAnswer domain s
  | .domainWakeTimeout domain => Sys2Proof.Machine.execDomainWakeTimeout domain s
  | .domainSleep domain => Sys2Proof.Machine.execDomainSleep domain s
  | .requestTimeout tag => Sys2Proof.Machine.execRequestTimeout tag s
  | .diePllUnlock die loop => Sys2Proof.Machine.execDiePllUnlock die loop s
  | .laneMarginLow bundle lane => Sys2Proof.Machine.execLaneMarginLow bundle lane s
  | .dieLaneLost bundle lane atStep => Sys2Proof.Machine.execDieLaneLost bundle lane atStep s
  | .bundleRetrain req => Sys2Proof.Machine.execBundleRetrain req s
  | .guestAccess access => Sys2Proof.Machine.execGuestAccess access s
  | .guestApertureRead address => Sys2Proof.Machine.execGuestApertureRead address s
  | .guestWindowWrite req window sub value => Sys2Proof.Machine.execGuestWindowWrite req window sub value s
  | .guestDescriptorReceived descriptor => Sys2Proof.Machine.execGuestDescriptorReceived descriptor s
  | .guestPowerReport span deciwatts => Sys2Proof.Machine.execGuestPowerReport span deciwatts s
  | .guestPowerEnableWrite req value => Sys2Proof.Machine.execGuestPowerEnableWrite req value s
  | .guestSleepRequest => Sys2Proof.Machine.execGuestSleepRequest s
  | .guestLinkLost => Sys2Proof.Machine.execGuestLinkLost s
  | .samplerArm req sampler => Sys2Proof.Machine.execSamplerArm req sampler s
  | .samplerDisarm req sampler => Sys2Proof.Machine.execSamplerDisarm req sampler s
  | .samplerForceTrigger req sampler => Sys2Proof.Machine.execSamplerForceTrigger req sampler s
  | .triggerUnitFire => Sys2Proof.Machine.execTriggerUnitFire s
  | .holdoffExpiry unit => Sys2Proof.Machine.execHoldoffExpiry unit s
  | .streamReadPointerWrite req sampler value => Sys2Proof.Machine.execStreamReadPointerWrite req sampler value s
  | .streamDrain sampler => Sys2Proof.Machine.execStreamDrain sampler s
  | .triggerOutputPulseEnd output => Sys2Proof.Machine.execTriggerOutputPulseEnd output s
  | .traceEnableWrite req value => Sys2Proof.Machine.execTraceEnableWrite req value s
  | .traceRecordOffer source record => Sys2Proof.Machine.execTraceRecordOffer source record s
  | .syncRecordPeriod => Sys2Proof.Machine.execSyncRecordPeriod s
  | .blotterReadPointerWrite req value => Sys2Proof.Machine.execBlotterReadPointerWrite req value s
  | .coreSleep core => Sys2Proof.Machine.execCoreSleep core s
  | .coreWake core => Sys2Proof.Machine.execCoreWake core s
  | .coreCounterOverflow core counter retired => Sys2Proof.Machine.execCoreCounterOverflow core counter retired s
  | .moduleCounterWrap counter => Sys2Proof.Machine.execModuleCounterWrap counter s
  | .timeRead req => Sys2Proof.Machine.execTimeRead req s
  | .ptpSyncReceived port sync delay rate => Sys2Proof.Machine.execPtpSyncReceived port sync delay rate s
  | .ptpMasterLost port => Sys2Proof.Machine.execPtpMasterLost port s
  | .holdoverExpiry => Sys2Proof.Machine.execHoldoverExpiry s
  | .offsetUnlockExpiry => Sys2Proof.Machine.execOffsetUnlockExpiry s
  | .setTimeCommand req => Sys2Proof.Machine.execSetTimeCommand req s
  | .referenceLost => Sys2Proof.Machine.execReferenceLost s
  | .pulseArm req generator value => Sys2Proof.Machine.execPulseArm req generator value s
  | .pulseStop req generator value => Sys2Proof.Machine.execPulseStop req generator value s
  | .pulseLeadingEdge generator => Sys2Proof.Machine.execPulseLeadingEdge generator s
  | .pulseTrailingEdge generator => Sys2Proof.Machine.execPulseTrailingEdge generator s
  | .pinConfigWrite req pin value => Sys2Proof.Machine.execPinConfigWrite req pin value s
  | .pinRelease req bank value => Sys2Proof.Machine.execPinRelease req bank value s
  | .safeCommand req => Sys2Proof.Machine.execSafeCommand req s
  | .safeReq level => Sys2Proof.Machine.execSafeReq level s
  | .pinInputChange pin levels => Sys2Proof.Machine.execPinInputChange pin levels s
  | .wakePinEdge pin => Sys2Proof.Machine.execWakePinEdge pin s
  | .edgeCountClear req counter => Sys2Proof.Machine.execEdgeCountClear req counter s
  | .laneBringUp req lane => Sys2Proof.Machine.execLaneBringUp req lane s
  | .laneBringUpDone lane result => Sys2Proof.Machine.execLaneBringUpDone lane result s
  | .laneTrainRetry lane => Sys2Proof.Machine.execLaneTrainRetry lane s
  | .laneBitSlip req lane invalidHeaders => Sys2Proof.Machine.execLaneBitSlip req lane invalidHeaders s
  | .laneLost lane => Sys2Proof.Machine.execLaneLost lane s
  | .domainLinkLost lane find => Sys2Proof.Machine.execDomainLinkLost lane find s
  | .laneNoticeReceived lane notice => Sys2Proof.Machine.execLaneNoticeReceived lane notice s
  | .laneDarkCommand req lane => Sys2Proof.Machine.execLaneDarkCommand req lane s
  | .darkBlockReceived wire => Sys2Proof.Machine.execDarkBlockReceived wire s
  | .darkIdleTimeout lane => Sys2Proof.Machine.execDarkIdleTimeout lane s
  | .laneSignalDetect lane restored => Sys2Proof.Machine.execLaneSignalDetect lane restored s
  | .windowBaseWrite write => Sys2Proof.Machine.execWindowBaseWrite write s
  | .lifeCycleChange req record => Sys2Proof.Machine.execLifeCycleChange req record s
  | .debugLevelRaise req record => Sys2Proof.Machine.execDebugLevelRaise req record s
  | .revokeDigest req record => Sys2Proof.Machine.execRevokeDigest req record s
  | .provision req item value => Sys2Proof.Machine.execProvision req item value s
  | .keyLoad req head key => Sys2Proof.Machine.execKeyLoad req head key s
  | .keyErase req record => Sys2Proof.Machine.execKeyErase req record s
  | .debugLevelLower req value => Sys2Proof.Machine.execDebugLevelLower req value s
  | .dbgaccRead address => Sys2Proof.Machine.execDbgaccRead address s
  | .dbgaccWrite address data => Sys2Proof.Machine.execDbgaccWrite address data s
  | .dbgaccResetRequest data => Sys2Proof.Machine.execDbgaccResetRequest data s
  | .tapInstruction scan => Sys2Proof.Machine.execTapInstruction scan s
  | .dbgReq => Sys2Proof.Machine.execDbgReq s
  | .rightsTableWrite req table entries => Sys2Proof.Machine.execRightsTableWrite req table entries s
  | .rightsLockWrite req => Sys2Proof.Machine.execRightsLockWrite req s
  | .tamperEvent => Sys2Proof.Machine.execTamperEvent s
  | .attestRequest req nonce => Sys2Proof.Machine.execAttestRequest req nonce s
  | .powerOn straps environment => Sys2Proof.Machine.execPowerOn straps environment s
  | .brownOut => Sys2Proof.Machine.execBrownOut s
  | .alwaysOnLoss => Sys2Proof.Machine.execAlwaysOnLoss s
  | .pinReset => Sys2Proof.Machine.execPinReset s
  | .watchdogExpiry => Sys2Proof.Machine.execWatchdogExpiry s
  | .watchdogRefresh req => Sys2Proof.Machine.execWatchdogRefresh req s
  | .resetRequestCore req => Sys2Proof.Machine.execResetRequestCore req s
  | .resetRequestSys req => Sys2Proof.Machine.execResetRequestSys req s
  | .requestedResetTaken => Sys2Proof.Machine.execRequestedResetTaken s
  | .clockFailure source => Sys2Proof.Machine.execClockFailure source s
  | .escalationWaitExpiry => Sys2Proof.Machine.execEscalationWaitExpiry s
  | .blockResetCore req core => Sys2Proof.Machine.execBlockResetCore req core s
  | .blockResetBridgeEngine req engine => Sys2Proof.Machine.execBlockResetBridgeEngine req engine s
  | .blockResetTriggerEngine req => Sys2Proof.Machine.execBlockResetTriggerEngine req s
  | .blockResetEthernetPort req port => Sys2Proof.Machine.execBlockResetEthernetPort req port s
  | .blockResetRelease clockStable => Sys2Proof.Machine.execBlockResetRelease clockStable s
  | .powerAverageInterval deciwatts => Sys2Proof.Machine.execPowerAverageInterval deciwatts s
  | .faultAcknowledge req => Sys2Proof.Machine.execFaultAcknowledge req s
  | .auditCommand req => Sys2Proof.Machine.execAuditCommand req s
  | .auditComplete => Sys2Proof.Machine.execAuditComplete s
  | .guestLinkUp rateGT => Sys2Proof.Machine.execGuestLinkUp rateGT s
  | .canopenSyncReceived => Sys2Proof.Machine.execCanopenSyncReceived s
  | .trigLineChange line level => Sys2Proof.Machine.execTrigLineChange line level s
  | .machineTimerInterrupt core => Sys2Proof.Machine.execMachineTimerInterrupt core s
  | .batterySlotLost => Sys2Proof.Machine.execBatterySlotLost s
  | .brownOutRecovery => Sys2Proof.Machine.execBrownOutRecovery s
  | .lifeCycleSysReset => Sys2Proof.Machine.execLifeCycleSysReset s
  | .bundleRetrainComplete failing => Sys2Proof.Machine.execBundleRetrainComplete failing s
  | .secureWipeComplete => Sys2Proof.Machine.execSecureWipeComplete s
  | .ptpAnnounceReceived port announce => Sys2Proof.Machine.execPtpAnnounceReceived port announce s
  | .loopLockedAgain source => Sys2Proof.Machine.execLoopLockedAgain source s
  | .sampleClockEdge sampler => Sys2Proof.Machine.execSampleClockEdge sampler s

end Sys2Proof.Machine
end

