-- ==== Sys2Proof/Machine/Idle.lean ====
section
/-! DEFINITION. What a nanosecond without a command does (R44, R347, R374, R383, R396, R480): the clocks count, the firewall's buckets
fill, the funnel takes a record, the module watchdog counts, and what a reset or a commit has left due takes place. -/

namespace Sys2Proof.Machine

/-- The trace clock and the time base, which STANDBY, DORMANT and the loss of the reference stop (R374, R399, R485).
[DEDUCED, unsafe: log 43] -/
def State.tickClocks (s : State) : State :=
  if s.asleep || s.referenceHeld then s
  else { s with trace := { s.trace with tc := (s.trace.tc + 1) % 2 ^ 64 }, time := s.time.advance }

/-- The module watchdog counts, and expires at its timeout in ms (R480). -/
def State.tickWatchdog (s : State) : State :=
  if s.entry 0x220301 = 0 ∨ s.asleep = true ∨ s.sec.halted = true then s
  else
    let n := s.rst.watchdogCount + 1
    let s := s.withRst fun r => { r with watchdogCount := n }
    if n < s.entry 0x220301 * 1000000 then s else after execWatchdogExpiry s

/-- Every tenth nanosecond is an edge of the 100 MHz reference, which is counted (R129), and of the I/O clock (R13, Table 15-7 code
14), unless the hub's I/O loop is held (R485) or has not locked yet (R482). -/
def State.tickIo (s : State) : State :=
  if s.mgmt.uptime % 10 = 0 ∧ s.ioHeld 8 = false ∧ s.loopsDown = false then
    ((s.withTime fun t => { t with edges := t.edges + 1 }).countEvent 14 0 1).ioEdge.fixerEdge
  else s

/-- CORE recovery ends with the last row of Table 20-3 (R500). [DEDUCED, unsafe: log 57] -/
def State.endCoreRecovery (s : State) : State :=
  if s.rst.recovery = some 1 then
    (s.withRst fun r => { r with recovery := none, escalatedRun := 0 }).endFaults fun a => a.cls == .reset
  else s

/-- One nanosecond passes. [DESIGN CHOICE, unsafe: log 1] -/
def State.tick (s : State) : State :=
  if !s.powered then s
  else
    let s := { s with mgmt := { s.mgmt with uptime := s.mgmt.uptime + 1 } }
    ((((s.tickClocks).guestTick.funnel).tickWatchdog).tickIo).endCoreRecovery.escalateCommit

end Sys2Proof.Machine
end

