-- ==== Sys2Proof/Machine/Step.lean ====
section
/-! DEFINITION. One step of the block: the command at the front of the queue, or a nanosecond of time on an empty queue
(assumption log 1). -/

namespace Sys2Proof.Machine

/-- A step. [DESIGN CHOICE, unsafe: log 1] -/
def step (s : State) : Host.Outcome State Fault Refusal :=
  match s.pending with
  | c :: rest => exec c { s with pending := rest }
  | [] => .next s.tick

/-- `s` with the command that a word of the opcode table spells at the front of its queue; the table gives no word to any row.
[DESIGN CHOICE, safe: log 5] -/
def State.withFetchWord (s : State) (nbits w : Nat) : State :=
  match Sys2Proof.decodeTableWord nbits w with
  | some c => { s with pending := c :: s.pending }
  | none => s

end Sys2Proof.Machine
end

