-- ==== Sys2Proof/Safety.lean ====
section
/-! DEFINITION. What every run keeps, in the terms that claims use. -/

namespace Sys2Proof.Machine

/-- The event log keeps within its sizes: 1,024 entries in the working log (R44), 4,096 in the persistent one (R45), 1,024 detail
records (R524). -/
def Log.bounded (g : Log) : Prop := g.entries.length ≤ 1024 ∧ g.persistent.length ≤ 4096 ∧ g.details.length ≤ 1024

/-- What holds in every state of a run: memories and settings in canonical form, and a log within its sizes. -/
def State.Inv (s : State) : Prop :=
  Memory.wf s.mem = true ∧ s.log.bounded ∧ Sparse.wf (defaultOf s.part.grade) s.dict = true

/-- The parts of the state that frames name: every field of `State` but the queue and the fixed part, with the fields of the array
(`arr…`), of the memories (`mem…`) and of the word-cell fabric (`fab…`). Four fields stand in two parts: `mgmtClock` is the fast
clock, `runStop` the recorded stop, `rstCommit` the count of faults in a commit, `secDenials` what the log limits of denials remember;
`mgmt`, `run`, `rst` and `sec` are all the rest of their field. -/
inductive Component where
  | answer | dict | mgmt | mgmtClock | can | boot | log | run
  | runStop | rst | rstCommit | therm | time | pulses | image | tokens
  | fixer | bundles | queueCounts | notices | laneOut | cores | sched | chan
  | trace | sec | secDenials | loader | rings | guest | sheets | lanes
  | pins | trig | host | free | arrNibs | arrWords | arrRouteWords | arrClusters
  | arrTiles | arrFlights | arrClaims | arrRoutes | arrSched | arrCyclog | arrQueues | arrRequests
  | arrSyncMask | arrVotes | arrUpperPowered | arrFlightCount | memBytes | memOnDie | memCache | memMarch
  | memOwned | memRetrained | fabClusterFrames | fabTileFrames | fabFclk | fabCells | fabRelease | fabParked
  | fabTrackEdges | fabProbes | fabEngines | fabPorts | fabDelays
deriving DecidableEq, Repr

/-- `t` holds in the component what `s` holds. -/
@[reducible] def Component.agree (s t : State) : Component → Prop
  | .answer => t.answer = s.answer
  | .dict => t.dict = s.dict
  | .mgmt => { t.mgmt with fastClock := false } = { s.mgmt with fastClock := false }
  | .mgmtClock => t.mgmt.fastClock = s.mgmt.fastClock
  | .can => t.can = s.can
  | .boot => t.boot = s.boot
  | .log => t.log = s.log
  | .run => { t.run with stopCause := 0, stopFault := 0 } = { s.run with stopCause := 0, stopFault := 0 }
  | .runStop => (t.run.stopCause, t.run.stopFault) = (s.run.stopCause, s.run.stopFault)
  | .rst => { t.rst with commitFaults := 0 } = { s.rst with commitFaults := 0 }
  | .rstCommit => t.rst.commitFaults = s.rst.commitFaults
  | .therm => t.therm = s.therm
  | .time => t.time = s.time
  | .pulses => t.pulses = s.pulses
  | .image => t.image = s.image
  | .tokens => t.tokens = s.tokens
  | .fixer => t.fixer = s.fixer
  | .bundles => t.bundles = s.bundles
  | .queueCounts => t.queueCounts = s.queueCounts
  | .notices => t.notices = s.notices
  | .laneOut => t.laneOut = s.laneOut
  | .cores => t.cores = s.cores
  | .sched => t.sched = s.sched
  | .chan => t.chan = s.chan
  | .trace => t.trace = s.trace
  | .sec => { t.sec with deniedLogged := [], levelLogged := [] } = { s.sec with deniedLogged := [], levelLogged := [] }
  | .secDenials => (t.sec.deniedLogged, t.sec.levelLogged) = (s.sec.deniedLogged, s.sec.levelLogged)
  | .loader => t.loader = s.loader
  | .rings => t.rings = s.rings
  | .guest => t.guest = s.guest
  | .sheets => t.sheets = s.sheets
  | .lanes => t.lanes = s.lanes
  | .pins => t.pins = s.pins
  | .trig => t.trig = s.trig
  | .host => t.host = s.host
  | .free => t.free = s.free
  | .arrNibs => t.arr.nibs = s.arr.nibs
  | .arrWords => t.arr.words = s.arr.words
  | .arrRouteWords => t.arr.routeWords = s.arr.routeWords
  | .arrClusters => t.arr.clusters = s.arr.clusters
  | .arrTiles => t.arr.tiles = s.arr.tiles
  | .arrFlights => t.arr.flights = s.arr.flights
  | .arrClaims => t.arr.claims = s.arr.claims
  | .arrRoutes => t.arr.routes = s.arr.routes
  | .arrSched => t.arr.sched = s.arr.sched
  | .arrCyclog => t.arr.cyclog = s.arr.cyclog
  | .arrQueues => t.arr.queues = s.arr.queues
  | .arrRequests => t.arr.requests = s.arr.requests
  | .arrSyncMask => t.arr.syncMask = s.arr.syncMask
  | .arrVotes => t.arr.votes = s.arr.votes
  | .arrUpperPowered => t.arr.upperPowered = s.arr.upperPowered
  | .arrFlightCount => t.arr.flightCount = s.arr.flightCount
  | .memBytes => t.mem.bytes = s.mem.bytes
  | .memOnDie => t.mem.onDie = s.mem.onDie
  | .memCache => t.mem.cache = s.mem.cache
  | .memMarch => t.mem.march = s.mem.march
  | .memOwned => t.mem.owned = s.mem.owned
  | .memRetrained => t.mem.retrained = s.mem.retrained
  | .fabClusterFrames => t.fabric.clusterFrames = s.fabric.clusterFrames
  | .fabTileFrames => t.fabric.tileFrames = s.fabric.tileFrames
  | .fabFclk => t.fabric.fclk = s.fabric.fclk
  | .fabCells => t.fabric.cells = s.fabric.cells
  | .fabRelease => t.fabric.release = s.fabric.release
  | .fabParked => t.fabric.parked = s.fabric.parked
  | .fabTrackEdges => t.fabric.trackEdges = s.fabric.trackEdges
  | .fabProbes => t.fabric.probes = s.fabric.probes
  | .fabEngines => t.fabric.engines = s.fabric.engines
  | .fabPorts => t.fabric.ports = s.fabric.ports
  | .fabDelays => t.fabric.delays = s.fabric.delays

/-- Nothing but the named components differs between `s` and `t`; the queue and the part agree. -/
def State.sameBut (l : List Component) (s t : State) : Prop :=
  t.pending = s.pending ∧ t.part = s.part ∧ ∀ c : Component, c ∉ l → c.agree s t

/-- The command completes: it ends in a next state, of which `P` holds. -/
def Completes (c : Instr) (s : State) (P : State → Prop) : Prop := ∃ t, exec c s = .next t ∧ P t

/-- Nothing but the components of `l` changes, whatever next state the command ends in. -/
def Touches (l : List Component) (c : Instr) : Prop := ∀ s t, exec c s = .next t → State.sameBut l s t

/-- Every check that stands before the rule of an entry passes: the CAN interface serves a request of its own, the controller answers, no
halt hides the entry, the rights table of the requester grants the access, and the debug level and the mode are those of Table 19-4 (R35,
R37, R52, R455, R460, R472). -/
def State.reaches (s : State) (req key : Nat) (write : Bool) : Bool :=
  (req != 1 || s.sdoOn) && !s.unreachable req key write && s.allowed req (mirrorAddr key) 4 write false && decide (entryLevel key ≤ s.sec.level) &&
    ((entryModes key).isEmpty || s.modeIn (entryModes key))

/-- A write of the entry reaches the entry's own rule: no CAN transfer holds it back, and the entry exists, is writable, and takes writes
in this mode (R25, R26, R34). -/
def State.mayWrite (s : State) (req key : Nat) : Bool :=
  s.reaches req key true && !s.mustWait req key &&
    match s.entryRow key with
    | none => false
    | some e => e.access != .ro && e.access != .const && (e.modes.isEmpty || s.modeIn e.modes)

/-- The value lies in the range of the entry, once the bits above its width are dropped (R26, R32). -/
def inRange (key v : Nat) : Bool := match entryOf key with
  | none => false
  | some e => e.rule.accepts (v % 2 ^ e.type.width)

/-- The newest entry of the working log is new, and says this (Table 2-4). -/
def State.logged (s t : State) (code source arg : Nat) : Prop :=
  t.log.newest = s.log.newest + 1 ∧
    t.log.entries.getLast?.map (fun e => (e.code, e.source, e.arg)) = some (code, source, arg % 2 ^ 32)

/-- The newest entries of the working log are new, and say these codes, sources and arguments, oldest first. -/
def State.logs (s t : State) (l : List (Nat × Nat × Nat)) : Prop :=
  t.log.newest = s.log.newest + l.length ∧
    (t.log.entries.drop (t.log.entries.length - l.length)).map (fun e => (e.code, e.source, e.arg)) = l

/-- `t` is what a reset of the level leaves of `s` (R466, R475, R476, R479): no image, mode SERVICE, the session key gone (a CORE reset
draws a new one at once), and 0x1100 newest in the log. -/
def State.wasReset (s t : State) (level sources : Nat) (escalated : Bool) : Prop :=
  t.run.mode = .service ∧ t.run.valid = false ∧ t.image = none ∧ t.rst.lastLevel = level ∧ t.rst.recovery = some level ∧
    t.sec.sessionKey = (level == 1 && s.rst.env.entropyOk) ∧ t.rst.count = (if level < 3 then sat32 s.rst.count 1 else 0) ∧
    t.log.entries.getLast?.map (fun e => (e.code, e.source, e.arg)) =
      some (0x1100, srcHub, level + sources % 2 ^ 8 * 2 ^ 8 + b2n escalated * 2 ^ 16)

/-- One byte of the physical address space, and one of a die's banks. -/
def State.byteAt (s : State) (x : Nat) : Byte := Sparse.get zeroByte s.mem.bytes x
def State.dieByte (s : State) (d off : Nat) : Byte := Sparse.get zeroByte s.mem.onDie (onDieKey d off)

end Sys2Proof.Machine
end

