-- ==== Sys2Proof/Certificates/Slice0/Obligations.lean ====
section
/-! DEFINITION. The statements of this model, for the provers. -/

open Sys2Proof Sys2Proof.Machine

/-- A step runs the command in front of the queue on the state with the rest of the queue. For every command c, state s and queue
rest, the step of s with the queue c :: rest is exec c on s with the queue rest, whatever it ends in. (spec/00 R8, spec/02 R26) -/
def Obligations.StepRunsTheCommandInFront : Prop :=
  ∀ (c : Instr) (rest : List Instr) (s : State), step { s with pending := c :: rest } = exec c { s with pending := rest }

/-- The state after reset meets the invariant, with nothing waiting and nothing in memory. State.reset meets State.Inv (memories and
settings in canonical form, log within its sizes), its queue is empty and its memories list no byte. (spec/02 R44, spec/20 R494) -/
def Obligations.ResetStateMeetsTheInvariant : Prop :=
  State.reset.Inv ∧ State.reset.pending = [] ∧ State.reset.mem.bytes = [] ∧ State.reset.mem.onDie = []

/-- Every step from a state that meets the invariant ends in one that meets it. For every state s that meets State.Inv (canonical
memories and settings; at most 1,024 log entries, 4,096 persistent ones and 1,024 detail records), whatever waits in its queue,
if step s answers next t then t meets State.Inv. (spec/02 R24, spec/02 R44, spec/02 R45, spec/21 R524) -/
def Obligations.EveryStepKeepsTheInvariant : Prop := ∀ s t : State, s.Inv → step s = .next t → t.Inv

/-- No command changes the queue of waiting commands or the fixed facts of the part. For every command c and state s, if exec c s
answers next t, then t's queue is s's and t's part (grade, guest, dies, fuses, DDR5 fitted) is s's. (spec/00 R2, spec/13 R341) -/
def Obligations.CommandsKeepQueueAndPart : Prop :=
  ∀ (c : Instr) (s t : State), exec c s = .next t → t.pending = s.pending ∧ t.part = s.part

/-- A step that answers next removes the front of the queue, and idles where the queue is empty. For every state s and t with step s
= next t: t's queue is s's without its front (an empty queue stays empty), t's part is s's, and on an empty queue t is s one
nanosecond later (State.tick, the model's own choice: assumption log 1). (spec/00 R8) -/
def Obligations.StepTakesTheFrontOrIdles : Prop :=
  ∀ s t : State, step s = .next t → t.pending = s.pending.tail ∧ t.part = s.part ∧ (s.pending = [] → t = s.tick)

/-- A write of a plain setting, by the mirror, SDO or RPDO, stores its value and no other entry changes. For the settings
HeartbeatPeriod, SheetSlot, SheetScope, StallLimit, WatchdogLevel, HoldoverLimit, LoadTimeout, UpsetLimit and MarchAtStart and a
value in range: a 4-byte aligned mirror write that no check turns away and no CAN transfer holds back stores the value cut to
the entry's width and answers ok; so does an SDO download of the entry's bytes (confirmed on the bus), and an RPDO whose one
mapped entry it is. Every other entry reads as before, and only those entries, the answer, the fast clock, (SDO) the bus and
(UpsetLimit) the fixer's copy of it change. In a canonical dictionary. (spec/02 R26, spec/02 R30, spec/02 R32, spec/02 R36) -/
def Obligations.DictionaryWritesReachTheirSetting : Prop :=
  ∀ (key w v : Nat) (s : State),
    (key, w) ∈ [(0x101700, 16), (0x212003, 8), (0x212004, 8), (0x213005, 32), (0x220303, 8), (0x230205, 32), (0x240103, 32),
      (0x250004, 16), (0x2E4001, 8)] →
    inRange key v = true → Sparse.wf (defaultOf s.part.grade) s.dict = true →
    let own : List Component := if key = 0x250004 then [.fixer] else []
    (∀ req, s.mayWrite req key = true →
      Completes (.dictionaryWrite req (mirrorAddr key - dictBase) 4 v) s fun t =>
        t.entry key = v % 2 ^ w ∧ (∀ k, k ≠ key → t.entry k = s.entry k) ∧ t.answer = .ok 0 ∧ s.sameBut (own ++ [.answer, .mgmtClock, .dict]) t) ∧
    (s.mayWrite 1 key = true → s.can.sdo = none → s.can.held = [] → v < 2 ^ w →
      Completes (.sdoTransfer (.download key (toBytes (w / 8) v))) s fun t =>
        t.entry key = v ∧ (∀ k, k ≠ key → t.entry k = s.entry k) ∧ t.can.sent = s.can.sent ++ [.sdoDone] ∧
          s.sameBut (own ++ [.answer, .mgmtClock, .dict, .can]) t) ∧
    (s.mayWrite 1 key = true → s.pdoOn = true → bit (s.entry 0x140001) 31 = false → s.entry 0x160000 = 1 →
      s.entry 0x160001 = key * 256 + w → v < 2 ^ w →
      Completes (.rpdoReceived 1 v) s fun t =>
        t.entry key = v ∧ (∀ k, k ≠ key → t.entry k = s.entry k) ∧ s.sameBut (own ++ [.answer, .mgmtClock, .dict]) t)

/-- NMT, heartbeat, SYNC and clock commands change the CAN node and the fast clock as the manual says. For a node that serves and is
addressed (its own ID or 0): NMT start, enter pre-operational and stop put it in that state and start the fast clock, and the
first two change nothing else; NMT reset communication with no transfer held restarts the CAN layer pre-operational, with the
settings of its entries and a boot-up frame. A heartbeat with a period other than 0 puts one frame with the NMT state on the
bus. SYNC on an operational node with TPDO 1 valid on every SYNC, one entry mapped and TPDOs 2 to 4 invalid counts one SYNC and
sends that entry's bytes. FAST_CLOCK_STOP in STANDBY or DORMANT stops the fast clock and changes nothing else. (spec/02 R28,
spec/02 R36, spec/02 R37, spec/02 R40) -/
def Obligations.CanCommandsTakeEffect : Prop :=
  ∀ (s : State) (node : Nat),
    (s.nmtFor node = true →
      Completes (.nmtStart node) s (fun t => t.can = { s.can with nmt := .operational } ∧ t.mgmt.fastClock = true ∧ s.sameBut [.can, .mgmtClock] t) ∧
      Completes (.nmtEnterPreoperational node) s (fun t =>
        t.can = { s.can with nmt := .preOperational } ∧ t.mgmt.fastClock = true ∧ s.sameBut [.can, .mgmtClock] t) ∧
      Completes (.nmtStop node) s (fun t => t.can.nmt = .stopped ∧
        (s.can.held = [] → t.can = { s.can with nmt := .stopped, sdo := none } ∧ t.mgmt.fastClock = true ∧ s.sameBut [.can, .mgmtClock] t)) ∧
      (s.can.held = [] → Completes (.nmtResetCommunication node) s fun t =>
        t.can = { s.can with nmt := .preOperational, rate := t.entry 0x2F5001, fd := t.entry 0x2F5002 == 1, dataRate := t.entry 0x2F5003
                             sdo := none, held := [], syncs := 0, sent := s.can.sent ++ [.bootUp] } ∧
          t.mgmt.fastClock = true ∧ s.sameBut [.can, .dict, .mgmtClock] t)) ∧
    (s.canSpeaks = true → s.entry 0x101700 ≠ 0 →
      Completes .heartbeat s fun t => t.can = { s.can with sent := s.can.sent ++ [.heartbeat s.can.nmt] } ∧ s.sameBut [.can] t) ∧
    (∀ key width, s.pdoOn = true → s.entry 0x180001 = 0 → s.entry 0x180002 = 1 → s.entry 0x1A0000 = 1 → s.entry 0x1A0001 = key * 256 + width →
      0 < width → width ≤ 32 → (∀ n, 1 ≤ n → n ≤ 3 → bit (s.entry (keyOf (0x1800 + n) 1)) 31 = true) →
      Completes .canopenSyncReceived s fun t =>
        t.can = { s.can with syncs := s.can.syncs + 1
                             sent := s.can.sent ++ [.tpdo 1 (toBytes ((width + 7) / 8)
                               ((s.withCan fun c => { c with syncs := c.syncs + 1 }).readNumber 1 key))] } ∧ s.sameBut [.can] t) ∧
    (s.asleep = true → Completes .fastClockStop s fun t => t.mgmt = { s.mgmt with fastClock := false } ∧ s.sameBut [.mgmtClock] t)

/-- Parameter storage, the log window and the firmware update write what the manual says. For a write that no check turns away:
STORE_PARAMETERS saves every persistent value and RESTORE_DEFAULTS discards what was saved; LOG_READ_SELECT shows the four words
of the selected log entry, or zeros. In LOADED, HOLD or SERVICE with no firmware command busy: FIRMWARE_CHECK_AND_WRITE with a
good digest and signature and a security version not below the rollback counter erases the inactive slot and begins to write the
image there; a bad digest or signature logs 0x9001, a low version 0x9002, and leaves the slot empty with status 3;
FIRMWARE_ACTIVATE makes the inactive slot preferred. FIRMWARE_WRITE_COMPLETE puts the written image in the slot, status 2, or
logs 0x9040 and leaves it empty, status 3. Nothing else changes. (spec/02 R28, spec/02 R45, spec/02 R46, spec/02 R47, spec/02
R48) -/
def Obligations.ManagementCommandsTakeEffect : Prop :=
  ∀ (s : State) (req : Nat),
    (s.mayWrite req storeKey = true → Completes (.storeParameters req) s fun t =>
      t.mgmt.saved = some s.persistentValues ∧ t.answer = .ok 0 ∧ s.sameBut [.answer, .mgmt, .mgmtClock] t) ∧
    (s.mayWrite req restoreKey = true → Completes (.restoreDefaults req) s fun t =>
      t.mgmt.saved = none ∧ t.mgmt.savedDomains = [] ∧ t.answer = .ok 0 ∧ s.sameBut [.answer, .mgmt, .mgmtClock] t) ∧
    (∀ seq, s.mayWrite req logSelectKey = true → Completes (.logReadSelect req seq) s fun t =>
      t.log = { s.log with select := seq % 2 ^ 32 } ∧ t.log.wordsOf t.log.select = s.log.wordsOf (seq % 2 ^ 32) ∧ t.answer = .ok 0 ∧
        s.sameBut [.answer, .mgmtClock, .log] t) ∧
    (s.mayWrite req firmwareKey = true → s.modeIn quietModes = true → s.boot.status ≠ 1 →
      (∀ (f : FirmwareImage) (c : FirmwareChecks),
        (c.digestOk = true → c.signatureOk = true → s.boot.rollback ≤ f.security →
          Completes (.firmwareCheckAndWrite req f c) s fun t =>
            t.boot = { s.boot.setInactive none with writing := some ⟨f.version, f.security, f.length, f.digest⟩, status := 1 } ∧
              t.answer = .ok 0 ∧ s.sameBut [.answer, .mgmtClock, .boot, .log] t) ∧
        ((c.digestOk = false ∨ c.signatureOk = false) →
          Completes (.firmwareCheckAndWrite req f c) s fun t =>
            t.boot = { s.boot.setInactive none with writing := none, status := 3 } ∧ s.firmwareEvent.logged t 0x9001 srcFirmware 0) ∧
        (c.digestOk = true → c.signatureOk = true → f.security < s.boot.rollback →
          Completes (.firmwareCheckAndWrite req f c) s fun t =>
            t.boot = { s.boot.setInactive none with writing := none, status := 3 } ∧ s.firmwareEvent.logged t 0x9002 srcFirmware 0)) ∧
      Completes (.firmwareActivate req) s fun t =>
        t.boot = { s.boot with preferred := 1 - s.boot.slot, status := 2 } ∧ t.answer = .ok 0 ∧ s.sameBut [.answer, .mgmtClock, .boot, .log] t) ∧
    (∀ f, s.boot.writing = some f →
      Completes (.firmwareWriteComplete true) s (fun t =>
        t.boot = { s.boot.setInactive (some f) with writing := none, status := 2 } ∧ s.sameBut [.boot, .log] t) ∧
      Completes (.firmwareWriteComplete false) s fun t =>
        t.boot = { s.boot.setInactive none with writing := none, status := 3 } ∧ s.logged t 0x9040 srcFirmware 0)

/-- Each reset source causes the reset of its level, or escalates it, or is logged. On a powered module outside a halt: outside a
recovery RST_N causes a SYS reset with its bit in the cause; during a CORE recovery it causes an escalated SYS reset. An expired
watchdog logs 0x1102 and under FULL resets at WatchdogLevel; under MINIMAL it logs 0x1104. An NMT reset node for this module, a
debug reset request through DBGACC at level open and a requested reset taken cause their resets under FULL. The SYS reset of a
life-cycle change takes place. An accepted ResetRequest stores the request and sets its bit under FULL, is logged under MINIMAL.
A watchdog refresh clears the count. After a reset no image is valid, the mode is SERVICE, the session key is gone (CORE draws a
new one), 0x1100 is newest in the log. (spec/20 R475, spec/20 R476, spec/20 R478, spec/20 R479, spec/20 R480, spec/20 R481,
spec/19 R448, spec/19 R457, spec/21 R501) -/
def Obligations.ResetSourcesReset : Prop :=
  ∀ s : State, s.powered = true → s.sec.halted = false →
    (s.rst.recovery = none →
      (Completes .pinReset s fun t => s.wasReset t 2 (setBit s.rst.cause 2 true) false) ∧
      (s.asleep = false → s.entry 0x220301 ≠ 0 → s.rst.profile = .full → (s.entry 0x220303 = 1 ∨ s.entry 0x220303 = 2) →
        (Completes .watchdogExpiry s fun t => s.wasReset t (s.entry 0x220303) (setBit s.rst.cause 3 true) false)) ∧
      (∀ node, s.nmtFor node = true → s.rst.profile = .full →
        (Completes (.nmtResetNode node) s fun t => s.wasReset t 2 (setBit s.rst.cause 4 true) false)) ∧
      (∀ level, (level = 1 ∨ level = 2) → s.sec.level = 2 → s.sec.tap = .dbgacc → s.rst.profile = .full →
        (Completes (.dbgaccResetRequest level) s fun t => s.wasReset t level (setBit s.rst.cause 5 true) false)) ∧
      ∀ level b, (level = 1 ∨ level = 2) → s.rst.request = some (level, b) →
        (Completes .requestedResetTaken s fun t => s.wasReset t level s.rst.cause false)) ∧
    (s.rst.recovery = some 1 → (Completes .pinReset s fun t => s.wasReset t 2 (setBit s.rst.cause 2 true) true)) ∧
    (s.asleep = false → s.entry 0x220301 ≠ 0 → s.rst.profile = .minimal →
      (Completes .watchdogExpiry s fun t => s.logs t [(0x1102, srcHub, 0), (0x1104, srcHub, 3)] ∧
        t.rst = { s.rst with watchdogCount := 0, cause := setBit s.rst.cause 3 true, commitFaults := t.rst.commitFaults })) ∧
    (s.sec.resetDue = true → (Completes .lifeCycleSysReset s fun t => s.wasReset t 2 s.rst.cause false)) ∧
    (∀ req, s.mayWrite req 0x220201 = true → s.rst.profile = .full →
      (Completes (.resetRequestCore req) s fun t => t.rst = { s.rst with cause := setBit s.rst.cause 4 true, request := some (1, 4) } ∧
        t.answer = .ok 0 ∧ s.sameBut [.answer, .mgmtClock, .rst] t) ∧
      (Completes (.resetRequestSys req) s fun t => t.rst = { s.rst with cause := setBit s.rst.cause 4 true, request := some (2, 4) } ∧
        t.answer = .ok 0 ∧ s.sameBut [.answer, .mgmtClock, .rst] t)) ∧
    (∀ req, s.mayWrite req 0x220201 = true → s.rst.profile = .minimal →
      (Completes (.resetRequestSys req) s fun t => s.logged t 0x1104 srcHub 4 ∧ t.rst.request = s.rst.request ∧ t.answer = .ok 0)) ∧
    ∀ req, s.mayWrite req 0x220302 = true → (Completes (.watchdogRefresh req) s fun t =>
      t.rst = { s.rst with watchdogCount := 0 } ∧ t.answer = .ok 0 ∧ s.sameBut [.answer, .mgmtClock, .rst] t)

/-- Power-on, brown-out and the loss of the always-on domain act on the module as Table 20-2 states. With a node ID strap other than
0, POWER_ON performs a POR whose cause is power-on (and brown-out where one was recorded), with empty memories and the boot ROM
at the preferred slot; a node ID of 0 logs 0x9020 last. A brown-out of a powered module retires the session key, loses the
retained image and the DDR5 contents, and under MINIMAL refuses DDR5 and logs 0x1101. Its recovery under FULL is an internal POR
whose cause is brown-out; during a SYS, POR or internal POR recovery it escalates and waits; under MINIMAL only the record of
the brown-out ends. Loss of the always-on domain leaves an unpowered module whose memories are empty and which keeps no entry
but TamperEvents. The end of the escalation wait begins a start attempt and changes nothing else. (spec/19 R466, spec/20 R476,
spec/20 R478, spec/20 R479, spec/20 R482, spec/20 R486, spec/21 R501, spec/21 R502) -/
def Obligations.SupplyCommandsTakeEffect : Prop :=
  ∀ s : State,
    (∀ straps env, straps.nodeId % 2 ^ 7 ≠ 0 →
      (Completes (.powerOn straps env) s fun t => s.wasReset t 3 (1 + 2 * b2n s.rst.brownOut) false ∧
        t.rst.cause = 1 + 2 * b2n s.rst.brownOut ∧ t.rst.env = env ∧ t.boot.phase = .attempt ∧ t.boot.slot = s.boot.preferred ∧
        t.mem.bytes = [] ∧ t.mem.onDie = [] ∧ t.log.newest = 1 ∧ t.can.nodeId = straps.nodeId % 2 ^ 7 ∧
        t.rst.profile = s.part.profile (if straps.fullProfile then .full else .minimal))) ∧
    (∀ straps env, straps.nodeId % 2 ^ 7 = 0 →
      (Completes (.powerOn straps env) s fun t => t.log.newest = 2 ∧
        t.log.entries.getLast?.map (fun e => (e.code, e.source, e.arg)) = some (0x9020, srcHub, 0))) ∧
    (s.powered = true → s.rst.brownOut = false → s.rst.profile = .full →
      (Completes .brownOut s fun t => t.rst = { s.rst with brownOut := true, cause := setBit s.rst.cause 1 true } ∧
        t.sec = { s.sec with sessionKey := false } ∧ t.loader.retained = none ∧ t.sheets = s.sheets.map (fun _ => Sheet.empty) ∧
        t.mem = (s.forgetBytes ddrStart guestStart).mem ∧ t.run.mode = s.run.mode)) ∧
    (s.powered = true → s.rst.brownOut = false → s.rst.profile = .minimal →
      (Completes .brownOut s fun t => t.rst.ddrRefused = true ∧ t.rst.brownOut = true ∧ t.sec.sessionKey = false ∧
        s.logged t 0x1101 srcHub 0)) ∧
    (s.powered = true → s.rst.brownOut = true → s.sec.halted = false →
      (s.rst.profile = .full → s.rst.recovery = none → s.can.nodeId ≠ 0 →
        (Completes .brownOutRecovery s fun t => s.wasReset t 4 2 false ∧ t.rst.cause = 2 ∧ t.boot.phase = .attempt ∧ t.rst.brownOut = false)) ∧
      (s.rst.profile = .full → (s.rst.recovery = some 2 ∨ s.rst.recovery = some 3 ∨ s.rst.recovery = some 4) → s.can.nodeId ≠ 0 →
        (Completes .brownOutRecovery s fun t => s.wasReset t 4 2 true ∧ t.boot.phase = .escalationWait ∧
          t.rst.escalatedRun = s.rst.escalatedRun + 1 ∧ t.rst.waitingSource = 1)) ∧
      (s.rst.profile = .minimal → (Completes .brownOutRecovery s fun t => t.rst = { s.rst with brownOut := false } ∧ s.sameBut [.rst] t))) ∧
    (s.rst.vin = true → (Completes .alwaysOnLoss s fun t => t.powered = false ∧ t.rst.vin = false ∧ t.mem.bytes = [] ∧
      t.mem.onDie = [] ∧ t.mem.cache = [] ∧ (∀ e ∈ t.dict, e.1 = 0x262102) ∧ t.sec.sessionKey = false ∧ t.log.entries = [] ∧ t.image = none)) ∧
    (s.boot.phase = .escalationWait → (Completes .escalationWaitExpiry s fun t =>
      t.boot = { s.boot with phase := .attempt } ∧ s.sameBut [.boot] t))

/-- The boot ROM and the firmware start as R47 to R51 state, and a march runs at start. In a start attempt an image with a good
signature and a security version not below the rollback counter is entered (0x9005 logged); a missing or unsigned image logs
0x9001, a lower version 0x9002, and the ROM waits. The end of the wait tries the other slot; a start timeout, and an expiry of
the management watchdog within 10 s of entry, log 0x9004 and make the ROM wait. Start-complete outside a recovery makes the
firmware ready, its slot preferred, the rollback counter no lower than its security version and the CAN node pre-operational,
and settings and what follows from them are all else that may change; in a recovery by POR with MarchAtStart set it starts that
march; in a SYS recovery it ends the recovery. MARCH_COMPLETE of a march that does not run at start sets its status and changes
nothing of the start. (spec/02 R47, spec/02 R49, spec/02 R50, spec/02 R51, spec/06 R160, spec/08 R194, spec/20 R482, spec/21
R500) -/
def Obligations.StartCommandsTakeEffect : Prop :=
  ∀ s : State,
    (s.boot.phase = .attempt →
      (∀ f, s.boot.image = some f → s.boot.rollback ≤ f.security →
        (Completes (.startAttempt true) s fun t => t.boot = { s.boot with
            attempts := s.boot.attempts + 1, attemptsSincePowerOn := sat32 s.boot.attemptsSincePowerOn 1, phase := .entered
            enteredAt := s.mgmt.uptime } ∧
          s.logged t 0x9005 srcBoot (s.boot.slot + (s.boot.attempts + 1) % 2 ^ 31 * 2) ∧ s.sameBut [.boot, .log] t)) ∧
      (∀ f, s.boot.image = some f → f.security < s.boot.rollback →
        (Completes (.startAttempt true) s fun t => t.boot.phase = .retryWait ∧ t.boot.attempts = s.boot.attempts + 1 ∧
          s.logs t [(0x9005, srcBoot, (s.boot.slot + (s.boot.attempts + 1) % 2 ^ 31 * 2) % 2 ^ 32), (0x9002, srcBoot, 0)])) ∧
      (∀ ok, s.boot.image = none ∨ ok = false →
        (Completes (.startAttempt ok) s fun t => t.boot.phase = .retryWait ∧ t.boot.attempts = s.boot.attempts + 1 ∧
          s.logs t [(0x9005, srcBoot, (s.boot.slot + (s.boot.attempts + 1) % 2 ^ 31 * 2) % 2 ^ 32), (0x9001, srcBoot, 0)]))) ∧
    (s.boot.phase = .retryWait → (Completes .startRetryWaitExpiry s fun t =>
      t.boot = { s.boot with phase := .attempt, slot := 1 - s.boot.slot, waitStep := s.boot.waitStep + 1 } ∧ s.sameBut [.boot] t)) ∧
    (s.boot.phase = .entered → (Completes .firmwareStartTimeout s fun t =>
      t.boot = { s.boot with phase := .retryWait, waitStart := s.mgmt.uptime } ∧ s.logged t 0x9004 srcBoot 0 ∧ s.sameBut [.boot, .log] t)) ∧
    ((s.boot.phase = .entered ∨ s.serving = true) → s.mgmt.uptime ≤ s.boot.enteredAt + 10000000000 →
      (Completes .mgmtWatchdogExpiry s fun t =>
        t.boot = { s.boot with phase := .retryWait, waitStart := s.mgmt.uptime } ∧ s.logged t 0x9004 srcBoot 0 ∧ s.sameBut [.boot, .log] t)) ∧
    (∀ f, s.boot.phase = .entered → s.boot.image = some f →
      (s.rst.recovery = none → f.security ≤ 63 →
        (Completes .firmwareStartComplete s fun t => t.boot = { s.boot with
            phase := .ready, preferred := s.boot.slot, waitStep := 0, rollback := max s.boot.rollback f.security } ∧ t.can.nmt = .preOperational ∧
          s.sameBut [.boot, .can, .dict, .log, .time, .cores, .trace, .sec, .rings, .guest, .pins, .host, .arrSched, .memBytes] t)) ∧
      (s.rst.recovery = some 3 → s.entry 0x2E4001 = 1 → s.mgmt.saved = none →
        (Completes .firmwareStartComplete s fun t => t.boot.phase = .starting ∧ t.boot.preferred = s.boot.slot ∧
          t.mem.march.status = 1 ∧ t.mem.march.kind = 1 ∧ t.rst.recovery = some 3)) ∧
      (s.rst.recovery = some 2 →
        (Completes .firmwareStartComplete s fun t => t.boot.phase = .ready ∧ t.boot.preferred = s.boot.slot ∧ t.rst.recovery = none ∧
          t.rst.escalatedRun = 0))) ∧
    ∀ r, s.mem.march.status = 1 → s.mem.march.atStart = false →
      (Completes (.marchComplete r) s fun t => t.mem.march.status = 2 ∧ t.mem.march.duration = r.duration % 2 ^ 32 ∧
        t.boot = s.boot ∧ t.rst.recovery = s.rst.recovery)

/-- A clock failure resets the module under FULL and holds what the clock feeds under MINIMAL, until the clock locks again. Outside
a halt. Under FULL and outside a recovery, a failure of a clock that runs (CLOCK_FAILURE, DIE_PLL_UNLOCK, or REFERENCE_LOST
while the chassis reference is in use) causes a SYS reset with source bit 6. Under MINIMAL a ring or I/O loop (2, 4) that fails
logs 0x2201 and 0x1103 and is held as failed; of a fabric loop also every bridge engine of the die is held; a step or link loop
of an E-die, or the reference, holds every E-die: no image, mode SERVICE, with LastResetLevel unchanged; the oscillator logs
0x1103. LOOP_LOCKED_AGAIN ends the hold and releases the blocks that waited. (How 0x2201 and 0x1103 pack die and loop is a free
constant of the model.) (spec/13 R334, spec/16 R395, spec/20 R478, spec/20 R485) -/
def Obligations.ClockCommandsTakeEffect : Prop :=
  ∀ s : State, s.sec.halted = false →
    (s.rst.profile = .full → s.rst.recovery = none →
      (∀ c, s.clockRuns c = true → (Completes (.clockFailure c) s fun t =>
        s.wasReset t 2 (setBit s.rst.cause 6 true) false ∧ t.rst.clockReset = true)) ∧
      (∀ d l, s.clockRuns (.loop d l) = true → (Completes (.diePllUnlock d l) s fun t =>
        s.wasReset t 2 (setBit s.rst.cause 6 true) false ∧ t.rst.clockReset = true)) ∧
      (s.clockRuns .reference = true → s.time.refInUse = 1 → (Completes .referenceLost s fun t =>
        s.wasReset t 2 (setBit s.rst.cause 6 true) false ∧ t.rst.env.chassis = none))) ∧
    (s.rst.profile = .minimal →
      (∀ d l, (l = 2 ∨ l = 3 ∨ l = 4) → s.clockRuns (.loop d l) = true → (.loop d l) ∉ s.rst.failedLoops →
        (Completes (.diePllUnlock d l) s fun t => t.rst.failedLoops = s.rst.failedLoops ++ [.loop d l] ∧
          t.rst.cause = setBit s.rst.cause 6 true ∧
          s.logs t [(0x2201, unitSource (min d hubUnit), Config.packArg 0x2201 [d, l] % 2 ^ 32),
            (0x1103, unitSource (min d hubUnit), Config.packArg 0x1103 [d, l] % 2 ^ 32)] ∧
          (l = 3 → ∀ e ∈ t.fabric.engines, ∀ b, e.binding = some b → b.die = d → e.held = true) ∧ t.run.mode = s.run.mode)) ∧
      (∀ d l, d < 8 → l < 2 → s.clockRuns (.loop d l) = true → (.loop d l) ∉ s.rst.failedLoops →
        (Completes (.clockFailure (.loop d l)) s fun t => t.rst.failedLoops = s.rst.failedLoops ++ [.loop d l] ∧ t.diesHeld = true ∧
          t.run.mode = .service ∧ t.run.valid = false ∧ t.image = none ∧ t.rst.lastLevel = s.rst.lastLevel)) ∧
      (s.clockRuns .reference = true → s.time.refInUse = 1 → (Completes .referenceLost s fun t => t.diesHeld = true ∧
          t.run.mode = .service ∧ t.run.valid = false ∧ t.image = none ∧ t.rst.lastLevel = s.rst.lastLevel)) ∧
      (s.clockRuns .oscillator = true → (Completes (.clockFailure .oscillator) s fun t =>
        .oscillator ∈ t.rst.failedLoops ∧ s.logged t 0x1103 srcHub (Config.packArg 0x1103 [10, 0]) ∧ t.run.mode = s.run.mode))) ∧
    ∀ c, c ∈ s.rst.failedLoops → (Completes (.loopLockedAgain c) s fun t =>
      t.rst.failedLoops = s.rst.failedLoops.filter (fun x => x != c) ∧ t.rst.blockWaiting = [])

/-- Core lock-ups and block resets hold their block, refuse a busy one, and release it after the hold. A running core that double-
traps is locked up: under MINIMAL it stays so with mepc and mcause, 0x4140 and 0x1104 logged; under FULL it is held in reset,
its CoreRelease bit clear, its reset in progress. With no block reset in progress and the entry writable: BLOCK_RESET_CORE of an
idle core holds it in reset; of a bridge engine outside RUN with empty FIFOs empties and holds it; of the trigger engine with
idle samplers disables units and samplers; of an Ethernet port in PortMode 0 puts it in its initial state, a link to come up. A
block that is not idle is refused with 0x1105 and its code, and nothing but the record of the refusal changes.
BLOCK_RESET_RELEASE with a stable clock ends the first hold, status 2; without one the block waits and the wait is counted.
(spec/12 R301, spec/20 R483, spec/20 R484) -/
def Obligations.BlockResetsTakeEffect : Prop :=
  ∀ s : State,
    (∀ (c mepc mcause : Nat) (x : Core), s.cores[c]? = some x → x.state = .running → s.sec.halted = false →
      (s.rst.profile = .minimal → (Completes (.coreLockup c mepc mcause) s fun t =>
        t.cores[c]?.any (fun y => y.state == .lockedUp && y.mepc == mepc % 2 ^ 64 && y.mcause == mcause % 2 ^ 64) = true ∧
          s.logs t [(0x4140, srcCore c, lockupArg mcause), (0x1104, srcHub, 7)])) ∧
      (s.rst.profile = .full → c < 32 → (Completes (.coreLockup c mepc mcause) s fun t =>
        t.cores[c]?.any (fun y => y.state == .reset) = true ∧ t.rst.blockHeld = s.rst.blockHeld ++ [0x1000 + c] ∧
          t.rst.cause = setBit s.rst.cause 7 true))) ∧
    (∀ req, s.mayWrite req blockKey = true → s.rst.blockStatus ≠ 1 →
      (∀ c, c < 32 → s.coreIdle c = true → (Completes (.blockResetCore req c) s fun t =>
        t.cores[c]?.any (fun y => y.state == .reset) = true ∧ t.rst = { s.rst with blockHeld := s.rst.blockHeld ++ [c], blockStatus := 1 } ∧
          t.answer = .ok 0 ∧ s.sameBut [.answer, .mgmtClock, .rst, .cores, .dict, .sched, .chan, .trace, .log] t)) ∧
      (∀ c, c < 32 → s.coreIdle c = false → (Completes (.blockResetCore req c) s fun t =>
        s.logged t 0x1105 srcHub c ∧ s.sameBut [.answer, .mgmtClock, .log] t)) ∧
      (∀ e x, e < 8 → s.run.mode ≠ .run → s.fabric.engines[e]? = some x → x.tx = [] → x.rx = [] →
        (Completes (.blockResetBridgeEngine req e) s fun t =>
          t.fabric.engines[e]? = some { BridgeEngine.idle with binding := x.binding, held := true } ∧
          t.rst = { s.rst with blockHeld := s.rst.blockHeld ++ [0x100 + e], blockStatus := 1 } ∧ t.answer = .ok 0 ∧
          s.sameBut [.answer, .mgmtClock, .rst, .fabEngines] t)) ∧
      (s.triggerIdle = true → (Completes (.blockResetTriggerEngine req) s fun t =>
        t.trig.units = s.trig.units.map (fun _ => TrigUnit.fresh) ∧ t.trig.samplers = s.trig.samplers.map (fun _ => Sampler.fresh) ∧
          t.rst = { s.rst with blockHeld := s.rst.blockHeld ++ [0x200], blockStatus := 1 } ∧ t.answer = .ok 0 ∧
          s.sameBut [.answer, .mgmtClock, .rst, .trig, .dict] t)) ∧
      (∀ p x, p < 2 → s.entry (portModeKey p) = 0 → s.time.ports[p]? = some x → (Completes (.blockResetEthernetPort req p) s fun t =>
        t.time.ports[p]? = some { x with master := none, pathDelay := 0, linkUp := false, initializing := true } ∧
          t.rst = { s.rst with blockHeld := s.rst.blockHeld ++ [0x300 + p], blockStatus := 1 } ∧ t.answer = .ok 0 ∧
          s.sameBut [.answer, .mgmtClock, .rst, .time] t))) ∧
    (∀ code rest, s.rst.blockHeld = code :: rest →
      (code < 0x1000 → (Completes (.blockResetRelease true) s fun t => t.rst = { s.rst with blockHeld := rest, blockStatus := 2 })) ∧
      (Completes (.blockResetRelease false) s fun t => t.rst = { s.rst with
        blockHeld := rest, blockWaiting := s.rst.blockWaiting ++ [code], releasesDelayed := sat32 s.rst.releasesDelayed 1 } ∧ s.sameBut [.rst] t))

/-- NOP, EVAL, SEND, STORE, PROBE and SYNC do to their nib what Table 4-6 states, and to no other nib. For a nib that may execute
step t, with o the state in which step t has opened: where its instruction latch holds a good word of the command's class, the
nib drives its output. NOP drives 0 and draws no token; the others draw one in their tile. EVAL writes its value at t mod 768 of
the data memory and drives it; SEND only drives it; STORE also writes the state-file bit of its destination; PROBE also writes
its lane of the tile; SYNC writes nothing, drives 0, and where its value is 1 casts its vote and raises stop cause 2. A word
whose parity fails or whose opcode is invalid executes as NOP: 0x4106 is logged. No other nib changes. (In canonical nib and
tile lists.) (spec/03 R56, spec/03 R57, spec/03 R59, spec/03 R60, spec/04 R84, spec/04 R85, spec/04 R90, spec/04 R91, spec/04
R92, spec/04 R93, spec/07 R169) -/
def Obligations.NibOperationsTakeEffect : Prop :=
  ∀ (s : State) (t n : Nat) (w : BitVec 64) (o : State) (x : Nib), o = s.openStep t → x = o.arr.nib n → s.nibReady t n = true →
    Sparse.wf (fun _ => Nib.zero) o.arr.nibs = true → Sparse.wf (fun _ => Tile.zero) o.arr.tiles = true →
    (o.arr.fetched n = .word .nop w → (Completes (.nop t n) s fun u =>
      u.arr.nib n = { x with out := false } ∧ (∀ m, m ≠ n → u.arr.nib m = o.arr.nib m) ∧
        o.sameBut [.arrNibs, .arrSched] u)) ∧
    (o.arr.fetched n = .word .eval w → (Completes (.eval t n) s fun u =>
      u.arr.nib n = { x with out := (x.evaluate w 4).value
                             data := bvSet x.data (t % 768) (x.evaluate w 4).value } ∧ (∀ m, m ≠ n → u.arr.nib m = o.arr.nib m) ∧
        (u.arr.tile (tileKey n)).tokens = (o.arr.tile (tileKey n)).tokens + 1 ∧ u.tokens.drawn = o.tokens.drawn + 1 ∧
        o.sameBut [.arrNibs, .arrSched, .arrTiles, .arrCyclog, .tokens, .dict, .cores, .host] u)) ∧
    (o.arr.fetched n = .word .send w → (Completes (.send t n) s fun u =>
      u.arr.nib n = { x with out := (x.evaluate w 4).value } ∧
        (∀ m, m ≠ n → u.arr.nib m = o.arr.nib m) ∧
        (u.arr.tile (tileKey n)).tokens = (o.arr.tile (tileKey n)).tokens + 1 ∧ u.tokens.drawn = o.tokens.drawn + 1 ∧
        o.sameBut [.arrNibs, .arrSched, .arrTiles, .arrCyclog, .tokens, .dict, .cores, .host] u)) ∧
    (o.arr.fetched n = .word .store w → (Completes (.store t n) s fun u =>
      u.arr.nib n = { x with out := (x.evaluate w 3).value
                             data := bvSet x.data (t % 768) (x.evaluate w 3).value
                             file := bvSet x.file (wordDest w) (x.evaluate w 3).value } ∧ (∀ m, m ≠ n → u.arr.nib m = o.arr.nib m) ∧
        (u.arr.tile (tileKey n)).tokens = (o.arr.tile (tileKey n)).tokens + 1 ∧ u.tokens.drawn = o.tokens.drawn + 1 ∧
        o.sameBut [.arrNibs, .arrSched, .arrTiles, .arrCyclog, .tokens, .dict, .cores, .host] u)) ∧
    (o.arr.fetched n = .word .probe w → (Completes (.probe t n) s fun u =>
      u.arr.nib n = { x with out := (x.evaluate w 3).value
                             data := bvSet x.data (t % 768) (x.evaluate w 3).value } ∧ (∀ m, m ≠ n → u.arr.nib m = o.arr.nib m) ∧
        u.arr.tile (tileKey n) = { o.arr.tile (tileKey n) with
          tokens := (o.arr.tile (tileKey n)).tokens + 1
          lanes := bvSet (o.arr.tile (tileKey n)).lanes (wordLane w) (x.evaluate w 3).value } ∧ u.tokens.drawn = o.tokens.drawn + 1 ∧
        o.sameBut [.arrNibs, .arrSched, .arrTiles, .arrCyclog, .tokens, .dict, .cores, .host] u)) ∧
    (o.arr.fetched n = .word .sync w → (Completes (.sync t n) s fun u =>
      u.arr.nib n = { x with out := false } ∧ (∀ m, m ≠ n → u.arr.nib m = o.arr.nib m) ∧
        (u.arr.tile (tileKey n)).tokens = (o.arr.tile (tileKey n)).tokens + 1 ∧ u.tokens.drawn = o.tokens.drawn + 1 ∧
        u.arr.votes = o.arr.votes ++ (if (x.evaluate w 3).value then [(o.arr.sched.cycle, wordEvent w, b2n (wordScope w))] else []) ∧
        ((x.evaluate w 3).value = true → u.arr.sched.stops = o.arr.sched.stops ++
          [⟨2, max (stopCycle o.L o.lead o.arr.sched.cycle t) o.arr.sched.cycle, o.arr.sched.cycle, t, nibDie n, 0⟩]) ∧
        o.sameBut [.arrNibs, .arrSched, .arrTiles, .arrCyclog, .arrVotes, .tokens, .dict, .cores, .host, .notices] u)) ∧
    (∀ invalid, o.arr.fetched n = .upset invalid → (Completes (.nop t n) s fun u =>
      u.arr.nib n = { x with out := false } ∧ (∀ m, m ≠ n → u.arr.nib m = o.arr.nib m) ∧
        o.logged u 0x4106 (srcDie (nibDie n)) (b2n invalid * 2 ^ 30 + nibLocal n) ∧ u.tokens.drawn = o.tokens.drawn))

/-- Arrivals, the staging sample, the crossing latch load and the token checks do what the manual states. With o the state in which
step t has opened: INTERCONNECT_ARRIVAL with a lane value gives that value to the flight of this nib and receive address that
waits for it over a pinned lane and has a claim ahead. Without one it puts the value of the flight that lands in step t, as its
slots have carried it, among the deliveries of P3 and removes the flight. STAGING_SAMPLE at step L - 4 copies every staging
register, with what has reached it, to its hold register. CROSSING_LATCH_LOAD loads the word-cell side of the crossing-out and
probe latches: while the array stands at once, while it runs as its step begins. SEGMENT_TOKEN_CHECK ends segment g: every tile
over its budget counts one overdraw, and every count starts afresh. WORD_CELL_TOKEN_INTERVAL does so for the word-cell counts
against W[u]. (In canonical lists of clusters and tiles.) (spec/03 R57, spec/05 R107, spec/05 R110, spec/05 R125, spec/05 R126,
spec/05 R131, spec/07 R173, spec/07 R174) -/
def Obligations.ArrivalsAndSegmentsTakeEffect : Prop :=
  ∀ s : State,
    (∀ t n rx (o : State) (f : Flight), o = s.openStep t → s.canReach t = true → nibDie n < s.dies → rx < 256 →
      (o.arr.flights.find? fun g => g.goesTo n rx && g.laneIn.isSome && o.crossed g && (o.arr.claims.any fun c => c.flight == g.id)) = some f →
      ∀ v, (Completes (.interconnectArrival t n rx (some v)) s fun u => u.arr.flights =
        (o.arr.flights.map fun g => if g.id = f.id then { g with value := v, laneIn := none } else g) ∧ o.sameBut [.arrFlights] u)) ∧
    (∀ t n rx (o : State) (f : Flight), o = (s.openStep t).resolveClaims → s.canReach t = true → nibDie n < s.dies → rx < 256 →
      (o.arr.flights.find? fun g => g.goesTo n rx && o.arr.sched.lands g && o.crossed g) = some f →
      (Completes (.interconnectArrival t n rx none) s fun u => u.arr.sched.p3 = o.arr.sched.p3 ++ [.receive n rx f.value] ∧
        u.arr.flights = o.arr.flights.filter (fun g => g.id != f.id) ∧ o.sameBut [.arrSched, .arrFlights] u)) ∧
    (∀ p q o : State, p = s.runTo (s.L - 4) → s.canReach (s.L - 4) = true → 4 ≤ s.L → p.arr.sched.opened = false → p.arr.sched.sampled = false →
      q = (if p.arr.sched.latchDue = some (s.L - 4) then p.decideDue.loadWordSide else p.decideDue) →
      o = q.fabric.cellKeys.foldl State.landStagings q → Sparse.wf (fun _ => Cluster.zero) o.arr.clusters = true →
      (Completes .stagingSample s fun u => u.arr.sched.sampled = true ∧
        (∀ k : Nat, u.arr.cluster k = { o.arr.cluster k with hold := (o.arr.cluster k).staging }))) ∧
    (∀ t, s.arr.sched.latchDue = some t →
      ((s.arrayRuns && !s.arr.sched.frozenHere) = false → Sparse.wf (fun _ => Cluster.zero) s.arr.clusters = true →
        Sparse.wf (fun _ => Tile.zero) s.arr.tiles = true → (Completes .crossingLatchLoad s fun u => u.arr.sched.latchDue = none ∧
          (∀ k : Nat, u.arr.cluster k = { s.arr.cluster k with outSide := (s.arr.cluster k).outLatch }) ∧
          (∀ k : Nat, u.arr.tile k = { s.arr.tile k with side := (s.arr.tile k).latch }))) ∧
      (∀ p : State, p = s.runTo t → s.canReach t = true → s.arr.sched.frozenHere = false → p.arr.sched.opened = false →
        p.arr.sched.latchDue = some t →
        Sparse.wf (fun _ => Cluster.zero) p.arr.clusters = true → Sparse.wf (fun _ => Tile.zero) p.arr.tiles = true →
        (Completes .crossingLatchLoad s fun u => u.arr.sched.latchDue = none ∧ u.arr.sched.step = t ∧ u.arr.sched.opened = true ∧
          (∀ k : Nat, (u.arr.cluster k).outSide = (p.arr.cluster k).outLatch) ∧
          (∀ k : Nat, (u.arr.tile k).side = (p.arr.tile k).latch)))) ∧
    (∀ g (o : State), o = (s.openStep (16 * g + 15)).settleStep → s.canReach (16 * g + 15) = true → 16 * g + 16 ≤ s.L →
      Sparse.wf (fun _ => Tile.zero) o.arr.tiles = true → o.tokens.overdraws ≤ max32 →
      (Completes (.segmentTokenCheck g) s fun u => u.arr.sched.step = 16 * g + 16 ∧
        u.tokens.overdraws = min max32 (o.tokens.overdraws + ((List.range o.dies).map fun d => (o.overdrawn d g).length).sum) ∧
        ∀ k : Nat, u.arr.tile k = { o.arr.tile k with tokens := 0 })) ∧
    (Sparse.wf (fun _ => Tile.zero) s.arr.tiles = true → s.tokens.overdraws ≤ max32 → ∀ i, s.image = some i →
      (Completes .wordCellTokenInterval s fun u =>
        u.tokens.overdraws = min max32 (s.tokens.overdraws +
          (s.arr.tiles.filter fun e => decide (Sparse.get (fun _ => 0) i.cellBudget e.1 < e.2.wcTokens)).length) ∧
        ∀ k : Nat, u.arr.tile k = { s.arr.tile k with wcTokens := 0 }))

/-- ENQ issues its request and WAIT reads the head answer, as the calendar of their queue gives them. For a group that may act at
step t: let r be the state after its ENQ members, the nibs whose instruction latches name it, have executed, and q its queue.
Where the calendar gives no ENQ at t, 0x4106 with bit 29 is logged. Otherwise 8 tokens are drawn: an enabled request inside its
region enters its queue (a read with no zero answer outstanding); an on-die write stores its word and changes no other byte, an
on-die read fixes its answer, HBM and deep requests join the port's requests; a null request is an entry without an effect, a
null read's answer being 0. An offset outside the region logs 0x5101. WAITs that the calendar gives at t read their bit of a
present head answer into the data memory and output, and remove the head; of an absent one they read a free value. With no
request outstanding they read 0 and 0x4107 is logged. WAITs elsewhere read a present head answer and remove nothing (both are
the model's choice, log 30). (spec/04 R96, spec/04 R97, spec/04 R98, spec/04 R100, spec/04 R101, spec/06 R141, spec/06 R143,
spec/06 R144, spec/06 R145, spec/07 R169) -/
def Obligations.QueuePortGroupsTakeEffect : Prop :=
  ∀ (s : State) (t port desc : Nat), desc < 64 →
    (∀ (r : State × Nat) (q : Queue), s.groupReady t port desc (enqMark (queueKey port desc)) = true →
      (s.openStep t).arr.members .enq port desc ≠ [] →
      r = ((s.openStep t).arr.members .enq port desc).foldl State.enqMember ((s.openStep t).markGroup (enqMark (queueKey port desc)), 0) →
      q = r.1.arr.queue (queueKey port desc) → Sparse.wf (fun _ => Queue.empty) r.1.arr.queues = true →
      ((((s.openStep t).arr.queue (queueKey port desc)).calendar.enq.find? fun e => e.1 == t) = none →
        (Completes (.enq t port desc) s fun u => u.log.newest = r.1.log.newest + ((s.openStep t).arr.members .enq port desc).length ∧
          u.tokens.drawn = r.1.tokens.drawn ∧ u.arr.queue (queueKey port desc) = q)) ∧
      (∀ en, (((s.openStep t).arr.queue (queueKey port desc)).calendar.enq.find? fun e => e.1 == t) = some (t, en) →
        (en = true → bit r.2 127 = false → descWrite q.desc = false → q.skip = 0 →
          (Completes (.enq t port desc) s fun u => u.tokens.drawn = r.1.tokens.drawn + 8 ∧
            u.arr.queue (queueKey port desc) = { q with entries := q.entries ++
              [r.1.newEntry q.desc (bits r.2 0 (descA q.desc)) 0 0 true true] } ∧ u.mem = r.1.mem ∧ u.arr.requests = r.1.arr.requests)) ∧
        (en = true → bit r.2 127 = false → descWrite q.desc = true →
          (Completes (.enq t port desc) s fun u => u.tokens.drawn = r.1.tokens.drawn + 8 ∧
            (u.arr.queue (queueKey port desc)).entries = q.entries ++ [r.1.newEntry q.desc (bits r.2 0 (descA q.desc))
              (bits r.2 (descA q.desc) (descW q.desc)) 0 true true] ∧ u.mem = r.1.mem ∧ u.arr.requests = r.1.arr.requests)) ∧
        ((en = false ∨ bit r.2 127 = true) → descWords q.desc ≤ bits r.2 0 (descA q.desc) →
          (Completes (.enq t port desc) s fun u => u.tokens.drawn = r.1.tokens.drawn + 8 ∧ u.mem = r.1.mem ∧
            u.arr.requests = r.1.arr.requests ∧
            (port ∉ r.1.arr.cyclog.rangePorts → port ∈ u.arr.cyclog.rangePorts ∧
              u.log.entries.getLast?.map (fun e => (e.code, e.source, e.arg)) =
                some (0x5101, srcDie (portDie port), queueArg port desc t % 2 ^ 32)))) ∧
        ((en = false ∨ bit r.2 127 = true) → bits r.2 0 (descA q.desc) < descWords q.desc → descClass q.desc = 0 →
          (descWrite q.desc = false → q.skip = 0 → (Completes (.enq t port desc) s fun u => u.tokens.drawn = r.1.tokens.drawn + 8 ∧
            u.arr.queue (queueKey port desc) = { q with entries := q.entries ++
              [r.1.newEntry q.desc (bits r.2 0 (descA q.desc)) 0 (r.1.readRegion q.desc port (bits r.2 0 (descA q.desc))) true false] } ∧
            u.mem = r.1.mem)) ∧
          (descWrite q.desc = true → (Completes (.enq t port desc) s fun u => u.tokens.drawn = r.1.tokens.drawn + 8 ∧
            (u.arr.queue (queueKey port desc)).entries = q.entries ++ [r.1.newEntry q.desc (bits r.2 0 (descA q.desc))
              (bits r.2 (descA q.desc) (descW q.desc)) 0 true false] ∧
            u.mem = (r.1.writeRegion q.desc port (bits r.2 0 (descA q.desc)) (bits r.2 (descA q.desc) (descW q.desc))).mem))) ∧
        ((en = false ∨ bit r.2 127 = true) → bits r.2 0 (descA q.desc) < descWords q.desc → descClass q.desc ≠ 0 → q.skip = 0 →
          (Completes (.enq t port desc) s fun u => u.tokens.drawn = r.1.tokens.drawn + 8 ∧ u.mem = r.1.mem ∧
            Sparse.get (fun _ => []) u.arr.requests port = Sparse.get (fun _ => []) (r.1.sendRequest port desc (bits r.2 0 (descA q.desc))
              (if descWrite q.desc then bits r.2 (descA q.desc) (descW q.desc) else 0)).arr.requests port ∧
            (u.arr.queue (queueKey port desc)).entries = q.entries ++ [r.1.newEntry q.desc (bits r.2 0 (descA q.desc))
              (if descWrite q.desc then bits r.2 (descA q.desc) (descW q.desc) else 0) 0 false false])))) ∧
    (∀ (o : State) (q : Queue), o = s.openStep t → q = o.arr.queue (queueKey port desc) →
      s.groupReady t port desc (waitMark (queueKey port desc)) = true → o.arr.members .wait port desc ≠ [] →
      Sparse.wf (fun _ => Nib.zero) o.arr.nibs = true → Sparse.wf (fun _ => Queue.empty) o.arr.queues = true →
      (t ∈ q.calendar.waits →
        (∀ (e : QEntry) (es : List QEntry), q.entries = e :: es → e.missing = false →
          (e.present = true → (Completes (.wait t port desc) s fun u => (u.arr.queue (queueKey port desc)).entries = es ∧
            (∀ m ∈ o.arr.members .wait port desc, wordPosition m.2 < descW q.desc →
              (u.arr.nib m.1).out = bit e.answer (wordPosition m.2) ∧
              (u.arr.nib m.1).data = bvSet (o.arr.nib m.1).data (t % 768) (bit e.answer (wordPosition m.2))) ∧
            u.tokens.drawn = o.tokens.drawn + (o.arr.members .wait port desc).length)) ∧
          (e.present = false → (Completes (.wait t port desc) s fun u => (u.arr.queue (queueKey port desc)).entries = es ∧
            (u.arr.queue (queueKey port desc)).discard = q.discard + 1 ∧
            u.tokens.drawn = o.tokens.drawn + (o.arr.members .wait port desc).length))) ∧
        ((q.entries = [] ∨ ∃ e es, q.entries = e :: es ∧ e.missing = true) → (Completes (.wait t port desc) s fun u =>
          u.arr.queue (queueKey port desc) = q.removeHead ∧
          (∀ m ∈ o.arr.members .wait port desc, u.arr.nib m.1 =
            { o.arr.nib m.1 with out := false, data := bvSet (o.arr.nib m.1).data (t % 768) false }) ∧
          u.tokens.drawn = o.tokens.drawn + (o.arr.members .wait port desc).length ∧
          (port ∉ o.arr.cyclog.waitPorts → port ∈ u.arr.cyclog.waitPorts ∧
            u.log.entries.getLast?.map (fun e => (e.code, e.source, e.arg)) =
              some (0x4107, srcDie (portDie port), queueArg port desc t % 2 ^ 32))))) ∧
      (t ∉ q.calendar.waits → (Completes (.wait t port desc) s fun u => u.arr.queues = o.arr.queues ∧
        (∀ e ∈ q.entries.head?, e.present = true → e.missing = false →
          ∀ m ∈ o.arr.members .wait port desc, wordPosition m.2 < descW q.desc →
            (u.arr.nib m.1).out = bit e.answer (wordPosition m.2)) ∧
        u.tokens.drawn = o.tokens.drawn + (o.arr.members .wait port desc).length)))

/-- Memory requests, answers, acknowledgements, decision points and stalls act as the queue rules state. Outside a halt, with o the
state frozen in the stall where one is in force: MEMORY_REQUEST_RECEIVED performs the oldest request of a port whose rings are
not held: a write stores its word in its region and changes no other byte, a read fixes its answer and changes no memory. The
answer of the oldest performed read becomes present, or is discarded where R119 replaced it; the acknowledgement of a performed
head write removes it. A decision point (the step of it not yet begun, the slot undecided) notes its slot, and raises a stall
that names the queues whose answers are absent. A stall whose answers have come ends (counted); at its limit an absent answer is
replaced by zero, and a write stall is marked as timed out, the array staying frozen. Retraining of a fitted channel only marks
it. (spec/05 R117, spec/05 R118, spec/05 R119, spec/06 R133, spec/06 R144, spec/06 R148, spec/06 R149, spec/06 R150, spec/06
R153) -/
def Obligations.StallsAndAnswersTakeEffect : Prop :=
  ∀ s : State, s.sec.halted = false →
    (∀ port r rs q, Sparse.get (fun _ => []) s.arr.requests port = r :: rs → q = s.arr.queue (queueKey port r.desc) →
      s.requestHeld port r = false → Sparse.wf (fun _ => []) s.arr.requests = true →
      (q.isWrite = true → (Completes (.memoryRequestReceived port) s fun u => Sparse.get (fun _ => []) u.arr.requests port = rs ∧
        u.mem = (s.writeRegion q.desc port r.offset r.data).mem)) ∧
      (q.isWrite = false → Sparse.wf (fun _ => Queue.empty) s.arr.queues = true →
        ((r :: rs).filter fun x => x.desc == r.desc).length ≤ (q.entries.filter fun e => !e.performed).length →
        (Completes (.memoryRequestReceived port) s fun u => u.mem = s.mem ∧
          Sparse.get (fun _ => []) u.arr.requests port = rs ∧
          u.arr.queue (queueKey port r.desc) = { q with entries := performFirst (s.readRegion q.desc port r.offset) q.entries }))) ∧
    (∀ port desc ns q, q = s.arr.queue (queueKey port desc) → Sparse.wf (fun _ => Queue.empty) s.arr.queues = true → q.isWrite = false →
      (0 < s.discardable port desc → (Completes (.designAnswerArrival port desc ns) s fun u =>
        u.arr.queue (queueKey port desc) = { q with discard := q.discard - 1 } ∧ s.sameBut [.arrQueues] u)) ∧
      (s.discardable port desc = 0 → (q.entries.any fun e => e.performed && !e.present) = true →
        (Completes (.designAnswerArrival port desc ns) s fun u =>
          u.arr.queue (queueKey port desc) = { q with entries := markPresent q.entries } ∧ s.sameBut [.arrQueues, .trace, .log, .dict] u))) ∧
    (∀ port desc ns q e es, q = s.arr.queue (queueKey port desc) → Sparse.wf (fun _ => Queue.empty) s.arr.queues = true → q.isWrite = true →
      q.entries = e :: es → e.performed = true → (Completes (.writeAckArrival port desc ns) s fun u =>
        (u.arr.queue (queueKey port desc)).entries = es ∧
        ((u.arr.queue (queueKey port desc)).stalled = (q.stalled && decide (q.p < es.length))) ∧
        s.sameBut [.arrQueues, .queueCounts, .trace, .log, .dict] u)) ∧
    (∀ slot w o, w = s.nextDecision slot → o = s.runTo ((w - s.lead) % s.L) → slot < s.L → slot % 16 = 0 → s.L % 16 = 0 →
      (w - s.lead) / s.L = s.arr.sched.cycle → s.canReach ((w - s.lead) % s.L) = true →
      o.arr.sched.opened = false → (w / s.L, slot) ∉ o.arr.sched.decided →
      (Completes (.waitDecisionPoint slot) s fun u => (w / s.L, w % s.L) ∈ u.arr.sched.decided ∧
        (o.absentAt w = [] → o.overfull = [] → u.arr.sched.stalls = o.arr.sched.stalls) ∧
        (o.absentAt w ≠ [] → u.arr.sched.stalls.any (fun x => x.cycle == w / s.L && x.slot == w % s.L &&
          (o.absentAt w).all fun k => x.reads.contains k) = true))) ∧
    (∀ periods st o, o = s.toStall → o.stallNow = some st → o.stallOver st = true → (Completes (.stallResume periods) s fun u =>
      u.arr.sched.stalls = o.arr.sched.stalls.drop 1 ∧ u.arr.queues = o.arr.queues ∧ u.arr.nibs = o.arr.nibs)) ∧
    (∀ st o k, o = s.toStall → o.stallNow = some st → st.reads = [k] → o.headPresent k = false →
      Sparse.wf (fun _ => Queue.empty) o.arr.queues = true → (Completes .stallTimeout s fun u =>
        u.arr.queue k = (o.arr.queue k).supplyZero st.cycle st.slot ∧ u.headPresent k = true ∧
        o.logged u 0x4108 (srcDie (portDie (k / 64))) (queueArg (k / 64) (k % 64) st.slot) ∧
        u.arr.sched.stops.any (fun p => p.bit == 7 && p.raisedStep == st.slot && p.fault == 0x4108) = true)) ∧
    (∀ st o k, o = s.toStall → o.stallNow = some st → st.writes = [k] → (o.arr.queue k).stalled = true →
      (o.arr.queue k).timedOut = false → Sparse.wf (fun _ => Queue.empty) o.arr.queues = true → (Completes .writeStallTimeout s fun u =>
        u.arr.queue k = { o.arr.queue k with timedOut := true } ∧
        o.logged u 0x5104 (srcDie (portDie (k / 64))) (queueArg (k / 64) (k % 64) st.slot) ∧ u.arr.sched.stalls = o.arr.sched.stalls)) ∧
    ∀ c, c < s.part.ddrChannels → (Completes (.ddr5Retraining c) s fun u =>
      u.mem.retrained = s.mem.retrained ++ [c] ∧ s.sameBut [.memRetrained] u)

/-- Opening step t of a cycle settles exactly the steps before it and leaves the words and the image alone. For every state and
every step t that the array comes to without a stall, the state in which step t opens stands at step t of the same cycle, open,
with the same stored words and route words, the same image and the same mode; a stall ahead of it freezes the array at the
stall's slot. What differs is in the array, the fabric and the triggers that the crossing feeds, the logs and counters, the
notices and lanes that settling the earlier steps drives. (spec/03 R57, spec/05 R105, spec/05 R106) -/
def Obligations.ArrayReachesItsSteps : Prop :=
  ∀ (s : State) (t : Nat), ((s.runTo t).arr.sched.standsAt t = true →
    (s.openStep t).arr.sched.step = t ∧ (s.openStep t).arr.sched.opened = true ∧
      (s.openStep t).arr.sched.cycle = s.arr.sched.cycle ∧ (s.openStep t).arr.words = s.arr.words ∧
      (s.openStep t).arr.routeWords = s.arr.routeWords ∧ (s.openStep t).image = s.image ∧ (s.openStep t).run.mode = s.run.mode ∧
      s.sameBut [.dict, .can, .log, .runStop, .rstCommit, .tokens, .queueCounts, .notices, .laneOut, .cores, .trig, .host, .free, .arrNibs,
        .arrClusters, .arrTiles, .arrFlights, .arrClaims, .arrSched, .arrCyclog, .arrQueues, .arrFlightCount, .memBytes,
        .fabCells, .fabTrackEdges, .fabProbes, .fabEngines, .fabPorts, .fabDelays] (s.openStep t)) ∧
    (∀ st ∈ s.arr.sched.stalls, st.cycle = s.arr.sched.cycle → s.arr.sched.step ≤ st.slot → st.slot < t → s.arr.sched.opened = false →
      (s.runTo t).arr.sched.frozenHere = true ∧ s.arr.sched.step ≤ (s.runTo t).arr.sched.step ∧ (s.runTo t).arr.sched.step ≤ st.slot)

/-- A boundary ends the cycle, counts it, clears arrivals by the carry mask, and stops the array where a stop is due. Let o be the
state at the end of the last step and r the one after the cycle is closed. CYCLE_BOUNDARY raises the cycle count by one, returns
to step 0, rolls the token counts, and clears every arrival-valid bit whose carry-mask bit is 0. With no stop due and no Step at
its limit the next cycle begins and the array runs on; with a stop due that is not of the room kind the array enters HOLD and
its causes stand in the stop record. CYCLE_LIMIT_REACHED at the target cycle does the same with cause 1. (spec/03 R61, spec/05
R106, spec/05 R120, spec/08 R198, spec/08 R202, spec/08 R210) -/
def Obligations.CycleBoundariesTakeEffect : Prop :=
  ∀ (s o r : State), o = s.runTo s.L → r = (o.closeCycle.countEvent 8 0 1).passBundles → s.canReach (s.L - 1) = true → 0 < s.L → Sparse.wf (fun _ => Nib.zero) o.arr.nibs = true →
    (Completes .cycleBoundary s fun u => u.arr.sched.cycle = s.arr.sched.cycle + 1 ∧ u.arr.sched.step = 0 ∧
      u.tokens.drawnLast = o.tokens.drawn ∧ u.tokens.drawn = 0 ∧
      (∀ n : Nat, u.arr.nib n = { o.arr.nib n with valid := (o.arr.nib n).valid &&& (o.arr.nib n).carry })) ∧
    ((∀ x ∈ r.arr.sched.stops, s.arr.sched.cycle < x.cycle) → s.arr.sched.target ≠ some s.arr.sched.cycle →
      r.arr.sched.target = s.arr.sched.target →
      (Completes .cycleBoundary s fun u => u.arr.sched.run = .running ∧ u.arr.sched.begun = true ∧
        u.run.lastCycle = s.arr.sched.cycle + 1)) ∧
    (∀ x, x ∈ r.arr.sched.stops → x.cycle ≤ s.arr.sched.cycle → isRoomBit x.bit = false → x.bit < 10 →
      (Completes .cycleBoundary s fun u => u.arr.sched.run = .enteringHold ∧ bit u.run.stopCause x.bit = true)) ∧
    (s.arr.sched.target = some s.arr.sched.cycle → r.arr.sched.target = s.arr.sched.target →
      (Completes .cycleLimitReached s fun u => u.arr.sched.run = .enteringHold ∧ bit u.run.stopCause 1 = true ∧
        u.arr.sched.cycle = s.arr.sched.cycle + 1 ∧ u.arr.sched.target = none))

/-- Run, Step, RunAt and the edges that start the array enter RUN as R195 to R214 state, or are refused. For a run command that no
shared check turns away and with no refusal of a start: RUN and STEP outside a domain, with room, enter RUN and begin the next
cycle, with no stop cause and (STEP) the target cycle of the limit; with a room cause present they enter RUN stopped for room;
in a domain member 0 names the edge, 1 ms or more of the reference ahead, tells it to the peers with the target of a Step, and
waits for it. RUN_AT of a target far enough ahead on a locked time base arms the start and changes nothing of the array; its
fire enters RUN, or on a refusal logs it and ends with status 3. The start edge begins the cycle, as does the return of room; in
a domain the return of room makes member 0 name an edge. RUN without valid design state is refused with 0x4114, the mode and the
array unchanged. (spec/08 R195, spec/08 R201, spec/08 R202, spec/08 R214, spec/05 R129, spec/08 R199, spec/08 R523) -/
def Obligations.StartCommandsOfRunTakeEffect : Prop :=
  ∀ s : State,
    (∀ req, s.mayWrite req runKey = true → s.commonRefusal s.run.status true [.loaded, .hold] = none →
      (s.runRefusal = none →
        (s.inDomain = false → s.arr.sched.rooms = [] →
          (Completes (.run req) s fun t => t.run.mode = .run ∧ t.arr.sched.run = .running ∧ t.arr.sched.begun = true ∧
            t.arr.sched.target = none ∧ t.run.stopCause = 0 ∧ t.run.stopFault = 0 ∧ t.run.status = 2 ∧ t.answer = .ok 0 ∧
            t.run.lastCycle = s.arr.sched.cycle ∧ t.arr.sched.cycle = s.arr.sched.cycle ∧ t.run.commands = s.run.commands + 1) ∧
          (s.entry cycleLimitKey ≠ 0 → (Completes (.step req) s fun t => t.run.mode = .run ∧ t.arr.sched.run = .running ∧
            t.arr.sched.target = some (s.arr.sched.cycle + s.entry cycleLimitKey - 1) ∧ t.run.stopCause = 0 ∧ t.run.status = 2 ∧
            t.answer = .ok 0 ∧ t.arr.sched.cycle = s.arr.sched.cycle))) ∧
        (s.inDomain = false → s.arr.sched.rooms ≠ [] → (Completes (.run req) s fun t => t.run.mode = .run ∧
          t.arr.sched.run = .stoppedForRoom ∧ t.run.stopCause = s.roomCauses ∧ t.answer = .ok 0)) ∧
        (s.inDomain = true → (Completes (.run req) s fun t => t.run.mode = .run ∧ t.arr.sched.run = .awaitingEdge ∧
          .start (s.time.edges + 100000 + Config.startLead) none ∈ t.notices ∧
          t.run.startEdge = s.time.edges + 100000 + Config.startLead ∧ t.run.peersRunning = s.peers ∧ t.answer = .ok 0) ∧
          (s.entry cycleLimitKey ≠ 0 → (Completes (.step req) s fun t => t.run.mode = .run ∧ t.arr.sched.run = .awaitingEdge ∧
            .start (s.time.edges + 100000 + Config.startLead) (some (s.arr.sched.cycle + s.entry cycleLimitKey - 1)) ∈ t.notices ∧
            t.arr.sched.target = some (s.arr.sched.cycle + s.entry cycleLimitKey - 1) ∧ t.answer = .ok 0))) ∧
        (s.time.locked = true → s.time.units + s.runAtLead * 2 ^ 32 ≤ s.runAtTarget * 2 ^ 32 → (Completes (.runAt req) s fun t =>
          t.run.runAt = some (s.runAtTarget / 1000000000, s.runAtTarget % 1000000000, s.entry cycleLimitKey) ∧ t.run.mode = s.run.mode ∧
          t.run.status = 2 ∧ t.answer = .ok 0 ∧ t.arr = s.arr))) ∧
      (s.takesRuns = true → s.run.valid = false → (Completes (.run req) s fun t => s.logged t 0x4114 srcHub 0 ∧ t.answer = refusedAnswer req ∧
        t.run = s.run ∧ t.arr = s.arr))) ∧
    (∀ sec ns limit, s.run.runAt = some (sec, ns, limit) →
      ((s.withRun fun r => { r with runAt := none }).fireRefusal = none → s.inDomain = false → s.arr.sched.rooms = [] →
        (Completes .runAtFire s fun t => t.run.mode = .run ∧ t.arr.sched.run = .running ∧ t.run.runAt = none ∧
          t.arr.sched.target = (if limit = 0 then none else some (s.arr.sched.cycle + limit - 1)))) ∧
      (s.run.valid = false → s.takesRuns = true → s.commonRefusal 0 true [.loaded, .hold] = none →
        (Completes .runAtFire s fun t => t.run.status = 3 ∧ t.run.runAt = none ∧ t.run.mode = s.run.mode ∧ s.logged t 0x4114 srcHub 0))) ∧
    (s.run.mode = .run → s.arr.sched.rooms = [] →
      (s.arr.sched.run = .awaitingEdge → s.run.startEdge ≤ s.time.edges → (Completes .domainStartEdge s fun t =>
        t.arr.sched.run = .running ∧ t.arr.sched.begun = true ∧ t.run.stopCause = 0 ∧ t.run.lastCycle = s.arr.sched.cycle)) ∧
      (s.arr.sched.run = .stoppedForRoom →
        (s.inDomain = false → (Completes .roomResume s fun t => t.arr.sched.run = .running ∧ t.arr.sched.begun = true ∧
          t.run.stopCause = 0 ∧ t.run.lastCycle = s.arr.sched.cycle)) ∧
        (s.inDomain = true → s.takesRuns = true → (Completes .roomResume s fun t => t.arr.sched.run = .awaitingEdge ∧
          t.notices = s.notices ++ [.start (s.time.edges + 100000 + Config.startLead) s.arr.sched.target] ∧
          t.run.startEdge = s.time.edges + 100000 + Config.startLead))))

/-- Hold, Park, Service, Leave and Cancel make the transitions of the command table, and Hold in RUN waits for its boundary. For a
run command that no shared check turns away: HOLD in LOADED enters HOLD; in RUN it raises stop cause 0 with status 1 (busy) and
the mode stays RUN, and HOLD_REPORT, once every request has completed, enters HOLD with the array gated and status 2; PARK in
HOLD enters LOADED; SERVICE in LOADED or HOLD enters SERVICE; LEAVE in SERVICE with an image committed enters LOADED (these
three write the caches back) and without one is refused with 0x9012; CANCEL disarms a RunAt. Park and Service are refused with
0x9012 while another member of the domain runs. Each accepted command answers ok and counts as a run command. (spec/08 R195,
spec/08 R197, spec/08 R200, spec/06 R151) -/
def Obligations.ModeCommandsTakeEffect : Prop :=
  ∀ (s : State) (req : Nat), s.mayWrite req runKey = true →
    (s.commonRefusal s.run.status true [.loaded, .run] = none →
      (s.run.mode = .loaded → ∀ n, (Completes (.hold req n) s fun t => t.run.mode = .hold ∧ t.run.status = 2 ∧ t.answer = .ok 0 ∧
        t.run.commands = s.run.commands + 1 ∧ t.mem.cache = [] ∧ t.arr = s.arr)) ∧
      (s.run.mode = .run → s.arr.sched.run = .running → ∀ n o, o = (if s.canReach n then s.runTo n else s) →
        (Completes (.hold req n) s fun t => t.run.mode = .run ∧ t.run.status = 1 ∧ t.answer = .ok 0 ∧
          t.arr.sched.stops.getLast?.map (fun p => (p.bit, p.raisedCycle, p.raisedStep, p.fault)) =
            some (0, o.outsideStep.1, o.outsideStep.2, 0)))) ∧
    (s.run.mode = .run → s.arr.sched.run = .enteringHold → s.requestsDone = true →
      (Completes .holdReport s fun t => t.run.mode = .hold ∧ t.arr.sched.run = .gated ∧ t.mem.cache = [] ∧
        (s.run.status = 1 → t.run.status = 2) ∧ t.arr.sched.cycle = s.arr.sched.cycle)) ∧
    (s.commonRefusal s.run.status true [.hold] = none →
      (s.peerRuns = false → (Completes (.park req) s fun t => t.run.mode = .loaded ∧ t.run.status = 2 ∧ t.answer = .ok 0 ∧
        t.run.commands = s.run.commands + 1 ∧ t.run.valid = s.run.valid ∧ t.arr = s.arr ∧ t.mem.cache = [] ∧ (s.tracing = false → t.mem = s.flushCaches.mem))) ∧
      (s.peerRuns = true → (Completes (.park req) s fun t => s.logged t 0x9012 srcHub (accessArg req runKey) ∧
        t.answer = refusedAnswer req ∧ t.run = s.run))) ∧
    (s.commonRefusal s.run.status true [.loaded, .hold] = none →
      (s.peerRuns = false → (Completes (.service req) s fun t => t.run.mode = .service ∧ t.run.status = 2 ∧ t.answer = .ok 0 ∧
        t.run.commands = s.run.commands + 1 ∧ t.run.valid = s.run.valid ∧ t.arr = s.arr ∧ t.mem.cache = [] ∧ (s.tracing = false → t.mem = s.flushCaches.mem))) ∧
      (Completes (.cancel req) s fun t => t.run = { s.run with
        runAt := none, status := 2, commands := s.run.commands + 1, timeoutLogged := [] } ∧ t.answer = .ok 0 ∧ t.arr = s.arr ∧ (s.tracing = false → t.mem = s.mem))) ∧
    (s.commonRefusal s.run.status true [.service] = none →
      (s.image.isSome = true → (Completes (.leave req) s fun t => t.run.mode = .loaded ∧ t.run.status = 2 ∧ t.answer = .ok 0 ∧
        t.run.valid = s.run.valid ∧ t.arr = s.arr ∧ t.mem.cache = [] ∧ (s.tracing = false → t.mem = s.flushCaches.mem))) ∧
      (s.image = none → (Completes (.leave req) s fun t => s.logged t 0x9012 srcHub (accessArg req runKey) ∧
        t.answer = refusedAnswer req ∧ t.run = s.run)))

/-- The cycle mark, the boundary record, the cycle count and the notices of domain peers do what the manual states. For an access
that no check turns away: MARK_CONTROL_WRITE stores bits 4 to 0, arms or disarms the mark, and arming clears MarkDone;
BOUNDARY_RECORD_READ answers the low word of the last begun cycle and latches the record; CYCLE_COUNT_READ answers the low word
of the cycle count and latches the high word. A notice over a pinned domain lane: a stall freezes the array before its slot, a
release takes one peer from it, a stop raises cause 3 and a vote cause 2 at their step, a point is recorded for its lane, a held
member no longer counts as running; over a domain lane that is up, what a peer finds of the latency of its lane is noted, and
the start that member 0 names brings a member that refuses it for no reason into RUN to wait for that edge with its target.
(spec/05 R106, spec/05 R128, spec/05 R129, spec/08 R211, spec/08 R212, spec/05 R130, spec/08 R197) -/
def Obligations.RecordsAndMarksTakeEffect : Prop :=
  ∀ s : State,
    (∀ req v, s.mayWrite req 0x214103 = true → inRange 0x214103 v = true → Sparse.wf (defaultOf s.part.grade) s.dict = true →
      (Completes (.markControlWrite req v) s fun t => t.entry 0x214103 = v % 2 ^ 5 ∧ t.answer = .ok 0 ∧
        t.run = { s.run with markArmed := bit v 0, markDone := s.run.markDone && !bit v 0 } ∧ s.sameBut [.answer, .mgmtClock, .run, .dict] t)) ∧
    (∀ req, s.reaches req 0x214001 false = true → (Completes (.boundaryRecordRead req) s fun t =>
      t.answer = .ok (s.run.lastCycle % 2 ^ 32) ∧ t.run = { s.run with latchedCycle := s.run.lastCycle, latchedStart := s.run.lastStart } ∧
        s.sameBut [.answer, .mgmtClock, .run] t)) ∧
    (∀ req, s.reaches req 0x213001 false = true → (Completes (.cycleCountRead req) s fun t =>
      t.answer = .ok (s.arr.sched.cycle % 2 ^ 32) ∧
        t.arr.sched = { s.arr.sched with cycleHigh := s.arr.sched.cycle / 2 ^ 32 % 2 ^ 32 } ∧ s.sameBut [.answer, .mgmtClock, .arrSched] t)) ∧
    (∀ l, s.noticeLane l = true →
      (∀ cycle slot, s.run.mode = .run → s.slotAhead cycle slot = true → (Completes (.laneNoticeReceived l (.stall cycle slot)) s fun t =>
        t.arr.sched.stalls.any (fun x => x.cycle == cycle && x.slot == slot && decide (1 ≤ x.peers)) = true ∧ s.sameBut [.arrSched] t)) ∧
      (∀ cycle slot, (Completes (.laneNoticeReceived l (.release cycle slot)) s fun t =>
        t.arr.sched.stalls = s.arr.sched.stalls.map (fun x => if x.cycle = cycle ∧ x.slot = slot then { x with peers := x.peers - 1 } else x) ∧
          s.sameBut [.arrSched] t)) ∧
      (∀ cycle st, s.arr.sched.run = .running → (Completes (.laneNoticeReceived l (.stop cycle st)) s fun t =>
        t.arr.sched.stops = s.arr.sched.stops ++ [⟨3, max (stopCycle s.L s.lead cycle st) s.arr.sched.cycle, cycle, st, hubUnit, 0⟩] ∧
          s.sameBut [.arrSched] t)) ∧
      (∀ event cycle st, s.arr.sched.run = .running → (Completes (.laneNoticeReceived l (.vote event cycle st)) s fun t =>
        t.arr.votes = s.arr.votes ++ [(cycle, event, 1)] ∧
        t.arr.sched.stops = s.arr.sched.stops ++ [⟨2, max (stopCycle s.L s.lead cycle st) s.arr.sched.cycle, cycle, st, hubUnit, 0⟩] ∧
          s.sameBut [.arrSched, .arrVotes] t)) ∧
      (∀ p cycle st, 0 < p → (Completes (.laneNoticeReceived l (.point p cycle st)) s fun t => (l, p) ∈ t.arr.sched.peerPoints)) ∧
      ∀ m, (Completes (.laneNoticeReceived l (.held m)) s fun t =>
        t.run = { s.run with peersRunning := s.run.peersRunning.filter (fun x => x != m) } ∧ s.sameBut [.run] t)) ∧
    (∀ l, (s.domainLane l).isSome = true → (s.lane l).up = true →
      (∀ bad, (Completes (.laneNoticeReceived l (.latency bad)) s fun t => (l ∈ t.run.peerMismatch ↔ bad = true) ∧ s.sameBut [.run] t)) ∧
      (∀ edge target, s.takesRuns = false → s.modeIn [.loaded, .hold] = true → s.peerRefusal = none →
        (Completes (.laneNoticeReceived l (.start edge target)) s fun t => t.run.mode = .run ∧ t.arr.sched.run = .awaitingEdge ∧
          t.run.startEdge = edge ∧ t.arr.sched.target = target ∧ t.run.peersRunning = s.peers)))

/-- The contact-sheet commands save, restore, adopt, discard and reserve slots as R205 to R208 state. For a sheet command that no
shared check turns away, with DDR5 present: SAVE writes the design state, with the caches written back, into the selected slot
when its body fits, status 1 (busy), else it is refused with 0x5301; SAVE_COMPLETE ends it with status 2. RESTORE of a slot that
passes its checks with an image committed writes the design state that its body spells: crossings, tiles, flights, on-die bytes
and cycle count; one that fails while it writes ends with status 3 and no valid design state, else it is busy until
RESTORE_COMPLETE, which, the fabric released and no march busy, enters HOLD with the design state valid. An empty slot, or a
body that fails its digest, is refused with 0x5302 and changes no design state. DISCARD empties the slot. ADOPT makes a reserved
slot whose BodyLength matches full. SHEET_HEADER_WRITE reserves a body for a 256-byte header in a slot that is not full, with
zeros in the reserved fields. (spec/08 R193, spec/08 R205, spec/08 R206, spec/08 R207, spec/08 R208, spec/06 R156) -/
def Obligations.SheetCommandsTakeEffect : Prop :=
  ∀ (s : State) (req : Nat),
    (s.mayWrite req sheetKey = true → s.ddrPresent = true → s.sheetSlot < 16 → s.sheets.length = 16 →
      Sparse.wf (defaultOf s.part.grade) s.dict = true →
      (s.commonRefusal (s.entry sheetStatusKey) false [.hold] = none → ∀ i, s.image = some i →
        (∀ a, s.placeBody s.sheetSlot (bodyLengthOf s.part.grade s.sheetScope i.hbmArenaSize i.deepArenaSize) = some a →
          (Completes (.save req) s fun t => (t.slot s.sheetSlot).full = true ∧ (t.slot s.sheetSlot).address = a ∧
            (t.slot s.sheetSlot).body = some (s.flushCaches.designState s.sheetScope) ∧ t.entry sheetStatusKey = 1 ∧ t.answer = .ok 0 ∧
            t.mem.cache = [] ∧ t.arr = s.arr)) ∧
        (s.placeBody s.sheetSlot (bodyLengthOf s.part.grade s.sheetScope i.hbmArenaSize i.deepArenaSize) = none →
          (Completes (.save req) s fun t => s.logged t 0x5301 srcHub 0 ∧ t.answer = refusedAnswer req ∧ t.sheets = s.sheets))) ∧
      (s.commonRefusal (s.entry sheetStatusKey) false [.hold, .service] = none →
        (∀ x d, x = s.slot s.sheetSlot → d = s.bodyOf x → s.image.isSome = true → s.restoreFault x = none →
          ∀ r, (Completes (.restore req r) s fun t => t.arr.clusters = d.clusters ∧ t.arr.tiles = d.tiles ∧
            t.arr.flights = d.flights ∧ t.arr.sched.cycle = d.cycle ∧ t.arr.sched.step = 0 ∧
            t.mem.onDie = Sparse.canon zeroByte d.onDie ∧ t.entry sheetStatusKey = (if r.isSome then 3 else 1) ∧
            (r.isSome = true → t.run.valid = false) ∧ t.answer = .ok 0)) ∧
        ((s.slot s.sheetSlot).full = false ∨ s.bodyIntact (s.slot s.sheetSlot) = false →
          ∀ r, (Completes (.restore req r) s fun t => s.logged t 0x5302 srcHub 0 ∧ t.answer = refusedAnswer req ∧ t.arr = s.arr ∧ t.mem = s.mem))) ∧
      (s.commonRefusal (s.entry sheetStatusKey) false quietModes = none →
        (Completes (.discard req) s fun t => t.slot s.sheetSlot = Sheet.empty ∧ t.entry sheetStatusKey = 2 ∧ t.answer = .ok 0 ∧
          s.sameBut [.answer, .mgmtClock, .dict, .sheets] t) ∧
        (∀ x, x = s.slot s.sheetSlot → x.reserved = true →
          x.num 0x078 8 = bodyLengthOf s.part.grade (x.num 0x007 1) (x.num 0x0C0 8) (x.num 0x0C8 8) →
          (Completes (.adopt req) s fun t => t.slot s.sheetSlot = { x with full := true, reserved := false, body := none } ∧
            t.entry sheetStatusKey = 2 ∧ t.answer = .ok 0 ∧ s.sameBut [.answer, .mgmtClock, .dict, .sheets] t)))) ∧
    (s.sheetBusy = true → s.run.mode = .hold → Sparse.wf (defaultOf s.part.grade) s.dict = true →
      (Completes .saveComplete s fun t => t.entry sheetStatusKey = 2 ∧ t.mem.cache = [] ∧ t.sheets = s.sheets ∧ t.run = s.run)) ∧
    (s.run.waking = false →
      (s.restoreEnds = true → (Completes .restoreComplete s fun t => t.run.mode = .hold ∧ t.run.valid = true ∧ t.arr = s.arr))) ∧
    (∀ h a, s.mayWrite req 0x212100 = true → (s.slot s.sheetSlot).full = false → h.length = 256 → s.ddrPresent = true →
      s.sheetSlot < s.sheets.length → s.placeBody s.sheetSlot (ofBytes ((h.drop 0x078).take 8)) = some a →
      (Completes (.sheetHeaderWrite req h) s fun t =>
        t.slot s.sheetSlot = ⟨false, true, clearReserved h, none, a, ofBytes ((h.drop 0x078).take 8)⟩ ∧ t.answer = .ok 0 ∧
          s.sameBut [.answer, .mgmtClock, .sheets] t))

/-- Standby and Dormant put the module to sleep, and Wake returns it to its mode. For a run command that no check turns away, with
the oscillator running and no peer in RUN: STANDBY from a quiet mode enters STANDBY with the design state invalid, the array
gated and its banks, caches and nibs (but for carry masks) cleared, and remembers the mode; DORMANT does so too and keeps no
image, tiers, threads or channels. WAKE from STANDBY with no save to restore returns to the remembered mode, from DORMANT to
SERVICE, with the fast clock running. A Wake that has a save of slot 0 which is not full ends in SERVICE; one whose checks pass
stays busy until RESTORE_COMPLETE, which, the fabric released, ends it in its mode with the design state valid. (spec/08 R192,
spec/08 R193, spec/08 R195, spec/08 R208, spec/08 R209, spec/20 R487) -/
def Obligations.SleepCommandsTakeEffect : Prop :=
  ∀ (s : State) (req : Nat), s.mayWrite req runKey = true →
    (s.peerRuns = false → s.oscillatorFailed = false →
      (s.commonRefusal s.run.status true quietModes = none → (Completes (.standby req) s fun t => t.run.mode = .standby ∧
        t.run.valid = false ∧ t.run.wakeMode = s.run.mode ∧ t.run.status = 2 ∧ t.answer = .ok 0 ∧ t.arr.sched.run = .gated ∧
        t.mem.onDie = [] ∧ t.mem.cache = [] ∧ t.arr.clusters = [] ∧ t.arr.tiles = [] ∧ t.arr.flights = [] ∧ t.image = s.image ∧
        t.arr.words = s.arr.words ∧ t.arr.routeWords = s.arr.routeWords)) ∧
      (s.commonRefusal s.run.status true (quietModes ++ [.standby]) = none → (Completes (.dormant req) s fun t => t.run.mode = .dormant ∧
        t.run.valid = false ∧ t.run.status = 2 ∧ t.answer = .ok 0 ∧ t.image = none ∧ t.arr.words = [] ∧ t.arr.nibs = [] ∧
        t.mem.onDie = [] ∧ t.mem.cache = [] ∧ t.sched.threads = [] ∧ t.fabric.cells = []))) ∧
    (s.commonRefusal s.run.status true [.standby, .dormant] = none →
      (s.run.savedSlot0 = false → (Completes (.wake req) s fun t =>
        t.run.mode = (if s.run.mode = .standby then s.run.wakeMode else .service) ∧ t.mgmt.fastClock = true ∧ t.run.status = 2 ∧
          t.answer = .ok 0 ∧ t.run.valid = s.run.valid ∧ t.rst.watchdogCount = 0)) ∧
      (s.run.savedSlot0 = true → (s.slot 0).full = false →
        (Completes (.wake req) s fun t => t.run.mode = .service ∧ t.run.savedSlot0 = false ∧ t.run.valid = s.run.valid))) ∧
    (s.run.waking = true →
      (s.released = true → (Completes .restoreComplete s fun t => t.run.mode = s.wakeTarget ∧ t.run.valid = true ∧
        t.run.waking = false ∧ t.run.status = 2)))

/-- A system-class access reads or writes exactly its bytes, or is refused without touching memory. On a powered module outside a
halt, an access that the rights table grants, at its module address (the host's lies above WindowBase), whose way over the rings
is not held. To the scratchpad outside a wipe, or to HBM or DDR5 whose controllers are awake, with no control line whose tag
fails: a write, SC or AMO stores its bytes at its address and no other byte changes; a read or LR changes no byte; a read, LR or
AMO answers the bytes found. A tag that fails halts the device and stores nothing. An access to a sleeping controller waits. An
access to the dictionary window is the mirror's. An LR, SC or AMO outside the cacheable regions is answered by an access fault.
An unmapped access logs 0x5010. A mapped one whose way is held waits at its hub stop. One that the rights refuse changes no byte
and is answered by an error. During a halt everything but the dictionary window answers completer abort. (In canonical memory.)
(spec/01 R18, spec/01 R19, spec/01 R20, spec/13 R332, spec/13 R333, spec/19 R459, spec/19 R463, spec/19 R469, spec/19 R472) -/
def Obligations.SystemAccessesTakeEffect : Prop :=
  ∀ (s : State) (c a : SysAccess) (ds : List Nat), s.powered = true → a = s.moduleAddress c → ds = s.controllers a.addr (accessLen a) →
    Sparse.wf zeroByte s.mem.bytes = true →
    (s.sec.halted = false → s.permits a.req a.addr (accessLen a) a.op = true →
      ((∀ o ∈ s.targetOwner a, s.pathHeld .hub o = false) →
        ((inRow a scratchBase secureEnd = true ∨ ((inRow a hbmStart s.part.grade.hbmBytes = true ∨ inRow a ddrStart s.ddrBytes = true) ∧
            s.asleep = false ∧ ds.find? s.domainAsleep = none)) →
          (s.sec.wiping && touchesSecure a.addr (accessLen a)) = false →
          ((s.tagged a.addr (accessLen a) && readsLines a && !a.tagOk) = false →
            (a.op.writes = true → (Completes (.systemClassAccess c) s fun t =>
              t.answer = .ok (if a.op.reads then ofBytes (s.readBytes a.addr (accessLen a)) else 0) ∧
              (∀ i < a.data.length, t.byteAt (a.addr + i) = a.data.getD i 0) ∧
              (∀ x : Nat, x < a.addr ∨ a.addr + a.data.length ≤ x → t.byteAt x = s.byteAt x) ∧
              s.sameBut [.answer, .mgmtClock, .memBytes, .dict, .cores, .host] t)) ∧
            (a.op.writes = false → (Completes (.systemClassAccess c) s fun t =>
              t.answer = .ok (ofBytes (s.readBytes a.addr (accessLen a))) ∧ s.sameBut [.answer, .mgmtClock, .dict, .cores, .host] t))) ∧
          (inRow a scratchBase secureEnd = false → (s.tagged a.addr (accessLen a) && readsLines a && !a.tagOk) = true →
            (Completes (.systemClassAccess c) s fun t => t.answer = .error ∧ t.sec.halted = true ∧
              ∀ x : Nat, hbmStart ≤ x → x < ddrStart → t.byteAt x = s.byteAt x))) ∧
        (∀ d, (inRow a hbmStart s.part.grade.hbmBytes = true ∨ inRow a ddrStart s.ddrBytes = true) → s.sec.wiping = false →
          s.asleep = false → ds.find? s.domainAsleep = some d → (Completes (.systemClassAccess c) s fun t => t.answer = .waiting ∧
            t.rings.held = s.rings.held ++ [(d, .access a)] ∧ t.mem = s.mem)) ∧
        (s.mapped a = true → a.op.atomic = true → s.cacheable a = false → (Completes (.systemClassAccess c) s fun t =>
          t.answer = .amoFault ∧ s.sameBut [.answer, .mgmtClock] t))) ∧
      (inRow a dictBase dictBytes = true → a.op.atomic = false →
        (Completes (.systemClassAccess c) s fun t => t = s.dictAccess a)) ∧
      (s.mapped a = false → (Completes (.systemClassAccess c) s fun t => s.logged t 0x5010 srcHub (addressArg a.req a.addr) ∧
          t.answer = errorAnswer a.req (!a.op.reads) ∧ t.mem = s.mem)) ∧
      (∀ o, s.targetOwner a = some o → s.pathHeld .hub o = true → s.mapped a = true → (Completes (.systemClassAccess c) s fun t =>
        t.answer = .waiting ∧ t.rings.outstanding.length = s.rings.outstanding.length + 1 ∧ s.sameBut [.answer, .mgmtClock, .rings] t))) ∧
    (s.sec.halted = false → s.permits a.req a.addr (accessLen a) a.op = false →
      (Completes (.systemClassAccess c) s fun t => t.answer = errorAnswer a.req (!a.op.reads) ∧ t.mem = s.mem ∧ t.run = s.run)) ∧
    (s.sec.halted = true → inRow a dictBase dictBytes = false →
      (Completes (.systemClassAccess c) s fun t => t.answer = .completerAbort ∧ s.sameBut [.answer, .mgmtClock] t))

/-- A window access forces or reads exactly the state its offset names. For an access that the rights grant, at level open, to a
window of a fitted die of a module that is awake and not halted. In HOLD an APERTURE_WRITE to a nib's state file or arrival-
valid bits forces that byte and no other nib or element; a WORD_CELL_RECORD_WRITE of T0 to T3, OUT, the flag or PC of a burst
cell of a tile that accepts writes forces that byte and no other cell; one of a free-running cell is refused with 0x5012. A
write of a byte to the design-memory page (not under a march or a missing bank) is read back through the page and, where the
bank has its supply and no line must leave the cache for it, leaves every other offset of the die as it reads. A read answers
what the page shows, of up to 64 bytes the bytes as they were. Outside HOLD a forcing write is refused with 0x5011 and changes
nothing but its record. REMOTE_CACHE_FLUSH writes back and drops the lines of its die. (spec/03 R80, spec/06 R155, spec/06 R156,
spec/06 R157, spec/09 R235, spec/08 R204) -/
def Obligations.WindowCommandsTakeEffect : Prop :=
  ∀ s : State, s.sec.halted = false → s.asleep = false → s.sec.level = 2 →
    (∀ req d off (b : Byte), d < s.dies → s.allowed req (windowAddr d off) 1 true false = true →
      (s.run.mode = .hold → Sparse.wf (fun _ => Nib.zero) s.arr.nibs = true →
        (∀ n k, n < 131072 → k < 32 → off = 0x400000 + 32 * n + k → (Completes (.apertureWrite req d off [b]) s fun t =>
          t.arr.nib (d * 131072 + n) = { s.arr.nib (d * 131072 + n) with file := bvSetByte (s.arr.nib (d * 131072 + n)).file k b } ∧
          (∀ m, m ≠ d * 131072 + n → t.arr.nib m = s.arr.nib m) ∧ t.answer = .ok 0 ∧ s.sameBut [.answer, .mgmtClock, .arrNibs] t)) ∧
        (∀ n k, n < 131072 → k < 32 → off = 0x800000 + 32 * n + k → (Completes (.apertureWrite req d off [b]) s fun t =>
          t.arr.nib (d * 131072 + n) = { s.arr.nib (d * 131072 + n) with valid := bvSetByte (s.arr.nib (d * 131072 + n)).valid k b } ∧
          (∀ m, m ≠ d * 131072 + n → t.arr.nib m = s.arr.nib m) ∧ t.answer = .ok 0 ∧ s.sameBut [.answer, .mgmtClock, .arrNibs] t))) ∧
      (s.run.mode = .hold → Sparse.wf (fun _ => WordCell.zero) s.fabric.cells = true → ∀ c k, c < 16384 → k < 21 →
        off = 0x100000 + 64 * c + k →
        (s.fabric.isBurst (d * 16384 + c) = true → 2 ≤ s.fabric.stage ((d * 16384 + c) / 256) → (Completes (.wordCellRecordWrite req d off [b]) s fun t =>
          t.fabric.cell (d * 16384 + c) = (s.fabric.cell (d * 16384 + c)).force k b ∧
          (∀ m, m ≠ d * 16384 + c → t.fabric.cell m = s.fabric.cell m) ∧ t.answer = .ok 0 ∧ s.sameBut [.answer, .mgmtClock, .fabCells, .fabTrackEdges] t)) ∧
        (s.fabric.isBurst (d * 16384 + c) = false → (Completes (.wordCellRecordWrite req d off [b]) s fun t =>
          s.logged t 0x5012 srcHub 0 ∧ t.answer = .error ∧ s.sameBut [.answer, .mgmtClock, .log] t))) ∧
      (s.run.mode ≠ .hold → 0x400000 ≤ off → off < 0x1000000 → (Completes (.apertureWrite req d off [b]) s fun t =>
        s.logged t 0x5011 srcHub 0 ∧ t.answer = .error ∧ s.sameBut [.answer, .mgmtClock, .log] t))) ∧
    (∀ req d off (b : Byte) x, d < s.dies → off < windowHalf → s.memoryPage d < 0x100 → x = s.memoryPage d * windowHalf + off →
      s.allowed req (windowAddr d (windowHalf + off)) 1 true false = true → s.run.mode = .hold → s.marchBusy = false →
      s.bankMissing d x 1 = false → (∀ l ∈ s.mem.cache, l.data.length = 64) →
      (Completes (.designMemoryWindowAccess req d off (.write [b])) s fun t => t.answer = .ok 0 ∧ t.cachedByte d x = b ∧
        (((s.cacheLine d x).isSome ∨ s.bankPowered (bankOf d x) = true ∧
            (s.mem.cache.filter fun l => l.die == d && lineSet l.offset == lineSet x).length < 16) →
          (∀ y : Nat, y ≠ x → t.cachedByte d y = s.cachedByte d y) ∧ t.mem.onDie = s.mem.onDie))) ∧
    (∀ req d off n x, d < s.dies → off + n ≤ windowHalf → 0 < n → s.memoryPage d < 0x100 → x = s.memoryPage d * windowHalf + off →
      s.allowed req (windowAddr d (windowHalf + off)) n false false = true → s.modeIn [.hold, .service] = true → s.marchBusy = false →
      s.bankMissing d x n = false →
      (Completes (.designMemoryWindowAccess req d off (.read n)) s fun t =>
        t.answer = .ok (ofBytes ((List.range n).map fun i => t.cachedByte d (x + i))) ∧
        (n ≤ 64 → (∀ i < n, (s.cacheLine d (x + i)).isSome ∨ s.bankPowered (bankOf d (x + i)) = true ∧
            (s.mem.cache.filter fun l => l.die == d && lineSet l.offset == lineSet (x + i)).length < 16) →
          t.answer = .ok (ofBytes ((List.range n).map fun i => s.cachedByte d (x + i))) ∧ t.mem.onDie = s.mem.onDie))) ∧
    ∀ req d, s.mayWrite req (keyOf (0x3023 + d * 0x100) 1) = true → (Completes (.remoteCacheFlush req d) s fun t =>
      t.mem.cache = s.mem.cache.filter (fun l => l.die != d) ∧ t.answer = .ok 0 ∧ s.sameBut [.answer, .mgmtClock, .memCache, .memOnDie] t)

/-- March commands begin a march, a destructive one leaves zeros, and debug accesses and held accesses reach their target. For a
march command that no check turns away, with none busy and no load: the preserving ones in any of their modes, the destructive
ones in SERVICE, write back the caches and begin the march of their kind, status 1. A destructive march that ends has zeroed
every bank, keeps no image, and stands at status 2; a preserving one changes no byte of a bank. With the instruction selected, a
DBGACC read or write of an aligned scratchpad word that its rights grant moves exactly that word, captures it, and sets status
0. DOMAIN_WAKE_ANSWER of a sleeping controller that holds one read delivers it and the domain is awake. (spec/06 R156, spec/06
R158, spec/06 R161, spec/06 R162, spec/06 R164, spec/13 R332, spec/19 R457) -/
def Obligations.MarchesAndDebugAccessesTakeEffect : Prop :=
  ∀ s : State,
    (∀ req, s.mayWrite req marchKey = true → s.marchBusy = false → s.loading = false →
      (s.run.mode = .service →
        (Completes (.marchDestructiveOnDie req) s fun t => t.mem.march.status = 1 ∧ t.mem.march.kind = 1 ∧ t.mem.cache = [] ∧
          t.answer = .ok 0 ∧ s.sameBut [.answer, .mgmtClock, .memMarch, .memCache, .memOnDie, .rings] t) ∧
        (Completes (.marchDestructiveAll req) s fun t => t.mem.march.status = 1 ∧ t.mem.march.kind = 2 ∧ t.mem.cache = [] ∧
          t.answer = .ok 0 ∧ s.sameBut [.answer, .mgmtClock, .memMarch, .memCache, .memOnDie, .rings] t)) ∧
      (s.run.mode ≠ .service → (Completes (.marchDestructiveAll req) s fun t => s.logged t 0x9012 srcHub (accessArg req marchKey) ∧
        t.answer = refusedAnswer req ∧ t.mem = s.mem)) ∧
      (Completes (.marchPreservingOnDie req) s fun t => t.mem.march.status = 1 ∧ t.mem.march.kind = 3 ∧ t.mem.cache = [] ∧
        t.answer = .ok 0 ∧ s.sameBut [.answer, .mgmtClock, .memMarch, .memCache, .memOnDie, .rings] t) ∧
      (Completes (.marchPreservingAll req) s fun t => t.mem.march.status = 1 ∧ t.mem.march.kind = 4 ∧ t.mem.cache = [] ∧
        t.answer = .ok 0 ∧ s.sameBut [.answer, .mgmtClock, .memMarch, .memCache, .memOnDie, .rings] t)) ∧
    (∀ r, s.mem.march.status = 1 → s.mem.march.atStart = false →
      (s.mem.march.kind ≤ 2 → (Completes (.marchComplete r) s fun t => t.mem.march.status = 2 ∧ t.mem.onDie = [] ∧ t.mem.cache = [] ∧
        t.image = none ∧ t.mem.march.failedBanks = (marchBanks r).length % 2 ^ 16)) ∧
      (2 < s.mem.march.kind → (Completes (.marchComplete r) s fun t => t.mem.march.status = 2 ∧ t.mem.bytes = s.mem.bytes ∧
        t.mem.onDie = s.flushCaches.mem.onDie ∧ t.image = s.image ∧ t.mem.march.record = marchFailures r))) ∧
    (s.powered = true → s.sec.tap = .dbgacc → s.sec.halted = false → s.sec.wiping = false → Sparse.wf zeroByte s.mem.bytes = true →
      (∀ x, x % 4 = 0 → x + 4 ≤ secureEnd → s.permits 2 x 4 .read = true → (Completes (.dbgaccRead x) s fun t =>
        t.sec.dbgData = ofBytes (s.readBytes x 4) ∧ t.sec.dbgStatus = 0 ∧ t.mem = s.mem ∧
          s.sameBut [.answer, .mgmtClock, .dict, .cores, .host, .sec] t)) ∧
      (∀ x v, x % 4 = 0 → x + 4 ≤ secureEnd → s.permits 2 x 4 .write = true → (Completes (.dbgaccWrite x v) s fun t =>
        t.sec.dbgStatus = 0 ∧ t.sec.dbgData = s.sec.dbgData ∧ t.readBytes x 4 = toBytes 4 v ∧
          (∀ y : Nat, y < x ∨ x + 4 ≤ y → t.byteAt y = s.byteAt y) ∧
          s.sameBut [.answer, .mgmtClock, .dict, .cores, .host, .sec, .memBytes] t))) ∧
    (∀ d a, d < 8 → s.domainAsleep d = true → s.sec.halted = false → a.op = .read → a.tagOk = true →
      (s.rings.held.filter fun h => h.1 == d) = [(d, .access a)] → (Completes (.domainWakeAnswer d) s fun t =>
        t.domainAsleep d = false ∧ t.rings.held = s.rings.held.filter (fun h => h.1 != d) ∧ t.mem = s.mem ∧ t.answer = s.answer))

/-- Every word-cell operation sends the result and flag of the operation table to its destination and moves the PC. At an edge of a
running cell (on a spine that a track flag clocks, a rising edge of that flag) whose entry has the operation of the command,
with o the state after everything due has landed, A, B the sources, Sh the shift amount: if no hold applies, the result and flag
output of Table 9-3 start towards Dst (the flag where FW is set) with the latency of the operation's class, NOP starting none;
XW starts bits 7 to 0 towards the staging byte; PC becomes Next or Alt by the condition; no register changes yet; a multiply
draws 6 word-cell tokens of its tile, the others none; no other cell changes. A held entry changes nothing of its cell but that
the edge passes. (In canonical lists of cells and tiles.) (spec/09 R217, spec/09 R218, spec/09 R219, spec/09 R220, spec/09 R221,
spec/09 R222, spec/09 R223, spec/09 R233) -/
def Obligations.WordCellOperationsTakeEffect : Prop :=
  ∀ (s : State) (op k : Nat) (c : Nat → Instr) (o : State) (x : WordCell) (e sh : Nat) (a b : BitVec 32) (held : Bool),
    [Instr.wcPass, .wcAdd, .wcSub, .wcAnd, .wcOr, .wcXor, .wcNot, .wcShl, .wcShr, .wcSar, .wcRol, .wcMullo, .wcMulhu, .wcMulhs, .wcEq, .wcLtu,
      .wcLts, .wcMinu, .wcMaxu, .wcSel, .wcBit, .wcPop, .wcInc, .wcNop][op]? = some c →
    o = s.landCell k → x = o.fabric.cell k → e = o.fabric.entry k x.pc → sh = wcSh e → a = o.wcSource k (wcSrcA e) → b = o.wcSource k (wcSrcB e) →
    held = ((wcPW e || wcPR e) && wcHW e && !o.portReady k e) →
    s.cellRuns k = true → s.fabric.edgeDue k = true → wcOp e = op → Sparse.wf (fun _ => WordCell.zero) s.fabric.cells = true → Sparse.wf (fun _ => Tile.zero) s.arr.tiles = true →
    (held = false → ∀ r : BitVec 32 × Bool, some r = [
          (a, a != 0), (a + b, decide (2 ^ 32 ≤ a.toNat + b.toNat)), (a - b, decide (a.toNat < b.toNat)), (a &&& b, a &&& b != 0), (a ||| b, a ||| b != 0),
          (a ^^^ b, a ^^^ b != 0), (~~~a, ~~~a != 0), (a <<< sh, sh != 0 && a.getLsbD (31 - sh + 1)), (a >>> sh, sh != 0 && a.getLsbD (sh - 1)),
          (a.sshiftRight sh, sh != 0 && a.getLsbD (sh - 1)), (a <<< sh ||| a >>> (32 - sh), a <<< sh ||| a >>> (32 - sh) != 0), (a * b, a * b != 0),
          (BitVec.ofNat 32 ((a.toNat * b.toNat) / 2 ^ 32), decide (2 ^ 32 ≤ a.toNat * b.toNat)),
          (BitVec.ofInt 32 ((a.toInt * b.toInt) / 2 ^ 32), decide (a.toInt * b.toInt < 0 ∨ 2 ^ 32 ≤ a.toInt * b.toInt)),
          (a, decide (a = b)), (a, decide (a.toNat < b.toNat)), (a, decide (a.toInt < b.toInt)),
          (if a.toNat < b.toNat then a else b, decide (a.toNat < b.toNat)), (if a.toNat < b.toNat then b else a, decide (a.toNat < b.toNat)),
          (if x.flag then b else a, x.flag), (if a.getLsbD sh then 1 else 0, a.getLsbD sh),
          (BitVec.ofNat 32 ((List.range 32).filter fun i => a.getLsbD i).length, a != 0), (a + 1, decide (a = 0xFFFFFFFF)), (0, false)][op]? →
      (Completes (c k) s fun u =>
        (u.fabric.cell k).pc = (if o.wcCondition k e then wcNext e else wcAlt e) ∧
        (u.fabric.cell k).landings = (x.landings.map fun l => { l with left := l.left - 1 }) ++ (if op = 23 then [] else
          [⟨wcDst e, r.1, if wcFW e then some r.2 else none, o.latency (k / 16384) (if op = 11 ∨ op = 12 ∨ op = 13 then 1 else 0)⟩]) ∧
        (u.fabric.cell k).stagings = (x.stagings.map fun b => (b.1, b.2 - 1)) ++
          (if wcXW e = true ∧ op ≠ 23 then [(r.1.toNat % 2 ^ 8, o.latency (k / 16384) 7)] else []) ∧
        { u.fabric.cell k with pc := 0, landings := [], stagings := [], strobe := false, sinceLoad := [], pipes := [], burst := 0, flagEdges := 0, trail := [] } =
          { x with pc := 0, landings := [], stagings := [], strobe := false, sinceLoad := [], pipes := [], burst := 0, flagEdges := 0, trail := [] } ∧
        (u.fabric.cell k).strobe = (x.strobe && !o.readsCrossing k e) ∧ (∀ m, m ≠ k → u.fabric.cell m = o.fabric.cell m) ∧
        (u.arr.tile (k / 256)).wcTokens = (o.arr.tile (k / 256)).wcTokens + (if op = 11 ∨ op = 12 ∨ op = 13 then 6 else 0) ∧
        (wcPW e = false → wcPR e = false → o.sameBut [.fabCells, .arrTiles, .trig] u))) ∧
    (held = true → (Completes (c k) s fun u => u.fabric.cell k = { x.tickEdge with pipes := o.samplePipes k } ∧
      (∀ m, m ≠ k → u.fabric.cell m = o.fabric.cell m) ∧ o.sameBut [.fabCells, .trig] u))

/-- A held entry has no effect of any kind, an unheld one skips the port action, and only an executed multiply draws tokens. For
every word-cell command at an edge that its clock gives its cell, with o the state after everything due has landed. An entry
with PW or PR and HW set whose port cannot act: T0 to T3, OUT, flag, strobe and PC stay, nothing starts, no token is drawn, no
port, FIFO or channel changes, and PC still names the same entry. With HW clear, the entry executes (PC moves) and no port,
FIFO, channel or memory byte changes. An executed entry adds 6 to its tile's word-cell tokens if its operation is a multiply and
0 if not, and WORD_CELL_TOKEN_INTERVAL counts an overdraw of every tile whose word-cell tokens exceed its W[u]. (spec/09 R222,
spec/09 R223) -/
def Obligations.HeldEntriesAndMultiplyTokens : Prop :=
  (∀ (s : State) (op k : Nat) (c : Nat → Instr) (o : State) (x : WordCell) (e : Nat),
    [Instr.wcPass, .wcAdd, .wcSub, .wcAnd, .wcOr, .wcXor, .wcNot, .wcShl, .wcShr, .wcSar, .wcRol, .wcMullo, .wcMulhu, .wcMulhs, .wcEq, .wcLtu,
      .wcLts, .wcMinu, .wcMaxu, .wcSel, .wcBit, .wcPop, .wcInc, .wcNop][op]? = some c →
    o = s.landCell k → x = o.fabric.cell k → e = o.fabric.entry k x.pc → s.cellRuns k = true → s.fabric.edgeDue k = true → wcOp e = op →
    Sparse.wf (fun _ => WordCell.zero) s.fabric.cells = true → Sparse.wf (fun _ => Tile.zero) s.arr.tiles = true →
    ((wcPW e = true ∨ wcPR e = true) → wcHW e = true → o.portReady k e = false → (Completes (c k) s fun u =>
      { u.fabric.cell k with landings := [], stagings := [], sinceLoad := [], pipes := [], burst := 0, flagEdges := 0, trail := [] } =
        { x with landings := [], stagings := [], sinceLoad := [], pipes := [], burst := 0, flagEdges := 0, trail := [] } ∧
      (u.fabric.cell k).landings.length = x.landings.length ∧ (u.fabric.cell k).stagings.length = x.stagings.length ∧
      u.fabric.entry k (u.fabric.cell k).pc = e ∧ (∀ m, m ≠ k → u.fabric.cell m = o.fabric.cell m) ∧ o.sameBut [.fabCells, .trig] u)) ∧
    ((wcPW e = true ∨ wcPR e = true) → wcHW e = false → (wcPW e = true → o.canPush k = false) → (wcPR e = true → o.canPop k = false) →
      (Completes (c k) s fun u => (u.fabric.cell k).pc = (if o.wcCondition k e then wcNext e else wcAlt e) ∧
        (∀ m, m ≠ k → u.fabric.cell m = o.fabric.cell m) ∧ o.sameBut [.fabCells, .arrTiles, .trig] u)) ∧
    (((wcPW e || wcPR e) && wcHW e && !o.portReady k e) = false → (Completes (c k) s fun u =>
      (u.arr.tile (k / 256)).wcTokens = (o.arr.tile (k / 256)).wcTokens + (if op ∈ [11, 12, 13] then 6 else 0) ∧
      ∀ m, m ≠ k / 256 → u.arr.tile m = o.arr.tile m))) ∧
  ∀ (s : State) (i : Image), s.image = some i → s.tokens.overdraws < max32 → (Completes .wordCellTokenInterval s fun u =>
    u.tokens.overdraws = min max32 (s.tokens.overdraws +
      (s.arr.tiles.filter fun e => decide (Sparse.get (fun _ => 0) i.cellBudget e.1 < e.2.wcTokens)).length))

/-- Results, strobes and crossing bytes land, the staged release advances, and probe selects and credits arrive. For a released cell
outside a halt, in canonical lists: WC_RESULT_LAND writes each register with the last result due for it and the flag with the
last flag due, and takes those results out of the pipeline; CROSSING_STROBE_SET at the second edge after a load sets the strobe;
STAGING_BYTE_WRITE writes the due byte to the cell's byte of its cluster's staging register and to no other.
RELEASE_WRITE_ENABLE takes every tile from stage 1 to 2, RELEASE_CLOCK_START from 2 to 3, where the cells of the configured
clusters start with PC at 0. PROBE_SELECT_WRITE that no check turns away stores a select of kind 0, or of kind 1 or 2 of a
fitted die, and refuses one of an unfitted die or of kind 3. CREDIT_RETURN_ARRIVAL gives the port one credit and takes one from
those on their way. (spec/05 R125, spec/09 R220, spec/09 R232, spec/09 R233, spec/09 R237, spec/09 R239, spec/09 R222, spec/12
R316, spec/12 R319) -/
def Obligations.CellEventsTakeEffect : Prop :=
  ∀ s : State, Sparse.wf (fun _ => WordCell.zero) s.fabric.cells = true → Sparse.wf (fun _ => Cluster.zero) s.arr.clusters = true →
    Sparse.wf (fun _ => 0) s.fabric.release = true → Sparse.wf (defaultOf s.part.grade) s.dict = true →
    (∀ k, s.cellLive k = true →
      (∀ x due, x = s.fabric.cell k → due = x.landings.filter (fun l => l.left == 0) → (Completes (.wcResultLand k) s fun u =>
        u.fabric.cell k = { x with
          t0 := ((due.filter fun l => l.dst == 0).getLast?.map Landing.value).getD x.t0
          t1 := ((due.filter fun l => l.dst == 1).getLast?.map Landing.value).getD x.t1
          t2 := ((due.filter fun l => l.dst == 2).getLast?.map Landing.value).getD x.t2
          t3 := ((due.filter fun l => l.dst == 3).getLast?.map Landing.value).getD x.t3
          out := ((due.filter fun l => l.dst == 4).getLast?.map Landing.value).getD x.out
          flag := (due.filterMap Landing.flag).getLast?.getD x.flag
          landings := x.landings.filter fun l => l.left != 0 } ∧
        (∀ m, m ≠ k → u.fabric.cell m = s.fabric.cell m) ∧ s.sameBut [.fabCells, .fabTrackEdges] u)) ∧
      ((∃ n ∈ (s.fabric.cell k).sinceLoad, 2 ≤ n) → (Completes (.crossingStrobeSet k) s fun u =>
        u.fabric.cell k = { s.fabric.cell k with
          strobe := true, sinceLoad := (s.fabric.cell k).sinceLoad.filter fun n => decide (n < 2) } ∧
        (∀ m, m ≠ k → u.fabric.cell m = s.fabric.cell m) ∧ s.sameBut [.fabCells] u)) ∧
      (∀ b n, s.fabric.dueStagings k = [(b, n)] → b < 2 ^ 8 → (Completes (.stagingByteWrite k) s fun u =>
        bits (u.arr.cluster (k / 8)).staging.toNat (8 * (k % 8)) 8 = b ∧
        (∀ i, i < 8 → i ≠ k % 8 → bits (u.arr.cluster (k / 8)).staging.toNat (8 * i) 8 = bits (s.arr.cluster (k / 8)).staging.toNat (8 * i) 8) ∧
        u.fabric.cell k = { s.fabric.cell k with stagings := (s.fabric.cell k).stagings.drop 1 } ∧
        (∀ m, m ≠ k / 8 → u.arr.cluster m = s.arr.cluster m) ∧ s.sameBut [.fabCells, .arrClusters] u))) ∧
    (Completes .releaseWriteEnable s fun u =>
      (∀ tk : Nat, u.fabric.stage tk = if s.fabric.stage tk = 1 then 2 else s.fabric.stage tk) ∧ s.sameBut [.fabRelease] u) ∧
    (Completes .releaseClockStart s fun u =>
      (∀ tk : Nat, u.fabric.stage tk = if s.fabric.stage tk = 2 then 3 else s.fabric.stage tk) ∧
      (∀ k : Nat, u.fabric.cell k = if s.fabric.stage (k / 256) = 2 ∧ k ∈ s.fabric.cellKeys then { s.fabric.cell k with pc := 0 } else s.fabric.cell k) ∧
      s.sameBut [.fabRelease, .fabCells] u) ∧
    (∀ req mux v, mux < 16 → v < 2 ^ 32 → s.mayWrite req (keyOf 0x2750 (mux + 1)) = true →
      ((bits v 30 2 = 0 ∨ bits v 30 2 < 3 ∧ bits v 27 3 < s.dies) → (Completes (.probeSelectWrite req mux v) s fun u =>
        u.entry (keyOf 0x2750 (mux + 1)) = v - v % 2 ^ 15 ∧ u.answer = .ok 0 ∧
          (∀ key, key ≠ keyOf 0x2750 (mux + 1) → u.entry key = s.entry key) ∧ s.sameBut [.answer, .mgmtClock, .dict, .fixer] u)) ∧
      ((bits v 30 2 = 3 ∨ bits v 30 2 ≠ 0 ∧ s.dies ≤ bits v 27 3) → (Completes (.probeSelectWrite req mux v) s fun u =>
        s.logged u 0x9011 srcHub (accessArg req (keyOf 0x2750 (mux + 1))) ∧ u.answer = refusedAnswer req ∧ u.dict = s.dict))) ∧
    ∀ slot c, s.channel slot = some c → c.type = 1 → 0 < c.inFlight → (Completes (.creditReturnArrival slot) s fun u =>
      u.channel slot = some { c with credits := c.credits + 1, inFlight := c.inFlight - 1 } ∧
      (∀ p ∈ c.port.toList, s.roomMargin (bits (s.portFrame p) 116 16) < c.credits + 1 →
        u.arr.sched.rooms = s.arr.sched.rooms.filter (fun r => r != (4, slot))) ∧ s.sameBut [.chan, .arrSched] u)

/-- Beats enter, reach and leave the FIFOs of a bridge engine in order, pauses and resumes hold, and overflow drops the beat. For a
bound engine with its lanes up, outside a halt: a received beat of Width words joins the receive FIFO while there is room, and
at RxHighWater a pause is counted and sent on its first lane; at a full FIFO it is dropped and counted and 0x8121 is logged at
the first drop since the last run command. A delivered beat reaches the port of a tile that accepts writes. The oldest transmit
beat reaches the lanes unless the far end has paused the engine. A PAUSE or RESUME block that a lane takes and that names the
engine sets or clears that. Nothing else of the other engines changes. (spec/09 R240, spec/09 R241, spec/09 R242, spec/09 R243,
spec/18 R441) -/
def Obligations.BridgeCommandsTakeEffect : Prop :=
  ∀ (s : State) (n : Nat) (b : BridgeBinding) (x : BridgeEngine), s.boundEngine n = some b → s.engineLanesUp b = true → x = s.engine n →
    s.fabric.engines.length = 8 → Sparse.wf (defaultOf s.part.grade) s.dict = true →
    (∀ blocks, x.rx.length < b.rxDepth → (x.rx.length + 1 < b.highWater ∨ x.pauseSent = true) →
      (Completes (.bridgeBeatReceived n blocks) s fun u =>
        u.engine n = { x with rx := x.rx ++ [beatOf b.width blocks] } ∧
        (∀ m, m ≠ n → u.engine m = s.engine m) ∧ s.sameBut [.fabEngines] u)) ∧
    (∀ blocks, x.rx.length < b.rxDepth → b.highWater ≤ x.rx.length + 1 → x.pauseSent = false →
      (Completes (.bridgeBeatReceived n blocks) s fun u =>
        u.engine n = { x with rx := x.rx ++ [beatOf b.width blocks], pauseSent := true } ∧
        u.entry (bridgeKey n 4) = sat32 (s.entry (bridgeKey n 4)) 1 ∧ (∀ m, m ≠ n → u.engine m = s.engine m) ∧
        (b.laneKind = 0 → (u.lane b.firstLane).sent = (s.lane b.firstLane).sent ++ (if b.firstLane < s.lanes.length then [.pause n] else [])) ∧
        s.sameBut [.fabEngines, .dict, .lanes] u)) ∧
    (∀ blocks, b.rxDepth ≤ x.rx.length → (Completes (.bridgeBeatReceived n blocks) s fun u =>
      (u.engine n).rx = x.rx ∧ u.entry (bridgeKey n 5) = sat32 (s.entry (bridgeKey n 5)) 1 ∧
      (x.overflowLogged = false → s.logged u 0x8121 srcHub 0) ∧ (x.overflowLogged = true → u.log = s.log) ∧
      (∀ m, m ≠ n → u.engine m = s.engine m))) ∧
    (x.delivered < x.rx.length → 2 ≤ s.fabric.stage (b.die * 64 + b.tile) → (Completes (.bridgeBeatDelivered n) s fun u =>
      u.engine n = { x with delivered := x.delivered + 1 } ∧ (∀ m, m ≠ n → u.engine m = s.engine m) ∧ s.sameBut [.fabEngines] u)) ∧
    (∀ beat rest, x.tx = beat :: rest →
      (x.paused = false → (Completes (.bridgeBeatTransmitted n) s fun u =>
        u.engine n = { x with tx := rest, sent := x.sent ++ [beat], beats := x.beats + 1 } ∧ (∀ m, m ≠ n → u.engine m = s.engine m) ∧
        (s.roomMargin b.beatsPerCycle < b.txDepth - rest.length → u.arr.sched.rooms = s.arr.sched.rooms.filter (fun r => r != (5, n))))) ∧
      (x.paused = true → (Completes (.bridgeBeatTransmitted n) s fun u => s.sameBut [] u))) ∧
    (∀ w, (s.receive w.lane w.block).2 = some (.pause n) → (Completes (.pauseReceived w) s fun u => u.engine n = { x with paused := true } ∧
      (∀ m, m ≠ n → u.engine m = s.engine m) ∧ s.sameBut [.fabEngines, .lanes] u)) ∧
    (∀ w, (s.receive w.lane w.block).2 = some (.resume n) → (Completes (.resumeReceived w) s fun u => u.engine n = { x with paused := false } ∧
      (∀ m, m ≠ n → u.engine m = s.engine m) ∧ s.sameBut [.fabEngines, .lanes] u))

/-- Header, data and trailer frames stage a stream and the first failed check refuses it; timeout, abort and DMA act. Outside a
halt, for the frame that the edges of a live port spell and that names the module, o being the state that has seen it, g the one
in which a stream of a port with less right has given way: a stream-header frame on a port that is open and not in use, of no
StreamId ignored, begins the stream of its fields and disarms RunAt; a data frame that passes S1 and S2 is stored, deciphered,
in the staging area at its offset and joins the stream; a trailer that passes S1, S3 and S4 completes it. A frame that fails a
check refuses the stream: LoaderFault takes its code, the stream is gone, its StreamId is ignored, and no image, mode or design
state changes; so does a second header frame. A frame of an ignored StreamId changes nothing but its port. STREAM_TIMEOUT
refuses a staging stream with 0x3205, LOAD_ABORT one outside a commit with 0x320A, and is itself refused in a commit.
DMA_COMMAND of value 1 takes source and length and begins reading (of no bytes it is done); while it is busy, and of another
value, it is refused with 0x9011. (spec/02 R29, spec/10 R252, spec/10 R255, spec/10 R256, spec/10 R257, spec/10 R258, spec/10
R259, spec/10 R260, spec/10 R261, spec/10 R262, spec/10 R266, spec/10 R267) -/
def Obligations.StreamFramesTakeEffect : Prop :=
  ∀ s : State, s.sec.halted = false →
    (∀ p head body bs f (o : State), (p = 1 ∨ p = 2 ∨ p = 3 ∧ s.loader.dmaStatus = 1) → bs = s.portBytes p (head ++ body) → bs ≠ [] → f = StreamFrame.ofWire bs →
      o = (s.afterEdges p (head ++ body)).seeFrame p f → o.selected p f = true →
      (o.current p f = none → f.id ∉ o.loader.ignored → o.portOpen p = true → ∀ g : State, g = o.giveWay p →
        (g.headerFault p f = none → (Completes (.streamHeaderFrame p (head ++ body)) s fun t =>
          t.loader = { g.loader with
            state := 1, stream := some (g.newStream p f)
            retained := if f.field 0x06 1 = 1 then g.loader.retained else none, chain := if f.field 0x06 1 = 1 then g.loader.chain else [] } ∧
          t.run = { g.run with runAt := none } ∧ g.sameBut [.loader, .run, .rings] t)) ∧
        (∀ e, g.headerFault p f = some e → (Completes (.streamHeaderFrame p (head ++ body)) s fun t =>
          t.loader.fault = e.code ∧ t.loader.offset = e.offset ∧ t.loader.state = g.loader.state ∧ f.id ∈ t.loader.ignored ∧
          g.sameBut [.loader, .dict, .can, .log, .rstCommit, .cores, .host] t))) ∧
      (o.current p f = none → f.id ∈ o.loader.ignored → (Completes (.dataFrame p head body) s fun t =>
        t.loader.stream = s.loader.stream ∧ t.loader.state = s.loader.state ∧ s.sameBut [.loader] t)) ∧
      (∀ x, o.current p f = some x →
        (Completes (.streamHeaderFrame p (head ++ body)) s fun t => t.loader.stream = none ∧ t.loader.state = 0 ∧ t.loader.fault = 0x3204 ∧
          x.id ∈ t.loader.ignored ∧ s.sameBut [.loader, .dict, .can, .log, .rstCommit, .cores, .host] t) ∧
        (o.dataFault x f = none → (Completes (.dataFrame p head body) s fun t =>
          t.loader = { o.loader with stream := some { x with
            taken := x.taken + 1, image := { x.image with bytes := Sparse.setRun zeroByte x.image.bytes f.offset (o.plaintext x f) }
            pieces := (f.offset, f.length) :: x.pieces, digested := x.digested ++ f.bytes } } ∧
          (Sparse.wf zeroByte s.mem.bytes = true → ∀ i < (o.plaintext x f).length,
            t.byteAt (o.stagingBase x + f.offset + i) = (o.plaintext x f).getD i 0) ∧ s.sameBut [.loader, .memBytes] t)) ∧
        (∀ e, o.dataFault x f = some e → (Completes (.dataFrame p head body) s fun t => t.loader.stream = none ∧ t.loader.state = 0 ∧
          t.loader.fault = e.code ∧ t.loader.offset = e.offset ∧ x.id ∈ t.loader.ignored ∧
          s.sameBut [.loader, .dict, .can, .log, .rstCommit, .cores, .host] t)) ∧
        (o.trailerFault x f = none → (Completes (.trailerFrame p head body) s fun t =>
          t.loader = { o.loader with state := 2, stream := some { x with taken := x.taken + 1 }, ignored := x.id :: o.loader.ignored } ∧
          s.sameBut [.loader] t)) ∧
        (∀ e, o.trailerFault x f = some e → (Completes (.trailerFrame p head body) s fun t => t.loader.stream = none ∧ t.loader.state = 0 ∧
          t.loader.fault = e.code ∧ t.loader.offset = e.offset ∧ s.sameBut [.loader, .dict, .can, .log, .rstCommit, .cores, .host] t)))) ∧
    (∀ x, s.loader.stream = some x → s.loader.state = 1 → (Completes .streamTimeout s fun t => t.loader.stream = none ∧ t.loader.state = 0 ∧
      t.loader.fault = 0x3205 ∧ s.sameBut [.loader, .dict, .can, .log, .rstCommit, .cores, .host] t)) ∧
    (∀ req, s.mayWrite req 0x240301 = true →
      (∀ x, s.loader.stream = some x → s.loader.state ≠ 3 → (Completes (.loadAbort req) s fun t => t.loader.stream = none ∧
        t.loader.state = 0 ∧ t.loader.fault = 0x320A ∧ t.answer = .ok 0 ∧
        s.sameBut [.answer, .mgmtClock, .loader, .dict, .can, .log, .rstCommit, .cores, .host] t)) ∧
      (s.loader.state = 3 → (Completes (.loadAbort req) s fun t => s.logged t 0x9011 srcHub (accessArg req 0x240301) ∧
        t.answer = refusedAnswer req ∧ t.loader = s.loader))) ∧
    ∀ req n v, s.mayWrite req 0x240205 = true → n = s.entry 0x240203 + s.entry 0x240204 * 2 ^ 32 →
      (s.loader.dmaStatus ≠ 1 → v = 1 → (Completes (.dmaCommand req v) s fun t => t.loader = { s.loader with
          dmaStatus := if n = 0 then 2 else 1, dmaAddress := s.entry 0x240201 + s.entry 0x240202 * 2 ^ 32, dmaLeft := n } ∧
        t.answer = .ok 0 ∧ s.sameBut [.answer, .mgmtClock, .loader] t)) ∧
      (s.loader.dmaStatus = 1 ∨ v ≠ 1 → (Completes (.dmaCommand req v) s fun t => s.logged t 0x9011 srcHub (accessArg req 0x240205) ∧
        t.answer = refusedAnswer req ∧ t.loader = s.loader))

/-- An image that passes its checks commits and is released in stages, one that fails is refused, and a bad read-back leaves none.
With a complete stream waiting for its checks: when they all pass, the commit runs to the start of the staged release:
LoaderState 3, the fixer scrubbing, every tile to release at stage 1, and for a full image its digest committed, the image
retained with an empty chain, and DesignStateValid set. When one fails, its fault alone is recorded and nothing else changes.
When the read-back differs, no image is committed, the mode is SERVICE, DesignStateValid clear and 0x3211 active.
COMMIT_COMPLETE with every tile of the commit released, and fewer than two faults in the commit, ends it: LoaderState 0, no
fault, one more commit counted; of a full image the mode is LOADED; a partial image joins the chain, and the digest of R276 is
in force. (spec/07 R189, spec/08 R193, spec/09 R237, spec/10 R267, spec/10 R269, spec/10 R270, spec/10 R274, spec/10 R275,
spec/10 R276) -/
def Obligations.CommitsTakeEffect : Prop :=
  ∀ (s : State) (x : Stream) (f : Option LoadFault), s.loader.stream = some x →
    f = (if x.partialImage then (match s.image with | some i => s.partialChecks i x.image | none => some (LoadFault.whole 0x3203))
      else s.loadChecks x.image) →
    Sparse.wf (fun _ => 0) s.fabric.release = true →
    (s.loader.state = 2 → f = none →
      (Completes (.loadChecksComplete none) s fun t => t.loader.state = 3 ∧ t.loader.stream = some x ∧ t.fixer.running = true ∧
        t.run.valid = (s.run.valid || !x.partialImage) ∧ t.run.mode = s.run.mode ∧
        (x.partialImage = false → t.image.map Image.digest = some (Config.sha3 (Sparse.getRun zeroByte x.image.bytes 0 x.image.length)) ∧
          t.arr.sched.cycle = 0 ∧ t.arr.flights = [] ∧ t.loader.retained = some x.image ∧ t.loader.chain = [] ∧ ∀ tk < s.dies * 64, t.fabric.stage tk = 1) ∧
        (x.partialImage = true → t.image = s.image ∧ t.loader.chain = s.loader.chain ∧
          (∀ tk ∈ x.image.partialHeader.region, t.fabric.stage tk = 1) ∧
          ∀ tk : Nat, tk ∉ x.image.partialHeader.region → t.fabric.stage tk = s.fabric.stage tk)) ∧
      ∀ arg, (Completes (.loadChecksComplete (some arg)) s fun t => t.image = none ∧ t.run.mode = .service ∧ t.run.valid = false ∧
        t.loader.state = 0 ∧ t.loader.stream = none ∧ t.log.active.any (fun a => a.code == 0x3211) = true)) ∧
    (s.loader.state = 2 → ∀ e, f = some e → (Completes (.loadChecksComplete none) s fun t => t.loader.state = 0 ∧ t.loader.stream = none ∧
      t.loader.fault = e.code ∧ t.loader.offset = e.offset ∧ s.sameBut [.loader, .dict, .can, .log, .rstCommit, .cores, .host] t)) ∧
    (s.loader.state = 3 → s.allReleased (s.commitTiles x) = true → s.rst.commitFaults < 2 → (Completes .commitComplete s fun t =>
      t.loader.state = 0 ∧ t.loader.stream = none ∧ t.loader.fault = 0 ∧ t.entry 0x240801 = sat32 (s.entry 0x240801) 1 ∧
      (x.partialImage = false → t.run.mode = .loaded ∧ t.loader.retained = s.loader.retained ∧ t.image = s.image) ∧
      (x.partialImage = true → ∀ i, s.image = some i → t.run = s.run ∧ t.loader.retained = s.loader.retained ∧
        t.loader.chain = s.loader.chain ++ [x.image] ∧ t.image.map Image.digest = some (Config.sha3 (toBytes 64 i.digest ++
          toBytes 64 (Config.sha3 (Sparse.getRun zeroByte x.image.bytes 0 x.image.length)))))))

/-- A group that matches changes nothing, one that differs is rewritten from its golden contents or noted as failed. For the next
group of a fixer that scrubs, after the upsets that have struck it: a matching group changes nothing but the pass; differing
carry masks, descriptors, ClusterFrame, TileFrame or tier row whose source is there and which nothing strikes again holds its
golden contents in every word afterwards, and one more repair is counted; one that reads back badly, struck again after the
rewrite, or whose source is missing, joins the failed groups, and one more failure is counted; without a source its words stay.
A golden or staged line whose tag fails halts the device. A protected set that lost its signature logs 0x3F01, is reloaded, and
a new pass starts; a match changes nothing but for the upsets that strike afterwards. FIXER_ENABLE_WRITE stores its value and
starts a new pass. (spec/11 R280, spec/11 R281, spec/11 R283, spec/11 R284, spec/11 R285, spec/11 R286, spec/11 R289, spec/19
R469) -/
def Obligations.ScrubbingTakesEffect : Prop :=
  ∀ s : State, s.Inv → Sparse.wf (fun _ => TierWord.zero) s.arr.words = true → Sparse.wf (fun _ => TierWord.zero) s.arr.routeWords = true →
    Sparse.wf (fun _ => 0) s.fabric.clusterFrames = true → Sparse.wf (fun _ => 0) s.fabric.tileFrames = true →
    Sparse.wf (fun _ => Nib.zero) s.arr.nibs = true → Sparse.wf (fun _ => Queue.empty) s.arr.queues = true →
    (∀ (kind : FrameKind) (x : FrameGroup) (g : FrameGroupId) (u v : State), x.kind = kind.code → g = ⟨kind, x.die, x.tile, x.item⟩ →
      u = s.upset g x.flips → v = (u.rewrite g (u.groupDiff g)).upset g x.stuck → s.scrubs = true → s.groupNext g = true →
      (u.signatureDiffers g = false → s.fixer.failed = [] → (Completes (.fixerGroupCheck x true) s fun t => u.sameBut [.fixer, .dict] t ∧ t.fixer.failed = [])) ∧
      (u.signatureDiffers g = true → x.stuck = [] → u.sourceMissing g = false →
        kind ∈ [.tierRow, .carryMask, .descriptor, .clusterFrame, .tileFrame] → (∀ i < kind.size, s.fixer.goldenWord g i < 2 ^ kind.width) →
        (Completes (.fixerGroupCheck x true) s fun t => (∀ i < kind.size, t.groupWord g i = s.fixer.goldenWord g i) ∧
          t.entry (if kind = .tierRow then 0x250104 else 0x250105) = sat32 (s.entry (if kind = .tierRow then 0x250104 else 0x250105)) 1 ∧
          g ∉ t.fixer.failed ∧ (kind ≠ .carryMask → t.arr.nibs = u.arr.nibs) ∧ t.mem = s.mem)) ∧
      (u.signatureDiffers g = true → u.sourceMissing g = false → v.signatureDiffers g = true → (Completes (.fixerGroupCheck x true) s fun t =>
        (∀ i < kind.size, t.groupWord g i = v.groupWord g i) ∧ g ∈ t.fixer.failed ∧ t.entry 0x250107 = sat32 (s.entry 0x250107) 1)) ∧
      (u.signatureDiffers g = true → u.sourceMissing g = true → (Completes (.fixerGroupCheck x true) s fun t =>
        (∀ i < kind.size, t.groupWord g i = u.groupWord g i) ∧ g ∈ t.fixer.failed ∧ t.entry 0x250107 = sat32 (s.entry 0x250107) 1)) ∧
      (Completes (.fixerGroupCheck x false) s fun t => t.sec.halted = true)) ∧
    (∀ flips, (s.serving = true → s.controlUpset = true → (Completes (.protectedSetCheck flips) s fun t => s.logged t 0x3F01 srcFirmware 0 ∧
        t.fixer = { s.fixer with checked := [], differing := 0, warned := false, passStart := s.mgmt.uptime, controlFlips := flips, resetting := true } ∧
        t.entry 0x250109 = sat32 (s.entry 0x250109) 1)) ∧
      ((s.serving && s.controlUpset) = false → (Completes (.protectedSetCheck flips) s fun t =>
        t.fixer = { s.fixer with controlFlips := s.fixer.controlFlips ++ flips } ∧ s.sameBut [.fixer] t))) ∧
    ∀ req v, s.mayWrite req fixerEnableKey = true → inRange fixerEnableKey v = true → (Completes (.fixerEnableWrite req v) s fun t =>
      t.entry fixerEnableKey = v % 2 ^ 8 ∧ t.answer = .ok 0 ∧ t.fixer = { s.fixer with
        checked := [], differing := 0, warned := false, passStart := s.mgmt.uptime
        controlFlips := s.fixer.controlFlips.filter fun f => f.1 != 0 } ∧ s.sameBut [.answer, .mgmtClock, .dict, .fixer] t)

/-- The thread operations act on the thread table, the ready list, the delay lists and the core, as the operation table states. The
state that the core's earlier CSR writes leave is the one the operation acts on. For a CSRRW in machine or supervisor mode on a
running core: schcur returns the running thread or 0xFFFF; schset state, priority, affinity, suspend, ready and free return the
state before, change exactly that of a thread whose state allows it, and fail with status 9 where it does not; schcreate takes
the lowest free thread; schdelay and schwait make the running thread DELAYED or WAITING and free the core, or return 1 where the
condition already holds; schask with no running thread dispatches the best READY thread, completes with bit 62 where an enabled
interrupt is pending, or blocks; with disposition 1 it suspends the running thread, with 0 it makes it READY, and a thread whose
suspension was asked of the core is suspended; schipi sets the software interrupt of the named cores only. Any other CSR
instruction is illegal and changes nothing. (spec/12 R297, spec/12 R298, spec/12 R299, spec/12 R300, spec/12 R302, spec/12 R303,
spec/12 R304, spec/12 R308, spec/12 R309, spec/12 R315) -/
def Obligations.ThreadOperationsTakeEffect : Prop :=
  ∀ (s r : State) (c : Nat) (u : CsrUse) (k : Core) (v n : Nat) (x : Thread), (s.cores[c]?).map Core.state = some .running →
    r = s.useCore c u → r.cores[c]? = some k → v = u.operand % 2 ^ 64 → n = bits v 0 12 → x = r.thread n →
    Sparse.wf (fun _ => Thread.free) r.sched.threads = true → r.entry 0x2C0201 = 0 →
    (u.csrrw = false ∨ u.priv = 0 → ∀ i ∈ [Instr.schcur, .schsetState, .schsetPriority, .schsetSuspend, .schsetReady, .schsetFree, .schcreate, .schdelay,
      .schwait, .schask, .schipi, .chcreate, .chdestroy], (Completes (i c u) s fun t => t.answer = .illegal ∧ r.sameBut [.answer, .mgmtClock] t)) ∧
    (u.csrrw = true → u.priv ≠ 0 →
      (Completes (.schcur c u) s fun t => t.answer = .ok (k.thread.getD 0xFFFF) ∧ r.sameBut [.answer, .mgmtClock, .cores] t) ∧
      (bits v 22 10 = 0 → x.state ≠ .free →
        (bits v 12 4 = 5 → (Completes (.schsetState c u) s fun t => t.answer = .ok x.state.code ∧ r.sameBut [.answer, .mgmtClock, .cores] t)) ∧
        (bits v 12 4 = 2 → (Completes (.schsetPriority c u) s fun t => t.answer = .ok x.state.code ∧
          t.thread n = { x with priority := bits v 16 6 } ∧ (∀ m, m ≠ n → t.thread m = r.thread m) ∧
          t.sched.ready = (if x.state = .ready then r.sched.ready.filter (fun m => m != n) ++ [n] else r.sched.ready) ∧
          r.sameBut [.answer, .mgmtClock, .cores, .sched] t)) ∧
        (bits v 12 4 = 3 → bits v 32 32 ≠ 0 → u.operand < 2 ^ 64 → (Completes (.schsetAffinity c u) s fun t => t.answer = .ok x.state.code ∧
          t.thread n = { x with affinity := bits v 32 32 } ∧ (∀ m, m ≠ n → t.thread m = r.thread m) ∧ t.sched.ready = r.sched.ready ∧
          r.sameBut [.answer, .mgmtClock, .cores, .sched] t)) ∧
        (bits v 12 4 = 1 → (x.state ≠ .running ∨ x.core = c) → (Completes (.schsetSuspend c u) s fun t => t.answer = .ok x.state.code ∧
          t.thread n = { x with state := .suspended, suspendNext := none, handle := 0 } ∧ (∀ m, m ≠ n → t.thread m = r.thread m) ∧ n ∉ t.sched.ready ∧
          (x.state = .running → t.coreThread c = none) ∧ r.sameBut [.answer, .mgmtClock, .cores, .sched, .chan] t)) ∧
        (bits v 12 4 = 1 → x.state = .running → x.core ≠ c → (r.cores[x.core]?).map Core.preempt = some false →
          (Completes (.schsetSuspend c u) s fun t => t.answer = .ok 3 ∧ t.thread n = { x with suspendNext := some x.core } ∧
            (t.cores[x.core]?).map Core.preempt = some true ∧ t.coreThread x.core = r.coreThread x.core)) ∧
        (bits v 12 4 = 0 → x.state = .suspended → (Completes (.schsetReady c u) s fun t => t.answer = .ok 1 ∧
          ((t.thread n).state = .ready ∨ (t.thread n).state = .running) ∧ (t.thread n).reason = 5 ∧ (∀ m, m ≠ n → t.thread m = r.thread m))) ∧
        (bits v 12 4 = 0 → x.state ≠ .suspended → (Completes (.schsetReady c u) s fun t => t.answer = .ok (2 ^ 63 + 9) ∧ t.sched = r.sched)) ∧
        (bits v 12 4 = 4 → x.state ≠ .running → (Completes (.schsetFree c u) s fun t => t.answer = .ok x.state.code ∧ t.thread n = Thread.free ∧
          (∀ m, m ≠ n → t.thread m = r.thread m) ∧ n ∉ t.sched.ready)) ∧
        (bits v 12 4 = 4 → x.state = .running → (Completes (.schsetFree c u) s fun t => t.answer = .ok (2 ^ 63 + 9) ∧ t.sched = r.sched))) ∧
      (∀ m, r.freeThread = some m → bits v 32 32 ≠ 0 → bits v 6 2 = 0 → bits v 9 23 = 0 → bit v 8 = false →
        (Completes (.schcreate c u) s fun t => t.answer = .ok m ∧ t.thread m = ⟨.suspended, bits v 0 6, bits v 32 32, 0, 0, none, 0⟩ ∧
          (∀ j, j ≠ m → t.thread j = r.thread j) ∧ t.sched.ready = r.sched.ready)) ∧
      (∀ m, k.thread = some m → bits v 2 6 = 0 →
        (bits v 0 2 = 0 → bits v 8 56 ≠ 0 → (Completes (.schdelay c u) s fun t => t.answer = .ok 0 ∧ (t.thread m).state = .delayed ∧
          t.coreThread c = none ∧ (r.sched.ticks + bits v 8 56, m) ∈ t.sched.tickList ∧ t.sched.cycleList = r.sched.cycleList)) ∧
        (bits v 0 2 = 2 → r.arr.sched.cycle < bits v 8 56 → (Completes (.schdelay c u) s fun t => t.answer = .ok 0 ∧ (t.thread m).state = .delayed ∧
          t.coreThread c = none ∧ (bits v 8 56, m) ∈ t.sched.cycleList ∧ t.sched.tickList = r.sched.tickList)) ∧
        (bits v 0 2 = 1 → bits v 8 56 ≤ r.sched.ticks → (Completes (.schdelay c u) s fun t => t.answer = .ok 1 ∧ t.sched = r.sched))) ∧
      (∀ m slot d, k.thread = some m → bits v 33 7 = 0 → r.lookup (v % 2 ^ 32) = .inr (slot, d) → (d.type = 3 ∨ d.type = bits v 32 1 + 1) →
        (d.holds (bits v 32 1) = true → (Completes (.schwait c u) s fun t => t.answer = .ok 1 ∧ t.sched = r.sched ∧ t.chan = r.chan)) ∧
        (d.holds (bits v 32 1) = false → (Completes (.schwait c u) s fun t => t.answer = .ok 0 ∧ (t.thread m).state = .waiting ∧
          t.coreThread c = none ∧ t.channel slot = some { d with waiters := d.waiters ++ [(m, bits v 32 1)] } ∧
          (0 < bits v 40 24 → (r.sched.ticks + bits v 40 24, m) ∈ t.sched.tickList)))) ∧
      (v ≤ 1 → k.thread = none → r.suspensions c = [] →
        (r.bestFor c = none → ({ k with preempt := false } : Core).interrupted r.coreTime = false → (Completes (.schask c u) s fun t =>
          t.answer = .waiting ∧ t.cores[c]? = some { k with preempt := false, state := .blocked } ∧ t.sched = r.sched)) ∧
        (r.bestFor c = none → ({ k with preempt := false } : Core).interrupted r.coreTime = true → (Completes (.schask c u) s fun t =>
          t.answer = .ok (2 ^ 62) ∧ (t.cores[c]?).map Core.state = some .running ∧ t.sched = r.sched)) ∧
        (∀ m, r.bestFor c = some m → (Completes (.schask c u) s fun t => t.answer = .ok (m + (r.thread m).reason * 2 ^ 12) ∧
          t.thread m = { r.thread m with state := .running, core := c } ∧ t.coreThread c = some m ∧ m ∉ t.sched.ready))) ∧
      (∀ m, v ≤ 1 → k.thread = none → r.suspensions c = [m] → (r.thread m).state ≠ .running → (Completes (.schask c u) s fun t =>
        (t.thread m).state = .suspended ∧ (t.thread m).suspendNext = none ∧ m ∉ t.sched.ready)) ∧
      (∀ m, v = 1 → k.thread = some m → m ∉ r.sched.ready → r.suspensions c = [] → r.bestFor c = none →
        ({ k with preempt := false } : Core).interrupted r.coreTime = false → (Completes (.schask c u) s fun t => t.answer = .waiting ∧
          (t.thread m).state = .suspended ∧ t.coreThread c = none)) ∧
      (∀ m, v = 0 → k.thread = some m → (r.thread m).suspendNext = none → r.sched.ready = [] → r.suspensions c = [] →
        bit (r.thread m).affinity c = true → (Completes (.schask c u) s fun t => t.answer = .ok m ∧ (t.thread m).state = .running ∧
          t.coreThread c = some m ∧ t.sched.ready = [])) ∧
      (v < 2 ^ 32 → (Completes (.schipi c u) s fun t => t.answer = .ok 0 ∧
        t.cores.map Core.ssip = r.cores.mapIdx (fun i y => y.ssip || (decide (i < 32) && bit v i)) ∧ r.sameBut [.answer, .mgmtClock, .cores] t)))

/-- Receive, release, reserve, post and count act on the entries of a channel in ring order; creation and destruction act on slots.
The state that the core's earlier CSR writes leave is the one the operation acts on. For a CSRRW that the mode allows, on a
running core, with a live handle of a type that takes the operation: chrecv returns the address and number of the next
unreceived visible message and marks it received; chrelease frees it, and with it the oldest released entries; chreserve takes
the next free entry; chpost makes it visible in order of reservation; chcount returns occupied and free. A stale handle fails
with status 2, an empty channel with 4, a full one with 5. chcreate gives an internal channel the lowest free slot, chdestroy
and CHANNEL_DESTROY discard one that no image declared, after which its handle is stale. (spec/12 R299, spec/12 R300, spec/12
R310, spec/12 R311, spec/12 R312, spec/12 R313, spec/12 R319) -/
def Obligations.ChannelOperationsTakeEffect : Prop :=
  (∀ (s r : State) (c : Nat) (u : CsrUse) (k : Core) (v slot : Nat) (d : Channel), (s.cores[c]?).map Core.state = some .running →
    r = s.useCore c u → r.cores[c]? = some k → v = u.operand % 2 ^ 64 →
    u.csrrw = true → (u.priv ≠ 0 ∨ k.uch = true) → r.lookup (v % 2 ^ 32) = .inr (slot, d) → d.waiters = [] →
    (v < 2 ^ 32 → ((d.type = 1 ∨ d.type = 3) →
        (∀ p, d.unreceived = some p → (Completes (.chrecv c u) s fun t =>
          t.answer = .ok (d.buffer + (d.head + p) % d.depth * d.bytes + (d.head + p) % d.depth * 2 ^ 44) ∧
          t.channel slot = some { d with slots := listSet d.slots p .received } ∧ r.sameBut [.answer, .mgmtClock, .cores, .chan] t)) ∧
        (d.unreceived = none → (Completes (.chrecv c u) s fun t => t.answer = .ok (2 ^ 63 + 4) ∧ t.chan = r.chan))) ∧
      ((d.type = 2 ∨ d.type = 3) →
        (d.slots.length < d.depth → (Completes (.chreserve c u) s fun t =>
          t.answer = .ok (d.buffer + (d.head + d.slots.length) % d.depth * d.bytes + (d.head + d.slots.length) % d.depth * 2 ^ 44) ∧
          t.channel slot = some { d with slots := d.slots ++ [.reserved] } ∧ r.sameBut [.answer, .mgmtClock, .cores, .chan] t)) ∧
        (d.depth ≤ d.slots.length → (Completes (.chreserve c u) s fun t => t.answer = .ok (2 ^ 63 + 5) ∧ t.chan = r.chan))) ∧
      (1 ≤ d.type → d.type ≤ 3 → (Completes (.chcount c u) s fun t => t.answer = .ok (d.occupied + d.free * 2 ^ 32) ∧
        r.sameBut [.answer, .mgmtClock, .cores] t))) ∧
    (v < 2 ^ 48 → bits v 32 16 < d.depth →
      (∀ p, p = d.position (bits v 32 16) → (d.type = 1 ∨ d.type = 3) → d.slots[p]? = some .received →
        (Completes (.chrelease c u) s fun t => t.answer = .ok 0 ∧
          (t.channel slot).map (fun e => e.slots) = some ((listSet d.slots p .released).dropWhile (fun x => x == .released)) ∧
          r.sameBut [.answer, .mgmtClock, .cores, .chan] t)) ∧
      (∀ p, p = d.position (bits v 32 16) → (d.type = 2 ∨ d.type = 3) → d.slots[p]? = some .reserved →
        (Completes (.chpost c u) s fun t => t.answer = .ok 0 ∧
          t.channel slot = some { d with slots := listSet d.slots p .posted, posted := sat32 d.posted 1 } ∧
          r.sameBut [.answer, .mgmtClock, .cores, .chan] t))) ∧
    (v < 2 ^ 32 → u.priv ≠ 0 → d.declared = false → (Completes (.chdestroy c u) s fun t => t.answer = .ok 0 ∧ t.channel slot = none ∧
      t.entry 0x2C0303 = sat32 (r.entry 0x2C0303) d.occupied ∧ t.chan.gen slot = (if r.chan.gen slot = 4095 then 1 else r.chan.gen slot + 1)))) ∧
  (∀ (s r : State) (c : Nat) (u : CsrUse) (v slot : Nat), (s.cores[c]?).map Core.state = some .running → r = s.useCore c u →
    v = u.operand % 2 ^ 64 → u.csrrw = true →
    (u.priv ≠ 0 →
      (bits v 29 3 = 0 → bits v 0 4 = 3 → r.bufferValid (bits v 32 32 * 4096) ((bits v 4 16 + 1) * ((bits v 20 9 + 1) * 8)) = true → r.freeSlot = some slot →
        r.channel slot = none → (Completes (.chcreate c u) s fun t => t.answer = .ok (3 * 2 ^ 28 + r.chan.gen slot * 2 ^ 16 + slot) ∧
          t.channel slot = some (Channel.fresh 3 false (bits v 4 16 + 1) ((bits v 20 9 + 1) * 8) (bits v 32 32 * 4096) none) ∧
          ∀ m, m ≠ slot → t.channel m = r.channel m)) ∧
      (r.lookup (v % 2 ^ 32) = .inl 2 → v < 2 ^ 32 → ∀ i ∈ [Instr.chrecv, .chrelease, .chreserve, .chpost, .chcount, .chdestroy],
        (Completes (i c u) s fun t => t.answer = .ok (2 ^ 63 + 2) ∧ t.chan = r.chan)))) ∧
  ∀ (s : State) (req slot : Nat) (d : Channel), s.mayWrite req 0x400201 = true → s.lookup (Sparse.get (fun _ => 0) s.chan.selects req) = .inr (slot, d) →
    (d.declared = false → (Completes (.channelDestroy req) s fun t => t.answer = .ok 0 ∧ t.channel slot = none)) ∧
    (d.declared = true → (Completes (.channelDestroy req) s fun t => s.logged t 0x9011 srcHub (accessArg req 0x400201) ∧ t.chan = s.chan))

/-- Ticks, releases, host events, timer interrupts, sleeps, wakes and counter overflows act on the cores as stated. TICK of a
sleeping or halted module changes nothing. TICK of an awake module outside a halt raises the tick count, changes nothing more
while no key of the tick list is due, and makes a due thread READY or RUNNING with its reason. CORE_RELEASE_WRITE starts exactly
the cores in reset whose bit is newly set, in machine mode at the start address. HOST_EVENT sets bit 24 + k of sevpend on every
core for every bit k. MACHINE_TIMER_INTERRUPT finds the timer interrupt pending exactly while the time has reached mtimecmp, and
then ends a blocked schask with bit 62 where that core has an enabled interrupt pending. CORE_SLEEP counts a sleep; a running
core that sleeps has executed WFI, and CORE_WAKE ends that. CORE_COUNTER_OVERFLOW zeroes the counter and sets its overflow bit;
MODULE_COUNTER_WRAP does so for an enabled module counter; both raise line 18 where asked. (spec/12 R293, spec/12 R295, spec/12
R296, spec/12 R302, spec/12 R307, spec/12 R309, spec/15 R388, spec/15 R390, spec/15 R391, spec/15 R392) -/
def Obligations.CoreEventsTakeEffect : Prop :=
  ∀ s : State, Sparse.wf (fun _ => Thread.free) s.sched.threads = true → Sparse.wf (defaultOf s.part.grade) s.dict = true →
    (s.asleep = true ∨ s.sec.halted = true → (Completes .tick s fun t => s.sameBut [] t)) ∧
    (s.asleep = false → s.sec.halted = false → s.sched.ticks + 1 < 2 ^ 64 →
      ((∀ e ∈ s.sched.tickList, s.sched.ticks + 1 < e.1) → (Completes .tick s fun t =>
        t.sched = { s.sched with ticks := s.sched.ticks + 1 } ∧ s.sameBut [.sched] t)) ∧
      (∀ k n, s.sched.tickList = [(k, n)] → k ≤ s.sched.ticks + 1 → (Completes .tick s fun t => t.sched.ticks = s.sched.ticks + 1 ∧
        t.sched.tickList = [] ∧ ((t.thread n).state = .ready ∨ (t.thread n).state = .running) ∧
        (t.thread n).reason = (if (s.thread n).state = .waiting then 2 else 3)))) ∧
    (∀ req v, s.mayWrite req 0x2C1103 = true → v < 2 ^ 32 → s.asleep = false → s.sec.halted = false → s.cores.length = 32 →
      (Completes (.coreReleaseWrite req v) s fun t => t.entry 0x2C1103 = v ∧ t.answer = .ok 0 ∧
        t.cores = s.cores.mapIdx (fun i c => if bit v i = true ∧ bit (s.entry 0x2C1103) i = false ∧ c.state = .reset then
          { c with state := .running, asleep := false, priv := 3, pc := s.entry 0x2C1101 + s.entry 0x2C1102 % 2 ^ 12 * 2 ^ 32 } else c) ∧
        s.sameBut [.answer, .mgmtClock, .dict, .cores, .trace, .log] t)) ∧
    (∀ req v, s.mayWrite req 0x2C0501 = true → v < 2 ^ 32 → (Completes (.hostEvent req v) s fun t => t.answer = .ok 0 ∧
      (t.cores.all fun c => (List.range 32).all fun k => !bit v k || bit c.sevpend (24 + k)) = true ∧
      t.host.vectors = s.host.vectors ++ ((List.range 32).filter (bit v)).map (24 + ·) ∧ s.sameBut [.answer, .mgmtClock, .cores, .host] t)) ∧
    (∀ c k, s.cores[c]? = some k → (Completes (.machineTimerInterrupt c) s fun t =>
      t.cores[c]? = some (if k.mtimecmp ≤ s.coreTime ∧ k.state = .blocked ∧ k.interrupted s.coreTime = true then
        { k with state := .running, result := 2 ^ 62 } else k) ∧
      (t.readCsr c 0x344).map (fun v => bit v 7) = some (decide (k.mtimecmp ≤ s.coreTime)) ∧
      (∀ m, m ≠ c → t.cores[m]? = s.cores[m]?) ∧ s.sameBut [.cores] t)) ∧
    (∀ c k, s.cores[c]? = some k → c < 32 → k.asleep = false → k.state ≠ .lockedUp → (Completes (.coreSleep c) s fun t =>
      (t.cores[c]?).map (fun x => (x.asleep, x.state)) = some (true, if k.state = .running then .wfi else k.state) ∧
      t.entry (keyOf 0x2A24 (c + 1)) = sat32 (s.entry (keyOf 0x2A24 (c + 1))) 1)) ∧
    (∀ c k, s.cores[c]? = some k → (k.state = .wfi ∨ k.state = .running) → (Completes (.coreWake c) s fun t =>
      t.cores[c]? = some { k with asleep := false, state := .running })) ∧
    (∀ c k n (r : RetiredInstr), s.cores[c]? = some k → c < 32 → 3 ≤ n → n ≤ 10 → k.hpmCounter.length = 8 →
      (Completes (.coreCounterOverflow c n r) s fun t => (t.cores[c]?).map (fun x => x.hpmCounter) = some (listSet k.hpmCounter (n - 3) 0) ∧
        (bit (t.entry (keyOf 0x2B01 (c + 1))) n) = true ∧
        t.host.vectors = s.host.vectors ++ (if bit r.selector 62 then [18] else []))) ∧
    ∀ n, n < 16 → bit (s.entry 0x2B0001) n = true → s.entry (keyOf (0x2B10 + n) 1) ≠ 0 → (Completes (.moduleCounterWrap n) s fun t =>
      t.entry (keyOf (0x2B10 + n) 3) = 0 ∧ bit (t.entry 0x2B0002) n = true ∧
      t.host.vectors = s.host.vectors ++ (if bit (s.entry 0x2B0003) n then [18] else []) ∧ s.sameBut [.dict, .cores, .host] t)

/-- Enabling trace clears its counters, an offered record enters its FIFO or is dropped, and the read pointer frees slots.
TRACE_ENABLE_WRITE of 1 over 0 clears the trace counters and sets the entry, writing a Sync record; of 0 over 1 empties every
FIFO into the blotter and clears the entry. A PfIndirect or PfTrap record of a core traced in its privilege that has nothing
collected enters the FIFO of its source while it takes one, and is dropped and counted when it does not, at the first drop with
0xA101. A branch joins those the core has collected until 32 have. A load of up to 8 bytes that matches a range is a DaLoad
record; one that matches none changes nothing. SYNC_RECORD_PERIOD writes one record to a blotter that has room, and moves the
write pointer by one. BLOTTER_READ_POINTER_WRITE of a slot among the unread ones moves the read pointer; of any other it is
refused. (spec/15 R372, spec/15 R373, spec/15 R376, spec/15 R377, spec/15 R378, spec/15 R379, spec/15 R382, spec/15 R384,
spec/15 R385, spec/15 R387) -/
def Obligations.TraceCommandsTakeEffect : Prop :=
  ∀ s : State, Sparse.wf (defaultOf s.part.grade) s.dict = true → Sparse.wf (fun _ => []) s.trace.fifos = true → Sparse.wf (fun _ => 0) s.trace.gaps = true →
    (∀ req, s.mayWrite req 0x2A0001 = true →
      (s.entry 0x2A0001 = 0 → s.entry 0x2A0002 = 0 → s.trace.unread + 1 < blotterSlots → (Completes (.traceEnableWrite req 1) s fun t =>
        t.entry 0x2A0001 = 1 ∧ t.answer = .ok 0 ∧ t.entry 0x2A2003 = 0 ∧ t.entry 0x2A2004 = 0 ∧ t.entry 0x2A2001 = 1 ∧ t.trace.gaps = [] ∧
        t.trace.writeP = (s.trace.writeP + 1) % blotterSlots)) ∧
      (s.entry 0x2A0001 = 1 → (Completes (.traceEnableWrite req 0) s fun t => t.entry 0x2A0001 = 0 ∧ t.answer = .ok 0 ∧ t.trace.fifos = [] ∧
        t.arr.sched = s.arr.sched ∧ t.run = s.run))) ∧
    (∀ (c : Nat) (e : TraceEvent) (p kd pl : Nat), c < 32 → s.sourceOn c = true → pfMode (s.entry (keyOf 0x2A01 (c + 1))) p = true →
      (s.pf c).repeats = 0 → (s.pf c).count = 0 →
      ((∃ src dst, e = .indirect p src dst ∧ kd = 6 ∧ pl = src % 2 ^ 48 * 2 ^ 80 + dst % 2 ^ 48 * 2 ^ 32) ∨
        (∃ epc cause new tval, e = .trap epc cause new p tval ∧ kd = 7 ∧
          pl = epc % 2 ^ 48 * 2 ^ 80 + cause % 256 * 2 ^ 72 + new % 4 * 2 ^ 70 + p % 4 * 2 ^ 68 + tval % 2 ^ 64)) →
      (fifoTakes (s.fifo c) kd = true → (Completes (.traceRecordOffer c e) s fun t =>
        (t.fifo c).map (fun r => (r.source, r.kind, r.payload)) = (s.fifo c).map (fun r => (r.source, r.kind, r.payload)) ++ [(c, kd, pl)] ∧
        (∀ m, m ≠ c → t.fifo m = s.fifo m) ∧ s.sameBut [.trace, .dict, .log] t)) ∧
      (fifoTakes (s.fifo c) kd = false → (Completes (.traceRecordOffer c e) s fun t => t.fifo c = s.fifo c ∧
        t.entry 0x2A2003 = sat32 (s.entry 0x2A2003) 1 ∧ t.entry (dropKey c) = sat32 (s.entry (dropKey c)) 1 ∧
        (s.trace.dropLogged = false → s.log.newest < t.log.newest ∧ t.log.entries.getLast?.map (fun e => (e.code, e.arg)) = some (0xA101, c)) ∧
        (∀ m, m ≠ c → t.fifo m = s.fifo m) ∧ s.sameBut [.trace, .dict, .log] t))) ∧
    (∀ c p f taken, c < 32 → s.sourceOn c = true → pfMode (s.entry (keyOf 0x2A01 (c + 1))) p = true → (s.pf c).count < 31 →
      (Completes (.traceRecordOffer c (.branch p f taken)) s fun t => (t.pf c).count = (s.pf c).count + 1 ∧
        (t.pf c).first = (if (s.pf c).count = 0 then f else (s.pf c).first) ∧
        (t.pf c).history = (s.pf c).history + (if taken then 2 ^ (s.pf c).count else 0) ∧ t.trace.fifos = s.trace.fifos ∧ s.sameBut [.trace] t)) ∧
    (∀ c a z w v, c < 32 → s.sourceOn (c + 32) = true → z ≤ 3 →
      (s.daMatches c a 0 = false → (Completes (.traceRecordOffer (c + 32) (.load a z w v)) s fun t => s.sameBut [] t)) ∧
      (s.daMatches c a 0 = true → fifoTakes (s.fifo (c + 32)) 10 = true → (Completes (.traceRecordOffer (c + 32) (.load a z w v)) s fun t =>
        (t.fifo (c + 32)).map (fun r => (r.source, r.kind, r.payload)) = (s.fifo (c + 32)).map (fun r => (r.source, r.kind, r.payload)) ++
          [(c + 32, 10, a % 2 ^ 44 * 2 ^ 84 + z * 2 ^ 82 + (if w then 2 ^ 81 else 0) +
            (if bit (s.entry (keyOf 0x2A02 (c + 1))) 1 then 2 ^ 80 + v % 2 ^ (8 * 2 ^ z) else 0))] ∧ s.sameBut [.trace, .dict, .log] t))) ∧
    (s.tracing = true → s.blotterRoom = true → (Completes .syncRecordPeriod s fun t => t.trace.writeP = (s.trace.writeP + 1) % blotterSlots ∧
      t.trace.fifos = s.trace.fifos ∧ t.readBytes (blotterBase + s.trace.writeP * 32 + 16) 16 =
        toBytes 16 (s.arr.sched.cycle % 2 ^ 64 * 2 ^ 64 + s.trace.tc % 2 ^ 64) ∧
      (∀ x : Nat, x < blotterBase + s.trace.writeP * 32 ∨ blotterBase + s.trace.writeP * 32 + 32 ≤ x → t.byteAt x = s.byteAt x))) ∧
    ∀ req v, s.mayWrite req 0x2A0004 = true →
      (v < blotterSlots → (v + blotterSlots - s.trace.readP) % blotterSlots ≤ s.trace.unread → (Completes (.blotterReadPointerWrite req v) s fun t =>
        t.trace = { s.trace with readP := v } ∧ t.answer = .ok 0)) ∧
      (blotterSlots ≤ v → (Completes (.blotterReadPointerWrite req v) s fun t => t.trace = s.trace ∧ s.logged t 0x9011 srcHub (accessArg req 0x2A0004) ∧
        t.answer = refusedAnswer req))

/-- Packets move stop by stop on their ring, are checked and arbitrated at every stop, and wait, fail or time out as stated. For a
packet between two stops of the grade, on the ring of its direction and parity, with the ring loop running and nothing counted.
At its source it joins the injection queue, a system-class request starts its timer, and with its link and the next stop free it
moves on against credits. The head of a queue moves on exactly when the arbiter of its link grants it: its credits return, those
of the next stop are taken, the other candidates wait longer, and a starvation grant is counted; any other packet waits, and
nothing changes. At its destination an answer ends the request it answers, any other packet that asks for no access is
delivered, one for a sleeping domain is held, and one for a stop that is powered off logs 0x6111. A header with one bit wrong is
corrected and counted; one with two is counted, logs 0x6102, and its packet goes no further. DOMAIN_SLEEP puts an idle fitted
controller to sleep outside RUN; DOMAIN_WAKE_TIMEOUT fails what waits with 0x6110; REQUEST_TIMEOUT answers the request itself
and counts it. How packets and flips are given is log 48's choice. (spec/13 R324, spec/13 R325, spec/13 R326, spec/13 R327,
spec/13 R328, spec/13 R329, spec/13 R330, spec/13 R332, spec/13 R333) -/
def Obligations.RingAndDomainEventsTakeEffect : Prop :=
  ∀ (s : State) (a b n next st r ch : Nat) (p q : RingPacket), Sparse.wf (defaultOf s.part.grade) s.dict = true → s.entry 0x2B0001 = 0 →
    n = s.part.grade.stops.length → q = packetSent p → a = hdrSrc q.header → b = hdrDest q.header → a < n → b < n → a ≠ b → hdrType q.header ≤ 9 →
    r = (if (b + n - a) % n ≤ (a + n - b) % n then (a + b) % 2 else 2 + (a + b) % 2) → next = (if r < 2 then (st + 1) % n else (st + n - 1) % n) →
    (∀ o, s.part.grade.stops[st]? = some o → s.ringHeld o.loopDie = false →
      (st = a → ch = (if a = (if r < 2 then n - 1 else 0) then 1 else 0) →
        (s.rings.transit.any (fun y => y.ring == r && (y.stop == a || y.stop == next)) = false → (Completes (.ringPacket r st ⟨p, 0⟩) s fun t =>
          t.rings.transit = s.rings.transit ++ [⟨r, next, ch, false, 0, q⟩] ∧ t.rings.granted = s.rings.granted + hdrFlits q.header ∧
          t.rings.outstanding = s.rings.outstanding ++
            (if isRequest q.header then [⟨hdrTag q.header, hdrRequester q.header, q.address⟩] else []) ∧
          t.rings.returned = s.rings.returned ∧ s.sameBut [.rings] t)) ∧
        (s.rings.transit.any (Transit.sameQueue ⟨r, st, 0, true, 0, q⟩) = true →
          s.rings.transit.any (fun y => y.ring == r && y.stop == st && y.packet == q) = false → (Completes (.ringPacket r st ⟨p, 0⟩) s fun t =>
          t.rings = { s.rings with
            transit := s.rings.transit ++ [⟨r, st, 0, true, 0, q⟩]
            outstanding := s.rings.outstanding ++
              (if isRequest q.header then [⟨hdrTag q.header, hdrRequester q.header, q.address⟩] else []) } ∧ s.sameBut [.rings] t))) ∧
      (∀ x, s.rings.transit.find? (fun y => y.ring == r && y.stop == st && y.packet == q) = some x → s.isHead x = true →
        (st ≠ b → s.linkWinner n r st ≠ some x → (Completes (.ringPacket r st ⟨p, 0⟩) s fun t => s.sameBut [] t)) ∧
        (∀ fl, st ≠ b → s.linkWinner n r st = some x → bitsWrong fl ≤ 1 → (Completes (.ringPacket r st ⟨p, fl⟩) s fun t =>
          t.rings.returned = s.rings.returned + (if x.injecting then 0 else hdrFlits q.header) ∧
          t.rings.granted = s.rings.granted + hdrFlits q.header ∧ t.rings.outstanding = s.rings.outstanding ∧
          t.rings.transit = (s.rings.transit.erase x).map (fun y =>
            if (s.candidates n r st).contains y then { y with waited := y.waited + hdrFlits q.header } else y) ++
              [{ x with stop := next, channel := (if st = (if r < 2 then n - 1 else 0) then 1 else x.channel), injecting := false, waited := 0 }] ∧
          t.entry 0x2D0401 = (if bitsWrong fl = 0 then s.entry 0x2D0401 else sat32 (s.entry 0x2D0401) 1) ∧
          t.entry 0x2D0405 = (if s.starving n r st = some x then sat32 (s.entry 0x2D0405) 1 else s.entry 0x2D0405) ∧ s.sameBut [.rings, .dict] t)) ∧
        (∀ fl, bitsWrong fl = 2 → (Completes (.ringPacket r st ⟨p, fl⟩) s fun t => t.entry 0x2D0402 = sat32 (s.entry 0x2D0402) 1 ∧
          t.rings = { s.rings with returned := s.rings.returned + (if x.injecting then 0 else hdrFlits q.header), transit := s.rings.transit.erase x } ∧
          t.log.active.any (fun f => f.code == 0x6102 && f.source == o.source) = true ∧ t.mem = s.mem)) ∧
        (st = b → s.asleep = false → (∀ d, o.domain = some d → s.domainAsleep d = false) →
          (isAnswer q.header = false → isRequest q.header = false → (Completes (.ringPacket r st ⟨p, 0⟩) s fun t =>
            t.rings = { s.rings with returned := s.rings.returned + x.credits, transit := s.rings.transit.erase x
                                     ejected := s.rings.ejected ++ [(st, q.header)] } ∧ s.sameBut [.rings] t)) ∧
          (∀ y, isAnswer q.header = true → y.requester ≠ 2 →
            s.rings.outstanding.find? (fun z => z.tag == hdrTag q.header && z.requester == hdrRequester q.header) = some y →
            (Completes (.ringPacket r st ⟨p, 0⟩) s fun t => t.rings.outstanding = s.rings.outstanding.erase y ∧
              t.rings.completions = s.rings.completions ++ [(y.requester, if hdrType q.header = 9 then .error else .ok q.data)] ∧
              t.rings.ejected = s.rings.ejected ++ [(st, q.header)] ∧ s.sameBut [.rings] t))) ∧
        (∀ d, st = b → s.asleep = false → o.domain = some d → s.domainAsleep d = true → (Completes (.ringPacket r st ⟨p, 0⟩) s fun t =>
          t.rings.held = s.rings.held ++ [(d, .packet q)] ∧ t.rings.ejected = s.rings.ejected ∧ s.sameBut [.rings, .dict] t)) ∧
        (st = b → s.asleep = true → o.sleepsOff = true → (Completes (.ringPacket r st ⟨p, 0⟩) s fun t =>
          s.logged t 0x6111 o.source 0 ∧ t.rings.ejected = s.rings.ejected)))) ∧
    (∀ d, s.controllerFitted d = true → s.sec.halted = false → s.modeIn quietModes = true → s.domainAsleep d = false → (d < 4 ∨ s.ddrBusy = false) →
      (Completes (.domainSleep d) s fun t => t.rings.sleeping = s.rings.sleeping ++ [d] ∧ s.sameBut [.rings] t)) ∧
    (∀ d x, d < 8 → s.rings.held.filter (fun h => h.1 == d) = [(d, .access x)] → x.req ≠ 2 → (Completes (.domainWakeTimeout d) s fun t =>
      t.rings.held = s.rings.held.filter (fun h => h.1 != d) ∧ t.rings.completions = s.rings.completions ++ [(x.req, errorAnswer x.req false)] ∧
      s.logged t 0x6110 (domainSource d) 0 ∧ t.entry 0x2D0404 = sat32 (s.entry 0x2D0404) 1 ∧ t.mem = s.mem)) ∧
    ∀ tag x, s.rings.outstanding.find? (fun y => y.tag == tag) = some x → x.requester ≠ 2 → (Completes (.requestTimeout tag) s fun t =>
      t.rings.outstanding = s.rings.outstanding.erase x ∧ t.entry 0x2D0406 = sat32 (s.entry 0x2D0406) 1 ∧
      t.rings.completions = s.rings.completions ++ [(x.requester, if x.requester = 0 then .completerAbort else if x.requester = 1 then .sdoAbort else .error)] ∧
      (s.run.timeoutLogged.contains x.requester = false → s.logged t 0x6104 srcHub (addressArg x.requester x.address)) ∧
      (s.run.timeoutLogged.contains x.requester = true → t.log = s.log) ∧ t.run.mode = s.run.mode ∧ t.mem = s.mem)

/-- Weak lanes take spares, lost lanes read zero until the boundary, and a retraining maps every bundle afresh. For a lane in
service of a bundle that is up: a weak lane that carries position p leaves it to the lowest free spare, at once or, while the
array runs, at the second boundary, LanesRepaired is counted and 0x6201 logged; one whose replacement is under way changes
nothing; with no spare it keeps the position and 0x6201 carries bit 31; an unmapped spare is withdrawn, LanesLost counted, bit
30. A lost lane that carries p is out of service, its position dead, LanesLost counted, the cycle of the first loss kept, 0x6202
active, and a stop raised two steps later; with no spare a full-width bundle sets its half bit and a half-width one fails with
0x6204. BUNDLE_RETRAIN puts every fitted bundle in training; its completion with no failing lane gives full width, every
position on its own lane, and no failed bundle. (spec/13 R335, spec/13 R336, spec/13 R337, spec/13 R338, spec/13 R339, spec/13
R340) -/
def Obligations.BundleEventsTakeEffect : Prop :=
  ∀ s : State, s.bundles.length = 16 →
    (∀ b l x, b < 16 → s.bundleFitted b = true → l < 544 → x = s.bundle b → (x.state = 1 ∨ x.state = 2) → x.failed.contains l = false →
      (∀ p f, x.lanes.findIdx? (fun m => m == l) = some p → x.free.head? = some f → x.moving.any (fun m => m.1 == p) = false →
        (x.moving = [] → s.arr.sched.run ≠ .running → (Completes (.laneMarginLow b l) s fun t =>
          t.bundle b = { x with lanes := listSet x.lanes p f, dead := x.dead.filter (fun q => q != p), failed := l :: x.failed
                                repaired := sat32 x.repaired 1 } ∧
          (∀ c, c ≠ b → t.bundle c = s.bundle c) ∧ s.logged t 0x6201 (srcDie (b % 8)) (b * 2 ^ 16 + l) ∧ s.sameBut [.bundles, .log] t)) ∧
        (s.arr.sched.run = .running → (Completes (.laneMarginLow b l) s fun t =>
          t.bundle b = { x with moving := x.moving ++ [(p, f, 2)], repaired := sat32 x.repaired 1 } ∧
          (∀ c, c ≠ b → t.bundle c = s.bundle c) ∧ s.logged t 0x6201 (srcDie (b % 8)) (b * 2 ^ 16 + l) ∧ s.sameBut [.bundles, .log] t))) ∧
      (∀ p, x.lanes.findIdx? (fun m => m == l) = some p → x.moving.any (fun m => m.1 == p) = true →
        (Completes (.laneMarginLow b l) s fun t => s.sameBut [] t)) ∧
      (∀ p, x.lanes.findIdx? (fun m => m == l) = some p → x.free = [] → x.moving.any (fun m => m.1 == p) = false →
        (Completes (.laneMarginLow b l) s fun t =>
        s.logged t 0x6201 (srcDie (b % 8)) (2 ^ 31 + b * 2 ^ 16 + l) ∧ s.sameBut [.log] t)) ∧
      (x.lanes.findIdx? (fun m => m == l) = none → (Completes (.laneMarginLow b l) s fun t =>
        t.bundle b = { x with failed := l :: x.failed, moving := x.moving.filter (fun m => m.2.1 != l), lost := sat32 x.lost 1 } ∧ (∀ c, c ≠ b → t.bundle c = s.bundle c) ∧
        s.logged t 0x6201 (srcDie (b % 8)) (2 ^ 30 + b * 2 ^ 16 + l) ∧ s.sameBut [.bundles, .log] t) ∧
        ∀ n, (Completes (.dieLaneLost b l n) s fun t => t.bundle b = { x with failed := l :: x.failed, moving := x.moving.filter (fun m => m.2.1 != l), lost := sat32 x.lost 1 } ∧
          s.logged t 0x6201 (srcDie (b % 8)) (2 ^ 30 + b * 2 ^ 16 + l) ∧ s.sameBut [.bundles, .log] t)) ∧
      (∀ p n (o : State) (y : Bundle), x.lanes.findIdx? (fun m => m == l) = some p → y = { x with moving := x.moving.filter fun m => m.1 != p } →
        s.arr.sched.run = .running → o = (if s.canReach n then s.runTo n else s) →
        o.bundles = s.bundles → o.arr.sched.run = .running →
        (y.dead.length < y.free.length → (Completes (.dieLaneLost b l n) s fun t =>
          t.bundle b = { y with failed := l :: x.failed, dead := p :: x.dead, lost := sat32 x.lost 1
                                firstCycle := some (x.firstCycle.getD o.arr.sched.cycle) } ∧
          t.log.active.any (fun a => a.code == 0x6202) = true ∧
          t.arr.sched.stops.any (fun q => q.bit == 7 && q.raisedStep == n + 2 && q.fault == 0x6202) = true)) ∧
        (y.free.length ≤ y.dead.length → x.state = 1 → (Completes (.dieLaneLost b l n) s fun t => (t.bundle b).half = true ∧ (t.bundle b).state = 1 ∧
          t.arr.sched.stops.any (fun q => q.bit == 9 && q.raisedStep == n + 2) = true)) ∧
        (y.free.length ≤ y.dead.length → x.state = 2 → (Completes (.dieLaneLost b l n) s fun t => (t.bundle b).state = 3 ∧
          t.log.active.any (fun a => a.code == 0x6204) = true)))) ∧
    (∀ req, s.mayWrite req 0x2D0501 = true → (Completes (.bundleRetrain req) s fun t => t.answer = .ok 0 ∧
      t.bundles = (List.range 16).map (fun b => if s.bundleFitted b then { s.bundle b with state := 4 } else Bundle.unfitted) ∧ s.sameBut [.answer, .mgmtClock, .bundles] t)) ∧
    (s.bundles.any (fun y => y.state == 4) = true → (Completes (.bundleRetrainComplete []) s fun t =>
      (∀ b : Nat, b < 16 → t.bundle b = if s.bundleFitted b then { s.bundle b with
        state := 1, half := false, lanes := List.range 512, failed := [], dead := [], moving := [] } else s.bundle b) ∧
      t.log.active.any (fun a => a.code == 0x6204 && a.cls == .blocked) = false ∧ s.sameBut [.bundles, .log] t))

/-- The firewall passes, delays or denies guest accesses, the aperture performs channel operations, and link and power act. With the
link up, outside a halt: an access inside a window of no rate limit that grants it, into the scratchpad, reads or writes exactly
its bytes at the mapped address; with a limit and too few tokens it waits and is counted; outside every window and a placed
aperture, or without its right, it is denied, counted, and logged once per window. An aperture read of an open handle performs
its channel operation, of another answers status 1 and is counted, op 5 to 7 is an error, as is any other access there. An
accepted window write stores its entry and fills the bucket. The descriptor, the link, the sleep request, the power reports and
the power enable set the guest's state as R343, R344, R349 and R350 say. (spec/13 R343, spec/13 R344, spec/13 R345, spec/13
R346, spec/13 R347, spec/13 R348, spec/13 R349, spec/13 R350) -/
def Obligations.GuestCommandsTakeEffect : Prop :=
  ∀ s : State, Sparse.wf (defaultOf s.part.grade) s.dict = true → Sparse.wf zeroByte s.mem.bytes = true →
    (s.guest.state = 3 → s.sec.halted = false →
      (∀ a w x y, s.windowOfAccess a = some w → x = s.guestWindow w → y = x.moduleBase + (a.addr - x.guestBase) → x.grants a = true →
        (x.rate = 0 → s.powered = true → s.permits guestRequester y a.data.length a.op = true → y + a.data.length ≤ secureBase →
          s.sec.wiping = false → 0 < a.data.length →
          (a.op = .write → (Completes (.guestAccess a) s fun t => t.answer = .ok 0 ∧ (∀ i < a.data.length, t.byteAt (y + i) = a.data.getD i 0) ∧
            (∀ z : Nat, z < y ∨ y + a.data.length ≤ z → t.byteAt z = s.byteAt z) ∧ s.sameBut [.answer, .mgmtClock, .memBytes, .dict, .cores, .host] t)) ∧
          (a.op = .read → (Completes (.guestAccess a) s fun t => t.answer = .ok (ofBytes (s.readBytes y a.data.length)) ∧
            s.sameBut [.answer, .mgmtClock, .dict, .cores, .host] t))) ∧
        (x.rate ≠ 0 → s.guest.tokens.getD w 0 < a.data.length * 1000 → (Completes (.guestAccess a) s fun t => t.answer = .waiting ∧
          t.guest = { s.guest with waiting := s.guest.waiting ++ [(w, a)] } ∧ t.entry 0x381802 = sat32 (s.entry 0x381802) 1 ∧ t.mem = s.mem))) ∧
      (∀ a w, (s.windowOfAccess a = none ∧ (s.guestAperture = 0 ∨ s.inAperture a.addr = false) ∧ w = 8 ∨ s.windowOfAccess a = some w ∧ (s.guestWindow w).grants a = false) →
        (Completes (.guestAccess a) s fun t => t.answer = .error ∧ t.entry 0x381801 = sat32 (s.entry 0x381801) 1 ∧
          (s.guest.logged.contains w = false → s.logged t 0x7401 srcGuest 0 ∧ t.guest.logged = w :: s.guest.logged) ∧
          (s.guest.logged.contains w = true → t.log = s.log) ∧ t.mem = s.mem)) ∧
      (∀ a, s.windowOfAccess a = none → s.guestAperture ≠ 0 → s.inAperture a.addr = true → (a.op ≠ .read ∨ a.data.length ≠ 8) →
        (Completes (.guestAccess a) s fun t => t.answer = .error ∧ s.sameBut [.answer, .mgmtClock] t)) ∧
      (∀ op v, op < 8 → v < 2 ^ 48 →
        (5 ≤ op → (Completes (.guestApertureRead (s.guestAperture + op * 2 ^ 51 + v * 8)) s fun t => t.answer = .error ∧ s.sameBut [.answer, .mgmtClock] t)) ∧
        (op < 5 → s.guestHandle (v % 2 ^ 32) = false → (Completes (.guestApertureRead (s.guestAperture + op * 2 ^ 51 + v * 8)) s fun t =>
          t.answer = .ok (2 ^ 63 + 1) ∧ t.entry 0x381801 = sat32 (s.entry 0x381801) 1 ∧ t.chan = s.chan)) ∧
        (∀ slot d, s.guestHandle (v % 2 ^ 32) = true → s.lookup (v % 2 ^ 32) = .inr (slot, d) → v < 2 ^ 32 → 1 ≤ d.type → d.type ≤ 3 →
          (op = 4 → (Completes (.guestApertureRead (s.guestAperture + op * 2 ^ 51 + v * 8)) s fun t =>
            t.answer = .ok (d.occupied + d.free * 2 ^ 32) ∧ s.sameBut [.answer, .mgmtClock] t)) ∧
          (op = 2 → 2 ≤ d.type → d.slots.length < d.depth → (Completes (.guestApertureRead (s.guestAperture + op * 2 ^ 51 + v * 8)) s fun t =>
            t.channel slot = some { d with slots := d.slots ++ [.reserved] } ∧ s.sameBut [.answer, .mgmtClock, .chan] t)))) ∧
      (∀ bs, bs.length = 256 → (Completes (.guestDescriptorReceived bs) s fun t => t.guest = { s.guest with descriptor := bs } ∧ s.sameBut [.guest] t)) ∧
      (s.guest.waiting = [] → s.rings.held = [] → s.rings.outstanding = [] → (Completes .guestSleepRequest s fun t =>
        t.guest = { s.guest with state := 4 } ∧ t.rings = { s.rings with sleeping := s.rings.sleeping ++ [8] } ∧ s.sameBut [.guest, .rings] t))) ∧
    ((s.guest.state = 3 ∨ s.guest.state = 4) → (Completes .guestLinkLost s fun t => t.guest.state = 2 ∧ t.guest.linkRate = 0 ∧ t.guest.waiting = [] ∧
      t.log.active.any (fun f => f.code == 0x6401) = true ∧ t.rings.outstanding = s.rings.outstanding.filter (fun x => decide (x.address < guestStart)) ∧ t.mem = s.mem)) ∧
    (s.guest.state = 2 → ∀ r ∈ [4, 8, 12, 16], (Completes (.guestLinkUp r) s fun t => t.guest = { s.guest with state := 3, linkRate := r } ∧
      t.log.active = s.log.active.filter (fun f => !(f.code == 0x6402)) ∧ s.sameBut [.guest, .log] t)) ∧
    (2 ≤ s.guest.state → s.guest.state < 5 → ∀ p,
      (s.guestLimit < p → (Completes (.guestPowerReport .tenMilliseconds p) s fun t => t.log.active.any (fun f => f.code == 0x1410) = true ∧ t.guest = s.guest)) ∧
      (p ≤ s.guestLimit → (Completes (.guestPowerReport .tenMilliseconds p) s fun t => s.sameBut [] t)) ∧
      (4 * p ≤ 5 * s.guestLimit → (Completes (.guestPowerReport .oneMillisecond p) s fun t => t.guest = { s.guest with power := p % 2 ^ 16 } ∧ s.sameBut [.guest] t)) ∧
      (5 * s.guestLimit < 4 * p → (Completes (.guestPowerReport .oneMillisecond p) s fun t => t.guest.state = 5 ∧ t.guest.cut = true ∧
        t.log.active.any (fun f => f.code == 0x1411) = true)) ∧
      (275 < p → (Completes (.guestPowerReport .tenMicroseconds p) s fun t => t.guest.state = 5 ∧ t.guest.cut = true ∧
        t.log.active.any (fun f => f.code == 0x1411) = true))) ∧
    (∀ req, s.mayWrite req guestEnableKey = true → s.part.guest = true → s.asleep = false →
      (s.guest.cut = false → s.guest.state = 1 → (Completes (.guestPowerEnableWrite req 1) s fun t => t.entry guestEnableKey = 1 ∧ t.guest.state = 2 ∧
        t.answer = .ok 0)) ∧
      (s.guest.cut = false → 1 < s.guest.state → (Completes (.guestPowerEnableWrite req 0) s fun t => t.entry guestEnableKey = 0 ∧ t.guest.state = 1 ∧
        t.answer = .ok 0)) ∧
      (s.guest.cut = true → s.guest.zeroWritten = true → s.guest.state = 5 → (Completes (.guestPowerEnableWrite req 1) s fun t => t.guest.cut = false ∧
        t.guest.state = 2 ∧ t.log.active.any (fun f => f.code == 0x1411) = false))) ∧
    ∀ req w sub v u, w < 8 → s.mayWrite req (guestKey w sub) = true → inRange (guestKey w sub) v = true → 1 ≤ sub → sub ≤ 8 →
      u = (if sub = 4 then v % 2 ^ 12 else if sub = 6 then v % 2 ^ 3 else if 7 ≤ sub then v % 2 ^ 16 else v % 2 ^ 32) →
      ((s.putEntry (guestKey w sub) u).windowsOk w = true → (Completes (.guestWindowWrite req w sub v) s fun t => t.answer = .ok 0 ∧
        t.entry (guestKey w sub) = u ∧ t.guest.tokens = listSet s.guest.tokens w ((s.putEntry (guestKey w sub) u).entry (guestKey w 8) * 1024000) ∧
        s.sameBut [.answer, .mgmtClock, .dict, .guest] t)) ∧
      ((s.putEntry (guestKey w sub) u).windowsOk w = false → (Completes (.guestWindowWrite req w sub v) s fun t =>
        s.logged t 0x9011 srcHub (accessArg req (guestKey w sub)) ∧ t.answer = refusedAnswer req ∧ t.dict = s.dict ∧ t.guest = s.guest))

/-- A trigger unit arms and takes its qualifying events as the table of modes states, signed or unsigned, with saturating bounds. At
an edge of an awake module with its loops locked, no sampler armed the other units off, for unit u of any mode, not holding off,
with Count 1 and no hold-off: with V the source word that reaches the unit at this edge AND its mask, Lv the level, and Lv - H
and Lv + H saturated at the ends of the range, all read as two's complement in signed mode, the unit fires (UnitFired counts
one) exactly on the qualifying event of its mode; an armed unit that takes the event is disarmed and one that does not stays
armed; a disarmed unit in the arming region, not past the level, becomes armed, and outside the arming region stays disarmed.
Mode 3 tracks the two sides separately. The outputs that select the unit are asserted at the second edge after the firing.
(spec/14 R354) -/
def Obligations.TriggerUnitsFollowTheModes : Prop :=
  ∀ (s e : State) (u mode h raw mask level : Nat) (sg fired : Bool) (V Lv lo hi : Int) (x : TrigUnit),
    s.asleep = false → s.loopsDown = false → e = s.pathEdge → u < 16 → s.trig.units.length = 16 → s.trig.outputs.length = 10 → Sparse.wf (defaultOf s.part.grade) s.dict = true →
    (∀ v, v < 16 → v ≠ u → bits (s.unitEntry v 2) 0 3 = 0) → (∀ k ∈ s.trig.samplers, k.armed = false) →
    x = s.unit u → x.holding = false → x.count = 0 → s.unitEntry u 6 ≤ 1 → s.unitEntry u 7 = 0 →
    mask = s.unitEntry u 3 → level = s.unitEntry u 4 → h = s.unitEntry u 5 → mode = bits (s.unitEntry u 2) 0 3 → sg = bit (s.unitEntry u 2) 3 →
    raw = e.sourceWord e.seenView (s.unitEntry u 1) &&& mask →
    V = (if sg then signed 32 raw else (raw : Int)) → Lv = (if sg then signed 32 level else (level : Int)) →
    lo = max (if sg then -(2 ^ 31) else 0) (Lv - h) → hi = min (if sg then 2 ^ 31 - 1 else 2 ^ 32 - 1) (Lv + h) →
    fired = decide ((mode = 1 ∧ x.armed = true ∧ Lv ≤ V) ∨ (mode = 2 ∧ x.armed = true ∧ V ≤ Lv) ∨
      (mode = 3 ∧ ((x.armed = true ∧ Lv ≤ V) ∨ (x.armedFall = true ∧ V ≤ Lv))) ∨ (mode = 4 ∧ Lv ≤ V) ∨ (mode = 5 ∧ V ≤ Lv) ∨
      (mode = 6 ∧ x.armed = true ∧ raw = level &&& mask) ∨ (mode = 7 ∧ x.armed = true ∧ raw ≠ level &&& mask)) →
    (Completes .triggerUnitFire s fun t =>
      t.entry (unitKey u 9) = (if fired then sat32 (s.entry (unitKey u 9)) 1 else s.entry (unitKey u 9)) ∧
      (mode = 1 ∨ mode = 3 → (x.armed = true → (t.unit u).armed = decide (V < Lv)) ∧ (x.armed = false → V < Lv → (t.unit u).armed = decide (V ≤ lo))) ∧
      (mode = 2 → (x.armed = true → (t.unit u).armed = decide (Lv < V)) ∧ (x.armed = false → Lv < V → (t.unit u).armed = decide (hi ≤ V))) ∧
      (mode = 3 → (x.armedFall = true → (t.unit u).armedFall = decide (Lv < V)) ∧
        (x.armedFall = false → Lv < V → (t.unit u).armedFall = decide (hi ≤ V))) ∧
      (mode = 6 → (t.unit u).armed = decide (raw ≠ level &&& mask)) ∧ (mode = 7 → (t.unit u).armed = decide (raw = level &&& mask)) ∧
      t.trig.outputs = (List.range 10).map (fun o =>
        if fired = true ∧ bits (s.entry (outKey o)) 0 4 = 1 ∧ bits (s.entry (outKey o)) 4 4 = u then
          { e.trig.outputs.getD o TrigOutput.idle with coming := (e.trig.outputs.getD o TrigOutput.idle).coming ++ [2] }
        else e.trig.outputs.getD o TrigOutput.idle) ∧
      s.sameBut [.trig, .dict] t)

/-- Line changes are recorded, hold-offs count and end, and output pulses end. TRIG_LINE_CHANGE sets or clears exactly that line,
whatever the module does; HOLDOFF_EXPIRY of a unit that holds off by the clock ends its hold-off; TRIGGER_OUTPUT_PULSE_END
releases its output and no other. During hold-off a qualifying event is counted in UnitIgnored and fires nothing; the Count-th
event fires and begins the hold-off of its kind; hold-offs of kind 1 count edges, of kind 2 qualifying events. (The events are
stated at an edge of an awake module with its loops locked, in level-high mode, no sampler armed, other units off.) (spec/14
R352, spec/14 R353, spec/14 R356, spec/14 R369, spec/22 R516) -/
def Obligations.TriggerEventsTakeEffect : Prop :=
  ∀ s : State, s.trig.units.length = 16 → s.trig.outputs.length = 10 → Sparse.wf (defaultOf s.part.grade) s.dict = true →
    (∀ line level, line < 10 → (Completes (.trigLineChange line level) s fun t => bit t.trig.lines line = level ∧
      (∀ k : Nat, k ≠ line → bit t.trig.lines k = bit s.trig.lines k) ∧ t.trig = { s.trig with lines := t.trig.lines } ∧ s.sameBut [.trig] t)) ∧
    (∀ u, u < 16 → (s.unit u).holding = true → s.unitEntry u 7 = 1 → (Completes (.holdoffExpiry u) s fun t =>
      t.unit u = { s.unit u with holding := false, left := 0 } ∧ (∀ v : Nat, v ≠ u → t.unit v = s.unit v) ∧ s.sameBut [.trig] t)) ∧
    (∀ o, o < 10 → (Completes (.triggerOutputPulseEnd o) s fun t => t.trig = { s.trig with
      outputs := listSet s.trig.outputs o { s.trig.outputs.getD o TrigOutput.idle with left := 0 } } ∧
      s.sameBut [.trig] t)) ∧
    ∀ u e, u < 16 → s.asleep = false → s.loopsDown = false → e = s.pathEdge → (∀ v, v < 16 → v ≠ u → bits (s.unitEntry v 2) 0 3 = 0) →
      (∀ k ∈ s.trig.samplers, k.armed = false) → s.unitEntry u 2 = 4 →
      s.unitEntry u 4 ≤ e.sourceWord e.seenView (s.unitEntry u 1) &&& s.unitEntry u 3 →
      ((s.unit u).holding = true → (Completes .triggerUnitFire s fun t => t.entry (unitKey u 0x0A) = sat32 (s.entry (unitKey u 0x0A)) 1 ∧
        t.entry (unitKey u 9) = s.entry (unitKey u 9) ∧
        (s.unitEntry u 7 = 1 ∨ s.unitEntry u 7 = 2 → (t.unit u).left = (s.unit u).left - 1 ∧ (t.unit u).holding = decide (1 < (s.unit u).left)) ∧ s.sameBut [.trig, .dict] t)) ∧
      ((s.unit u).holding = false → (s.unit u).count + 1 < s.unitEntry u 6 → (Completes .triggerUnitFire s fun t =>
        (t.unit u).count = (s.unit u).count + 1 ∧ t.entry (unitKey u 9) = s.entry (unitKey u 9) ∧ s.sameBut [.trig] t)) ∧
      ((s.unit u).holding = false → s.unitEntry u 6 ≤ (s.unit u).count + 1 → s.unitEntry u 7 ≠ 0 → s.unitEntry u 8 ≠ 0 →
        (Completes .triggerUnitFire s fun t => t.entry (unitKey u 9) = sat32 (s.entry (unitKey u 9)) 1 ∧
          t.unit u = ⟨false, false, 0, true, s.unitEntry u 8⟩ ∧ s.sameBut [.trig, .dict] t))

/-- Samplers arm, disarm, trigger, keep or decimate samples, complete, and drain into their ring. For a command that no check turns
away: an arm that passes R360 and finds bandwidth arms the sampler with the least exponent that fits, Sequence raised by one and
its counts clear; one that fails either is refused with 0xA001 or 0xA002 and changes nothing of the sampler. A disarm in capture
mode ends the arm. A forced trigger waits for the next edge of the I/O clock, which marks the sampler with t and raises line 17.
A sample edge stores a kept sample at its place in the buffer and counts it, or decimates it; sample t + Q - 1 completes the
exposure. A drain moves the oldest sample into the ring where it has room and advances the write pointer; the read pointer takes
its value. (spec/14 R358, spec/14 R359, spec/14 R360, spec/14 R361, spec/14 R362, spec/14 R363, spec/14 R364, spec/14 R366,
spec/14 R368) -/
def Obligations.SamplerCommandsTakeEffect : Prop :=
  ∀ (s : State) (k : Nat) (x : Sampler), k < 4 → x = s.sampler k → s.trig.samplers.length = 4 → Sparse.wf (defaultOf s.part.grade) s.dict = true →
    Sparse.wf zeroByte s.mem.bytes = true →
    (∀ req, s.mayWrite req (samplerCommandKey k) = true →
      (x.armed = false → s.armInvalid k = false →
        (∀ e, e ≤ 15 → s.shareOf k e ≤ s.bandwidthFree → (∀ f, f < e → s.bandwidthFree < s.shareOf k f) → (Completes (.samplerArm req k) s fun t =>
          (t.sampler k).armed = true ∧ (t.sampler k).k = e ∧ (t.sampler k).sequence = (x.sequence + 1) % 2 ^ 32 ∧ (t.sampler k).kept = 0 ∧
          (t.sampler k).triggered = false ∧ t.entry (keyOf (0x2920 + k) 1) = 0 ∧ t.answer = .ok 0 ∧ (∀ j : Nat, j ≠ k → t.sampler j = s.sampler j))) ∧
        ((∀ e, e < 16 → s.bandwidthFree < s.shareOf k e) → (Completes (.samplerArm req k) s fun t =>
          s.logged t 0xA002 srcHub 0 ∧ t.answer = refusedAnswer req ∧ t.trig = s.trig ∧ t.dict = s.dict))) ∧
      (x.armed = false → s.armInvalid k = true → (Completes (.samplerArm req k) s fun t =>
        s.logged t 0xA001 srcHub 0 ∧ t.answer = refusedAnswer req ∧ t.trig = s.trig ∧ t.dict = s.dict)) ∧
      (x.armed = true → s.streaming k = false → (Completes (.samplerDisarm req k) s fun t => t.sampler k = { x with armed := false } ∧ t.answer = .ok 0 ∧
        (∀ j : Nat, j ≠ k → t.sampler j = s.sampler j) ∧ s.sameBut [.answer, .mgmtClock, .trig] t)) ∧
      (x.armed = true → x.triggered = false → x.draining = false → (Completes (.samplerForceTrigger req k) s fun t =>
        t.sampler k = { x with forcing := true } ∧ (∀ j : Nat, j ≠ k → t.sampler j = s.sampler j) ∧ t.answer = .ok 0 ∧
        s.sameBut [.answer, .mgmtClock, .trig] t)) ∧
      (x.armed = false → (Completes (.samplerForceTrigger req k) s fun t => t.answer = .ok 0 ∧ t.trig.samplers = s.trig.samplers ∧
        s.sameBut [.answer, .mgmtClock, .trig] t))) ∧
    (∀ n, x.armed = true → x.triggered = false → x.draining = false → x.forcing = true → s.asleep = false → s.loopsDown = false →
      (∀ v, v < 16 → bits (s.unitEntry v 2) 0 3 = 0) → (∀ j : Nat, j ≠ k → (s.sampler j).armed = false) → s.samplerEntry k 0x12 ≠ 1 →
      n = s.pathEdge.triggerSample k → (s.streaming k = true ∨ x.kept < n + s.samplerEntry k 0x0F) →
      (Completes .triggerUnitFire s fun t => t.sampler k =
        { x with triggered := true, forcing := false, t := n, cause := 0, forced := true, time := s.stamp, cycle := s.arr.sched.cycle } ∧
        t.host.vectors = s.host.vectors ++ [17])) ∧
    (∀ o y, o = s.synchronise k → y = o.sampler k → s.sampleClock k ≠ 0 → s.asleep = false → s.sec.halted = false → x.armed = true →
      x.draining = false → s.streaming k = false →
      (x.edges % 2 ^ x.k ≠ 0 → (Completes (.sampleClockEdge k) s fun t => t.sampler k = { y with edges := x.edges + 1 } ∧
        t.entry (keyOf (0x2920 + k) 2) = sat32 (s.entry (keyOf (0x2920 + k) 2)) 1 ∧ s.sameBut [.trig, .dict] t)) ∧
      (∀ a, a = acqBase + s.bufferBase k + 128 + x.kept % s.capacity k * s.sampleBytes k → x.edges % 2 ^ x.k = 0 → 0 < s.samplerEntry k 3 →
        s.samplerEntry k 3 ≤ 8 →
        ((x.triggered = false ∨ x.kept + 1 ≠ x.t + s.samplerEntry k 0x0F) → (Completes (.sampleClockEdge k) s fun t =>
          t.sampler k = { y with edges := x.edges + 1, kept := x.kept + 1 } ∧
          t.entry (keyOf (0x2920 + k) 3) = sat32 (s.entry (keyOf (0x2920 + k) 3)) 1 ∧
          t.readBytes a (s.sampleBytes k) = (List.range (s.samplerEntry k 3)).flatMap (fun i => toBytes 4 (o.sourceWord (o.sampleView k) (s.samplerEntry k (4 + i)))) ∧
          (∀ z : Nat, z < acqBase + s.bufferBase k ∨ acqBase + s.bufferBase k + 128 ≤ z → z < a ∨ a + s.sampleBytes k ≤ z → t.byteAt z = s.byteAt z))) ∧
        (x.triggered = true → x.kept + 1 = x.t + s.samplerEntry k 0x0F → (Completes (.sampleClockEdge k) s fun t =>
          t.sampler k = { y with edges := x.edges + 1, kept := x.kept + 1, armed := false, complete := true, aborted := false } ∧
          16 ∈ t.host.vectors ∧ t.readBytes a (s.sampleBytes k) =
            (List.range (s.samplerEntry k 3)).flatMap (fun i => toBytes 4 (o.sourceWord (o.sampleView k) (s.samplerEntry k (4 + i)))))))) ∧
    (∀ req v, s.mayWrite req (samplerKey k 0x16) = true → inRange (samplerKey k 0x16) v = true → (Completes (.streamReadPointerWrite req k v) s fun t =>
      t.entry (samplerKey k 0x16) = v % 2 ^ 32 ∧ t.answer = .ok 0 ∧ s.sameBut [.answer, .mgmtClock, .dict] t)) ∧
    ∀ a b n, x.armed = true → x.draining = false → s.streaming k = true → x.kept = x.drained + 1 → s.ringSize k ≠ 0 → s.ringRoom k = true →
      n = s.sampleBytes k → 0 < n → x.writePointer + n ≤ s.ringSize k → a = acqBase + s.bufferBase k + 128 + x.drained % s.capacity k * n →
      b = s.ringBase k + x.writePointer → s.allowed 3 b n true false = true → ddrStart ≤ b → b + n ≤ s.ddrEnd → s.entry 0x2B0001 = 0 →
      (Completes (.streamDrain k) s fun t => t.readBytes b n = s.readBytes a n ∧ (t.sampler k).drained = x.kept ∧
        (t.sampler k).writePointer = (x.writePointer + n) % s.ringSize k ∧ (t.sampler k).kept = x.kept ∧
        (∀ y : Nat, y < acqBase + s.bufferBase k ∨ acqBase + s.bufferBase k + 128 ≤ y → y < b ∨ b + n ≤ y → t.byteAt y = s.byteAt y))

/-- A read of TimeSecondsLow answers seconds bits 31 to 0 and latches the rest, which later reads return. Where no check turns the
read away, TIME_READ answers bits 31 to 0 of the seconds of the time base and latches seconds bits 47 to 32, the nanoseconds and
the fraction; nothing else changes. A read of 0x2300:02, :03 or :04 answers the value latched for it, whatever the time base
holds by then, and changes no latch. (spec/16 R397) -/
def Obligations.ReadsOfTimeSecondsLowLatch : Prop :=
  ∀ (s : State) (req : Nat),
    (s.reaches req 0x230001 false = true → (Completes (.timeRead req) s fun t => t.answer = .ok (s.time.units / 2 ^ 32 / 10 ^ 9 % 2 ^ 48 % 2 ^ 32) ∧
      t.time = { s.time with latchedSecondsHigh := s.time.units / 2 ^ 32 / 10 ^ 9 % 2 ^ 48 / 2 ^ 32, latchedNs := s.time.units / 2 ^ 32 % 10 ^ 9,
                             latchedFraction := s.time.units / 2 ^ 16 % 2 ^ 16 } ∧ s.sameBut [.answer, .mgmtClock, .time] t)) ∧
    (s.time.latchedSecondsHigh < 2 ^ 16 → s.time.latchedNs < 2 ^ 32 → s.time.latchedFraction < 2 ^ 16 →
      ∀ p ∈ [(0x230002, s.time.latchedSecondsHigh), (0x230003, s.time.latchedNs), (0x230004, s.time.latchedFraction)],
        s.reaches req p.1 false = true → (s.readEntry req p.1).answer = .ok p.2 ∧ s.sameBut [.answer, .mgmtClock] (s.readEntry req p.1))

/-- Announces, Sync exchanges, master losses and expiries move the time base between its states, and a step is the eighth exchange
or a command. An Announce of another domain or transport does nothing; one of the port's own gives a running port its master and
chooses the source port by the better rank, then PortPriority, then port 0. A lost master logs 0x2301, and without another
master state 2 becomes 3 and state 1 becomes 4. The eighth exchange of the source port in state 1 outside RUN steps the time
base by the negative of the median, here eight equal offsets in ps from the compensated stamps (their arithmetic is log 65's):
counted, logged with the nanoseconds; in RUN there is no step. After the step, the rate is the control loop's within 500 ppm,
and the sixteenth exchange in a row below LockThreshold locks. Under StepPolicy 1, state 4 slews at the full rate. Holdover and
unlock expiries enter state 4. SetTimeCommand steps to the set value with PTP off outside RUN, and is refused otherwise.
(Generators idle in the steps, not tracing.) (spec/16 R398, spec/16 R399, spec/16 R400, spec/16 R401, spec/16 R402, spec/16
R403, spec/16 R404, spec/16 R405, spec/16 R409, spec/16 R396) -/
def Obligations.TimeBaseEventsTakeEffect : Prop :=
  ∀ (s : State) (p : Nat) (x : PtpPort), x = s.ptpPort p → s.time.ports.length = 2 → Sparse.wf (defaultOf s.part.grade) s.dict = true → s.tracing = false →
    (p < 2 → s.ptpOn = true → s.entry (keyOf (0x2330 + p) 1) ≠ 0 → s.asleep = false →
      (∀ dm tr rank, dm ≠ s.entry 0x230202 ∨ tr ≠ s.entry (keyOf (0x2330 + p) 2) →
        (Completes (.ptpAnnounceReceived p ⟨dm, tr, rank⟩) s fun t => t = s)) ∧
      (∀ dm tr rank o, o = s.ptpPort (1 - p) → dm = s.entry 0x230202 → tr = s.entry (keyOf (0x2330 + p) 2) →
        (Completes (.ptpAnnounceReceived p ⟨dm, tr, rank⟩) s fun t => t.ptpPort p = { x with master := some rank, linkUp := true } ∧ t.ptpPort (1 - p) = o ∧
          (o.master = none → t.time.sourcePort = p) ∧
          (∀ r, o.master = some r → (rank < r → t.time.sourcePort = p) ∧ (r < rank → t.time.sourcePort = 1 - p) ∧
            (r = rank → s.entry (keyOf (0x2330 + p) 9) < s.entry (keyOf (0x2330 + (1 - p)) 9) → t.time.sourcePort = p) ∧
            (r = rank → s.entry 0x233009 = s.entry 0x233109 → t.time.sourcePort = 0)) ∧
          t.time.units = s.time.units ∧ s.sameBut [.time] t)) ∧
      (∀ r, x.master = some r → s.time.sourcePort = p → (s.ptpPort (1 - p)).master = none → (Completes (.ptpMasterLost p) s fun t =>
        s.logged t 0x2301 srcHub p ∧ (t.ptpPort p).master = none ∧ t.time.sourcePort = 0xFF ∧ t.time.rate = s.time.rate ∧ t.time.units = s.time.units ∧
        t.time.state = (if s.time.state = 2 then 3 else if s.time.state = 1 then 4 else s.time.state))) ∧
      (∀ r r', x.master = some r → s.time.sourcePort = p → (s.ptpPort (1 - p)).master = some r' → (Completes (.ptpMasterLost p) s fun t =>
        s.logged t 0x2301 srcHub p ∧ t.time.sourcePort = 1 - p ∧ t.time.state = s.time.state ∧ t.time.units = s.time.units ∧ t.time.rate = s.time.rate ∧
        t.time.stepCount = s.time.stepCount)) ∧
      ∀ (r : Nat) (sy : PtpSync) (dl : PtpDelay) (ing egr asy d offset rate : Int), x.master = some r → s.time.sourcePort = p →
        ing = s.compensation p 4 → egr = s.compensation p 5 → asy = s.compensation p 6 →
        d = (if s.entry (keyOf (0x2330 + p) 3) = 0 then
          (sy.received - ing - sy.sent + (dl.requestReceived - (dl.requestSent + egr))) / 2
          else (dl.requestReceived - (dl.requestSent + egr) + (dl.responseReceived - ing - dl.responseSent)) / 2) →
        offset = sy.received - ing - sy.sent - (d + asy) →
        (s.time.state = 1 → s.time.stepped = false → s.time.offsets = List.replicate 7 offset → s.pulses.all (fun g => !g.busy) = true →
          0 ≤ (s.time.units : Int) + -(offset * 2 ^ 32 / 1000) → (s.time.units : Int) + -(offset * 2 ^ 32 / 1000) < 2 ^ 48 * 10 ^ 9 * 2 ^ 32 →
          (s.run.mode ≠ .run → (Completes (.ptpSyncReceived p sy dl rate) s fun t => (t.time.units : Int) = s.time.units + -(offset * 2 ^ 32 / 1000) ∧
            t.time.stepCount = sat32 s.time.stepCount 1 ∧ s.logged t 0x2302 srcHub (unsigned 32 (max (-(2 ^ 31)) (min (2 ^ 31 - 1) (-(offset * 2 ^ 32 / 1000) / 2 ^ 32)))) ∧ t.time.stepped = true ∧ t.time.state = 1 ∧
            (t.ptpPort p).syncReceived = sat32 x.syncReceived 1 ∧ (t.ptpPort p).pathDelay = min d.toNat (2 ^ 32 - 1))) ∧
          (s.run.mode = .run → (Completes (.ptpSyncReceived p sy dl rate) s fun t => t.time.units = s.time.units ∧ t.time.state = 1 ∧ t.log = s.log))) ∧
        (s.time.stepped = true → s.time.state ≠ 0 → (offset.natAbs < 1000 * s.entry 0x230203 →
          (Completes (.ptpSyncReceived p sy dl rate) s fun t => t.time.rate = max (-2147483) (min 2147483 rate) ∧ t.time.units = s.time.units ∧
            t.time.offset = offset ∧
            (15 ≤ s.time.below → t.time.state = 2 ∧ t.time.locked = true) ∧
            (s.time.below < 15 → t.time.state = s.time.state ∧ t.time.below = s.time.below + 1) ∧ s.sameBut [.time] t)) ∧
          (1000 * s.entry 0x230203 ≤ offset.natAbs → (Completes (.ptpSyncReceived p sy dl rate) s fun t => t.time.state = s.time.state ∧ t.time.below = 0 ∧
            t.time.rate = max (-2147483) (min 2147483 rate) ∧ s.sameBut [.time] t))) ∧
        (s.time.state = 4 → s.time.stepped = false → s.time.acquired = true → s.entry 0x230206 = 1 →
          (Completes (.ptpSyncReceived p sy dl rate) s fun t => t.time.rate = (if 0 < offset then -2147483 else 2147483) ∧ t.time.units = s.time.units ∧
            s.sameBut [.time] t))) ∧
    (s.asleep = false → (s.time.state = 3 → (Completes .holdoverExpiry s fun t => t.time.state = 4 ∧ t.time.locked = false ∧ t.time.units = s.time.units ∧
        t.time.rate = s.time.rate ∧ s.sameBut [.time] t)) ∧
      (s.time.state = 2 → 1000 * s.entry 0x230204 < s.time.offset.natAbs → (Completes .offsetUnlockExpiry s fun t => t.time.state = 4 ∧ t.time.locked = false ∧
        t.time.units = s.time.units ∧ s.sameBut [.time] t))) ∧
    ∀ req v, s.mayWrite req 0x230304 = true →
      v = ((s.entry 0x230301 * 2 ^ 32 + s.entry 0x230302) * 10 ^ 9 + s.entry 0x230303) * 2 ^ 32 →
      (s.ptpOn = false → s.run.mode ≠ .run → v < 2 ^ 48 * 10 ^ 9 * 2 ^ 32 → s.time.units < 2 ^ 48 * 10 ^ 9 * 2 ^ 32 → s.pulses.all (fun g => !g.busy) = true →
        (Completes (.setTimeCommand req) s fun t =>
          t.time.units = v ∧ t.time.stepCount = sat32 s.time.stepCount 1 ∧ t.answer = .ok 0 ∧ t.log.newest = s.log.newest + 1 ∧
          t.log.entries.getLast?.map (fun e => e.code) = some 0x2302 ∧ s.sameBut [.answer, .mgmtClock, .log, .time] t)) ∧
      (s.ptpOn = true ∨ s.run.mode = .run → (Completes (.setTimeCommand req) s fun t => s.logged t 0x9011 srcHub (accessArg req 0x230304) ∧
        t.answer = refusedAnswer req ∧ t.time = s.time))

/-- Arming takes the sequence or is refused by its reason, a stop ends it, and the edges pulse, count and raise line 8 + g. Of an
idle generator whose fields are in range, arming with the start 1 us ahead or more and the time base locked or bit 3 set arms it
with S, and with bit 1 set it waits for the mark; a generator that is busy, or of a sleeping module, is refused with 0x9011 (log
85); with the time base not locked and bit 3 clear it is refused with 0x2311, with a start too near with 0x2320, with a field
out of range with 0x9011. A write with bit 0 clear stops it with the output at its inactive level. No edge comes before its
target, S + n P or S + n P + W. A leading edge raises the output and line 8 + g, records the time base in PulseLastFire and
counts PulsesEmitted; a trailing edge lowers it, and after pulse N - 1 the state is done. An armed generator that waits for the
mark has no edge. (spec/16 R406, spec/16 R407, spec/16 R408, spec/08 R212) -/
def Obligations.PulseGeneratorsTakeEffect : Prop :=
  ∀ (s : State) (g : Nat) (x : Pulse), g < 8 → x = s.pulse g → s.pulses.length = 8 → Sparse.wf (defaultOf s.part.grade) s.dict = true →
    (∀ req v S, s.mayWrite req (pulseKey g 7) = true → inRange (pulseKey g 7) v = true →
      S = ((s.entry (pulseKey g 1) * 2 ^ 32 + s.entry (pulseKey g 2)) * 10 ^ 9 + s.entry (pulseKey g 3)) * 2 ^ 32 →
      (bit v 0 = true → x.busy = false → s.asleep = false → s.entry (pulseKey g 3) < 10 ^ 9 → 20 ≤ s.entry (pulseKey g 4) → 10 ≤ s.entry (pulseKey g 5) → s.entry (pulseKey g 5) + 10 ≤ s.entry (pulseKey g 4) →
        ((s.time.locked = true ∨ bit v 3 = true) → (bit v 1 = true ∨ s.time.units + 1000 * 2 ^ 32 ≤ S) → (Completes (.pulseArm req g v) s fun t =>
          t.pulse g = ⟨1, S, 0, false⟩ ∧ t.entry (pulseKey g 7) = v % 16 ∧ t.answer = .ok 0 ∧ (∀ h : Nat, h ≠ g → t.pulse h = s.pulse h) ∧
          s.sameBut [.answer, .mgmtClock, .dict, .pulses] t))) ∧
      (bit v 0 = true → x.busy = false → s.asleep = false →
        (s.time.locked = false → bit v 3 = false → (Completes (.pulseArm req g v) s fun t => s.logged t 0x2311 srcHub 0 ∧ t.answer = refusedAnswer req ∧
          t.pulses = s.pulses ∧ t.dict = s.dict)) ∧
        ((s.time.locked = true ∨ bit v 3 = true) → bit v 1 = false → S < s.time.units + 1000 * 2 ^ 32 → (Completes (.pulseArm req g v) s fun t =>
          s.logged t 0x2320 srcHub 0 ∧ t.answer = refusedAnswer req ∧ t.pulses = s.pulses ∧ t.dict = s.dict))) ∧
      (bit v 0 = true → (x.busy = true ∨ s.asleep = true ∨ (s.time.locked = true ∨ bit v 3 = true) ∧
          (bit v 1 = true ∨ s.time.units + 1000 * 2 ^ 32 ≤ S) ∧ (10 ^ 9 ≤ s.entry (pulseKey g 3) ∨ s.entry (pulseKey g 4) < 20 ∨
          s.entry (pulseKey g 5) < 10 ∨ s.entry (pulseKey g 4) < s.entry (pulseKey g 5) + 10)) →
        (Completes (.pulseArm req g v) s fun t => s.logged t 0x9011 srcHub (accessArg req (pulseKey g 7)) ∧ t.answer = refusedAnswer req ∧
          t.pulses = s.pulses ∧ t.dict = s.dict)) ∧
      (bit v 0 = false → (Completes (.pulseStop req g v) s fun t => t.pulse g = { x with state := 0, active := false } ∧
        t.pulseLevel g = bit v 2 ∧ t.entry (pulseKey g 7) = v % 16 ∧ t.answer = .ok 0 ∧ (∀ h : Nat, h ≠ g → t.pulse h = s.pulse h) ∧
        s.sameBut [.answer, .mgmtClock, .dict, .pulses] t))) ∧
    (x.active = false → x.start + x.next * s.entry (pulseKey g 4) * 2 ^ 32 ≤ s.time.units → (x.state = 2 ∨ x.state = 1 ∧ bit (s.entry (pulseKey g 7)) 1 = false) → (Completes (.pulseLeadingEdge g) s fun t =>
      t.pulse g = { x with state := 2, active := true } ∧ t.entry (pulseKey g 9) = s.time.units / 2 ^ 32 / 10 ^ 9 % 2 ^ 48 / 2 ^ 32 ∧
      t.entry (pulseKey g 0xA) = s.time.units / 2 ^ 32 / 10 ^ 9 % 2 ^ 32 ∧ t.entry (pulseKey g 0xB) = s.time.units / 2 ^ 32 % 10 ^ 9 ∧
      t.entry (pulseKey g 0xC) = sat32 (s.entry (pulseKey g 0xC)) 1 ∧ t.host.vectors = s.host.vectors ++ [8 + g] ∧
      (∀ h : Nat, h ≠ g → t.pulse h = s.pulse h) ∧ s.sameBut [.dict, .pulses, .cores, .host] t)) ∧
    (x.state = 1 → bit (s.entry (pulseKey g 7)) 1 = true → (Completes (.pulseLeadingEdge g) s fun t => t = s)) ∧
    (∀ w, w = (if x.active then s.entry (pulseKey g 5) else 0) → s.time.units < x.start + (x.next * s.entry (pulseKey g 4) + w) * 2 ^ 32 →
      (Completes (.pulseLeadingEdge g) s fun t => t = s) ∧ (Completes (.pulseTrailingEdge g) s fun t => t = s)) ∧
    (x.state = 2 → x.active = true → x.start + (x.next * s.entry (pulseKey g 4) + s.entry (pulseKey g 5)) * 2 ^ 32 ≤ s.time.units → (Completes (.pulseTrailingEdge g) s fun t =>
      t.pulse g = ⟨if s.entry (pulseKey g 6) = x.next + 1 then 3 else 2, x.start, x.next + 1, false⟩ ∧
      (∀ h : Nat, h ≠ g → t.pulse h = s.pulse h) ∧ s.sameBut [.pulses] t))

/-- PinConfig, releases, safe state and edge-counter clears act on pads as the ranks of Table 17-4a say. With the input functions at
their pins' levels: a valid PinConfig write that keeps InFunc and InvertIn stores its value; a held, safe or sleeping pin keeps
its pad, as every other pin does (but under EXTEST, where pads show their boundary cells), and a pin under rank 4 whose Mode
takes effect is parked at its old pad and begins to switch. An invalid one is refused with 0x9011. PinRelease turns safe pins
into held ones, unless SAFE_REQ is high or the module is halted, and releases held ones, each pad unchanged at that instant.
SafeCommand makes every pin safe, a new one in its SafeState with its own Drive and Slew, and logs 0x8003. EDGE_COUNT_CLEAR
clears the counter and its sticky bit and no other. (spec/17 R413, spec/17 R421, spec/17 R422, spec/17 R423, spec/17 R424,
spec/17 R426, spec/17 R428) -/
def Obligations.PinCommandsTakeEffect : Prop :=
  ∀ (s : State) (req : Nat), Sparse.wf (defaultOf s.part.grade) s.dict = true → (∀ f ∈ inFuncs, s.funcLevel f = bit s.pins.functions f) →
    (∀ n v, n < 96 → v < 2 ^ 32 → s.mayWrite req (pinConfigKey n) = true →
      ((bits v 0 10 = 0 ∧ bits v 30 2 ≠ 3 ∧ bits v 25 2 ≠ 3 ∧ bits v 14 3 ≤ 5 ∧ bits v 11 3 ≤ 5) → bits v 17 6 = bits (s.pinConfig n) 17 6 →
        (bits v 17 6 = 0 ∨ bits v 17 6 ∈ inFuncs) → bit v 23 = bit (s.pinConfig n) 23 →
        (s.free4 n = false → (Completes (.pinConfigWrite req n v) s fun t => t.pinConfig n = v ∧
          (∀ m, m < 96 → s.sec.tap ≠ .extest ∨ m ≠ n → t.pad m = s.pad m) ∧ t.answer = .ok 0 ∧
          (∀ k, k ≠ pinConfigKey n → t.entry k = s.entry k) ∧ s.sameBut [.answer, .mgmtClock, .dict, .log, .pins] t)) ∧
        (s.free4 n = true → s.outputsOf n ≠ [] → bits v 30 2 ≠ bits (s.pinConfig n) 30 2 → (Completes (.pinConfigWrite req n v) s fun t =>
          t.pinConfig n = v ∧ (∀ m, m < 96 → s.sec.tap ≠ .extest ∨ m ≠ n → t.pad m = s.pad m) ∧
          t.pins.switching.head? = some ⟨n, s.pad n, (s.pad n).mode != 0 && (s.pad n).mode == bits v 30 2, 0⟩ ∧ t.answer = .ok 0 ∧
          s.sameBut [.answer, .mgmtClock, .dict, .log, .pins] t))) ∧
      ((bits v 0 10 ≠ 0 ∨ bits v 30 2 = 3 ∨ bits v 25 2 = 3 ∨ 5 < bits v 14 3 ∨ 5 < bits v 11 3 ∨ bits v 17 6 ≠ 0 ∧ bits v 17 6 ∉ inFuncs) →
        (Completes (.pinConfigWrite req n v) s fun t => s.logged t 0x9011 srcHub (accessArg req (pinConfigKey n)) ∧ t.answer = refusedAnswer req ∧
          t.dict = s.dict ∧ t.pins = s.pins))) ∧
    (∀ b m, b < 6 → m < 2 ^ 16 → s.mayWrite req (keyOf 0x2733 (b + 1)) = true → (∀ x ∈ s.pins.switching, s.isHeld x.pin = false) →
      (Completes (.pinRelease req b m) s fun t => t.answer = .ok 0 ∧ (∀ n, n < 96 → t.pad n = s.pad n) ∧
        (∀ n, n < 96 → (n / 16 ≠ b ∨ bit m (n % 16) = false) → t.isSafe n = s.isSafe n ∧ t.isHeld n = s.isHeld n) ∧
        (∀ n, n < 96 → n / 16 = b → bit m (n % 16) = true →
          ((s.isSafe n = true ∧ (s.safeRequested = true ∨ s.sec.halted = true)) → t.isSafe n = true) ∧
          ((s.isSafe n = true ∧ s.safeRequested = false ∧ s.sec.halted = false) → t.isSafe n = false ∧ t.isHeld n = true) ∧
          (s.isSafe n = false → t.isSafe n = false ∧ t.isHeld n = false)) ∧
        s.sameBut [.answer, .mgmtClock, .pins] t)) ∧
    (s.mayWrite req 0x273501 = true → (Completes (.safeCommand req) s fun t => t.answer = .ok 0 ∧ s.logged t 0x8003 srcHub (Config.packArg 0x8003 [1]) ∧
      (∀ n, n < 96 → t.isSafe n = true ∧ (s.isSafe n = true ∨ s.sec.tap = .extest → t.pad n = s.pad n) ∧
        (s.isSafe n = false → s.sec.tap ≠ .extest → t.pad n =
          let v := s.pinConfig n
          match bits v 11 3 with
          | 1 => ⟨0, false, 0, bits v 28 2, bit v 27⟩
          | 2 => ⟨0, false, 1, bits v 28 2, bit v 27⟩
          | 3 => ⟨0, false, 2, bits v 28 2, bit v 27⟩
          | 4 => ⟨1, false, 0, bits v 28 2, bit v 27⟩
          | 5 => if bits v 30 2 = 2 then ⟨0, false, 0, bits v 28 2, bit v 27⟩ else ⟨1, true, 0, bits v 28 2, bit v 27⟩
          | _ => s.pad n)) ∧
      s.sameBut [.answer, .mgmtClock, .log, .pins] t)) ∧
    ∀ c, c < 8 → s.mayWrite req (keyOf 0x2760 (c + 1)) = true → (Completes (.edgeCountClear req c) s fun t => t.entry (keyOf 0x2760 (c + 1)) = 0 ∧
      t.entry 0x276101 = setBit (s.entry 0x276101) c false ∧ (∀ d, d < 8 → d ≠ c → t.entry (keyOf 0x2760 (d + 1)) = s.entry (keyOf 0x2760 (d + 1))) ∧
      t.answer = .ok 0 ∧ s.sameBut [.answer, .mgmtClock, .dict] t)

/-- A filtered level counts edges, sets management inputs, fires pattern units, requests safe state and wakes. With the input
functions at their pins' levels and none waiting for a filter, no sampler armed and the trigger units off, one edge of the
filter clock of pin n of an awake module that shows the pad at v: an edge that the divider skips is counted off; a sample unlike
the last, or not yet the third alike, and a third that shows the filtered level, change no level. The third alike that shows a
new level changes it, and no other pin's; the counter whose default pin it is counts a rising edge; a management input takes the
level and logs 0x8005; SAFE_REQ rising makes every pin safe, and falling leaves them safe; an armed pattern unit that comes into
match disarms, counts PatternFired, raises its line and is named by PatternFirst where it is the only one. In STANDBY with no
save of slot 0, a rising WAKE0 or WAKE1 returns the module to its mode, by either command; in an awake module it does not.
Giving levels edge by edge is log 4's choice. (spec/17 R418, spec/17 R419, spec/17 R422, spec/17 R425, spec/17 R426, spec/17
R428, spec/08 R195) -/
def Obligations.PinLevelsTakeEffect : Prop :=
  ∀ (s : State) (n f : Nat) (v : Bool) (y : PinFilter) (F : PinFilter → List (Nat × PinFilter)), n < 96 → f = cfgFunc (s.pinConfig n) →
    (∀ g ∈ inFuncs, s.funcLevel g = bit s.pins.functions g) → s.pins.settling = [] → y = s.pinFilter n →
    F = (fun z => Sparse.set (fun _ => PinFilter.fresh) s.pins.filters n z) →
    Sparse.wf (defaultOf s.part.grade) s.dict = true → (∀ k ∈ s.trig.samplers, k.armed = false) → (∀ u, u < 16 → bits (s.unitEntry u 2) 0 3 = 0) →
    (s.asleep = false →
      (y.skip ≠ 0 → (Completes (.pinInputChange n [v]) s fun t => t.pins = { s.pins with filters := F { y with skip := y.skip - 1 }, filtered := t.pins.filtered } ∧
        (∀ m : Nat, bit t.pins.filtered m = bit s.pins.filtered m) ∧ s.sameBut [.pins] t)) ∧
      (y.skip = 0 → (v ≠ y.last ∨ y.run < 2 ∨ bit s.pins.filtered n = v) → (Completes (.pinInputChange n [v]) s fun t =>
        t.pins = { s.pins with filters := F ⟨s.filterSkip n, v, if v = y.last then min 3 (y.run + 1) else 1⟩, filtered := t.pins.filtered } ∧
        (∀ m : Nat, bit t.pins.filtered m = bit s.pins.filtered m) ∧ s.sameBut [.pins] t)) ∧
      (y.skip = 0 → v = y.last → 2 ≤ y.run → bit s.pins.filtered n = !v →
        (f = 0 ∨ f ≠ 0 ∧ s.funcPin f ≠ some n → s.pins.patterns = List.replicate 8 0 → (Completes (.pinInputChange n [v]) s fun t =>
          t.pins = { s.pins with filters := F ⟨s.filterSkip n, v, 3⟩, filtered := setBit s.pins.filtered n v } ∧ s.sameBut [.pins, .trig] t)) ∧
        (1 ≤ f → f ≤ 8 → s.funcPin f = some n → s.pins.patterns = List.replicate 8 0 → (Completes (.pinInputChange n [v]) s fun t =>
          t.entry (keyOf 0x2760 f) = (if v != bit (s.pinConfig n) 23 then sat32 (s.entry (keyOf 0x2760 f)) 1 else s.entry (keyOf 0x2760 f)) ∧
          t.pinLevel n = (v != bit (s.pinConfig n) 23) ∧ s.sameBut [.pins, .dict, .trig] t)) ∧
        (16 ≤ f → f ≤ 23 → s.funcPin f = some n → s.pins.patterns = List.replicate 8 0 → (Completes (.pinInputChange n [v]) s fun t =>
          bit t.mgmtInputs (f - 16) = (v != bit (s.pinConfig n) 23) ∧ s.logged t 0x8005 srcHub 0 ∧ s.sameBut [.pins, .log, .trig] t)) ∧
        (∀ u, u < 8 → f = 0 → s.pins.patterns = listSet (List.replicate 8 0) u 2 →
          (s.withPins fun p => { p with filtered := setBit p.filtered n v }).patternMatch u = true → (Completes (.pinInputChange n [v]) s fun t =>
            t.pins.patterns = listSet (List.replicate 8 0) u 1 ∧ t.entry (patternKey u 4) = sat32 (s.entry (patternKey u 4)) 1 ∧ t.entry 0x274801 = u ∧
            t.host.vectors = s.host.vectors ++ [u] ∧ s.sameBut [.pins, .dict, .cores, .host, .trig] t)) ∧
        (f = 24 → s.funcPin f = some n → s.pins.patterns = List.replicate 8 0 → ∀ level, level = (v != bit (s.pinConfig n) 23) →
          (Completes (.pinInputChange n [v]) s fun t => t.safeRequested = level ∧ (level = true → ∀ m, m < 96 → t.isSafe m = true) ∧
            (level = false → t.pins.safe = s.pins.safe) ∧ s.sameBut [.pins, .log, .trig] t) ∧
          (Completes (.safeReq level) s fun t => t.safeRequested = level ∧ (level = true → ∀ m, m < 96 → t.isSafe m = true) ∧
            (level = false → t.pins.safe = s.pins.safe) ∧ s.sameBut [.pins, .log, .trig] t)))) ∧
    ((f = 25 ∨ f = 26) → s.funcPin f = some n → bit s.pins.filtered n = bit (s.pinConfig n) 23 → s.pins.patterns = List.replicate 8 0 →
      (s.asleep = false → (Completes (.wakePinEdge n) s fun t => bit t.pins.functions f = true ∧ s.sameBut [.pins, .trig] t)) ∧
      (s.asleep = true → s.commonRefusal s.run.status true [.standby, .dormant] = none → s.run.savedSlot0 = false →
        (Completes (.wakePinEdge n) s fun t => t.run.mode = (if s.run.mode = .standby then s.run.wakeMode else .service) ∧ t.mgmt.fastClock = true ∧
          t.run.valid = s.run.valid) ∧
        (y.last = !bit (s.pinConfig n) 23 → 2 ≤ y.run → (Completes (.pinInputChange n [!bit (s.pinConfig n) 23]) s fun t =>
          t.run.mode = (if s.run.mode = .standby then s.run.wakeMode else .service) ∧ t.mgmt.fastClock = true ∧ t.run.valid = s.run.valid))))

/-- Lanes come up, go down, are lost, go dark and wake as their commands and events say, each lane for itself. A bring-up puts a
fitted lane in training (an unfitted one is refused with 0x9011); a pinned domain lane that it takes, or that loses its lock, or
whose buffer leaves its pinned depth by more than 8 blocks, loses the domain with 0x6210. Its end leaves the lane up at the
least of the rate reached and its cap, pinned where it is a domain lane at code 2 or above whose round trip stage 5 measured, or
down with 0x8101; a check group that does not decode logs 0x7501. A down lane is retried; a bit slip acts in a manual bring-up
without lock only; a lost lane counts, logs 0x8102 and trains. A lane without a use goes dark on command, on DARK and on
idleness, sending DARK; others refuse or answer NEG. A block of unknown type is counted. A signal restores a dark lane of an
awake module. Nothing but the lane changes, other lanes least of all. A write of the window's base takes effect where it leaves
a multiple of 16 GiB. (Array gated, where a domain is lost.) (spec/05 R129, spec/05 R131, spec/18 R433, spec/18 R435, spec/18
R436, spec/18 R437, spec/18 R438, spec/18 R439, spec/18 R442, spec/18 R443, spec/18 R445, spec/19 R470) -/
def Obligations.LaneCommandsTakeEffect : Prop :=
  ∀ (s : State) (l : Nat) (x : Lane), x = s.lane l → l < s.lanes.length → Sparse.wf (defaultOf s.part.grade) s.dict = true →
    (∀ req, s.mayWrite req (keyOf (0x2810 + l) 4) = true →
      (x.state ≠ 0 → ¬(x.state = 4 ∧ s.laneUse l = 1) → (Completes (.laneBringUp req l) s fun t =>
        t.lane l = { x with state := 2, blockLock := false, manual := s.entry 0x280001 == 1, fromDark := x.state == 5 } ∧ t.answer = .ok 0 ∧
        (∀ k, k ≠ l → t.lane k = s.lane k) ∧ s.sameBut [.answer, .mgmtClock, .lanes] t)) ∧
      (x.state = 4 → s.laneUse l = 1 → s.arr.sched.run = .gated → (Completes (.laneBringUp req l) s fun t => (t.lane l).state = 2 ∧
        t.run.domainLost = true ∧ s.logged t 0x6210 srcHub l ∧ t.answer = .ok 0)) ∧
      (x.state = 0 → (Completes (.laneBringUp req l) s fun t => s.logged t 0x9011 srcHub (accessArg req (keyOf (0x2810 + l) 4)) ∧
        t.answer = refusedAnswer req ∧ t.lanes = s.lanes)) ∧
      (x.state ≠ 0 → x.state ≠ 5 → s.laneUse l = 0 → (Completes (.laneDarkCommand req l) s fun t =>
        t.lane l = { x with state := 5, blockLock := false, sent := if x.state = 1 then x.sent else x.sent ++ [.dark] } ∧ t.answer = .ok 0 ∧
        (∀ k, k ≠ l → t.lane k = s.lane k) ∧ s.sameBut [.answer, .mgmtClock, .lanes] t)) ∧
      (s.laneUse l ≠ 0 → (Completes (.laneDarkCommand req l) s fun t => s.logged t 0x9011 srcHub (accessArg req (keyOf (0x2810 + l) 4)) ∧
        t.answer = refusedAnswer req ∧ t.lanes = s.lanes))) ∧
    (∀ req n, s.mayWrite req (keyOf (0x2810 + l) 5) = true →
      (x.state = 2 → x.manual = true → x.blockLock = false → (Completes (.laneBitSlip req l n) s fun t =>
        t.lane l = { x with headerErrors := min n 1024, blockLock := n == 0 } ∧ t.answer = .ok 0 ∧ (∀ k, k ≠ l → t.lane k = s.lane k) ∧
        s.sameBut [.answer, .mgmtClock, .lanes] t)) ∧
      ((x.state ≠ 2 ∨ x.manual = false ∨ x.blockLock = true) → (Completes (.laneBitSlip req l n) s fun t =>
        s.logged t 0x9011 srcHub (accessArg req (keyOf (0x2810 + l) 5)) ∧ t.answer = refusedAnswer req ∧ t.lanes = s.lanes))) ∧
    (∀ r v, x.state = 2 →
      (r.rate = none → x.keyMismatch = false → (Completes (.laneBringUpDone l r) s fun t =>
        (t.lane l).state = 1 ∧ (t.lane l).rate = 0 ∧ (t.lane l).blockLock = false ∧
        s.logged t 0x8101 srcHub (Config.packArg 0x8101 [l, r.failedStage.getD 1]) ∧ (∀ k, k ≠ l → t.lane k = s.lane k) ∧
        s.sameBut [.log, .lanes, .time, .notices] t)) ∧
      (x.manual = false ∨ x.blockLock = true → r.rate = some v → r.failedStage = none → s.laneUse l ≠ 1 → (Completes (.laneBringUpDone l r) s fun t =>
        (t.lane l).state = 3 ∧ (t.lane l).rate = min v (s.laneCap l) ∧ (t.lane l).blockLock = true ∧ (t.lane l).lostPin = false ∧
        (t.lane l).blockErrors = sat32 x.blockErrors r.discarded ∧ (t.lane l).fecCorrected = sat32 x.fecCorrected r.corrected ∧
        (∀ k, k ≠ l → t.lane k = s.lane k) ∧ s.sameBut [.lanes] t)) ∧
      (∀ n, x.manual = false ∨ x.blockLock = true → r.rate = some v → r.failedStage = none → s.laneUse l = 1 → 2 ≤ v → v ≤ 4 →
        r.roundTrip = some n → x.fromDark = false →
        ((s.laneScrambled l = false ∨ r.keyOk = true) → (Completes (.laneBringUpDone l r) s fun t => (t.lane l).state = 4 ∧ (t.lane l).rate = v ∧
          (t.lane l).native = (n + 1599) / 1600 ∧ (t.lane l).depth = r.depth ∧ (t.lane l).keyMismatch = false ∧ (t.lane l).lostPin = false ∧
          t.time = { s.time with edges := r.edges.getD s.time.edges } ∧ (∀ k, k ≠ l → t.lane k = s.lane k) ∧ s.sameBut [.lanes, .time, .notices] t)) ∧
        (s.laneScrambled l = true → r.keyOk = false → (Completes (.laneBringUpDone l r) s fun t => (t.lane l).state = 3 ∧ (t.lane l).rate = v ∧
          (t.lane l).keyMismatch = true ∧ s.logged t 0x7501 srcHub l ∧ s.sameBut [.log, .lanes, .time, .notices] t))) ∧
      (x.manual = true → x.blockLock = false → r.rate ≠ none → (Completes (.laneBringUpDone l r) s fun t => t = s))) ∧
    (x.state = 1 → (Completes (.laneTrainRetry l) s fun t =>
      t.lane l = { x with state := 2, blockLock := false, manual := s.entry 0x280001 == 1, fromDark := false } ∧
      (∀ k, k ≠ l → t.lane k = s.lane k) ∧ s.sameBut [.lanes] t)) ∧
    ((x.state = 3 ∨ x.state = 4 ∧ s.laneUse l ≠ 1) → (Completes (.laneLost l) s fun t => s.logged t 0x8102 srcHub l ∧
      t.lane l = { x with state := 2, blockLock := false, losses := sat32 x.losses 1, manual := s.entry 0x280001 == 1, fromDark := false } ∧
      (∀ k, k ≠ l → t.lane k = s.lane k) ∧ s.sameBut [.log, .lanes] t)) ∧
    (x.state = 4 → s.laneUse l = 1 → s.arr.sched.run = .gated →
      (Completes (.laneLost l) s fun t => s.logs t [(0x6210, srcHub, l), (0x8102, srcHub, l)] ∧ (t.lane l).state = 2 ∧ t.run.domainLost = true) ∧
      ∀ fill at', s.canReach at' = false →
        (x.depth + 8 < fill ∨ fill + 8 < x.depth → (Completes (.domainLinkLost l ⟨fill, at'⟩) s fun t => s.logged t 0x6210 srcHub l ∧
          t.lane l = { x with state := 3, lostPin := true } ∧ t.run.domainLost = true ∧ (∀ k, k ≠ l → t.lane k = s.lane k))) ∧
        (fill ≤ x.depth + 8 → x.depth ≤ fill + 8 → (Completes (.domainLinkLost l ⟨fill, at'⟩) s fun t => t = s))) ∧
    (∀ (w : WireBlock) (y : Lane), x.state = 3 ∨ x.state = 4 →
      y = (if x.rate = 4 then { x with fecCorrected := sat32 x.fecCorrected w.corrected } else x) →
      (w.header = 2 → descramble w.before w.bits = 0x99 * 2 ^ 56 →
        (s.laneUse l = 0 → (Completes (.darkBlockReceived ⟨l, w⟩) s fun t => t.lane l = { y with state := 5, blockLock := false, sent := y.sent ++ [.dark] } ∧
          (∀ k, k ≠ l → t.lane k = s.lane k) ∧ s.sameBut [.lanes] t)) ∧
        (s.laneUse l ≠ 0 → (Completes (.darkBlockReceived ⟨l, w⟩) s fun t =>
          t.lane l = { y with sent := y.sent ++ [.neg (s.laneCap l) (decide (s.laneUse l = 1))] } ∧
          (∀ k, k ≠ l → t.lane k = s.lane k) ∧ s.sameBut [.lanes] t))) ∧
      (w.header = 2 → controlBlock (descramble w.before w.bits) = none → (Completes (.darkBlockReceived ⟨l, w⟩) s fun t =>
        t.lane l = { y with blockErrors := sat32 y.blockErrors 1 } ∧ (∀ k, k ≠ l → t.lane k = s.lane k) ∧ s.sameBut [.lanes] t)) ∧
      (w.header ≠ 2 → (Completes (.darkBlockReceived ⟨l, w⟩) s fun t => t.lane l = y ∧ (∀ k, k ≠ l → t.lane k = s.lane k) ∧ s.sameBut [.lanes] t)) ∧
      (s.laneUse l = 0 → s.entry 0x280002 ≠ 0 → (Completes (.darkIdleTimeout l) s fun t =>
        t.lane l = { x with state := 5, blockLock := false, sent := x.sent ++ [.dark] } ∧ (∀ k, k ≠ l → t.lane k = s.lane k) ∧ s.sameBut [.lanes] t)) ∧
      ((s.laneUse l ≠ 0 ∨ s.entry 0x280002 = 0) → (Completes (.darkIdleTimeout l) s fun t => t = s))) ∧
    (x.state = 5 → s.asleep = false →
      (Completes (.laneSignalDetect l true) s fun t => t.lane l = { x with state := 3, blockLock := true } ∧
        (∀ k, k ≠ l → t.lane k = s.lane k) ∧ s.sameBut [.lanes] t) ∧
      (Completes (.laneSignalDetect l false) s fun t =>
        t.lane l = { x with state := 2, blockLock := false, manual := s.entry 0x280001 == 1, fromDark := true } ∧
        (∀ k, k ≠ l → t.lane k = s.lane k) ∧ s.sameBut [.lanes] t)) ∧
    (x.state ≠ 5 ∨ s.asleep = true → ∀ ok, (Completes (.laneSignalDetect l ok) s fun t => t = s)) ∧
    ∀ o v b, o = 0 ∧ b = s.host.windowBase - s.host.windowBase % 2 ^ 32 + v % 2 ^ 32 ∨
        o = 4 ∧ b = v % 2 ^ 12 * 2 ^ 32 + s.host.windowBase % 2 ^ 32 →
      (b % 2 ^ 34 = 0 → (Completes (.windowBaseWrite ⟨o, v⟩) s fun t => t.host = { s.host with windowBase := b } ∧ s.sameBut [.host] t)) ∧
      (b % 2 ^ 34 ≠ 0 → (Completes (.windowBaseWrite ⟨o, v⟩) s fun t => t = s))

/-- A record that passes R453 changes the life cycle, raises the level or revokes a digest; any other is refused; each draws a new
nonce. For a record of 0xA50 + 4627 bytes that no check turns away: if its magic, serial, nonce, verifying key, signature and
permission all hold, a life-cycle change wipes the secure scratchpad (nothing else in memory), takes the new state, erases slots
1 and 2 and invalidates slot 0 on RETURN and END, and leaves the SYS reset due; a level raise gives the greater of the two
levels; a revocation puts the slot in the revoked set, where it stays. Status 2. If any fails, the record is refused with 0x7603
and status 3, and the life cycle, the level, keys and revocations stay. In either case the nonce becomes the next value of the
random source (a free value). The digest and the signature check are the model's uninterpreted functions. (spec/19 R448, spec/19
R452, spec/19 R453, spec/19 R454, spec/19 R463) -/
def Obligations.AuthorisationRecordsTakeEffect : Prop :=
  ∀ (s : State) (req : Nat) (r : List Byte), s.mayWrite req (keyOf 0x2601 0) = true → Sparse.wf zeroByte s.mem.bytes = true →
    (r.length = 0xA50 + 4627 → recNum r 0 4 = 0x48545541 → recNum r 8 4 = s.part.hubSerial → recNum r 16 32 = s.sec.nonce → signatureVerifies r = true →
      ((recSigner r = 0 ∧ s.sec.ownerDigest = some (Config.sha3 (recKey r))) ∨ (recSigner r = 1 ∧ s.sec.yelrovDigest = Config.sha3 (recKey r))) →
      (∀ b, recPurpose r = 1 → recTarget r = b.code →
        ((s.sec.lifeCycle, b, recSigner r) ∈ [(LifeCycle.blank, LifeCycle.develop, 1), (.develop, .deploy, 0), (.deploy, .returned, 1)] ∨
          b = .ended ∧ s.sec.lifeCycle ≠ .ended) →
        (Completes (.lifeCycleChange req r) s fun t => t.sec.lifeCycle = b ∧ t.sec.resetDue = true ∧ t.sec.wiping = true ∧
          (∀ x : Nat, secureBase ≤ x → x < secureEnd → t.byteAt x = 0) ∧ (∀ x : Nat, (x < secureBase ∨ secureEnd ≤ x) → t.byteAt x = s.byteAt x) ∧
          ((b = .returned ∨ b = .ended) → t.sec.slot1 = none ∧ t.sec.slot2 = none ∧ t.sec.slot0Invalid = true) ∧
          (b ≠ .returned → b ≠ .ended → t.sec.slot1 = s.sec.slot1 ∧ t.sec.slot2 = s.sec.slot2 ∧ t.sec.slot0Invalid = s.sec.slot0Invalid) ∧
          (b = .develop → t.sec.identitySeed.isSome = true) ∧ (b ≠ .develop → t.sec.identitySeed = s.sec.identitySeed) ∧
          t.sec.nonce = s.drawKey.1 ∧ t.sec.authStatus = 2 ∧ t.answer = .ok 0 ∧ t.sec.level = s.sec.level ∧
          s.sameBut [.answer, .mgmtClock, .sec, .free, .memBytes] t)) ∧
      (recPurpose r = 2 → recTarget r ≤ s.sec.lifeCycle.ceiling → (recSigner r = 1 ∨ 1 ≤ recTarget r ∧ recTarget r ≤ 2) →
        (Completes (.debugLevelRaise req r) s fun t => t.sec.level = max s.sec.level (recTarget r) ∧ t.sec.nonce = s.drawKey.1 ∧ t.sec.authStatus = 2 ∧
          t.sec.lifeCycle = s.sec.lifeCycle ∧ t.answer = .ok 0 ∧ s.sameBut [.answer, .mgmtClock, .sec, .secDenials, .free] t)) ∧
      (recPurpose r = 3 → 1 ≤ recTarget r → recTarget r ≤ 4 → (Completes (.revokeDigest req r) s fun t => t.digestState (recTarget r) = 2 ∧
        (∀ k : Nat, 1 ≤ k → k ≤ 6 → k ≠ recTarget r → t.digestState k = s.digestState k) ∧ t.sec.nonce = s.drawKey.1 ∧ t.sec.authStatus = 2 ∧
        t.sec.digests = s.sec.digests ∧ t.answer = .ok 0 ∧ s.sameBut [.answer, .mgmtClock, .sec, .free] t))) ∧
    (∀ c, (c = .lifeCycleChange req r ∧ recPurpose r ≠ 2 ∧ recPurpose r ≠ 3 ∨ c = .debugLevelRaise req r ∧ recPurpose r = 2 ∨
        c = .revokeDigest req r ∧ recPurpose r = 3) →
      (r.length ≠ 0xA50 + 4627 ∨ recNum r 0 4 ≠ 0x48545541 ∨ recNum r 8 4 ≠ s.part.hubSerial ∨ recNum r 16 32 ≠ s.sec.nonce ∨
        signatureVerifies r = false ∨ 2 ≤ recSigner r ∨ (recSigner r = 0 ∧ s.sec.ownerDigest ≠ some (Config.sha3 (recKey r))) ∨
        (recSigner r = 1 ∧ s.sec.yelrovDigest ≠ Config.sha3 (recKey r)) ∨ recPurpose r = 0 ∨ 3 < recPurpose r ∨
        (recPurpose r = 2 ∧ (s.sec.lifeCycle.ceiling < recTarget r ∨ recSigner r = 0 ∧ (recTarget r = 0 ∨ recTarget r = 3))) ∨
        (recPurpose r = 3 ∧ (recTarget r = 0 ∨ 4 < recTarget r)) ∨
        (recPurpose r = 1 ∧ (4 < recTarget r ∨ ∀ b, LifeCycle.ofCode (recTarget r) = some b → s.sec.lifeCycle.mayChange b (recSigner r) = false))) →
      (Completes c s fun t => t.log.newest = s.log.newest + 1 ∧ t.log.entries.getLast?.map (fun e => e.code) = some 0x7603 ∧
        t.answer = refusedAnswer req ∧ t.sec = { s.sec with nonce := s.drawKey.1, authStatus := 3 } ∧
        s.sameBut [.answer, .mgmtClock, .can, .log, .rstCommit, .cores, .host, .sec, .free] t))

/-- Key material is fused once, battery slots are written and erased, rights tables are written by those who may, and reports are
made. For a write that no check turns away: in DEVELOP an item that is not yet fused takes its value of the right length, and is
refused with 0x7602 otherwise; a KeyLoad record writes its key to slot 1 or 2, plain in DEVELOP, wrapped in DEVELOP or DEPLOY
where it unwraps under slot 0, and is refused with 0x7602 for another slot, length, state or wrap, a byte that is not zero, or
slot 0 empty; an erase empties the slot. A rights table takes 16 entries that cover no control region and set no reserved bit,
from the firmware, or in BLANK and DEVELOP unlocked from the ports; else 0x9011. The lock is set by 1. A report holds the nonce,
the identity and the states of Table 19-8. Loss of the battery while VIN is absent empties slots 1 and 2; the wipe ends.
(spec/19 R450, spec/19 R451, spec/19 R452, spec/19 R461, spec/19 R473, spec/19 R463) -/
def Obligations.KeysRightsAndReportsTakeEffect : Prop :=
  ∀ (s : State) (req : Nat),
    (s.mayWrite req (keyOf 0x2611 0) = true → ∀ ib item bs, item = ofBytes ib →
      (s.sec.lifeCycle = .develop →
        (item = 0 → s.sec.slot0 = none → bs.length = 32 → (Completes (.provision req ib bs) s fun t =>
          t.sec = { s.sec with slot0 := some (ofBytes bs) } ∧ t.answer = .ok 0 ∧ s.sameBut [.answer, .mgmtClock, .sec] t)) ∧
        (1 ≤ item → item ≤ 4 → s.sec.digests.length = 4 → s.digestState item = 0 → bs.length = 64 → (Completes (.provision req ib bs) s fun t =>
          t.sec.digests.getD (item - 1) none = some (ofBytes bs) ∧ t.digestState item = 1 ∧
          (∀ k : Nat, 1 ≤ k → k ≤ 6 → k ≠ item → t.digestState k = s.digestState k) ∧ t.answer = .ok 0 ∧ s.sameBut [.answer, .mgmtClock, .sec] t)) ∧
        (item = 5 → s.sec.ownerDigest = none → bs.length = 64 → (Completes (.provision req ib bs) s fun t =>
          t.sec = { s.sec with ownerDigest := some (ofBytes bs) } ∧ t.answer = .ok 0 ∧ s.sameBut [.answer, .mgmtClock, .sec] t))) ∧
      ((s.sec.lifeCycle ≠ .develop ∨ 5 < item ∨ item = 0 ∧ (s.sec.slot0.isSome = true ∨ bs.length ≠ 32) ∨
          item = 5 ∧ s.sec.ownerDigest.isSome = true ∨ 1 ≤ item ∧ item ≤ 4 ∧ s.digestState item ≠ 0 ∨ item ≠ 0 ∧ bs.length ≠ 64) →
        (Completes (.provision req ib bs) s fun t => t.log.entries.getLast?.map (fun e => e.code) = some 0x7602 ∧ t.log.newest = s.log.newest + 1 ∧
          t.answer = refusedAnswer req ∧ t.sec = s.sec))) ∧
    (s.mayWrite req (keyOf 0x2612 0) = true → ∀ rcd slot key, slot = recNum rcd 0 1 % 2 ^ 7 →
      (bit (recNum rcd 0 1) 7 = false →
        (∀ m k, 8 ≤ rcd.length → recNum rcd 1 7 = 0 → (slot = 1 ∨ slot = 2) → s.sec.slot0 = some m →
          ((key.length = 32 ∧ s.sec.lifeCycle = .develop ∧ k = ofBytes key) ∨ (key.length = 40 ∧ Config.unwrapKey m key = some k ∧
            (s.sec.lifeCycle = .develop ∨ s.sec.lifeCycle = .deploy))) →
          (Completes (.keyLoad req rcd key) s fun t =>
            t.sec = (if slot = 1 then { s.sec with slot1 := some (k % 2 ^ 256) } else { s.sec with slot2 := some (k % 2 ^ 256) }) ∧
            t.answer = .ok 0 ∧ s.sameBut [.answer, .mgmtClock, .sec] t)) ∧
        ((rcd.length < 8 ∨ recNum rcd 1 7 ≠ 0 ∨ slot = 0 ∨ 2 < slot ∨ s.sec.slot0 = none ∨ key.length ≠ 32 ∧ key.length ≠ 40 ∨
            key.length = 32 ∧ s.sec.lifeCycle ≠ .develop ∨ key.length = 40 ∧ (∀ m, s.sec.slot0 = some m → Config.unwrapKey m key = none) ∨
            s.sec.lifeCycle ≠ .develop ∧ s.sec.lifeCycle ≠ .deploy) →
          (Completes (.keyLoad req rcd key) s fun t => t.log.entries.getLast?.map (fun e => e.code) = some 0x7602 ∧ t.log.newest = s.log.newest + 1 ∧
            t.answer = refusedAnswer req ∧ t.sec = s.sec))) ∧
      (bit (recNum rcd 0 1) 7 = true →
        (rcd.length = 8 → recNum rcd 1 7 = 0 → (slot = 1 ∨ slot = 2) → s.sec.slot0.isSome = true → (Completes (.keyErase req rcd) s fun t =>
          t.sec = (if slot = 1 then { s.sec with slot1 := none } else { s.sec with slot2 := none }) ∧ t.answer = .ok 0 ∧
          s.sameBut [.answer, .mgmtClock, .sec] t)) ∧
        ((rcd.length ≠ 8 ∨ recNum rcd 1 7 ≠ 0 ∨ slot = 0 ∨ 2 < slot ∨ s.sec.slot0 = none) → (Completes (.keyErase req rcd) s fun t =>
          t.log.entries.getLast?.map (fun e => e.code) = some 0x7602 ∧ t.log.newest = s.log.newest + 1 ∧
          t.answer = refusedAnswer req ∧ t.sec = s.sec)))) ∧
    (∀ n es, n < 64 → s.mayWrite req (keyOf (0x2640 + n) 0) = true →
      (n ≠ 5 → s.mayWriteRights req = true → es.length = 16 → (∀ e ∈ es, e < 2 ^ 128 ∧ s.grantBad e = false) →
        (Completes (.rightsTableWrite req n es) s fun t => (∀ p ∈ t.sec.tables, p.1 = n → p.2 = es) ∧ (n, es) ∈ t.sec.tables ∧
          (∀ p, p.1 ≠ n → (p ∈ t.sec.tables ↔ p ∈ s.sec.tables)) ∧ t.answer = .ok 0 ∧ s.sameBut [.answer, .mgmtClock, .sec] t)) ∧
      ((n = 5 ∨ s.mayWriteRights req = false ∨ es.length ≠ 16 ∨ es.any s.grantBad = true) → (Completes (.rightsTableWrite req n es) s fun t =>
        s.logged t 0x9011 srcHub (accessArg req (keyOf (0x2640 + n) 0)) ∧ t.answer = refusedAnswer req ∧ t.sec = s.sec))) ∧
    (s.mayWrite req 0x263001 = true → (Completes (.rightsLockWrite req) s fun t => t.sec = { s.sec with rightsLock := true } ∧ t.answer = .ok 0 ∧
      s.sameBut [.answer, .mgmtClock, .sec] t)) ∧
    (s.mayWrite req (keyOf 0x2624 0) = true → s.sec.lifeCycle ≠ .blank → s.sec.lifeCycle ≠ .ended → ∀ bs, bs.length = 64 →
      (Completes (.attestRequest req bs) s fun t => t.sec.report.take 64 = bs ∧ ofBytes ((t.sec.report.drop 64).take 4) = s.part.hubSerial % 2 ^ 32 ∧
        t.sec.report.getD 68 0 = BitVec.ofNat 8 s.sec.lifeCycle.code ∧ t.sec.report.getD 69 0 = BitVec.ofNat 8 s.sec.level ∧
        ofBytes ((t.sec.report.drop 80).take 64) = (match s.image with | some i => i.digest | none => 0) % 2 ^ 512 ∧ t.sec.report.length = 144 ∧
        t.answer = .ok 0 ∧ s.sameBut [.answer, .mgmtClock, .sec] t)) ∧
    (s.rst.vin = false → (Completes .batterySlotLost s fun t => t.sec = { s.sec with slot1 := none, slot2 := none, batteryLost := true } ∧ s.sameBut [.sec] t)) ∧
    (Completes .secureWipeComplete s fun t => t.sec = { s.sec with wiping := false } ∧ s.sameBut [.sec] t)

/-- Levels lower, cores halt and resume, the debug port selects by level, and a tamper event erases and halts. A write of a level no
higher than the present one takes it, and below 2 every core halted by debug resumes what it was doing; a higher one is refused
with 0x9011. DBG_REQ at level open halts every released core that is neither halted nor locked up and no other; below it only
counts a denial. The debug port takes an instruction that its level and mode allow, with its boundary cells, and IDCODE is read;
another is refused and leaves BYPASS. On leaving EXTEST every pin is held at its pad. A tamper event with the monitor on erases
slots 1 and 2, counts, and with VIN present wipes the secure scratchpad and halts with 0x7310; with VIN absent it is recorded;
with the monitor off nothing happens. (spec/19 R454, spec/19 R455, spec/19 R456, spec/19 R458, spec/19 R464, spec/19 R465,
spec/19 R471) -/
def Obligations.DebugAndTamperTakeEffect : Prop :=
  ∀ s : State, Sparse.wf (defaultOf s.part.grade) s.dict = true →
    (∀ req v, s.mayWrite req 0x260401 = true → inRange 0x260401 v = true → v < 4 →
      (v ≤ s.sec.level → 2 ≤ v → (Completes (.debugLevelLower req v) s fun t => t.sec.level = v ∧ t.answer = .ok 0 ∧ t.cores = s.cores ∧
        s.sameBut [.answer, .mgmtClock, .sec, .secDenials] t)) ∧
      (v ≤ s.sec.level → v < 2 → s.tracing = false → (Completes (.debugLevelLower req v) s fun t => t.sec.level = v ∧ t.answer = .ok 0 ∧
        t.cores.length = s.cores.length ∧ (∀ c, c < s.cores.length → (s.cores.getD c default).asleep = false →
          ((s.cores.getD c default).state ≠ .debugHalt → t.cores.getD c default = s.cores.getD c default) ∧
          ((s.cores.getD c default).state = .debugHalt → ((s.cores.getD c default).before ≠ .blocked ∨ (s.cores.getD c default).interrupted s.coreTime = false) →
            t.cores.getD c default = { s.cores.getD c default with state := (s.cores.getD c default).before })))) ∧
      (s.sec.level < v → (Completes (.debugLevelLower req v) s fun t => s.logged t 0x9011 srcHub (accessArg req 0x260401) ∧ t.sec.level = s.sec.level ∧
        t.answer = refusedAnswer req ∧ t.cores = s.cores))) ∧
    (s.sec.halted = false →
      (2 ≤ s.sec.level → (Completes .dbgReq s fun t => t.cores = s.cores.map (fun c =>
        if c.state = .reset ∨ c.state = .debugHalt ∨ c.state = .lockedUp then c else { c with state := .debugHalt, before := c.state }) ∧ s.sameBut [.cores] t)) ∧
      (s.sec.level < 2 → (Completes .dbgReq s fun t => t.cores = s.cores ∧ (s.sec.levelLogged.contains 2 = false → s.logged t 0x7202 srcHub 0) ∧
        (s.sec.levelLogged.contains 2 = true → t.log = s.log)))) ∧
    (∀ i cells, (i ∈ [TapInstr.bypass, .idcode, .dbgacc] ∨ (i = .samplePreload ∨ i = .extest) ∧ 2 ≤ s.sec.level ∧ s.run.mode = .service ∨
        i = .scan ∧ 3 ≤ s.sec.level ∧ s.run.mode = .service) →
      (s.sec.tap ≠ .extest ∨ i = .extest → (Completes (.tapInstruction ⟨i, cells⟩) s fun t =>
        t.sec = { s.sec with tap := i, boundary := if i = .samplePreload ∨ i = .extest then cells.take 96 else s.sec.boundary } ∧
        t.answer = (if i = .idcode then .ok (s.part.hubRom.stepping % 16 * 2 ^ 28 + s.part.grade.deviceId * 2 ^ 12 + 0x56F) else s.answer) ∧
        s.sameBut [.answer, .sec] t)) ∧
      (s.sec.tap = .extest → i ≠ .extest → (Completes (.tapInstruction ⟨i, cells⟩) s fun t => t.sec.tap = i ∧
        (∀ n, n < 96 → t.isHeld n = true ∧ (s.isSafe n = false → s.pins.asleep = none → t.pad n = s.pad n)) ∧ s.sameBut [.answer, .sec, .pins] t))) ∧
    (∀ i cells, ((i = .samplePreload ∨ i = .extest) ∧ (s.sec.level < 2 ∨ s.run.mode ≠ .service) ∨
        i = .scan ∧ (s.sec.level < 3 ∨ s.run.mode ≠ .service)) → s.sec.tap ≠ .extest → (Completes (.tapInstruction ⟨i, cells⟩) s fun t =>
      t.sec.tap = .bypass ∧ t.sec.boundary = s.sec.boundary ∧ t.answer = .error ∧ (s.sec.levelLogged.contains 2 = false → s.logged t 0x7202 srcHub 0) ∧
      t.sec.level = s.sec.level ∧ t.pins = s.pins)) ∧
    (¬((s.sec.lifeCycle = .blank ∨ s.sec.lifeCycle = .develop) ∧ s.entry 0x262101 = 0) →
      (s.rst.vin = true → s.sec.halted = false → Sparse.wf zeroByte s.mem.bytes = true → (Completes .tamperEvent s fun t => t.sec.slot1 = none ∧ t.sec.slot2 = none ∧
        t.entry 0x262102 = sat32 (s.entry 0x262102) 1 ∧ t.sec.wiping = true ∧ t.sec.halted = true ∧ bit t.sec.haltCause haltTamper = true ∧
        t.log.entries.any (fun e => e.code == 0x7310) = true ∧ (∀ x : Nat, secureBase ≤ x → x < secureEnd → t.byteAt x = 0) ∧
        (∀ n, n < 96 → t.isSafe n = true))) ∧
      (s.rst.vin = false → (Completes .tamperEvent s fun t => t.sec = { s.sec with slot1 := none, slot2 := none, tamperRecorded := true } ∧
        t.entry 0x262102 = sat32 (s.entry 0x262102) 1 ∧ t.mgmt.fastClock = true ∧ s.sameBut [.sec, .dict, .mgmtClock] t))) ∧
    (s.sec.lifeCycle = .blank ∨ s.sec.lifeCycle = .develop → s.entry 0x262101 = 0 → (Completes .tamperEvent s fun t => t = s))

/-- Sensor updates raise and end demands with hysteresis and stop at the critical limits; power averages are held to the ceiling.
For readings within specification: each fitted sensor takes its reading, an unfitted one reads 0x8000. In STANDBY and DORMANT
nothing else happens. Awake, a die demands point p exactly while its temperature has reached threshold p, or had and is no more
than the hysteresis below it, a failed sensor counting as 124 degrees; a lower tier follows the greater of its own and its
die's. ThermalPoint is the greatest point demanded. A die, the hub or a stack at its limit makes the module critical with 0x1202
active, and it stays so until every governing temperature is below threshold 3. A power average above PowerCeiling is counted
and logged once per run command; one at or below has no effect. (Model's choice, logged: VIN above 18 V and junctions below -55
degrees end in a fault, for R507 gives no behaviour.) (spec/02 R41, spec/20 R490, spec/20 R491, spec/20 R492, spec/20 R493,
spec/20 R489) -/
def Obligations.SensorsAndPowerTakeEffect : Prop :=
  ∀ (s : State) (x : SensorSample), x.temps.length = 30 → x.supply.length = 5 → (∀ v ∈ x.temps, v ≤ 2000 ∨ v = 0x8001) →
    (∀ v ∈ x.supply, 4500 ≤ v ∧ v ≤ 18000) →
    (Completes (.sensorUpdate x) s fun t => t.therm.supply = x.supply ∧
      (∀ j, j < 30 → t.therm.temps.getD j 0 = if s.sensorFitted j then x.temps.getD j 0 else 0x8000) ∧
      s.sameBut [.dict, .mgmtClock, .can, .log, .runStop, .rstCommit, .therm, .notices, .cores, .trace, .host, .arrSched] t) ∧
    (s.asleep = true → 0x8001 ∉ x.temps → (Completes (.sensorUpdate x) s fun t => t.therm.raised = s.therm.raised ∧ t.therm.critical = s.therm.critical ∧
      s.sameBut [.therm] t)) ∧
    (s.asleep = false →
      (∀ G T H : Nat → Int, (∀ j, G j = if x.temps.getD j 0 = 0x8001 then 1984 else signed 16 (x.temps.getD j 0)) →
        (∀ p, T p = signed 16 (s.entry (keyOf 0x2210 p))) → (∀ p, H p = T p - signed 16 (s.entry 0x221004)) →
        (Completes (.sensorUpdate x) s fun t => (∀ d, d < s.dies → ∀ p, 1 ≤ p → p ≤ 3 →
            ((3 * d, p) ∈ t.therm.raised ↔ (T p ≤ G d ∨ ((3 * d, p) ∈ s.therm.raised ∧ H p ≤ G d))) ∧
            ((3 * d + 1, p) ∈ t.therm.raised ↔
              (T p ≤ max (G (8 + d)) (G d) ∨ ((3 * d + 1, p) ∈ s.therm.raised ∧ H p ≤ max (G (8 + d)) (G d))))) ∧
          (∀ q ∈ t.therm.raised, q.2 ≤ t.therm.point) ∧ (t.therm.point = 0 ∨ ∃ q ∈ t.therm.raised, q.2 = t.therm.point)) ∧
        ((∃ j, j < s.dies ∧ 1984 ≤ G j) ∨ 1984 ≤ G 24 ∨ (∃ k, k < s.part.grade.stacks ∧ 1680 ≤ G (25 + k)) → s.therm.reached = [] →
          (Completes (.sensorUpdate x) s fun t => t.therm.critical = true ∧ t.log.active.any (fun f => f.code == 0x1202) = true)) ∧
        ((∀ j, j < 25 → G j < 1984) → (∀ j, 25 ≤ j → j < 29 → G j < 1680) → s.therm.critical = true →
          ((∃ d, d < s.dies ∧ T 3 ≤ G d) → (Completes (.sensorUpdate x) s fun t => t.therm.critical = true)) ∧
          ((∀ j, j < 24 → G j < T 3) → (Completes (.sensorUpdate x) s fun t => t.therm.critical = false ∧
            t.log.active.any (fun f => f.code == 0x1202) = false))))) ∧
    ∀ w,
      (w ≤ s.entry 0x220101 → (Completes (.powerAverageInterval w) s fun t => t = s)) ∧
      (s.entry 0x220101 < w → (Completes (.powerAverageInterval w) s fun t => t.rst.excursions = sat32 s.rst.excursions 1 ∧ t.rst.powerLogged = true ∧
        (s.rst.powerLogged = false → s.arr.sched.run = .gated → s.logged t 0x1301 srcHub w) ∧ (s.rst.powerLogged = true → t.log = s.log)))

/-- A write of 1 ends Image and Stop faults alone; an audit compares every guarantee at one instant and logs what is broken.
FaultAcknowledge keeps exactly the active faults that are not of the Image or Stop class, and changes nothing else. AuditCommand
makes the audit busy, and is refused with 0x9011 while busy and with 0x9012 in STANDBY and DORMANT. Its end sets status 2; with
the guarantees in force, bit 0 of AuditResult says whether the ring credits granted differ from those returned and outstanding,
bit 1 whether a channel's slots do not add up, bit 6 whether a sampler's samples do not; a broken guarantee 0 logs 0x6103; after
a lapse every bit of AuditUnchecked is set and none of AuditResult. It stops nothing. (spec/21 R496, spec/21 R504, spec/21 R505,
spec/21 R506, spec/02 R29, spec/13 R326) -/
def Obligations.AcknowledgementAndAuditTakeEffect : Prop :=
  ∀ (s : State) (req : Nat),
    (s.mayWrite req 0x500002 = true → (Completes (.faultAcknowledge req) s fun t =>
      t.log = { s.log with active := s.log.active.filter (fun f => f.cls != .image && f.cls != .stop) } ∧ t.answer = .ok 0 ∧
      s.sameBut [.answer, .mgmtClock, .log] t)) ∧
    (s.mayWrite req 0x510001 = true →
      (s.log.auditStatus ≠ 1 → s.asleep = false → (Completes (.auditCommand req) s fun t => t.log = { s.log with auditStatus := 1 } ∧ t.answer = .ok 0 ∧
        s.sameBut [.answer, .mgmtClock, .log] t)) ∧
      (s.log.auditStatus = 1 → (Completes (.auditCommand req) s fun t => s.logged t 0x9011 srcHub (accessArg req 0x510001) ∧
        t.answer = refusedAnswer req ∧ t.log.auditStatus = 1)) ∧
      (s.log.auditStatus ≠ 1 → s.asleep = true → (Completes (.auditCommand req) s fun t => s.logged t 0x9012 srcHub (accessArg req 0x510001) ∧
        t.answer = refusedAnswer req ∧ t.log.auditStatus = s.log.auditStatus))) ∧
    (s.log.auditStatus = 1 →
      (s.log.lapsed = true → (Completes .auditComplete s fun t => t.log = { s.log with auditStatus := 2, auditResult := 0, auditUnchecked := 127 } ∧
        s.sameBut [.log] t)) ∧
      (s.log.lapsed = false → s.rings.granted < 2 ^ 64 - 1 → (∀ c ∈ s.chan.live, c.2.posted < 2 ^ 32 - 1 ∧ c.2.freed < 2 ^ 32 - 1) →
        (∀ j, j < 4 → s.entry (keyOf (0x2920 + j) 6) = 0) →
        (Completes .auditComplete s fun t => t.log.auditStatus = 2 ∧
          bit t.log.auditResult 0 = decide (s.rings.granted ≠ s.rings.returned + s.creditsOutstanding) ∧
          bit t.log.auditResult 1 = s.chan.live.any (fun c => c.2.depth != c.2.free + c.2.reserved + c.2.occupied + c.2.inFlight) ∧
          bit t.log.auditResult 6 = (List.range 4).any (fun j =>
            s.entry (keyOf (0x2920 + j) 1) != s.entry (keyOf (0x2920 + j) 2) + s.entry (keyOf (0x2920 + j) 3) ||
            s.entry (keyOf (0x2920 + j) 3) != s.samplesResident j + s.entry (keyOf (0x2920 + j) 4) + s.entry (keyOf (0x2920 + j) 5)) ∧
          ([0, 1, 3, 6].all fun k => !bit t.log.auditUnchecked k) = true ∧ t.log.auditResult < 128 ∧
          (bit t.log.auditResult 0 = true → t.log.entries.any (fun e => e.code == 0x6103) = true) ∧
          s.sameBut [.can, .log, .rstCommit, .cores, .host] t)))

/-- Commands that act through an entry change their own unit, and no other part of the state. For each command of the list, from any
state and with any operands: whatever next state it ends in, only the parts named beside it may differ: its answer, the
dictionary, the fast clock, the log with what it remembers of denials, and the unit that the command is about. Every other
register, buffer, counter and memory of the module, the queue of waiting commands and the fixed part are as before. (spec/02
R26, spec/02 R36, spec/02 R40, spec/02 R42, spec/02 R29) -/
def Obligations.FramesOfEntryCommands : Prop :=
  (∀ (k : Nat), ∀ c ∈ [Instr.storeParameters k, .restoreDefaults k], Touches [.answer, .dict, .mgmt, .mgmtClock, .can, .log,
    .secDenials] c) ∧
  (∀ (k l m : Nat), ∀ c ∈ [Instr.logReadSelect k l, .streamReadPointerWrite k l m, .edgeCountClear k l, .faultAcknowledge k,
    .auditCommand k], Touches [.answer, .dict, .mgmtClock, .can, .log, .secDenials] c) ∧
  (∀ (k : Nat) (firmwareImage : FirmwareImage) (firmwareChecks : FirmwareChecks), ∀ c ∈ [Instr.firmwareCheckAndWrite k firmwareImage
    firmwareChecks, .firmwareActivate k], Touches [.answer, .dict, .mgmtClock, .can, .boot, .log, .secDenials] c) ∧
  (∀ (k l : Nat), Touches [.answer, .dict, .mgmtClock, .can, .log, .run, .secDenials] (.markControlWrite k l)) ∧
  (∀ (k : Nat), Touches [.answer, .dict, .mgmtClock, .log, .run, .secDenials] (.boundaryRecordRead k)) ∧
  (∀ (k : Nat), Touches [.answer, .dict, .mgmtClock, .log, .secDenials, .arrSched] (.cycleCountRead k)) ∧
  (∀ (k l : Nat), Touches [.answer, .dict, .mgmtClock, .can, .log, .secDenials, .memOnDie, .memCache] (.remoteCacheFlush k l)) ∧
  (∀ (k l m : Nat), ∀ c ∈ [Instr.probeSelectWrite k l m, .fixerEnableWrite k l], Touches [.answer, .dict, .mgmtClock, .can, .log,
    .fixer, .secDenials] c) ∧
  (∀ (k l : Nat), Touches [.answer, .dict, .mgmtClock, .can, .log, .secDenials, .loader] (.dmaCommand k l)) ∧
  (∀ (k l : Nat), Touches [.answer, .dict, .mgmtClock, .can, .log, .cores, .trace, .secDenials] (.coreReleaseWrite k l)) ∧
  (∀ (k l : Nat), Touches [.answer, .dict, .mgmtClock, .can, .log, .cores, .secDenials, .host] (.hostEvent k l)) ∧
  (∀ (k : Nat) (csrUse : CsrUse), ∀ c ∈ [Instr.chrecv k csrUse, .chreserve k csrUse, .chcreate k csrUse], Touches [.answer, .dict,
    .mgmtClock, .log, .cores, .chan, .trace] c) ∧
  (∀ (k : Nat) (csrUse : CsrUse), ∀ c ∈ [Instr.chrelease k csrUse, .chpost k csrUse, .schask k csrUse, .schwait k csrUse, .schsetSuspend
    k csrUse, .schsetFree k csrUse, .chdestroy k csrUse, .guestApertureRead k], Touches [.answer, .dict, .mgmtClock, .log, .cores,
    .sched, .chan, .trace] c) ∧
  (∀ (k : Nat) (csrUse : CsrUse), ∀ c ∈ [Instr.chcount k csrUse, .schsetState k csrUse, .schipi k csrUse, .schcur k csrUse], Touches
    [.answer, .dict, .mgmtClock, .log, .cores, .trace] c) ∧
  (∀ (k : Nat) (csrUse : CsrUse), ∀ c ∈ [Instr.schdelay k csrUse, .schcreate k csrUse, .schsetReady k csrUse, .schsetPriority k csrUse,
    .schsetAffinity k csrUse], Touches [.answer, .dict, .mgmtClock, .log, .cores, .sched, .trace] c) ∧
  (∀ (k : Nat), Touches [.answer, .dict, .mgmtClock, .can, .log, .bundles, .secDenials] (.bundleRetrain k)) ∧
  (∀ (k l m n : Nat), Touches [.answer, .dict, .mgmtClock, .can, .log, .secDenials, .guest] (.guestWindowWrite k l m n)) ∧
  (∀ (k l : Nat), Touches [.answer, .dict, .mgmtClock, .can, .log, .sec, .secDenials, .rings, .guest] (.guestPowerEnableWrite k l)) ∧
  (∀ (k l : Nat), Touches [.answer, .dict, .mgmtClock, .can, .log, .secDenials, .trig, .memBytes] (.samplerArm k l)) ∧
  (∀ (k l : Nat), Touches [.answer, .dict, .mgmtClock, .can, .log, .secDenials, .trig] (.samplerForceTrigger k l)) ∧
  (∀ (k l : Nat), Touches [.answer, .dict, .mgmtClock, .can, .log, .trace, .secDenials] (.blotterReadPointerWrite k l)) ∧
  (∀ (k : Nat), Touches [.answer, .dict, .mgmtClock, .log, .time, .secDenials] (.timeRead k)) ∧
  (∀ (k : Nat), Touches [.answer, .dict, .mgmtClock, .can, .log, .time, .pulses, .secDenials] (.setTimeCommand k)) ∧
  (∀ (k l m : Nat), ∀ c ∈ [Instr.pulseArm k l m, .pulseStop k l m], Touches [.answer, .dict, .mgmtClock, .can, .log, .pulses,
    .secDenials] c) ∧
  (∀ (k l m : Nat), ∀ c ∈ [Instr.pinRelease k l m, .safeCommand k], Touches [.answer, .dict, .mgmtClock, .can, .log, .secDenials, .pins]
    c) ∧
  (∀ (k l m : Nat), ∀ c ∈ [Instr.laneBitSlip k l m, .laneDarkCommand k l], Touches [.answer, .dict, .mgmtClock, .can, .log, .secDenials,
    .lanes] c) ∧
  (∀ (k l : Nat), Touches [.answer, .dict, .mgmtClock, .can, .log, .cores, .trace, .sec, .secDenials] (.debugLevelLower k l)) ∧
  (∀ (tapScan : TapScan), Touches [.answer, .dict, .mgmtClock, .log, .sec, .secDenials, .pins] (.tapInstruction tapScan)) ∧
  (Touches [.answer, .dict, .mgmtClock, .log, .cores, .secDenials] .dbgReq) ∧
  (∀ (k l : Nat) (ns : List Nat), ∀ c ∈ [Instr.rightsTableWrite k l ns, .rightsLockWrite k], Touches [.answer, .dict, .mgmtClock, .can,
    .log, .sec, .secDenials] c) ∧
  (∀ (k : Nat), ∀ c ∈ [Instr.watchdogRefresh k, .resetRequestCore k, .resetRequestSys k], Touches [.answer, .dict, .mgmtClock, .can,
    .log, .rst, .secDenials] c) ∧
  (∀ (k l : Nat), Touches [.answer, .dict, .mgmtClock, .can, .log, .rst, .secDenials, .fabEngines] (.blockResetBridgeEngine k l)) ∧
  (∀ (k : Nat), Touches [.answer, .dict, .mgmtClock, .can, .log, .rst, .secDenials, .trig] (.blockResetTriggerEngine k)) ∧
  (∀ (k l : Nat), Touches [.answer, .dict, .mgmtClock, .can, .log, .rst, .time, .secDenials] (.blockResetEthernetPort k l))

/-- Events of one unit change that unit, its counters and the log, and no other part of the state. For each event of the list, from
any state and with any operands: whatever next state it ends in, only the parts named beside it may differ. No event of the list
gives an answer; where cores or the host are named, event lines may wake a waiting core and send a vector. (spec/02 R36, spec/02
R39, spec/02 R42, spec/12 R311) -/
def Obligations.FramesOfUnitEvents : Prop :=
  (∀ (k : Nat), ∀ c ∈ [Instr.nmtStart k, .nmtEnterPreoperational k], Touches [.mgmtClock, .can] c) ∧
  (∀ c ∈ [Instr.heartbeat, .canopenSyncReceived], Touches [.can] c) ∧
  (Touches [.mgmtClock] .fastClockStop) ∧
  (∀ (f : Bool), ∀ c ∈ [Instr.firmwareWriteComplete f, .startAttempt f, .firmwareStartTimeout, .mgmtWatchdogExpiry], Touches [.boot,
    .log] c) ∧
  (∀ c ∈ [Instr.startRetryWaitExpiry, .escalationWaitExpiry], Touches [.boot] c) ∧
  (∀ (k l m : Nat), Touches [.dict, .log, .trace, .arrQueues] (.designAnswerArrival k l m)) ∧
  (∀ (k l m : Nat), Touches [.dict, .log, .queueCounts, .trace, .arrQueues] (.writeAckArrival k l m)) ∧
  (∀ (k : Nat), Touches [.dict, .cores, .host, .arrQueues, .arrRequests, .memBytes, .memOnDie] (.memoryRequestReceived k)) ∧
  (∀ (k : Nat), Touches [.memRetrained] (.ddr5Retraining k)) ∧
  (Touches [.dict, .rings, .memOnDie, .memCache] .saveComplete) ∧
  (∀ (k : Nat), Touches [.fabCells] (.crossingStrobeSet k)) ∧
  (∀ (k : Nat), Touches [.arrClusters, .fabCells] (.stagingByteWrite k)) ∧
  (∀ (k : Nat) (ns : List Nat), Touches [.dict, .can, .log, .rstCommit, .cores, .lanes, .host, .fabEngines] (.bridgeBeatReceived k ns)) ∧
  (∀ (k : Nat), Touches [.fabEngines] (.bridgeBeatDelivered k)) ∧
  (∀ (k : Nat), Touches [.dict, .runStop, .notices, .lanes, .arrSched, .fabEngines] (.bridgeBeatTransmitted k)) ∧
  (∀ (laneWire : LaneWire), ∀ c ∈ [Instr.pauseReceived laneWire, .resumeReceived laneWire], Touches [.lanes, .fabEngines] c) ∧
  (∀ (k : Nat), Touches [.chan, .arrSched] (.creditReturnArrival k)) ∧
  (∀ (k : Nat) (es hs : List PortEdge), ∀ c ∈ [Instr.streamHeaderFrame k es, .trailerFrame k es hs], Touches [.dict, .can, .log, .run,
    .rstCommit, .cores, .loader, .rings, .host] c) ∧
  (Touches [.dict, .can, .log, .rstCommit, .cores, .loader, .host] .streamTimeout) ∧
  (∀ (bitFlips : BitFlips), Touches [.dict, .log, .fixer] (.protectedSetCheck bitFlips)) ∧
  (Touches [.dict, .log, .cores, .sched, .chan, .trace] .tick) ∧
  (∀ (k : Nat), Touches [.dict, .log, .sec, .rings] (.domainWakeTimeout k)) ∧
  (∀ (k : Nat), Touches [.rings] (.domainSleep k)) ∧
  (∀ (k : Nat), Touches [.dict, .log, .run, .runStop, .sec, .rings] (.requestTimeout k)) ∧
  (∀ (k l : Nat), Touches [.log, .bundles] (.laneMarginLow k l)) ∧
  (∀ (bs : List Byte), Touches [.guest] (.guestDescriptorReceived bs)) ∧
  (Touches [.rings, .guest] .guestSleepRequest) ∧
  (∀ (k : Nat), ∀ c ∈ [Instr.triggerUnitFire, .sampleClockEdge k], Touches [.dict, .log, .runStop, .notices, .cores, .trig, .host,
    .arrSched, .memBytes] c) ∧
  (∀ (k : Nat) (f : Bool), ∀ c ∈ [Instr.holdoffExpiry k, .triggerOutputPulseEnd k, .trigLineChange k f], Touches [.trig] c) ∧
  (∀ (k : Nat) (traceEvent : TraceEvent), Touches [.dict, .log, .trace] (.traceRecordOffer k traceEvent)) ∧
  (Touches [.dict, .log, .cores, .trace, .host, .memBytes] .syncRecordPeriod) ∧
  (∀ (k : Nat), ∀ c ∈ [Instr.coreSleep k, .coreWake k], Touches [.dict, .log, .cores, .trace] c) ∧
  (∀ (k l : Nat) (retiredInstr : RetiredInstr), Touches [.dict, .log, .cores, .trace, .host] (.coreCounterOverflow k l retiredInstr)) ∧
  (∀ (k : Nat), Touches [.dict, .cores, .host] (.moduleCounterWrap k)) ∧
  (∀ (k : Nat) (ptpSync : PtpSync) (ptpDelay : PtpDelay) (x : Int), Touches [.dict, .log, .time, .pulses, .cores, .trace, .host,
    .memBytes] (.ptpSyncReceived k ptpSync ptpDelay x)) ∧
  (∀ (k : Nat) (announce : Announce), ∀ c ∈ [Instr.ptpMasterLost k, .holdoverExpiry, .offsetUnlockExpiry, .ptpAnnounceReceived k
    announce], Touches [.dict, .log, .time, .cores, .trace, .host, .memBytes] c) ∧
  (∀ (k : Nat), Touches [.dict, .pulses, .cores, .host] (.pulseLeadingEdge k)) ∧
  (∀ (k : Nat), Touches [.pulses] (.pulseTrailingEdge k)) ∧
  (∀ (k : Nat) (bringUpResult : BringUpResult), Touches [.log, .time, .notices, .lanes] (.laneBringUpDone k bringUpResult)) ∧
  (∀ (k : Nat) (laneWire : LaneWire) (f : Bool), ∀ c ∈ [Instr.laneTrainRetry k, .darkBlockReceived laneWire, .darkIdleTimeout k,
    .laneSignalDetect k f], Touches [.lanes] c) ∧
  (∀ (baseWrite : BaseWrite), Touches [.host] (.windowBaseWrite baseWrite)) ∧
  (∀ (f : Bool) (clockSource : ClockSource), ∀ c ∈ [Instr.blockResetRelease f, .loopLockedAgain clockSource], Touches [.log, .rst,
    .lanes, .fabEngines] c) ∧
  (∀ (k : Nat), Touches [.can, .log, .runStop, .rst, .rstCommit, .notices, .cores, .host, .arrSched] (.powerAverageInterval k)) ∧
  (Touches [.can, .log, .rstCommit, .cores, .host] .auditComplete) ∧
  (∀ (k : Nat), Touches [.log, .guest] (.guestLinkUp k)) ∧
  (∀ (k : Nat), Touches [.cores] (.machineTimerInterrupt k)) ∧
  (∀ c ∈ [Instr.batterySlotLost, .secureWipeComplete], Touches [.sec] c) ∧
  (∀ (laneList : LaneList), Touches [.can, .log, .runStop, .rstCommit, .bundles, .notices, .cores, .host, .arrSched]
    (.bundleRetrainComplete laneList))

/-- Operations that reach the log, the stops or a second unit change those parts only. For each command of the list, from any state
and with any operands: whatever next state it ends in, only the parts named beside it may differ. A part named beyond the unit
itself is one that a fault, a stop, an event line or a release of the unit reaches. (spec/02 R42, spec/05 R115, spec/12 R311,
spec/21 R502) -/
def Obligations.FramesOfUnitOperations : Prop :=
  (∀ (sensorSample : SensorSample), Touches [.dict, .mgmtClock, .can, .log, .runStop, .rstCommit, .therm, .notices, .cores, .trace,
    .host, .arrSched] (.sensorUpdate sensorSample)) ∧
  (Touches [.can, .log, .runStop, .rstCommit, .tokens, .notices, .cores, .host, .arrTiles, .arrSched] .wordCellTokenInterval) ∧
  (∀ (k : Nat), ∀ c ∈ [Instr.runAt k, .cancel k], Touches [.answer, .dict, .mgmtClock, .can, .log, .run, .rst, .rstCommit, .tokens,
    .cores, .secDenials, .guest, .host, .fabEngines] c) ∧
  (∀ (k : Nat), Touches [.answer, .dict, .mgmtClock, .can, .log, .rstCommit, .cores, .secDenials, .rings, .sheets, .host, .memBytes,
    .memOnDie, .memCache] (.save k)) ∧
  (Touches [.dict, .log, .run, .cores, .trace, .sec, .secDenials, .rings, .guest, .host, .arrSched, .memBytes, .memOnDie, .memCache]
    .restoreComplete) ∧
  (∀ (k : Nat), ∀ c ∈ [Instr.discard k, .adopt k], Touches [.answer, .dict, .mgmtClock, .can, .log, .rstCommit, .cores, .secDenials,
    .rings, .sheets, .host] c) ∧
  (∀ (k : Nat) (bs : List Byte), Touches [.answer, .dict, .mgmtClock, .can, .log, .rstCommit, .cores, .secDenials, .sheets, .host]
    (.sheetHeaderWrite k bs)) ∧
  (∀ (k : Nat), ∀ c ∈ [Instr.marchDestructiveOnDie k, .marchDestructiveAll k, .marchPreservingOnDie k, .marchPreservingAll k], Touches
    [.answer, .dict, .mgmtClock, .can, .log, .secDenials, .rings, .memOnDie, .memCache, .memMarch] c) ∧
  (∀ (k : Nat), ∀ c ∈ [Instr.wcResultLand k, .releaseWriteEnable, .releaseClockStart], Touches [.fabClusterFrames, .fabTileFrames,
    .fabFclk, .fabCells, .fabRelease, .fabParked, .fabTrackEdges, .fabProbes, .fabEngines, .fabPorts, .fabDelays] c) ∧
  (∀ (k : Nat) (es hs : List PortEdge), Touches [.dict, .can, .log, .run, .rstCommit, .cores, .loader, .rings, .host, .memBytes]
    (.dataFrame k es hs)) ∧
  (Touches [.dict, .log, .run, .image, .notices, .cores, .trace, .secDenials, .loader, .rings, .host, .memBytes] .commitComplete) ∧
  (∀ (k : Nat), Touches [.answer, .dict, .mgmtClock, .can, .log, .rstCommit, .cores, .secDenials, .loader, .host] (.loadAbort k)) ∧
  (∀ (k : Nat), Touches [.answer, .dict, .mgmtClock, .can, .log, .cores, .sched, .chan, .trace, .secDenials] (.channelDestroy k)) ∧
  (∀ (k l m : Nat), Touches [.dict, .can, .log, .rst, .rstCommit, .cores, .sched, .chan, .trace, .host] (.coreLockup k l m)) ∧
  (∀ (powerSpan : PowerSpan) (k : Nat), ∀ c ∈ [Instr.guestPowerReport powerSpan k, .guestLinkLost], Touches [.can, .log, .runStop,
    .rstCommit, .notices, .cores, .sec, .rings, .guest, .host, .arrSched] c) ∧
  (∀ (k l : Nat), Touches [.answer, .dict, .mgmtClock, .can, .log, .cores, .secDenials, .trig, .host, .arrSched, .memBytes]
    (.samplerDisarm k l)) ∧
  (∀ (k : Nat), Touches [.answer, .dict, .mgmtClock, .log, .runStop, .notices, .cores, .secDenials, .trig, .host, .arrSched, .memBytes]
    (.streamDrain k)) ∧
  (∀ (k l : Nat), Touches [.answer, .dict, .mgmtClock, .can, .log, .cores, .trace, .secDenials, .host, .memBytes] (.traceEnableWrite k
    l)) ∧
  (∀ (k l m : Nat), Touches [.answer, .dict, .mgmtClock, .can, .log, .runStop, .notices, .cores, .secDenials, .pins, .trig, .host,
    .arrSched, .memBytes] (.pinConfigWrite k l m)) ∧
  (∀ (f : Bool), Touches [.dict, .log, .runStop, .notices, .cores, .pins, .trig, .host, .arrSched, .memBytes] (.safeReq f)) ∧
  (∀ (k l : Nat), Touches [.answer, .dict, .mgmtClock, .can, .log, .run, .runStop, .rstCommit, .notices, .cores, .secDenials, .lanes,
    .host, .arrSched] (.laneBringUp k l)) ∧
  (∀ (k : Nat), Touches [.can, .log, .run, .runStop, .rstCommit, .notices, .cores, .lanes, .host, .arrSched] (.laneLost k)) ∧
  (∀ (k : Nat) (bs : List Byte), Touches [.answer, .dict, .mgmtClock, .can, .log, .rstCommit, .cores, .sec, .secDenials, .host, .free,
    .memBytes] (.lifeCycleChange k bs)) ∧
  (∀ (k : Nat) (bs : List Byte), ∀ c ∈ [Instr.debugLevelRaise k bs, .revokeDigest k bs], Touches [.answer, .dict, .mgmtClock, .can,
    .log, .rstCommit, .cores, .sec, .secDenials, .host, .free] c) ∧
  (∀ (k : Nat) (bs vs : List Byte), ∀ c ∈ [Instr.provision k bs vs, .keyLoad k bs vs, .keyErase k bs, .attestRequest k bs], Touches
    [.answer, .dict, .mgmtClock, .can, .log, .rstCommit, .cores, .sec, .secDenials, .host] c) ∧
  (∀ (k l : Nat), Touches [.answer, .dict, .mgmtClock, .can, .log, .rst, .cores, .sched, .chan, .trace, .secDenials] (.blockResetCore k
    l))

/-- Operations of the array, of the word cells and of runs leave management, keys, links and settings alone. For each command of the
list, from any state and with any operands: whatever next state it ends in, only the parts named beside it may differ. A nib
operation, a word-cell operation or a run command changes no key, life cycle, lane setting, pin, firmware slot, time base or
march. (spec/01 R12, spec/01 R14, spec/03 R82, spec/08 R216) -/
def Obligations.FramesOfArrayAndCellCommands : Prop :=
  (∀ (k : Nat), ∀ c ∈ [Instr.park k, .service k, .leave k], Touches [.answer, .dict, .mgmtClock, .can, .log, .run, .rst, .rstCommit,
    .tokens, .cores, .trace, .secDenials, .rings, .guest, .host, .memBytes, .memOnDie, .memCache, .fabEngines] c) ∧
  (∀ (k : Nat), ∀ c ∈ [Instr.wcPass k, .wcAdd k, .wcSub k, .wcAnd k, .wcOr k, .wcXor k, .wcNot k, .wcShl k, .wcShr k, .wcSar k, .wcRol
    k, .wcMullo k, .wcMulhu k, .wcMulhs k, .wcEq k, .wcLtu k, .wcLts k, .wcMinu k, .wcMaxu k, .wcSel k, .wcBit k, .wcPop k, .wcInc k,
    .wcNop k], Touches [.dict, .can, .log, .runStop, .rstCommit, .notices, .cores, .sched, .chan, .trace, .lanes, .trig, .host,
    .arrClusters, .arrTiles, .arrSched, .memBytes, .fabClusterFrames, .fabTileFrames, .fabFclk, .fabCells, .fabRelease, .fabParked,
    .fabTrackEdges, .fabProbes, .fabEngines, .fabPorts, .fabDelays] c) ∧
  (∀ (guestAccess : GuestAccess), Touches [.answer, .dict, .mgmtClock, .can, .log, .run, .rstCommit, .image, .fixer, .cores, .sched,
    .chan, .trace, .sec, .secDenials, .loader, .rings, .guest, .lanes, .pins, .trig, .host, .arrSched, .memBytes] (.guestAccess
    guestAccess)) ∧
  (∀ (k : Nat) (notice : Notice), Touches [.dict, .can, .log, .run, .runStop, .rstCommit, .notices, .cores, .trace, .secDenials, .rings,
    .lanes, .host, .arrSched, .arrSyncMask, .arrVotes, .memBytes, .memOnDie, .memCache] (.laneNoticeReceived k notice)) ∧
  (Touches [.dict, .mgmtClock, .can, .log, .run, .rstCommit, .image, .fixer, .cores, .sec, .secDenials, .loader, .lanes, .pins, .trig,
    .host, .arrSched, .memBytes] .tamperEvent) ∧
  (Touches [.mgmtClock, .can, .log, .run, .runStop, .rst, .rstCommit, .image, .fixer, .notices, .cores, .sec, .loader, .sheets, .host,
    .arrSched, .memBytes] .brownOut)

/-- Commits, boundaries, sleep, resets and dictionary-borne commands keep the parts named beside them. For each command of the list,
from any state and with any operands: whatever next state it ends in, the queue of waiting commands, the fixed part and every
part named beside the command are as before. These commands change most of the state; the parts named are those that they never
reach. (spec/03 R82, spec/08 R192, spec/08 R195, spec/20 R475, spec/20 R476) -/
def Obligations.WhatWideCommandsKeep : Prop :=
  (∀ (k l m n : Nat) (sdoOp : SdoOp) (sysAccess : SysAccess) (ringArrival : RingArrival), ∀ c ∈ [Instr.dictionaryWrite k l m n,
    .sdoTransfer sdoOp, .rpdoReceived k l, .nmtStop k, .nmtResetCommunication k, .systemClassAccess sysAccess, .ringPacket k l
    ringArrival, .domainWakeAnswer k, .dbgaccRead k, .dbgaccWrite k l], ∀ s t, exec c s = .next t → t.pending = s.pending ∧ t.part =
    s.part ∧ ∀ k ∈ [Component.therm, .memRetrained], k.agree s t) ∧
  (∀ (k l : Nat) (clockSource : ClockSource), ∀ c ∈ [Instr.nmtResetNode k, .diePllUnlock k l, .referenceLost, .pinReset,
    .watchdogExpiry, .requestedResetTaken, .clockFailure clockSource, .brownOutRecovery, .lifeCycleSysReset], ∀ s t, exec c s = .next t
    → t.pending = s.pending ∧ t.part = s.part ∧ ∀ k ∈ [Component.answer, .arrFlightCount, .memOnDie], k.agree s t) ∧
  (∀ s t, exec .firmwareStartComplete s = .next t → t.pending = s.pending ∧ t.part = s.part ∧ ∀ k ∈ [Component.answer, .mgmt,
    .mgmtClock, .therm, .tokens, .queueCounts, .laneOut, .loader, .free, .arrSyncMask, .arrUpperPowered, .arrFlightCount, .memOwned,
    .memRetrained], k.agree s t) ∧
  (∀ (k l m : Nat) (ob : Option Bool), ∀ c ∈ [Instr.nop k l, .eval k l, .send k l, .store k l, .probe k l, .sync k l, .wait k l m,
    .interconnectArrival k l m ob, .stagingSample, .segmentTokenCheck k, .crossingLatchLoad, .waitDecisionPoint k, .stallTimeout,
    .writeStallTimeout], ∀ s t, exec c s = .next t → t.pending = s.pending ∧ t.part = s.part ∧ ∀ k ∈ [Component.answer, .mgmt,
    .mgmtClock, .boot, .run, .rst, .therm, .time, .pulses, .image, .fixer, .bundles, .sched, .chan, .trace, .sec, .secDenials, .loader,
    .rings, .guest, .sheets, .lanes, .pins, .memOnDie, .memCache, .memMarch, .memOwned, .memRetrained], k.agree s t) ∧
  (∀ (k l m : Nat), ∀ s t, exec (.enq k l m) s = .next t → t.pending = s.pending ∧ t.part = s.part ∧ ∀ k ∈ [Component.answer, .mgmt,
    .mgmtClock, .boot, .run, .rst, .therm, .time, .pulses, .image, .fixer, .bundles, .sched, .chan, .sec, .secDenials, .loader, .rings,
    .guest, .sheets, .lanes, .pins, .memCache, .memMarch, .memOwned, .memRetrained], k.agree s t) ∧
  (∀ c ∈ [Instr.cycleBoundary, .cycleLimitReached], ∀ s t, exec c s = .next t → t.pending = s.pending ∧ t.part = s.part ∧ ∀ k ∈
    [Component.answer, .mgmt, .mgmtClock, .boot, .rst, .therm, .time, .image, .fixer, .sec, .secDenials, .loader, .rings, .guest,
    .sheets, .lanes, .pins, .memOnDie, .memCache, .memMarch, .memOwned, .memRetrained], k.agree s t) ∧
  (∀ (k : Nat), ∀ s t, exec (.stallResume k) s = .next t → t.pending = s.pending ∧ t.part = s.part ∧ ∀ k ∈ [Component.answer, .mgmt,
    .mgmtClock, .boot, .run, .rst, .therm, .time, .pulses, .image, .fixer, .bundles, .sched, .chan, .sec, .secDenials, .loader, .rings,
    .guest, .sheets, .lanes, .pins, .memOnDie, .memCache, .memMarch, .memOwned, .memRetrained], k.agree s t) ∧
  (∀ (k : Nat), ∀ c ∈ [Instr.run k, .step k], ∀ s t, exec c s = .next t → t.pending = s.pending ∧ t.part = s.part ∧ ∀ k ∈
    [Component.mgmt, .boot, .therm, .time, .image, .fixer, .bundles, .queueCounts, .laneOut, .sched, .chan, .sec, .loader, .sheets,
    .pins, .free, .memMarch, .memOwned, .memRetrained], k.agree s t) ∧
  (∀ s t, exec .runAtFire s = .next t → t.pending = s.pending ∧ t.part = s.part ∧ ∀ k ∈ [Component.answer, .mgmt, .mgmtClock, .boot,
    .rst, .therm, .time, .image, .tokens, .fixer, .bundles, .queueCounts, .laneOut, .sched, .chan, .sec, .loader, .guest, .sheets,
    .pins, .free, .memMarch, .memOwned, .memRetrained], k.agree s t) ∧
  (∀ s t, exec .domainStartEdge s = .next t → t.pending = s.pending ∧ t.part = s.part ∧ ∀ k ∈ [Component.answer, .mgmt, .mgmtClock,
    .can, .boot, .rst, .rstCommit, .therm, .time, .image, .tokens, .fixer, .bundles, .queueCounts, .laneOut, .sched, .chan, .sec,
    .secDenials, .loader, .rings, .guest, .sheets, .lanes, .pins, .free, .memOnDie, .memCache, .memMarch, .memOwned, .memRetrained],
    k.agree s t) ∧
  (∀ (k l : Nat), ∀ s t, exec (.hold k l) s = .next t → t.pending = s.pending ∧ t.part = s.part ∧ ∀ k ∈ [Component.mgmt, .boot, .therm,
    .time, .pulses, .image, .fixer, .bundles, .sched, .chan, .sec, .loader, .sheets, .lanes, .pins, .memMarch, .memOwned,
    .memRetrained], k.agree s t) ∧
  (∀ s t, exec .holdReport s = .next t → t.pending = s.pending ∧ t.part = s.part ∧ ∀ k ∈ [Component.answer, .mgmt, .mgmtClock, .can,
    .boot, .rst, .rstCommit, .therm, .image, .tokens, .fixer, .bundles, .queueCounts, .laneOut, .sched, .chan, .sec, .loader, .guest,
    .sheets, .lanes, .pins, .free, .memMarch, .memOwned, .memRetrained], k.agree s t) ∧
  (∀ (k : Nat), ∀ c ∈ [Instr.standby k, .dormant k], ∀ s t, exec c s = .next t → t.pending = s.pending ∧ t.part = s.part ∧ ∀ k ∈
    [Component.mgmt, .boot, .runStop, .therm, .bundles, .queueCounts, .notices, .laneOut, .loader, .free, .arrSyncMask,
    .arrUpperPowered, .arrFlightCount, .memMarch, .memOwned, .memRetrained], k.agree s t) ∧
  (∀ (k : Nat), ∀ s t, exec (.wake k) s = .next t → t.pending = s.pending ∧ t.part = s.part ∧ ∀ k ∈ [Component.mgmt, .boot, .runStop,
    .therm, .pulses, .notices, .laneOut, .sheets, .free, .memMarch, .memRetrained], k.agree s t) ∧
  (∀ s t, exec .roomResume s = .next t → t.pending = s.pending ∧ t.part = s.part ∧ ∀ k ∈ [Component.answer, .mgmt, .mgmtClock, .can,
    .boot, .rst, .rstCommit, .therm, .time, .image, .tokens, .fixer, .bundles, .queueCounts, .laneOut, .sched, .chan, .sec, .secDenials,
    .loader, .rings, .guest, .sheets, .pins, .free, .memOnDie, .memCache, .memMarch, .memOwned, .memRetrained], k.agree s t) ∧
  (∀ (k : Nat) (on : Option Nat), ∀ s t, exec (.restore k on) s = .next t → t.pending = s.pending ∧ t.part = s.part ∧ ∀ k ∈
    [Component.mgmt, .boot, .rst, .therm, .time, .pulses, .notices, .laneOut, .sec, .guest, .sheets, .free, .memMarch, .memRetrained],
    k.agree s t) ∧
  (∀ (k l m : Nat) (bs : List Byte) (memOp : MemOp), ∀ c ∈ [Instr.apertureWrite k l m bs, .wordCellRecordWrite k l m bs,
    .designMemoryWindowAccess k l m memOp], ∀ s t, exec c s = .next t → t.pending = s.pending ∧ t.part = s.part ∧ ∀ k ∈ [Component.mgmt,
    .can, .boot, .run, .runStop, .rst, .rstCommit, .therm, .time, .pulses, .image, .tokens, .fixer, .bundles, .queueCounts, .notices,
    .laneOut, .sched, .chan, .trace, .sec, .loader, .rings, .guest, .sheets, .lanes, .pins, .trig, .memBytes, .memMarch, .memOwned,
    .memRetrained], k.agree s t) ∧
  (∀ (marchResult : MarchResult), ∀ s t, exec (.marchComplete marchResult) s = .next t → t.pending = s.pending ∧ t.part = s.part ∧ ∀ k ∈
    [Component.answer, .mgmt, .mgmtClock, .can, .runStop, .rstCommit, .therm, .tokens, .bundles, .queueCounts, .notices, .laneOut,
    .loader, .free, .arrSyncMask, .arrUpperPowered, .arrFlightCount, .memOwned, .memRetrained], k.agree s t) ∧
  (∀ (on : Option Nat), ∀ s t, exec (.loadChecksComplete on) s = .next t → t.pending = s.pending ∧ t.part = s.part ∧ ∀ k ∈
    [Component.answer, .mgmt, .mgmtClock, .boot, .runStop, .therm, .time, .pulses, .notices, .laneOut, .sec, .guest, .sheets, .free,
    .memMarch, .memRetrained], k.agree s t) ∧
  (∀ (frameGroup : FrameGroup) (f : Bool), ∀ s t, exec (.fixerGroupCheck frameGroup f) s = .next t → t.pending = s.pending ∧ t.part =
    s.part ∧ ∀ k ∈ [Component.answer, .mgmt, .mgmtClock, .boot, .rst, .therm, .time, .pulses, .tokens, .bundles, .queueCounts, .laneOut,
    .sched, .chan, .trace, .rings, .guest, .sheets, .free, .memBytes, .memOnDie, .memCache, .memMarch, .memOwned, .memRetrained,
    .fabCells, .fabRelease, .fabParked, .fabTrackEdges, .fabProbes, .fabPorts], k.agree s t) ∧
  (∀ (k l m : Nat), ∀ s t, exec (.dieLaneLost k l m) s = .next t → t.pending = s.pending ∧ t.part = s.part ∧ ∀ k ∈ [Component.answer,
    .mgmt, .mgmtClock, .boot, .run, .rst, .therm, .time, .pulses, .image, .fixer, .sched, .chan, .trace, .sec, .secDenials, .loader,
    .rings, .guest, .sheets, .lanes, .pins, .memOnDie, .memCache, .memMarch, .memOwned, .memRetrained], k.agree s t) ∧
  (∀ (k : Nat) (fs : List Bool), ∀ c ∈ [Instr.pinInputChange k fs, .wakePinEdge k], ∀ s t, exec c s = .next t → t.pending = s.pending ∧
    t.part = s.part ∧ ∀ k ∈ [Component.mgmt, .boot, .therm, .pulses, .laneOut, .sheets, .free, .memMarch, .memRetrained], k.agree s t) ∧
  (∀ (k : Nat) (bufferFind : BufferFind), ∀ s t, exec (.domainLinkLost k bufferFind) s = .next t → t.pending = s.pending ∧ t.part =
    s.part ∧ ∀ k ∈ [Component.answer, .mgmt, .mgmtClock, .boot, .rst, .therm, .time, .pulses, .image, .fixer, .bundles, .sched, .chan,
    .trace, .sec, .secDenials, .loader, .rings, .guest, .sheets, .pins, .memOnDie, .memCache, .memMarch, .memOwned, .memRetrained],
    k.agree s t) ∧
  (∀ (k : Nat), ∀ s t, exec (.dbgaccResetRequest k) s = .next t → t.pending = s.pending ∧ t.part = s.part ∧ ∀ k ∈
    [Component.arrFlightCount, .memOnDie], k.agree s t) ∧
  (∀ (straps : Straps) (startEnvironment : StartEnvironment), ∀ c ∈ [Instr.powerOn straps startEnvironment, .alwaysOnLoss], ∀ s t, exec
    c s = .next t → t.pending = s.pending ∧ t.part = s.part ∧ ∀ k ∈ [Component.answer, .arrFlightCount], k.agree s t)
end

