-- ==== Sys2Proof/Laws/Sparse.lean ====
section
/-! SUPPORT. The laws of sparse arrays: writing keeps the canonical form, a read after a write to the same key gives the value
written, and a write leaves every other key alone. -/

namespace Sys2Proof.Machine.Sparse

variable {α : Type} [DecidableEq α] (d : Nat → α)

theorem wfFrom_cons (lo j : Nat) (v : α) (m : Sparse α) :
    wfFrom d lo ((j, v) :: m) = true ↔ lo ≤ j ∧ v ≠ d j ∧ wfFrom d (j + 1) m = true := by
  simp [wfFrom]

theorem wfFrom_mono {lo hi : Nat} (h : lo ≤ hi) (m : Sparse α) (hm : wfFrom d hi m = true) : wfFrom d lo m = true := by
  cases m with
  | nil => rfl
  | cons e m => obtain ⟨j, v⟩ := e; rw [wfFrom_cons] at hm ⊢; exact ⟨by omega, hm.2⟩

theorem put_wfFrom (m : Sparse α) (lo k : Nat) (v : α) (hk : lo ≤ k) (hv : v ≠ d k) (hm : wfFrom d lo m = true) :
    wfFrom d lo (put m k v) = true := by
  induction m generalizing lo with
  | nil => simp [put, wfFrom, hk, hv]
  | cons e m ih =>
    obtain ⟨j, w⟩ := e
    rw [wfFrom_cons] at hm
    unfold put
    split
    · subst_vars; rw [wfFrom_cons]; exact ⟨hk, hv, hm.2.2⟩
    · split
      · rw [wfFrom_cons, wfFrom_cons]; exact ⟨hk, hv, by omega, hm.2⟩
      · rw [wfFrom_cons]; exact ⟨hm.1, hm.2.1, ih _ (by omega) hm.2.2⟩

theorem erase_wfFrom (m : Sparse α) (lo k : Nat) (hm : wfFrom d lo m = true) : wfFrom d lo (erase m k) = true := by
  induction m generalizing lo with
  | nil => rfl
  | cons e m ih =>
    obtain ⟨j, w⟩ := e
    rw [wfFrom_cons] at hm
    unfold erase
    split
    · exact wfFrom_mono d (by omega) _ hm.2.2
    · split
      · rw [wfFrom_cons]; exact hm
      · rw [wfFrom_cons]; exact ⟨hm.1, hm.2.1, ih _ hm.2.2⟩

/-- A write keeps the canonical form. -/
theorem set_wf (m : Sparse α) (k : Nat) (v : α) (hm : wf d m = true) : wf d (set d m k v) = true := by
  unfold set
  split
  · exact erase_wfFrom d _ _ _ hm
  · exact put_wfFrom d _ _ _ _ (Nat.zero_le _) ‹_› hm

/-- Writing a run keeps the canonical form. -/
theorem setRun_wf (m : Sparse α) (k : Nat) (vs : List α) (hm : wf d m = true) : wf d (setRun d m k vs) = true := by
  induction vs generalizing m k with
  | nil => exact hm
  | cons v vs ih => exact ih _ _ (set_wf d m k v hm)

/-- Any list of pairs has a canonical form. -/
theorem canon_wf (m : List (Nat × α)) : wf d (canon d m) = true := by
  induction m with
  | nil => rfl
  | cons e m ih => obtain ⟨k, v⟩ := e; exact set_wf d _ k v ih

theorem filter_wfFrom (p : Nat × α → Bool) (m : Sparse α) (lo : Nat) (hm : wfFrom d lo m = true) :
    wfFrom d lo (m.filter p) = true := by
  induction m generalizing lo with
  | nil => rfl
  | cons e m ih =>
    obtain ⟨j, v⟩ := e
    rw [wfFrom_cons] at hm
    by_cases h : p (j, v) = true
    · rw [List.filter_cons_of_pos h, wfFrom_cons]; exact ⟨hm.1, hm.2.1, ih _ hm.2.2⟩
    · rw [List.filter_cons_of_neg h]; exact wfFrom_mono d (by omega) _ (ih _ hm.2.2)

theorem filter_wf (p : Nat × α → Bool) (m : Sparse α) (hm : wf d m = true) : wf d (m.filter p) = true := filter_wfFrom d p m 0 hm

/-- Dropping keys keeps the canonical form. -/
theorem keep_wf (p : Nat → Bool) (m : Sparse α) (hm : wf d m = true) : wf d (keep p m) = true :=
  filter_wfFrom d _ _ _ hm

omit [DecidableEq α] in
theorem get_put_same (m : Sparse α) (k : Nat) (v : α) : get d (put m k v) k = v := by
  induction m with
  | nil => simp [put, get]
  | cons e m ih =>
    obtain ⟨j, w⟩ := e
    unfold put
    split
    · simp [get]
    · split
      · simp [get]
      · simp [get, *]

omit [DecidableEq α] in
theorem get_put_ne (m : Sparse α) (k j : Nat) (v : α) (h : j ≠ k) : get d (put m k v) j = get d m j := by
  induction m with
  | nil => simp [put, get, h]
  | cons e m ih =>
    obtain ⟨i, w⟩ := e
    unfold put
    split
    · subst_vars; simp [get, h]
    · split
      · simp only [get, h, if_false]
        split
        · have : j ≠ i := by omega
          have : j < i := by omega
          simp [*]
        · rfl
      · simp only [get]; split
        · rfl
        · split
          · rfl
          · exact ih

theorem get_of_lt (m : Sparse α) (lo j : Nat) (hm : wfFrom d lo m = true) (h : j < lo) : get d m j = d j := by
  cases m with
  | nil => rfl
  | cons e m => obtain ⟨i, w⟩ := e; rw [wfFrom_cons] at hm; simp only [get]; rw [if_neg (by omega), if_pos (by omega)]

theorem get_erase_same (m : Sparse α) (lo k : Nat) (hm : wfFrom d lo m = true) : get d (erase m k) k = d k := by
  induction m generalizing lo with
  | nil => rfl
  | cons e m ih =>
    obtain ⟨i, w⟩ := e
    rw [wfFrom_cons] at hm
    unfold erase
    split
    · subst_vars; exact get_of_lt d m _ _ hm.2.2 (by omega)
    · split
      · simp [get, *]
      · simp only [get]; rw [if_neg (by omega), if_neg (by omega)]; exact ih _ hm.2.2

theorem get_erase_ne (m : Sparse α) (lo k j : Nat) (hm : wfFrom d lo m = true) (h : j ≠ k) : get d (erase m k) j = get d m j := by
  induction m generalizing lo with
  | nil => rfl
  | cons e m ih =>
    obtain ⟨i, w⟩ := e
    rw [wfFrom_cons] at hm
    unfold erase
    split
    · subst_vars
      simp only [get]
      rw [if_neg h]
      split
      · exact get_of_lt d m _ _ hm.2.2 (by omega)
      · rfl
    · split
      · rfl
      · simp only [get]
        split
        · rfl
        · split
          · rfl
          · exact ih _ hm.2.2

/-- A read after a write to the same key gives the value written. -/
theorem get_set_same (m : Sparse α) (k : Nat) (v : α) (hm : wf d m = true) : get d (set d m k v) k = v := by
  unfold set
  split
  · rename_i h; rw [h]; exact get_erase_same d m 0 k hm
  · exact get_put_same d m k v

/-- A write leaves every other key alone. -/
theorem get_set_ne (m : Sparse α) (k j : Nat) (v : α) (hm : wf d m = true) (h : j ≠ k) : get d (set d m k v) j = get d m j := by
  unfold set
  split
  · exact get_erase_ne d m 0 k j hm h
  · exact get_put_ne d m k j v h

/-- A run leaves every key outside it alone. -/
theorem get_setRun_out (m : Sparse α) (k j : Nat) (vs : List α) (hm : wf d m = true) (h : j < k ∨ k + vs.length ≤ j) :
    get d (setRun d m k vs) j = get d m j := by
  induction vs generalizing m k with
  | nil => rfl
  | cons v vs ih =>
    simp only [List.length_cons] at h
    unfold setRun
    rw [ih _ _ (set_wf d m k v hm) (by omega)]
    exact get_set_ne d m k j v hm (by omega)

/-- A run reads back as it was written. -/
theorem get_setRun_in (m : Sparse α) (k i : Nat) (vs : List α) (hm : wf d m = true) (h : i < vs.length) :
    get d (setRun d m k vs) (k + i) = vs[i] := by
  induction vs generalizing m k i with
  | nil => simp at h
  | cons v vs ih =>
    unfold setRun
    cases i with
    | zero =>
      rw [Nat.add_zero, get_setRun_out d _ _ _ _ (set_wf d m k v hm) (by omega)]
      exact get_set_same d m k v hm
    | succ i =>
      have := ih (set d m k v) (k + 1) i (set_wf d m k v hm) (by simpa using h)
      rw [show k + (i + 1) = k + 1 + i by omega]
      simpa using this

end Sys2Proof.Machine.Sparse
end

