-- ==== Sys2Proof/Laws/Kept.lean ====
section
/-! SUPPORT. What every operation keeps: the queue, the fixed facts of the part, every component of the state that is not in its mask,
the canonical form of memory and of the settings, and the sizes of the log. One lemma per operation, over the files Laws/Kept*.lean.
Their theorems are elaborated one after another (Elab.async false): many small proofs that wait for one another in parallel cost a
thread each. -/

set_option Elab.async false

namespace Sys2Proof.Machine

/-- The number of a component: masks are sets of components as numbers. -/
def Component.bit : Component → Nat
  | .answer => 0
  | .dict => 1
  | .mgmt => 2
  | .mgmtClock => 3
  | .can => 4
  | .boot => 5
  | .log => 6
  | .run => 7
  | .runStop => 8
  | .rst => 9
  | .rstCommit => 10
  | .therm => 11
  | .time => 12
  | .pulses => 13
  | .image => 14
  | .tokens => 15
  | .fixer => 16
  | .bundles => 17
  | .queueCounts => 18
  | .notices => 19
  | .laneOut => 20
  | .cores => 21
  | .sched => 22
  | .chan => 23
  | .trace => 24
  | .sec => 25
  | .secDenials => 26
  | .loader => 27
  | .rings => 28
  | .guest => 29
  | .sheets => 30
  | .lanes => 31
  | .pins => 32
  | .trig => 33
  | .host => 34
  | .free => 35
  | .arrNibs => 36
  | .arrWords => 37
  | .arrRouteWords => 38
  | .arrClusters => 39
  | .arrTiles => 40
  | .arrFlights => 41
  | .arrClaims => 42
  | .arrRoutes => 43
  | .arrSched => 44
  | .arrCyclog => 45
  | .arrQueues => 46
  | .arrRequests => 47
  | .arrSyncMask => 48
  | .arrVotes => 49
  | .arrUpperPowered => 50
  | .arrFlightCount => 51
  | .memBytes => 52
  | .memOnDie => 53
  | .memCache => 54
  | .memMarch => 55
  | .memOwned => 56
  | .memRetrained => 57
  | .fabClusterFrames => 58
  | .fabTileFrames => 59
  | .fabFclk => 60
  | .fabCells => 61
  | .fabRelease => 62
  | .fabParked => 63
  | .fabTrackEdges => 64
  | .fabProbes => 65
  | .fabEngines => 66
  | .fabPorts => 67
  | .fabDelays => 68

/-- The mask of a list of components. -/
def Component.mask (l : List Component) : Nat := l.foldl (fun m c => m ||| 2 ^ c.bit) 0

/-- What leads from `s` to `t` keeps the queue, the part and every component outside the mask, the canonical form of memory and of
the settings, and the bounds of the log. -/
structure Kept (m : Nat) (s t : State) : Prop where
  queue : t.pending = s.pending
  part : t.part = s.part
  mem : Memory.wf s.mem = true → Memory.wf t.mem = true
  log : s.log.bounded → t.log.bounded
  dict : Sparse.wf (defaultOf s.part.grade) s.dict = true → Sparse.wf (defaultOf t.part.grade) t.dict = true
  same : ∀ c : Component, m.testBit c.bit = true ∨ c.agree s t := by
    intro c; cases c <;> first | exact .inl rfl | with_reducible exact .inr rfl | exact .inr rfl

/-- A next state is kept so. -/
def OutKept (m : Nat) (s : State) : Host.Outcome State Fault Refusal → Prop
  | .next t => Kept m s t
  | .fault _ => True
  | .refused _ => True

/-- A channel operation that succeeds keeps the same. -/
def ChanKept (m : Nat) (s : State) : ChanResult → Prop
  | .inl _ => True
  | .inr (t, _) => Kept m s t

theorem Component.agree_rfl (s : State) (c : Component) : c.agree s s := by cases c <;> rfl

theorem Component.agree_trans {s t u : State} {c : Component} (h : c.agree s t) (k : c.agree t u) : c.agree s u := by
  cases c <;> exact k.trans h

theorem Kept.refl {m : Nat} (s : State) : Kept m s s := ⟨rfl, rfl, id, id, id, fun c => .inr (c.agree_rfl s)⟩

theorem Kept.trans {m : Nat} {s t u : State} (h : Kept m s t) (k : Kept m t u) : Kept m s u where
  queue := k.queue.trans h.queue
  part := k.part.trans h.part
  mem := k.mem ∘ h.mem
  log := k.log ∘ h.log
  dict := k.dict ∘ h.dict
  same c := (h.same c).elim .inl fun x => (k.same c).imp id (c.agree_trans x)

theorem Kept.ite {m : Nat} {s a b : State} {c : Prop} [Decidable c] (h : Kept m s a) (k : Kept m s b) :
    Kept m s (if c then a else b) := by
  split <;> assumption

theorem Kept.foldl {m : Nat} {α : Type} {s a : State} {f : State → α → State} {l : List α} (hf : ∀ x y, Kept m x (f x y))
    (h : Kept m s a) : Kept m s (l.foldl f a) := by
  induction l generalizing a with
  | nil => exact h
  | cons x xs ih => exact ih (h.trans (hf a x))

/-- A mask may grow: `a` within `b` is written `a ||| b = b`. -/
theorem maskLe {a b m : Nat} (hm : b ||| m = m) (h : a ||| b = b := by decide) : a ||| m = m := by
  rw [← hm, ← Nat.or_assoc, h]

theorem testBit_le {a m : Nat} (h : a ||| m = m) (i : Nat) (k : a.testBit i = true) : m.testBit i = true := by
  rw [← h, Nat.testBit_or, k, Bool.true_or]

theorem Kept.mono {a m : Nat} {s t : State} (h : Kept a s t) (hm : a ||| m = m) : Kept m s t :=
  { h with same := fun c => (h.same c).imp (testBit_le hm _) id }

theorem Kept.up {a m : Nat} {s t : State} (h : Kept a s t) (hm : a ||| m = m := by decide) : Kept m s t := h.mono hm

theorem Kept.up2 {a b m : Nat} {s t : State} (h : Kept a s t) (hm : b ||| m = m) (k : a ||| b = b := by decide) : Kept m s t :=
  h.mono (maskLe hm k)

theorem OutKept.up {a m : Nat} {s : State} {o : Host.Outcome State Fault Refusal} (h : OutKept a s o)
    (hm : a ||| m = m := by decide) : OutKept m s o := by
  cases o with
  | next t => exact Kept.mono h hm
  | fault _ => trivial
  | refused _ => trivial

theorem OutKept.up2 {a b m : Nat} {s : State} {o : Host.Outcome State Fault Refusal} (h : OutKept a s o) (hm : b ||| m = m)
    (k : a ||| b = b := by decide) : OutKept m s o := h.up (maskLe hm k)

theorem ChanKept.up {a m : Nat} {s : State} {o : ChanResult} (h : ChanKept a s o) (hm : a ||| m = m := by decide) : ChanKept m s o := by
  cases o with
  | inl _ => trivial
  | inr p => exact Kept.mono h hm

/-- A record update that leaves queue and part alone. -/
theorem Kept.upd {m : Nat} {t : State} {l : Log} {y : Memories} {d : List (Nat × Nat)} {x1 x4 x5 x6 x8 x9 x11 x12 x13 x14 x15 x16 x17 x18 x19 x20 x21 x22 x23 x24 x25 x26 x27 x28 x29 x30 x31 x32 x33 x34 x35 x36}
    (hl : t.log.bounded → l.bounded) (hm : Memory.wf t.mem = true → Memory.wf y = true)
    (hd : Sparse.wf (defaultOf t.part.grade) t.dict = true → Sparse.wf (defaultOf t.part.grade) d = true := by first | exact id | exact Sparse.filter_wf _ _ _ | exact fun _ => rfl)
    (hs : ∀ c : Component, m.testBit c.bit = true ∨ c.agree t (State.mk t.pending x1 t.part d x4 x5 x6 l x8 x9 y x11 x12 x13 x14 x15 x16 x17 x18 x19 x20 x21 x22 x23 x24 x25 x26 x27 x28 x29 x30 x31 x32 x33 x34 x35 x36) := by
      intro c; cases c <;> first | exact .inl rfl | with_reducible exact .inr rfl | exact .inr rfl) :
    Kept m t (State.mk t.pending x1 t.part d x4 x5 x6 l x8 x9 y x11 x12 x13 x14 x15 x16 x17 x18 x19 x20 x21 x22 x23 x24 x25 x26 x27 x28 x29 x30 x31 x32 x33 x34 x35 x36) :=
  ⟨rfl, rfl, hm, hl, hd, hs⟩

theorem appendCapped_length {α : Type} (cap : Nat) (h : 0 < cap) (l : List α) (x : α) (hl : l.length ≤ cap) :
    (appendCapped cap l x).1.length ≤ cap := by
  unfold appendCapped
  split <;> simp <;> omega

/-- The working log keeps its size (R44). -/
theorem Log.append_bounded (g : Log) (e : LogEntry) (h : g.bounded) : (g.append e).bounded :=
  ⟨appendCapped_length _ (by decide) _ _ h.1, h.2⟩

/-- The persistent log keeps its size (R45). -/
theorem Log.appendPersistent_bounded (g : Log) (e : LogEntry) (h : g.bounded) : (g.appendPersistent e).bounded :=
  ⟨h.1, appendCapped_length _ (by decide) _ _ h.2.1, h.2.2⟩

theorem Memory.wf_bytes {m : Memories} (h : Memory.wf m = true) : Sparse.wf zeroByte m.bytes = true := by
  unfold Memory.wf at h
  simp_all

theorem Memory.wf_onDie {m : Memories} (h : Memory.wf m = true) : Sparse.wf zeroByte m.onDie = true := by
  unfold Memory.wf at h
  simp_all

theorem Memory.wf_mk {b o : Sparse Byte} {c : List CacheLine} {m : March} {w : Option (List Nat)} {r : List Nat} (h : Sparse.wf zeroByte b = true)
    (k : Sparse.wf zeroByte o = true) : Memory.wf ⟨b, o, c, m, w, r⟩ = true := by
  simp [Memory.wf, h, k]

/-- The invariant survives. -/
theorem Kept.inv {m : Nat} {s t : State} (h : Kept m s t) (hs : s.Inv) : t.Inv := ⟨h.mem hs.1, h.log hs.2.1, h.dict hs.2.2⟩

/-- The frame in the terms of Safety. -/
theorem Kept.sameBut {m : Nat} {s t : State} (h : Kept m s t) (l : List Component) (hl : ∀ c : Component, m.testBit c.bit = true → c ∈ l) :
    State.sameBut l s t :=
  ⟨h.queue, h.part, fun c hc => (h.same c).resolve_left fun k => hc (hl c k)⟩

end Sys2Proof.Machine
end

