-- ==== Sys2Proof/Laws/KeptEntries.lean ====
section
/-! SUPPORT. What the operations of Machine/Entries.lean keep. -/

set_option Elab.async false

namespace Sys2Proof.Machine

theorem State.putEntry_kept (s : State) (key v : Nat) : Kept 0x2 s (s.putEntry key v) :=
  (Kept.mk rfl rfl id id (Sparse.set_wf _ _ _ _))

theorem State.bumpBy_kept (s : State) (key : Nat) (n : Nat) : Kept 0x2 s (State.bumpBy s key n) := by
  unfold State.bumpBy
  exact (State.putEntry_kept ..).up

theorem State.bump_kept (s : State) (key : Nat) : Kept 0x2 s (State.bump s key) := by
  unfold State.bump
  exact (State.putEntry_kept ..).up

end Sys2Proof.Machine
end

