-- ==== Sys2Proof/Laws/KeptLog.lean ====
section
/-! SUPPORT. What the operations of Machine/Log.lean keep. -/

set_option Elab.async false

namespace Sys2Proof.Machine

theorem State.endFaults_kept (s : State) (p : ActiveFault → Bool) : Kept 0x40 s (State.endFaults s p) := by
  unfold State.endFaults
  exact Kept.up (Kept.upd (m := 0x40) id id)

theorem State.endCodeClass_kept (s : State) (code : Nat) (cls : FaultClass) : Kept 0x40 s (State.endCodeClass s code cls) := by
  unfold State.endCodeClass
  exact (State.endFaults_kept ..).up

theorem State.send_kept (s : State) (f : CanFrame) : Kept 0x10 s (State.send s f) := by
  unfold State.send
  exact Kept.ite (Kept.up (Kept.upd (m := 0x10) id id)) (Kept.refl _)

theorem State.raiseLine_kept (s : State) (line : Nat) : Kept 0x400200000 s (State.raiseLine s line) := by
  unfold State.raiseLine
  exact Kept.up (Kept.upd (m := 0x400200000) id id)

theorem State.logSerious_kept (s : State) (code source arg : Nat) (row : FaultRow) : Kept 0x400200450 s (s.logSerious code source arg row) := by
  unfold State.logSerious
  refine Kept.trans (Kept.ite (c := s.can.nmt == .stopped) ?_ (Kept.trans ?_ ((State.send_kept ..).up))) ((State.raiseLine_kept ..).up) <;>
    exact (Kept.mk rfl rfl id (Log.appendPersistent_bounded _ _) id)

theorem State.logEvent_kept (s : State) (code source arg : Nat) (sev : Severity) : Kept 0x40 s (s.logEvent code source arg sev) :=
  (Kept.mk rfl rfl id (Log.append_bounded _ _) id)

theorem State.logRow_kept (s : State) (row : FaultRow) (source arg d1 d2 : Nat) : Kept 0x400200450 s (s.logRow row source arg d1 d2) := by
  unfold State.logRow
  have h0 := (State.logEvent_kept s row.code source arg row.severity).up (m := 0x400200450)
  generalize s.logEvent row.code source arg row.severity = t at h0
  have h : ∀ g : Log, (t.log.bounded → g.bounded) → Kept 0x400200450 s { t with log := g } := fun g hg => h0.trans (Kept.mk rfl rfl id hg id)
  refine Kept.ite (Kept.trans (h _ ?_) ((State.logSerious_kept ..).up)) (h _ ?_) <;>
    exact fun hb => by split <;> first | exact ⟨hb.1, hb.2.1, appendCapped_length _ (by decide) _ _ hb.2.2⟩ | exact hb

/-- A logging of severity information or warning touches the log only. -/
theorem State.logRow_quiet (s : State) (row : FaultRow) (source arg d1 d2 : Nat) (h : row.severity.serious = false) :
    Kept 0x40 s (s.logRow row source arg d1 d2) := by
  unfold State.logRow
  rw [h]
  have h0 := State.logEvent_kept s row.code source arg row.severity
  generalize s.logEvent row.code source arg row.severity = t at h0
  have h : ∀ g : Log, (t.log.bounded → g.bounded) → Kept 0x40 s { t with log := g } := fun g hg => h0.trans (Kept.mk rfl rfl id hg id)
  refine h _ fun hb => ?_
  split <;> first | exact ⟨hb.1, hb.2.1, appendCapped_length _ (by decide) _ _ hb.2.2⟩ | exact hb

/-- The recovery classes whose rows are all of severity information or warning. -/
def FaultClass.quiet (c : FaultClass) : Bool := c == .note || c == .refused || c == .self

theorem faultRow_quiet : ∀ r ∈ faultRows, r.cls.quiet = true → r.severity.serious = false := by decide +kernel

theorem State.logAs_quiet (s : State) (code : Nat) (cls : FaultClass) (source arg : Nat) (h : cls.quiet = true := by rfl) :
    Kept 0x40 s (s.logAs code cls source arg) := by
  unfold State.logAs
  split
  · rename_i r hr
    have hc := List.find?_some hr
    simp at hc
    exact State.logRow_quiet _ _ _ _ _ _ (faultRow_quiet r (List.mem_of_find?_eq_some hr) (by rw [hc.2, h]))
  · exact Kept.refl _

theorem State.logDetail_quiet (s : State) (code : Nat) (cls : FaultClass) (source arg d1 d2 : Nat) (h : cls.quiet = true := by rfl) :
    Kept 0x40 s (s.logDetail code cls source arg d1 d2) := by
  unfold State.logDetail
  split
  · rename_i r hr
    have hc := List.find?_some hr
    simp at hc
    exact State.logRow_quiet _ _ _ _ _ _ (faultRow_quiet r (List.mem_of_find?_eq_some hr) (by rw [hc.2, h]))
  · exact Kept.refl _

theorem State.log1_quiet (s : State) (code source arg : Nat) (h : (faultRowOf code).all (fun r => !r.severity.serious) = true := by decide) :
    Kept 0x40 s (s.log1 code source arg) := by
  unfold State.log1
  split
  · rename_i r hr
    simp only [hr, Option.all_some, Bool.not_eq_true'] at h
    exact State.logRow_quiet _ _ _ _ _ _ h
  · exact Kept.refl _

theorem State.log1_kept (s : State) (code : Nat) (source : Nat) (arg : Nat) : Kept 0x400200450 s (State.log1 s code source arg) := by
  unfold State.log1
  exact by (try dsimp only); split; exact ((State.logRow_kept ..).up); exact (Kept.refl _)

theorem State.logAs_kept (s : State) (code : Nat) (cls : FaultClass) (source : Nat) (arg : Nat) : Kept 0x400200450 s (State.logAs s code cls source arg) := by
  unfold State.logAs
  exact by (try dsimp only); split; exact ((State.logRow_kept ..).up); exact (Kept.refl _)

theorem State.endCode_kept (s : State) (code : Nat) : Kept 0x40 s (State.endCode s code) := by
  unfold State.endCode
  exact (State.endFaults_kept ..).up

theorem State.logDetail_kept (s : State) (code : Nat) (cls : FaultClass) (source : Nat) (arg : Nat) (x5 : Nat) (x6 : Nat) : Kept 0x400200450 s (State.logDetail s code cls source arg x5 x6) := by
  unfold State.logDetail
  exact by (try dsimp only); split; exact ((State.logRow_kept ..).up); exact (Kept.refl _)

end Sys2Proof.Machine
end

