-- ==== Sys2Proof/Laws/KeptOps.lean ====
section
/-! SUPPORT. What the operations of Machine/Ops.lean keep. -/

set_option Elab.async false

namespace Sys2Proof.Machine

theorem State.writeOnDie_kept (s : State) (die off : Nat) (bs : List Byte) : Kept 0x20000000000000 s (s.writeOnDie die off bs) := by
  unfold State.writeOnDie
  exact (Kept.mk rfl rfl (fun h => Memory.wf_mk (Memory.wf_bytes h) (Sparse.setRun_wf _ _ _ _ (Memory.wf_onDie h))) id id)

theorem State.joinStop_kept (s : State) (b : Nat) (fault : Nat) : Kept 0x100 s (State.joinStop s b fault) := by
  unfold State.joinStop
  exact Kept.up (Kept.upd (m := 0x100) id id)

theorem State.writeBytes_kept (s : State) (addr : Nat) (bs : List Byte) : Kept 0x10000000000000 s (s.writeBytes addr bs) := by
  unfold State.writeBytes
  exact (Kept.mk rfl rfl (fun h => Memory.wf_mk (Sparse.setRun_wf _ _ _ _ (Memory.wf_bytes h)) (Memory.wf_onDie h)) id id)

theorem State.wakeClock_kept (s : State) : Kept 0x8 s (State.wakeClock s) := by
  unfold State.wakeClock
  exact Kept.up (Kept.upd (m := 0x8) id id)

theorem State.forgetBytes_kept (s : State) (lo hi : Nat) : Kept 0x10000000000000 s (s.forgetBytes lo hi) := by
  unfold State.forgetBytes
  exact (Kept.mk rfl rfl (fun h => Memory.wf_mk (Sparse.keep_wf _ _ _ (Memory.wf_bytes h)) (Memory.wf_onDie h)) id id)

theorem State.withSched_kept (s : State) (f : Sched → Sched) : Kept 0x100000000000 s (State.withSched s f) := by
  unfold State.withSched
  exact Kept.up (Kept.upd (m := 0x100000000000) id id)

theorem State.raiseStopAt_kept (s : State) (b : Nat) (n : Nat) (st : Nat) (die : Nat) (fault : Nat) : Kept 0x100000080100 s (State.raiseStopAt s b n st die fault) := by
  unfold State.raiseStopAt
  exact by (try dsimp only); split; exact (Kept.trans (by exact Kept.ite (Kept.up (Kept.upd (m := 0x80000) id id)) (Kept.refl _)) ((State.withSched_kept ..).up)); exact (Kept.ite (Kept.trans (by exact Kept.ite (Kept.up (Kept.upd (m := 0x80000) id id)) (Kept.refl _)) ((State.joinStop_kept ..).up)) (Kept.trans (by exact Kept.trans (by exact Kept.ite (Kept.up (Kept.upd (m := 0x80000) id id)) (Kept.refl _)) ((State.joinStop_kept ..).up)) ((State.withSched_kept ..).up))); exact (Kept.ite (Kept.trans (by exact Kept.ite (Kept.up (Kept.upd (m := 0x80000) id id)) (Kept.refl _)) ((State.joinStop_kept ..).up)) (Kept.trans (by exact Kept.trans (by exact Kept.ite (Kept.up (Kept.upd (m := 0x80000) id id)) (Kept.refl _)) ((State.joinStop_kept ..).up)) ((State.withSched_kept ..).up))); exact (Kept.trans (by exact Kept.ite (Kept.up (Kept.upd (m := 0x80000) id id)) (Kept.refl _)) ((State.joinStop_kept ..).up)); exact (Kept.ite (Kept.up (Kept.upd (m := 0x80000) id id)) (Kept.refl _))

theorem State.raiseStop_kept (s : State) (b : Nat) (die : Nat) (fault : Nat) : Kept 0x100000080100 s (State.raiseStop s b die fault) := by
  unfold State.raiseStop
  exact (State.raiseStopAt_kept ..).up

theorem State.raiseRoom_kept (s : State) (b : Nat) (src : Nat) : Kept 0x100000080100 s (State.raiseRoom s b src) := by
  unfold State.raiseRoom
  exact Kept.ite (Kept.refl _) (Kept.trans (by exact (State.withSched_kept ..).up) ((State.raiseStop_kept ..).up))

theorem State.reply_kept (s : State) (a : Answer) : Kept 0x9 s (State.reply s a) := by
  unfold State.reply
  exact Kept.trans (by exact (State.wakeClock_kept ..).up) (Kept.up (Kept.upd (m := 0x1) id id))

theorem State.accept_kept (s : State) : Kept 0x9 s (State.accept s) := by
  unfold State.accept
  exact (State.reply_kept ..).up

theorem State.clearRoom_kept (s : State) (b : Nat) (src : Nat) : Kept 0x100000000000 s (State.clearRoom s b src) := by
  unfold State.clearRoom
  exact (State.withSched_kept ..).up

theorem State.wakeDdr_kept (s : State) : Kept 0x10000000 s (State.wakeDdr s) := by
  unfold State.wakeDdr
  exact Kept.up (Kept.upd (m := 0x10000000) id id)

theorem State.refuseArg_kept (s : State) (req : Nat) (code : Nat) (arg : Nat) : Kept 0x49 s (State.refuseArg s req code arg) := by
  unfold State.refuseArg
  exact Kept.trans (by exact (State.logAs_quiet ..).up) ((State.reply_kept ..).up)

theorem State.refuse_kept (s : State) (req : Nat) (key : Nat) (code : Nat) : Kept 0x49 s (State.refuse s req key code) := by
  unfold State.refuse
  exact (State.refuseArg_kept ..).up

end Sys2Proof.Machine
end

