-- ==== Sys2Proof/Laws/KeptAccess.lean ====
section
/-! SUPPORT. What the operations of Machine/Access.lean keep. -/

set_option Elab.async false

namespace Sys2Proof.Machine

theorem State.countDenied_kept (s : State) (req : Nat) : Kept 0x2 s (State.countDenied s req) := by
  unfold State.countDenied
  exact Kept.ite ((State.bump_kept ..).up) (Kept.refl _)

theorem State.noteDenied_kept (s : State) (req : Nat) : Kept 0x4000000 s (State.noteDenied s req) := by
  unfold State.noteDenied
  exact Kept.up (Kept.upd (m := 0x4000000) id id)

theorem State.denied_kept (s : State) (req : Nat) (addr : Nat) (write : Bool) : Kept 0x400004b s (State.denied s req addr write) := by
  unfold State.denied
  exact Kept.trans (by exact Kept.ite ((State.countDenied_kept ..).up) (Kept.trans (by exact Kept.trans (by exact (State.countDenied_kept ..).up) ((State.logDetail_quiet ..).up)) ((State.noteDenied_kept ..).up))) ((State.reply_kept ..).up)

theorem State.reaching_kept {m : Nat} (s : State) (req : Nat) (key : Nat) (write : Bool) (k : State → State) (hm : 0x400004b ||| m = m := by decide) (hk : ∀ a0, Kept m a0 (k a0)) : Kept m s (State.reaching s req key write k) := by
  unfold State.reaching
  exact Kept.ite (Kept.refl _) (Kept.ite ((State.reply_kept ..).up2 hm) (Kept.ite ((State.denied_kept ..).up2 hm) (hk ..)))

theorem State.holdWrite_kept (s : State) (req : Nat) (key : Nat) (v : Nat) : Kept 0x19 s (State.holdWrite s req key v) := by
  unfold State.holdWrite
  exact Kept.trans (by exact Kept.up (Kept.upd (m := 0x10) id id)) ((State.reply_kept ..).up)

theorem State.noteLevel_kept (s : State) (req : Nat) : Kept 0x4000000 s (State.noteLevel s req) := by
  unfold State.noteLevel
  exact Kept.up (Kept.upd (m := 0x4000000) id id)

theorem State.levelRefused_kept (s : State) (req : Nat) : Kept 0x400004b s (State.levelRefused s req) := by
  unfold State.levelRefused
  exact Kept.trans (by exact Kept.ite ((State.countDenied_kept ..).up) (Kept.trans (by exact Kept.trans (by exact (State.countDenied_kept ..).up) ((State.logAs_quiet ..).up)) ((State.noteLevel_kept ..).up))) ((State.reply_kept ..).up)

theorem State.atLevel_kept {m : Nat} (s : State) (req : Nat) (n : Nat) (k : State → State) (hm : 0x400004b ||| m = m := by decide) (hk : ∀ a0, Kept m a0 (k a0)) : Kept m s (State.atLevel s req n k) := by
  unfold State.atLevel
  exact Kept.ite ((State.levelRefused_kept ..).up2 hm) (hk ..)

theorem State.inModes_kept {m : Nat} (s : State) (req : Nat) (key : Nat) (ms : List Mode) (k : State → State) (hm : 0x49 ||| m = m := by decide) (hk : ∀ a0, Kept m a0 (k a0)) : Kept m s (State.inModes s req key ms k) := by
  unfold State.inModes
  exact Kept.ite (hk ..) ((State.refuse_kept ..).up2 hm)

theorem State.writing_kept {m : Nat} (s : State) (req : Nat) (key : Nat) (v : Nat) (k : State → State) (hm : 0x400005b ||| m = m := by decide) (hk : ∀ a0, Kept m a0 (k a0)) : Kept m s (State.writing s req key v k) := by
  unfold State.writing
  exact State.reaching_kept (hm := maskLe hm) (hk := fun _ => Kept.ite ((State.holdWrite_kept ..).up2 hm) (State.atLevel_kept (hm := maskLe hm) (hk := fun _ => State.inModes_kept (hm := maskLe hm) (hk := fun _ => by (try dsimp only); split; exact ((State.refuse_kept ..).up2 hm); exact (Kept.ite ((State.refuse_kept ..).up2 hm) (State.inModes_kept (hm := maskLe hm) (hk := fun _ => hk ..) ..))) ..) ..)) ..

theorem State.writingValue_kept {m : Nat} (s : State) (req : Nat) (key : Nat) (v : Nat) (k : Nat → State → State) (hm : 0x400005b ||| m = m := by decide) (hk : ∀ a0 a1, Kept m a1 (k a0 a1)) : Kept m s (State.writingValue s req key v k) := by
  unfold State.writingValue
  exact State.writing_kept (hm := maskLe hm) (hk := fun _ => by (try dsimp only); split; exact (Kept.refl _); exact (Kept.ite (hk ..) ((State.refuse_kept ..).up2 hm))) ..

theorem State.reading_kept {m : Nat} (s : State) (req : Nat) (key : Nat) (k : State → State) (hm : 0x400004b ||| m = m := by decide) (hk : ∀ a0, Kept m a0 (k a0)) : Kept m s (State.reading s req key k) := by
  unfold State.reading
  exact State.reaching_kept (hm := maskLe hm) (hk := fun _ => State.atLevel_kept (hm := maskLe hm) (hk := fun _ => Kept.ite (hk ..) (Kept.trans (by exact (State.logAs_quiet ..).up2 hm) ((State.reply_kept ..).up2 hm))) ..) ..

end Sys2Proof.Machine
end

