-- ==== Sys2Proof/Laws/KeptTrace.lean ====
section
/-! SUPPORT. What the operations of Machine/Trace.lean keep. -/

set_option Elab.async false

namespace Sys2Proof.Machine

theorem State.withCore_kept (s : State) (c : Nat) (f : Core → Core) : Kept 0x200000 s (State.withCore s c f) := by
  unfold State.withCore
  exact Kept.up (Kept.upd (m := 0x200000) id id)

theorem State.traceCount_kept (s : State) (key : Nat) (n : Nat) : Kept 0x42 s (State.traceCount s key n) := by
  unfold State.traceCount
  exact Kept.ite (Kept.refl _) (Kept.ite (Kept.trans (by exact Kept.trans (by exact (State.bumpBy_kept ..).up) ((State.putEntry_kept ..).up)) ((State.log1_quiet ..).up)) ((State.bumpBy_kept ..).up))

theorem State.withFifo_kept (s : State) (src : Nat) (l : List TraceRec) : Kept 0x1000000 s (State.withFifo s src l) := by
  unfold State.withFifo
  exact Kept.up (Kept.upd (m := 0x1000000) id id)

theorem State.enterFifo_kept (s : State) (src : Nat) (kind : Nat) (payload : Nat) : Kept 0x1000000 s (State.enterFifo s src kind payload) := by
  unfold State.enterFifo
  exact Kept.trans (by exact Kept.up (Kept.upd (m := 0x1000000) id id)) ((State.withFifo_kept ..).up)

theorem State.dropRecord_kept (s : State) (src : Nat) : Kept 0x1000042 s (State.dropRecord s src) := by
  unfold State.dropRecord
  exact Kept.ite (Kept.trans (by exact Kept.trans (by exact (State.traceCount_kept ..).up) ((State.traceCount_kept ..).up)) (Kept.up (Kept.upd (m := 0x1000000) id id))) (Kept.trans (by exact Kept.trans (by exact Kept.trans (by exact Kept.trans (by exact (State.traceCount_kept ..).up) ((State.traceCount_kept ..).up)) (Kept.up (Kept.upd (m := 0x1000000) id id))) (Kept.up (Kept.upd (m := 0x1000000) id id))) ((State.log1_quiet ..).up))

theorem State.offerNow_kept (s : State) (src : Nat) (kind : Nat) (payload : Nat) : Kept 0x1000042 s (State.offerNow s src kind payload) := by
  unfold State.offerNow
  exact Kept.ite (Kept.trans (by exact (State.traceCount_kept ..).up) ((State.enterFifo_kept ..).up)) (Kept.trans (by exact (State.traceCount_kept ..).up) ((State.dropRecord_kept ..).up))

theorem State.offer_kept (s : State) (src : Nat) (kind : Nat) (payload : Nat) : Kept 0x1000042 s (State.offer s src kind payload) := by
  unfold State.offer
  exact Kept.ite ((State.offerNow_kept ..).up) (Kept.refl _)

theorem State.wakeCore_kept (s : State) (c : Nat) : Kept 0x1200042 s (State.wakeCore s c) := by
  unfold State.wakeCore
  exact by (try dsimp only); split; exact (Kept.refl _); exact (Kept.ite (Kept.trans (by exact Kept.trans (by exact (State.withCore_kept ..).up) ((State.offer_kept ..).up)) ((State.offer_kept ..).up)) (Kept.refl _))

theorem State.offerPiece_kept (s : State) (c : Nat) (addr : Nat) (logSize : Nat) (atomic : Bool) (store : Bool) (value : Nat) : Kept 0x1000042 s (State.offerPiece s c addr logSize atomic store value) := by
  unfold State.offerPiece
  exact (State.offer_kept ..).up

theorem State.offerData_kept (s : State) (c : Nat) (addr : Nat) (logSize : Nat) (atomic : Bool) (store : Bool) (value : Nat) : Kept 0x1000042 s (State.offerData s c addr logSize atomic store value) := by
  unfold State.offerData
  exact Kept.ite (Kept.refl _) (Kept.ite ((State.offerPiece_kept ..).up) (Kept.foldl (fun _ _ => (State.offerPiece_kept ..).up) (Kept.refl _)))

theorem State.offerAlways_kept (s : State) (src : Nat) (kind : Nat) (payload : Nat) : Kept 0x1000042 s (State.offerAlways s src kind payload) := by
  unfold State.offerAlways
  exact Kept.ite (Kept.refl _) ((State.offerNow_kept ..).up)

theorem State.forgetDrops_kept (s : State) : Kept 0x1000000 s (State.forgetDrops s) := by
  unfold State.forgetDrops
  exact Kept.up (Kept.upd (m := 0x1000000) id id)

theorem State.clearTraceCounters_kept (s : State) : Kept 0x1000002 s (State.clearTraceCounters s) := by
  unfold State.clearTraceCounters
  exact Kept.trans (by exact Kept.foldl (fun _ _ => (State.putEntry_kept ..).up) (Kept.foldl (fun _ _ => Kept.trans (by exact (State.putEntry_kept ..).up) ((State.putEntry_kept ..).up)) (Kept.foldl (fun _ _ => (State.putEntry_kept ..).up) (Kept.refl _)))) ((State.forgetDrops_kept ..).up)

theorem State.forgetFlow_kept (s : State) : Kept 0x1000000 s (State.forgetFlow s) := by
  unfold State.forgetFlow
  exact Kept.up (Kept.upd (m := 0x1000000) id id)

theorem State.storeRecord_kept (s : State) (r : TraceRec) : Kept 0x10000000000000 s (State.storeRecord s r) := by
  unfold State.storeRecord
  exact (State.writeBytes_kept ..).up

theorem State.advanceBlotter_kept (s : State) (full : Bool) : Kept 0x1000000 s (State.advanceBlotter s full) := by
  unfold State.advanceBlotter
  exact Kept.up (Kept.upd (m := 0x1000000) id id)

theorem State.countIn_kept (s : State) (code : Nat) (unit : Nat) (n : Nat) (k : Nat) : Kept 0x400200002 s (State.countIn s code unit n k) := by
  unfold State.countIn
  exact Kept.ite (Kept.ite ((State.putEntry_kept ..).up) (Kept.ite (Kept.trans (by exact Kept.trans (by exact (State.putEntry_kept ..).up) ((State.putEntry_kept ..).up)) ((State.raiseLine_kept ..).up)) (Kept.trans (by exact (State.putEntry_kept ..).up) ((State.putEntry_kept ..).up)))) (Kept.refl _)

theorem State.countEvent_kept (s : State) (code : Nat) (unit : Nat) (n : Nat) : Kept 0x400200002 s (State.countEvent s code unit n) := by
  unfold State.countEvent
  exact Kept.ite (Kept.refl _) (Kept.foldl (fun _ _ => (State.countIn_kept ..).up) (Kept.refl _))

theorem State.thresholdLine_kept (s : State) (u : Nat) : Kept 0x400200000 s (State.thresholdLine s u) := by
  unfold State.thresholdLine
  exact Kept.ite ((State.raiseLine_kept ..).up) (Kept.refl _)

theorem State.blotterTake_kept (s : State) (r : TraceRec) : Kept 0x10000401200042 s (State.blotterTake s r) := by
  unfold State.blotterTake
  exact Kept.trans (by exact Kept.trans (by exact Kept.trans (by exact Kept.trans (by exact Kept.trans (by exact (State.storeRecord_kept ..).up) ((State.traceCount_kept ..).up)) ((State.advanceBlotter_kept ..).up)) ((State.traceCount_kept ..).up)) ((State.countEvent_kept ..).up)) ((State.thresholdLine_kept ..).up)

theorem State.sync_kept (s : State) : Kept 0x10000401200042 s (State.sync s) := by
  unfold State.sync
  exact Kept.ite (Kept.refl _) (Kept.ite (Kept.trans (by exact (State.traceCount_kept ..).up) ((State.blotterTake_kept ..).up)) (Kept.trans (by exact (State.traceCount_kept ..).up) ((State.traceCount_kept ..).up)))

theorem State.takeFrom_kept (s : State) (src : Nat) : Kept 0x10000401200042 s (State.takeFrom s src) := by
  unfold State.takeFrom
  exact by (try dsimp only); split; exact (Kept.refl _); exact (Kept.trans (by exact Kept.trans (by exact (State.withFifo_kept ..).up) (Kept.up (Kept.upd (m := 0x1000000) id id))) ((State.blotterTake_kept ..).up))

theorem State.funnel_kept (s : State) : Kept 0x10000401200042 s (State.funnel s) := by
  unfold State.funnel
  exact Kept.ite (Kept.refl _) (by (try dsimp only); split; exact ((State.takeFrom_kept ..).up); exact (by (try dsimp only); split; exact ((State.takeFrom_kept ..).up); exact (Kept.refl _)))

theorem State.flushTrace_kept (s : State) : Kept 0x10000401200042 s (State.flushTrace s) := by
  unfold State.flushTrace
  exact Kept.foldl (fun _ _ => Kept.trans (by exact Kept.foldl (fun _ _ => (State.dropRecord_kept ..).up) (Kept.refl _)) ((State.withFifo_kept ..).up)) (Kept.foldl (fun _ _ => (State.funnel_kept ..).up) (Kept.refl _))

theorem execTraceEnableWrite_kept (req : Nat) (value : Nat) (s : State) : OutKept 0x1000040520005b s (execTraceEnableWrite req value s) := by
  unfold execTraceEnableWrite
  exact State.writingValue_kept (hk := fun _ _ => Kept.ite ((State.accept_kept ..).up) (Kept.ite (Kept.trans (by exact Kept.trans (by exact Kept.trans (by exact Kept.trans (by exact (State.accept_kept ..).up) ((State.clearTraceCounters_kept ..).up)) ((State.forgetFlow_kept ..).up)) ((State.putEntry_kept ..).up)) ((State.sync_kept ..).up)) (Kept.trans (by exact Kept.trans (by exact (State.accept_kept ..).up) ((State.flushTrace_kept ..).up)) ((State.putEntry_kept ..).up)))) ..

theorem State.setPf_kept (s : State) (c : Nat) (p : PfState) : Kept 0x1000000 s (State.setPf s c p) := by
  unfold State.setPf
  exact Kept.up (Kept.upd (m := 0x1000000) id id)

theorem State.flushRepeat_kept (s : State) (c : Nat) : Kept 0x1000042 s (State.flushRepeat s c) := by
  unfold State.flushRepeat
  exact by (try dsimp only); split; exact (Kept.ite (Kept.trans (by exact (State.offer_kept ..).up) ((State.setPf_kept ..).up)) (Kept.refl _)); exact (Kept.refl _)

theorem State.offerBranches_kept (s : State) (c : Nat) (addr : Nat) (count : Nat) (history : Nat) : Kept 0x1000042 s (State.offerBranches s c addr count history) := by
  unfold State.offerBranches
  exact Kept.ite (Kept.ite (Kept.trans (by exact (State.setPf_kept ..).up) ((State.flushRepeat_kept ..).up)) ((State.setPf_kept ..).up)) (Kept.trans (by exact Kept.trans (by exact (State.flushRepeat_kept ..).up) ((State.offer_kept ..).up)) ((State.setPf_kept ..).up))

theorem State.flushBranches_kept (s : State) (c : Nat) : Kept 0x1000042 s (State.flushBranches s c) := by
  unfold State.flushBranches
  exact Kept.ite (Kept.refl _) (Kept.trans (by exact (State.setPf_kept ..).up) ((State.offerBranches_kept ..).up))

theorem State.flushFlow_kept (s : State) (c : Nat) : Kept 0x1000042 s (State.flushFlow s c) := by
  unfold State.flushFlow
  exact Kept.trans (by exact (State.flushBranches_kept ..).up) ((State.flushRepeat_kept ..).up)

theorem State.sleepCore_kept (s : State) (c : Nat) : Kept 0x1200042 s (State.sleepCore s c) := by
  unfold State.sleepCore
  exact by (try dsimp only); split; exact (Kept.refl _); exact (Kept.ite (Kept.refl _) (Kept.trans (by exact Kept.trans (by exact Kept.trans (by exact Kept.trans (by exact (State.flushFlow_kept ..).up) ((State.offer_kept ..).up)) ((State.offer_kept ..).up)) ((State.bump_kept ..).up)) ((State.withCore_kept ..).up)))

theorem execCoreSleep_kept (core : Nat) (s : State) : OutKept 0x1200042 s (execCoreSleep core s) := by
  unfold execCoreSleep
  exact by (try dsimp only); split; exact (Kept.refl _); exact (Kept.trans (by exact (State.withCore_kept ..).up) ((State.sleepCore_kept ..).up)); exact ((State.sleepCore_kept ..).up); exact (Kept.refl _)

theorem execModuleCounterWrap_kept (counter : Nat) (s : State) : OutKept 0x400200002 s (execModuleCounterWrap counter s) := by
  unfold execModuleCounterWrap
  exact Kept.ite (Kept.ite (Kept.trans (by exact Kept.trans (by exact (State.putEntry_kept ..).up) ((State.putEntry_kept ..).up)) ((State.raiseLine_kept ..).up)) (Kept.trans (by exact (State.putEntry_kept ..).up) ((State.putEntry_kept ..).up))) (Kept.refl _)

theorem execCoreCounterOverflow_kept (core : Nat) (counter : Nat) (retired : RetiredInstr) (s : State) : OutKept 0x401200042 s (execCoreCounterOverflow core counter retired s) := by
  unfold execCoreCounterOverflow
  exact Kept.ite (Kept.ite (Kept.trans (by exact Kept.trans (by exact Kept.ite (Kept.trans (by exact Kept.trans (by exact (State.withCore_kept ..).up) ((State.putEntry_kept ..).up)) ((State.raiseLine_kept ..).up)) (Kept.trans (by exact (State.withCore_kept ..).up) ((State.putEntry_kept ..).up))) ((State.flushFlow_kept ..).up)) ((State.offerAlways_kept ..).up)) (Kept.ite (Kept.trans (by exact Kept.trans (by exact (State.withCore_kept ..).up) ((State.putEntry_kept ..).up)) ((State.raiseLine_kept ..).up)) (Kept.trans (by exact (State.withCore_kept ..).up) ((State.putEntry_kept ..).up)))) (Kept.refl _)

theorem State.offerFlow_kept (s : State) (c : Nat) (priv : Nat) (kind : Nat) (payload : Nat) : Kept 0x1000042 s (State.offerFlow s c priv kind payload) := by
  unfold State.offerFlow
  exact Kept.ite (Kept.trans (by exact (State.flushFlow_kept ..).up) ((State.offer_kept ..).up)) (Kept.refl _)

theorem State.offerContext_kept (s : State) (c : Nat) (priv : Nat) : Kept 0x1000042 s (State.offerContext s c priv) := by
  unfold State.offerContext
  exact by (try dsimp only); split; exact (Kept.refl _); exact ((State.offerFlow_kept ..).up)

theorem State.setMode_kept (s : State) (m : Mode) : Kept 0x100004152000c2 s (State.setMode s m) := by
  unfold State.setMode
  exact Kept.ite (Kept.refl _) (Kept.trans (by exact Kept.trans (by exact Kept.trans (by exact Kept.ite (Kept.trans (by exact Kept.up (Kept.upd (m := 0x4000080) id id)) (Kept.up (Kept.upd (m := 0x10000000) id id))) (Kept.up (Kept.upd (m := 0x4000080) id id))) ((State.logEvent_kept ..).up)) ((State.raiseLine_kept ..).up)) ((State.sync_kept ..).up))

theorem execSyncRecordPeriod_kept (s : State) : OutKept 0x10000401200042 s (execSyncRecordPeriod s) := by
  unfold execSyncRecordPeriod
  exact (State.sync_kept ..).up

theorem State.csrWrite_kept (s : State) (c : Nat) (w : CsrWrite) : Kept 0x1200042 s (State.csrWrite s c w) := by
  unfold State.csrWrite
  exact Kept.ite (Kept.trans (by exact (State.withCore_kept ..).up) ((State.offerContext_kept ..).up)) ((State.withCore_kept ..).up)

theorem execBlotterReadPointerWrite_kept (req : Nat) (value : Nat) (s : State) : OutKept 0x500005b s (execBlotterReadPointerWrite req value s) := by
  unfold execBlotterReadPointerWrite
  exact State.writing_kept (hk := fun _ => Kept.ite (Kept.trans (by exact Kept.trans (by exact Kept.up (Kept.upd (m := 0x1000000) id id)) ((State.traceCount_kept ..).up)) ((State.accept_kept ..).up)) ((State.refuse_kept ..).up)) ..

theorem State.collectBranch_kept (s : State) (c : Nat) (first : Nat) (taken : Bool) : Kept 0x1000042 s (State.collectBranch s c first taken) := by
  unfold State.collectBranch
  exact Kept.ite (Kept.trans (by exact (State.setPf_kept ..).up) ((State.flushBranches_kept ..).up)) ((State.setPf_kept ..).up)

theorem execCoreWake_kept (core : Nat) (s : State) : OutKept 0x1200042 s (execCoreWake core s) := by
  unfold execCoreWake
  exact by (try dsimp only); split; exact (Kept.trans (by exact (State.wakeCore_kept ..).up) ((State.withCore_kept ..).up)); exact ((State.wakeCore_kept ..).up); exact (Kept.refl _)

theorem execTraceRecordOffer_kept (source : Nat) (record : TraceEvent) (s : State) : OutKept 0x1000042 s (execTraceRecordOffer source record s) := by
  unfold execTraceRecordOffer
  exact Kept.ite (Kept.refl _) (by (try dsimp only); split; exact (Kept.ite ((State.collectBranch_kept ..).up) (Kept.refl _)); exact (Kept.ite ((State.offerFlow_kept ..).up) (Kept.refl _)); exact (Kept.ite ((State.offerFlow_kept ..).up) (Kept.refl _)); exact (Kept.ite ((State.offerData_kept ..).up) (Kept.refl _)); exact (Kept.ite ((State.offerData_kept ..).up) (Kept.refl _)); exact (Kept.ite (Kept.trans (by exact (State.offerData_kept ..).up) ((State.offerData_kept ..).up)) (Kept.refl _)))

end Sys2Proof.Machine
end

