-- ==== Sys2Proof/Laws/KeptScheduler.lean ====
section
/-! SUPPORT. What the operations of Machine/Scheduler.lean keep. -/

set_option Elab.async false

namespace Sys2Proof.Machine

theorem State.withScheduler_kept (s : State) (f : Scheduler → Scheduler) : Kept 0x400000 s (State.withScheduler s f) := by
  unfold State.withScheduler
  exact Kept.up (Kept.upd (m := 0x400000) id id)

theorem State.unlist_kept (s : State) (t : Nat) : Kept 0xc00000 s (State.unlist s t) := by
  unfold State.unlist
  exact Kept.trans (by exact (State.withScheduler_kept ..).up) (Kept.up (Kept.upd (m := 0x800000) id id))

theorem State.setThread_kept (s : State) (t : Nat) (x : Thread) : Kept 0x400000 s (State.setThread s t x) := by
  unfold State.setThread
  exact Kept.up (Kept.upd (m := 0x400000) id id)

theorem State.decision_kept (s : State) (k : Nat) (core : Nat) (thread : Nat) (priority : Nat) (reason : Nat) (handle : Nat) : Kept 0x1000042 s (State.decision s k core thread priority reason handle) := by
  unfold State.decision
  exact Kept.ite ((State.offer_kept ..).up) (Kept.refl _)

theorem State.joinReady_kept (s : State) (t : Nat) (reason : Nat) : Kept 0x1400042 s (State.joinReady s t reason) := by
  unfold State.joinReady
  exact Kept.trans (by exact Kept.trans (by exact (State.setThread_kept ..).up) ((State.withScheduler_kept ..).up)) ((State.decision_kept ..).up)

theorem State.dispatch_kept (s : State) (t : Nat) (c : Nat) : Kept 0x1600042 s (State.dispatch s t c) := by
  unfold State.dispatch
  exact Kept.trans (by exact Kept.trans (by exact Kept.trans (by exact Kept.trans (by exact Kept.trans (by exact (State.setThread_kept ..).up) ((State.withScheduler_kept ..).up)) ((State.wakeCore_kept ..).up)) ((State.withCore_kept ..).up)) ((State.decision_kept ..).up)) ((State.offerContext_kept ..).up)

theorem State.preempt_kept (s : State) (c : Nat) (t : Nat) : Kept 0x1200042 s (State.preempt s c t) := by
  unfold State.preempt
  exact by (try dsimp only); split; exact (Kept.refl _); exact (Kept.ite (Kept.refl _) (Kept.trans (by exact Kept.trans (by exact (State.withCore_kept ..).up) ((State.bump_kept ..).up)) ((State.decision_kept ..).up)))

theorem State.place_kept (s : State) (t : Nat) : Kept 0x1600042 s (State.place s t) := by
  unfold State.place
  exact by (try dsimp only); split; exact ((State.dispatch_kept ..).up); exact (by (try dsimp only); split; exact ((State.preempt_kept ..).up); exact (Kept.refl _))

theorem State.makeReady_kept (s : State) (t : Nat) (reason : Nat) : Kept 0x1600042 s (State.makeReady s t reason) := by
  unfold State.makeReady
  exact Kept.trans (by exact (State.joinReady_kept ..).up) ((State.place_kept ..).up)

theorem State.wakeDue_kept (s : State) (reason : Nat) (t : Nat) : Kept 0x1e00042 s (State.wakeDue s reason t) := by
  unfold State.wakeDue
  exact Kept.trans (by exact (State.unlist_kept ..).up) ((State.makeReady_kept ..).up)

theorem State.wakeTicks_kept (s : State) : Kept 0x1e00042 s (State.wakeTicks s) := by
  unfold State.wakeTicks
  exact Kept.foldl (fun _ _ => (State.wakeDue_kept ..).up) (Kept.refl _)

theorem State.useCore_kept (s : State) (c : Nat) (use : CsrUse) : Kept 0x1200042 s (State.useCore s c use) := by
  unfold State.useCore
  exact Kept.trans (by exact Kept.foldl (fun _ _ => (State.csrWrite_kept ..).up) (Kept.refl _)) ((State.withCore_kept ..).up)

theorem State.csrOp_kept {m : Nat} (s : State) (c : Nat) (user : Bool) (use : CsrUse) (k : Nat → State → State) (hm : 0x120004b ||| m = m := by decide) (hk : ∀ a0 a1, Kept m a1 (k a0 a1)) : Kept m s (State.csrOp s c user use k) := by
  unfold State.csrOp
  exact by (try dsimp only); split; exact (Kept.refl _); exact (Kept.ite (Kept.refl _) (Kept.ite (Kept.trans (by exact (State.useCore_kept ..).up2 hm) ((State.reply_kept ..).up2 hm)) (Kept.trans (by exact (State.useCore_kept ..).up2 hm) (hk ..))))

theorem State.csrResult_kept (s : State) (c : Nat) (v : Nat) : Kept 0x200009 s (State.csrResult s c v) := by
  unfold State.csrResult
  exact Kept.trans (by exact (State.withCore_kept ..).up) ((State.reply_kept ..).up)

theorem State.csrFail_kept (s : State) (c : Nat) (status : Nat) : Kept 0x20000b s (State.csrFail s c status) := by
  unfold State.csrFail
  exact Kept.trans (by exact (State.bump_kept ..).up) ((State.csrResult_kept ..).up)

theorem State.leaveCore_kept (s : State) (c : Nat) : Kept 0x200000 s (State.leaveCore s c) := by
  unfold State.leaveCore
  exact (State.withCore_kept ..).up

theorem execSchdelay_kept (core : Nat) (csr : CsrUse) (s : State) : OutKept 0x160004b s (execSchdelay core csr s) := by
  unfold execSchdelay
  exact State.csrOp_kept (hk := fun _ _ => Kept.ite ((State.csrFail_kept ..).up) (by (try dsimp only); split; exact ((State.csrFail_kept ..).up); exact (Kept.ite ((State.csrResult_kept ..).up) (Kept.trans (by exact Kept.trans (by exact Kept.trans (by exact Kept.trans (by exact (State.setThread_kept ..).up) ((State.leaveCore_kept ..).up)) ((State.withScheduler_kept ..).up)) ((State.decision_kept ..).up)) ((State.csrResult_kept ..).up))))) ..

theorem execSchipi_kept (core : Nat) (csr : CsrUse) (s : State) : OutKept 0x120004b s (execSchipi core csr s) := by
  unfold execSchipi
  exact State.csrOp_kept (hk := fun _ _ => Kept.ite ((State.csrFail_kept ..).up) (Kept.trans (by exact Kept.foldl (fun _ _ => Kept.ite ((State.withCore_kept ..).up) (Kept.refl _)) (Kept.refl _)) ((State.csrResult_kept ..).up))) ..

theorem State.ask_kept (s : State) (c : Nat) : Kept 0x160004b s (State.ask s c) := by
  unfold State.ask
  exact by (try dsimp only); split; exact (Kept.trans (by exact (State.dispatch_kept ..).up) ((State.reply_kept ..).up)); exact (Kept.ite ((State.csrResult_kept ..).up) (Kept.trans (by exact (State.withCore_kept ..).up) ((State.reply_kept ..).up)))

theorem State.schset_kept {m : Nat} (s : State) (core : Nat) (csr : CsrUse) (action : Nat) (ok : Thread → Bool) (k : Nat → Nat → State → State) (hm : 0x120004b ||| m = m := by decide) (hk : ∀ a0 a1 a2, Kept m a2 (k a0 a1 a2)) : Kept m s (State.schset s core csr action ok k) := by
  unfold State.schset
  exact State.csrOp_kept (hm := maskLe hm) (hk := fun _ _ => Kept.ite ((State.csrFail_kept ..).up2 hm) (Kept.ite (Kept.refl _) (Kept.ite ((State.csrFail_kept ..).up2 hm) (Kept.trans (by exact hk ..) ((State.csrResult_kept ..).up2 hm))))) ..

theorem execSchsetState_kept (core : Nat) (csr : CsrUse) (s : State) : OutKept 0x120004b s (execSchsetState core csr s) := by
  unfold execSchsetState
  exact Kept.ite (State.csrOp_kept (hk := fun _ _ => (State.csrFail_kept ..).up) ..) (State.schset_kept (hk := fun _ _ _ => Kept.refl _) ..)

theorem execHostEvent_kept (req : Nat) (value : Nat) (s : State) : OutKept 0x40420005b s (execHostEvent req value s) := by
  unfold execHostEvent
  exact State.writingValue_kept (hk := fun _ _ => Kept.trans (by exact Kept.foldl (fun _ _ => Kept.ite ((State.raiseLine_kept ..).up) (Kept.refl _)) (Kept.refl _)) ((State.accept_kept ..).up)) ..

theorem execMachineTimerInterrupt_kept (core : Nat) (s : State) : OutKept 0x200000 s (execMachineTimerInterrupt core s) := by
  unfold execMachineTimerInterrupt
  exact (State.withCore_kept ..).up

theorem State.suspendLate_kept (s : State) (t : Nat) : Kept 0x1e00042 s (State.suspendLate s t) := by
  unfold State.suspendLate
  exact Kept.ite (Kept.trans (by exact (State.setThread_kept ..).up) ((State.preempt_kept ..).up)) (Kept.trans (by exact (State.unlist_kept ..).up) ((State.setThread_kept ..).up))

theorem State.dispose_kept (s : State) (c : Nat) (disposition : Nat) : Kept 0x1600042 s (State.dispose s c disposition) := by
  unfold State.dispose
  exact by (try dsimp only); split; exact (Kept.refl _); exact (Kept.ite (Kept.trans (by exact Kept.trans (by exact (State.leaveCore_kept ..).up) ((State.decision_kept ..).up)) ((State.joinReady_kept ..).up)) (Kept.trans (by exact Kept.trans (by exact (State.leaveCore_kept ..).up) ((State.setThread_kept ..).up)) ((State.decision_kept ..).up)))

theorem execSchask_kept (core : Nat) (csr : CsrUse) (s : State) : OutKept 0x1e0004b s (execSchask core csr s) := by
  unfold execSchask
  exact State.csrOp_kept (hk := fun _ _ => Kept.ite ((State.csrFail_kept ..).up) (by (try dsimp only); split; exact (Kept.ite (Kept.trans (by exact Kept.trans (by exact Kept.trans (by exact Kept.foldl (fun _ _ => (State.suspendLate_kept ..).up) ((State.withCore_kept ..).up)) ((State.dispose_kept ..).up)) ((State.ask_kept ..).up)) ((State.place_kept ..).up)) (Kept.trans (by exact Kept.trans (by exact Kept.foldl (fun _ _ => (State.suspendLate_kept ..).up) ((State.withCore_kept ..).up)) ((State.dispose_kept ..).up)) ((State.ask_kept ..).up))); exact (Kept.trans (by exact Kept.trans (by exact Kept.foldl (fun _ _ => (State.suspendLate_kept ..).up) ((State.withCore_kept ..).up)) ((State.dispose_kept ..).up)) ((State.ask_kept ..).up)))) ..

theorem State.suspend_kept (s : State) (core : Nat) (t : Nat) : Kept 0x1e00042 s (State.suspend s core t) := by
  unfold State.suspend
  exact Kept.ite (Kept.trans (by exact (State.setThread_kept ..).up) ((State.preempt_kept ..).up)) (Kept.trans (by exact Kept.trans (by exact Kept.ite ((State.leaveCore_kept ..).up) (Kept.refl _)) ((State.unlist_kept ..).up)) ((State.setThread_kept ..).up))

theorem execSchsetSuspend_kept (core : Nat) (csr : CsrUse) (s : State) : OutKept 0x1e0004b s (execSchsetSuspend core csr s) := by
  unfold execSchsetSuspend
  exact State.schset_kept (hk := fun _ _ _ => (State.suspend_kept ..).up) ..

theorem execTick_kept (s : State) : OutKept 0x1e00042 s (execTick s) := by
  unfold execTick
  exact Kept.ite (Kept.refl _) (Kept.trans (by exact (State.withScheduler_kept ..).up) ((State.wakeTicks_kept ..).up))

theorem execSchcreate_kept (core : Nat) (csr : CsrUse) (s : State) : OutKept 0x160004b s (execSchcreate core csr s) := by
  unfold execSchcreate
  exact State.csrOp_kept (hk := fun _ _ => Kept.ite ((State.csrFail_kept ..).up) (by (try dsimp only); split; exact ((State.csrFail_kept ..).up); exact (Kept.trans (by exact Kept.ite (Kept.trans (by exact Kept.trans (by exact (State.setThread_kept ..).up) ((State.decision_kept ..).up)) ((State.makeReady_kept ..).up)) (Kept.trans (by exact (State.setThread_kept ..).up) ((State.decision_kept ..).up))) ((State.csrResult_kept ..).up)))) ..

theorem execSchsetPriority_kept (core : Nat) (csr : CsrUse) (s : State) : OutKept 0x160004b s (execSchsetPriority core csr s) := by
  unfold execSchsetPriority
  exact State.schset_kept (hk := fun _ _ _ => Kept.ite (Kept.trans (by exact (State.setThread_kept ..).up) ((State.withScheduler_kept ..).up)) ((State.setThread_kept ..).up)) ..

theorem State.releaseCore_kept (s : State) (c : Nat) : Kept 0x1200042 s (State.releaseCore s c) := by
  unfold State.releaseCore
  exact by (try dsimp only); split; exact (Kept.refl _); exact (Kept.ite (Kept.trans (by exact (State.wakeCore_kept ..).up) ((State.withCore_kept ..).up)) (Kept.refl _))

theorem execSchsetFree_kept (core : Nat) (csr : CsrUse) (s : State) : OutKept 0x1e0004b s (execSchsetFree core csr s) := by
  unfold execSchsetFree
  exact State.schset_kept (hk := fun _ _ _ => Kept.trans (by exact Kept.trans (by exact (State.unlist_kept ..).up) ((State.setThread_kept ..).up)) ((State.decision_kept ..).up)) ..

theorem State.wakeCycles_kept (s : State) : Kept 0x1e00042 s (State.wakeCycles s) := by
  unfold State.wakeCycles
  exact Kept.foldl (fun _ _ => (State.wakeDue_kept ..).up) (Kept.refl _)

theorem execSchsetReady_kept (core : Nat) (csr : CsrUse) (s : State) : OutKept 0x160004b s (execSchsetReady core csr s) := by
  unfold execSchsetReady
  exact State.schset_kept (hk := fun _ _ _ => (State.makeReady_kept ..).up) ..

theorem execSchsetAffinity_kept (core : Nat) (csr : CsrUse) (s : State) : OutKept 0x160004b s (execSchsetAffinity core csr s) := by
  unfold execSchsetAffinity
  exact Kept.ite (State.csrOp_kept (hk := fun _ _ => (State.csrFail_kept ..).up) ..) (State.schset_kept (hk := fun _ _ _ => (State.setThread_kept ..).up) ..)

theorem execSchcur_kept (core : Nat) (csr : CsrUse) (s : State) : OutKept 0x120004b s (execSchcur core csr s) := by
  unfold execSchcur
  exact State.csrOp_kept (hk := fun _ _ => (State.csrResult_kept ..).up) ..

theorem execCoreReleaseWrite_kept (req : Nat) (value : Nat) (s : State) : OutKept 0x520005b s (execCoreReleaseWrite req value s) := by
  unfold execCoreReleaseWrite
  exact State.writingValue_kept (hk := fun _ _ => Kept.trans (by exact Kept.ite ((State.putEntry_kept ..).up) (Kept.foldl (fun _ _ => Kept.ite ((State.releaseCore_kept ..).up) (Kept.refl _)) ((State.putEntry_kept ..).up))) ((State.accept_kept ..).up)) ..

end Sys2Proof.Machine
end

