-- ==== Sys2Proof/Laws/KeptChannels.lean ====
section
/-! SUPPORT. What the operations of Machine/Channels.lean keep. -/

set_option Elab.async false

namespace Sys2Proof.Machine

theorem State.wakeWaiters_kept (s : State) (slot : Nat) (cond : Nat) (reason : Nat) : Kept 0x1e00042 s (State.wakeWaiters s slot cond reason) := by
  unfold State.wakeWaiters
  exact by (try dsimp only); split; exact (Kept.refl _); exact (Kept.foldl (fun _ _ => Kept.trans (by exact (State.unlist_kept ..).up) ((State.makeReady_kept ..).up)) (Kept.refl _))

theorem State.destroyChannel_kept (s : State) (core : Nat) (slot : Nat) (c : Channel) : Kept 0x1e00042 s (State.destroyChannel s core slot c) := by
  unfold State.destroyChannel
  exact Kept.trans (by exact Kept.trans (by exact Kept.trans (by exact Kept.trans (by exact (State.bumpBy_kept ..).up) ((State.wakeWaiters_kept ..).up)) ((State.wakeWaiters_kept ..).up)) ((State.decision_kept ..).up)) (Kept.up (Kept.upd (m := 0x800000) id id))

theorem execChdestroy_kept (core : Nat) (csr : CsrUse) (s : State) : OutKept 0x1e0004b s (execChdestroy core csr s) := by
  unfold execChdestroy
  exact State.csrOp_kept (hk := fun _ _ => Kept.ite ((State.csrFail_kept ..).up) (by (try dsimp only); split; exact ((State.csrFail_kept ..).up); exact (Kept.ite ((State.csrFail_kept ..).up) (Kept.trans (by exact (State.destroyChannel_kept ..).up) ((State.csrResult_kept ..).up))))) ..

theorem State.chanOp_kept {m : Nat} (s : State) (core : Nat) (csr : CsrUse) (op : State → Nat → ChanResult) (hm : 0x120004b ||| m = m := by decide)
    (hop : ∀ t v, ChanKept m t (op t v)) : Kept m s (s.chanOp core csr op) := by
  unfold State.chanOp
  refine State.csrOp_kept (hm := maskLe hm) (hk := fun v t => ?_) ..
  have h := hop t v
  split
  · exact (State.csrFail_kept ..).up2 hm
  · rename_i e; rw [e] at h; exact Kept.trans h ((State.csrResult_kept ..).up2 hm)

theorem State.onChannel_kept {m : Nat} (s : State) (v : Nat) (types : List Nat) (k : Nat → Channel → ChanResult) (hk : ∀ i c, ChanKept m s (k i c)) :
    ChanKept m s (s.onChannel v types k) := by
  unfold State.onChannel
  split
  · trivial
  · split
    · exact hk ..
    · trivial

theorem State.setChannel_kept (s : State) (slot : Nat) (c : Channel) : Kept 0x800000 s (State.setChannel s slot c) := by
  unfold State.setChannel
  exact Kept.up (Kept.upd (m := 0x800000) id id)

theorem State.chreserve_kept (s : State) (v : Nat) : ChanKept 0x800000 s (s.chreserve v) :=
  State.onChannel_kept _ _ _ _ fun _ _ => by (repeat' split) <;> first | trivial | exact (State.setChannel_kept ..).up

theorem execChreserve_kept (core : Nat) (csr : CsrUse) (s : State) : OutKept 0x1a0004b s (execChreserve core csr s) := by
  unfold execChreserve
  exact State.chanOp_kept (hop := fun _ _ => (State.chreserve_kept ..).up) ..

theorem State.chcount_kept (s : State) (v : Nat) : ChanKept 0x0 s (s.chcount v) :=
  State.onChannel_kept _ _ _ _ fun _ _ => by split <;> first | trivial | exact Kept.refl _

theorem execChcount_kept (core : Nat) (csr : CsrUse) (s : State) : OutKept 0x120004b s (execChcount core csr s) := by
  unfold execChcount
  exact State.chanOp_kept (hop := fun _ _ => (State.chcount_kept ..).up) ..

theorem State.addChannel_kept (s : State) (core : Nat) (slot : Nat) (c : Channel) : Kept 0x1800042 s (State.addChannel s core slot c) := by
  unfold State.addChannel
  exact Kept.trans (by exact Kept.up (Kept.upd (m := 0x800000) id id)) ((State.decision_kept ..).up)

theorem State.chrecv_kept (s : State) (v : Nat) : ChanKept 0x800000 s (s.chrecv v) :=
  State.onChannel_kept _ _ _ _ fun _ _ => by (repeat' split) <;> first | trivial | exact (State.setChannel_kept ..).up

theorem execCreditReturnArrival_kept (slot : Nat) (s : State) : OutKept 0x100000800000 s (execCreditReturnArrival slot s) := by
  unfold execCreditReturnArrival
  exact by (try dsimp only); split; exact (Kept.refl _); exact (Kept.ite (Kept.refl _) (by (try dsimp only); split; exact ((State.setChannel_kept ..).up); exact (Kept.ite (Kept.trans (by exact (State.setChannel_kept ..).up) ((State.clearRoom_kept ..).up)) ((State.setChannel_kept ..).up))))

theorem State.wait_kept (s : State) (core : Nat) (t : Nat) (slot : Nat) (cond : Nat) (timeout : Nat) (handle : Nat) (c : Channel) : Kept 0x1e0004b s (State.wait s core t slot cond timeout handle c) := by
  unfold State.wait
  exact Kept.trans (by exact Kept.trans (by exact Kept.ite (Kept.trans (by exact Kept.trans (by exact (State.setThread_kept ..).up) ((State.leaveCore_kept ..).up)) ((State.setChannel_kept ..).up)) (Kept.trans (by exact Kept.trans (by exact Kept.trans (by exact (State.setThread_kept ..).up) ((State.leaveCore_kept ..).up)) ((State.setChannel_kept ..).up)) ((State.withScheduler_kept ..).up))) ((State.decision_kept ..).up)) ((State.csrResult_kept ..).up)

theorem State.updateChannel_kept (s : State) (slot : Nat) (old : Channel) (new : Channel) : Kept 0x1e00042 s (State.updateChannel s slot old new) := by
  unfold State.updateChannel
  exact Kept.ite (Kept.trans (by exact Kept.ite (Kept.trans (by exact (State.setChannel_kept ..).up) ((State.wakeWaiters_kept ..).up)) ((State.setChannel_kept ..).up)) ((State.wakeWaiters_kept ..).up)) (Kept.ite (Kept.trans (by exact (State.setChannel_kept ..).up) ((State.wakeWaiters_kept ..).up)) ((State.setChannel_kept ..).up))

theorem State.portFree_kept (s : State) (slot : Nat) (c : Channel) : Kept 0x1e00042 s (State.portFree s slot c) := by
  unfold State.portFree
  exact (State.updateChannel_kept ..).up

theorem execChcreate_kept (core : Nat) (csr : CsrUse) (s : State) : OutKept 0x1a0004b s (execChcreate core csr s) := by
  unfold execChcreate
  exact State.csrOp_kept (hk := fun _ _ => Kept.ite ((State.csrFail_kept ..).up) (Kept.ite ((State.csrFail_kept ..).up) (Kept.ite ((State.csrFail_kept ..).up) (by (try dsimp only); split; exact ((State.csrFail_kept ..).up); exact (Kept.trans (by exact (State.addChannel_kept ..).up) ((State.csrResult_kept ..).up)))))) ..

theorem State.portPost_kept (s : State) (slot : Nat) (c : Channel) : Kept 0x1e00042 s (State.portPost s slot c) := by
  unfold State.portPost
  exact (State.updateChannel_kept ..).up

theorem State.chrelease_kept (s : State) (v : Nat) : ChanKept 0x1e00042 s (s.chrelease v) :=
  State.onChannel_kept _ _ _ _ fun _ _ => by dsimp only; (repeat' split) <;> first | trivial | exact (State.updateChannel_kept ..).up

theorem execChrelease_kept (core : Nat) (csr : CsrUse) (s : State) : OutKept 0x1e0004b s (execChrelease core csr s) := by
  unfold execChrelease
  exact State.chanOp_kept (hop := fun _ _ => (State.chrelease_kept ..).up) ..

theorem execChrecv_kept (core : Nat) (csr : CsrUse) (s : State) : OutKept 0x1a0004b s (execChrecv core csr s) := by
  unfold execChrecv
  exact State.chanOp_kept (hop := fun _ _ => (State.chrecv_kept ..).up) ..

theorem execSchwait_kept (core : Nat) (csr : CsrUse) (s : State) : OutKept 0x1e0004b s (execSchwait core csr s) := by
  unfold execSchwait
  exact State.csrOp_kept (hk := fun _ _ => Kept.ite ((State.csrFail_kept ..).up) (by (try dsimp only); split; exact ((State.csrFail_kept ..).up); exact ((State.csrFail_kept ..).up); exact (Kept.ite ((State.csrFail_kept ..).up) (Kept.ite ((State.csrResult_kept ..).up) ((State.wait_kept ..).up))))) ..

theorem State.chpost_kept (s : State) (v : Nat) : ChanKept 0x1e00042 s (s.chpost v) :=
  State.onChannel_kept _ _ _ _ fun _ _ => by dsimp only; (repeat' split) <;> first | trivial | exact (State.updateChannel_kept ..).up

theorem execChpost_kept (core : Nat) (csr : CsrUse) (s : State) : OutKept 0x1e0004b s (execChpost core csr s) := by
  unfold execChpost
  exact State.chanOp_kept (hop := fun _ _ => (State.chpost_kept ..).up) ..

theorem execChannelDestroy_kept (req : Nat) (s : State) : OutKept 0x5e0005b s (execChannelDestroy req s) := by
  unfold execChannelDestroy
  exact State.writing_kept (hk := fun _ => by (try dsimp only); split; exact ((State.refuse_kept ..).up); exact (Kept.ite ((State.refuse_kept ..).up) (Kept.trans (by exact (State.destroyChannel_kept ..).up) ((State.accept_kept ..).up)))) ..

end Sys2Proof.Machine
end

