-- ==== Sys2Proof/Laws/KeptBlocks.lean ====
section
/-! SUPPORT. What the operations of Machine/Blocks.lean keep. -/

set_option Elab.async false

namespace Sys2Proof.Machine

theorem State.setLane_kept (s : State) (l : Nat) (x : Lane) : Kept 0x80000000 s (State.setLane s l x) := by
  unfold State.setLane
  exact Kept.up (Kept.upd (m := 0x80000000) id id)

theorem State.sendBlock_kept (s : State) (l : Nat) (b : LaneBlock) : Kept 0x80000000 s (State.sendBlock s l b) := by
  unfold State.sendBlock
  exact (State.setLane_kept ..).up

theorem State.receive_kept (s : State) (l : Nat) (w : WireBlock) : Kept 0x80000000 s (State.receive s l w).1 := by
  unfold State.receive
  dsimp only
  repeat' split
  all_goals first | exact Kept.refl _ | exact (State.setLane_kept ..).up

end Sys2Proof.Machine
end

