-- ==== Sys2Proof/Laws/KeptOperands.lean ====
section
/-! SUPPORT. What the operations of Machine/Operands.lean keep. -/

set_option Elab.async false

namespace Sys2Proof.Machine

theorem State.withArr_kept {m : Nat} (s : State) (f : NibArray → NibArray) (h : ∀ x : NibArray, (m.testBit 36 = true ∨ (f x).nibs = x.nibs) ∧
      (m.testBit 37 = true ∨ (f x).words = x.words) ∧
      (m.testBit 38 = true ∨ (f x).routeWords = x.routeWords) ∧
      (m.testBit 39 = true ∨ (f x).clusters = x.clusters) ∧
      (m.testBit 40 = true ∨ (f x).tiles = x.tiles) ∧
      (m.testBit 41 = true ∨ (f x).flights = x.flights) ∧
      (m.testBit 42 = true ∨ (f x).claims = x.claims) ∧
      (m.testBit 43 = true ∨ (f x).routes = x.routes) ∧
      (m.testBit 44 = true ∨ (f x).sched = x.sched) ∧
      (m.testBit 45 = true ∨ (f x).cyclog = x.cyclog) ∧
      (m.testBit 46 = true ∨ (f x).queues = x.queues) ∧
      (m.testBit 47 = true ∨ (f x).requests = x.requests) ∧
      (m.testBit 48 = true ∨ (f x).syncMask = x.syncMask) ∧
      (m.testBit 49 = true ∨ (f x).votes = x.votes) ∧
      (m.testBit 50 = true ∨ (f x).upperPowered = x.upperPowered) ∧
      (m.testBit 51 = true ∨ (f x).flightCount = x.flightCount) := by
      intro x; refine ⟨?_, ?_, ?_, ?_, ?_, ?_, ?_, ?_, ?_, ?_, ?_, ?_, ?_, ?_, ?_, ?_⟩ <;> first | exact .inl rfl | exact .inr rfl) : Kept m s (s.withArr f) := by
  have h := h s.arr
  refine Kept.mk rfl rfl ?_ id id fun c => ?_
  · exact id
  · cases c
    all_goals first | exact .inr rfl | simp only [Component.bit, State.withArr]
    · exact h.1
    · exact h.2.1
    · exact h.2.2.1
    · exact h.2.2.2.1
    · exact h.2.2.2.2.1
    · exact h.2.2.2.2.2.1
    · exact h.2.2.2.2.2.2.1
    · exact h.2.2.2.2.2.2.2.1
    · exact h.2.2.2.2.2.2.2.2.1
    · exact h.2.2.2.2.2.2.2.2.2.1
    · exact h.2.2.2.2.2.2.2.2.2.2.1
    · exact h.2.2.2.2.2.2.2.2.2.2.2.1
    · exact h.2.2.2.2.2.2.2.2.2.2.2.2.1
    · exact h.2.2.2.2.2.2.2.2.2.2.2.2.2.1
    · exact h.2.2.2.2.2.2.2.2.2.2.2.2.2.2.1
    · exact h.2.2.2.2.2.2.2.2.2.2.2.2.2.2.2

end Sys2Proof.Machine
end

