-- ==== Sys2Proof/Laws/KeptFabric.lean ====
section
/-! SUPPORT. What the operations of Machine/Fabric.lean keep. -/

set_option Elab.async false

namespace Sys2Proof.Machine

theorem State.withFabric_kept {m : Nat} (s : State) (f : Fabric → Fabric) (h : ∀ x : Fabric, (m.testBit 58 = true ∨ (f x).clusterFrames = x.clusterFrames) ∧
      (m.testBit 59 = true ∨ (f x).tileFrames = x.tileFrames) ∧
      (m.testBit 60 = true ∨ (f x).fclk = x.fclk) ∧
      (m.testBit 61 = true ∨ (f x).cells = x.cells) ∧
      (m.testBit 62 = true ∨ (f x).release = x.release) ∧
      (m.testBit 63 = true ∨ (f x).parked = x.parked) ∧
      (m.testBit 64 = true ∨ (f x).trackEdges = x.trackEdges) ∧
      (m.testBit 65 = true ∨ (f x).probes = x.probes) ∧
      (m.testBit 66 = true ∨ (f x).engines = x.engines) ∧
      (m.testBit 67 = true ∨ (f x).ports = x.ports) ∧
      (m.testBit 68 = true ∨ (f x).delays = x.delays) := by
      intro x; refine ⟨?_, ?_, ?_, ?_, ?_, ?_, ?_, ?_, ?_, ?_, ?_⟩ <;> first | exact .inl rfl | exact .inr rfl) : Kept m s (s.withFabric f) := by
  have h := h s.fabric
  refine Kept.mk rfl rfl ?_ id id fun c => ?_
  · exact id
  · cases c
    all_goals first | exact .inr rfl | simp only [Component.bit, State.withFabric]
    · exact h.1
    · exact h.2.1
    · exact h.2.2.1
    · exact h.2.2.2.1
    · exact h.2.2.2.2.1
    · exact h.2.2.2.2.2.1
    · exact h.2.2.2.2.2.2.1
    · exact h.2.2.2.2.2.2.2.1
    · exact h.2.2.2.2.2.2.2.2.1
    · exact h.2.2.2.2.2.2.2.2.2.1
    · exact h.2.2.2.2.2.2.2.2.2.2

theorem State.setEngine_kept (s : State) (e : Nat) (x : BridgeEngine) : Kept 0x40000000000000000 s (State.setEngine s e x) := by
  unfold State.setEngine
  exact (State.withFabric_kept (m := 0x40000000000000000) ..).up

theorem execBridgeBeatDelivered_kept (engine : Nat) (s : State) : OutKept 0x40000000000000000 s (execBridgeBeatDelivered engine s) := by
  unfold execBridgeBeatDelivered
  exact by (try dsimp only); split; exact (Kept.refl _); exact (Kept.ite ((State.setEngine_kept ..).up) (Kept.refl _))

theorem State.discardPartial_kept (s : State) (q : Nat) : Kept 0x80000000000000002 s (State.discardPartial s q) := by
  unfold State.discardPartial
  exact Kept.ite (Kept.trans (by exact (State.bump_kept ..).up) ((State.withFabric_kept (m := 0x80000000000000000) ..).up)) (Kept.refl _)

theorem State.isolate_kept (s : State) (tk : Nat) : Kept 0x1ffc00000000000002 s (State.isolate s tk) := by
  unfold State.isolate
  exact Kept.ite (Kept.refl _) (Kept.trans (by exact Kept.trans (by exact (State.discardPartial_kept ..).up) ((State.discardPartial_kept ..).up)) ((State.withFabric_kept (m := 0x1ffc00000000000000) ..).up))

theorem State.isolateAll_kept (s : State) : Kept 0x1ffc00000000000002 s (State.isolateAll s) := by
  unfold State.isolateAll
  exact Kept.foldl (fun _ _ => (State.isolate_kept ..).up) (Kept.refl _)

theorem State.portMismatch_kept (s : State) (q : Nat) : Kept 0x80000100400280550 s (State.portMismatch s q) := by
  unfold State.portMismatch
  exact Kept.trans (by exact Kept.trans (by exact (State.withFabric_kept (m := 0x80000000000000000) ..).up) ((State.logDetail_kept ..).up)) ((State.raiseStop_kept ..).up)

theorem State.messageDone_kept (s : State) (q : Nat) : Kept 0x80000100400280550 s (State.messageDone s q) := by
  unfold State.messageDone
  exact Kept.ite (Kept.trans (by exact Kept.trans (by exact (State.withFabric_kept (m := 0x80000000000000000) ..).up) ((State.log1_kept ..).up)) ((State.raiseStop_kept ..).up)) ((State.withFabric_kept (m := 0x80000000000000000) ..).up)

theorem State.portPop_kept (s : State) (q : Nat) (slot : Nat) (c : Channel) : Kept 0x80000100401e80552 s (State.portPop s q slot c) := by
  unfold State.portPop
  exact Kept.ite ((State.portMismatch_kept ..).up) (Kept.ite ((State.withFabric_kept (m := 0x80000000000000000) ..).up) (Kept.trans (by exact (State.portFree_kept ..).up) ((State.messageDone_kept ..).up)))

theorem State.dropBeat_kept (s : State) (e : Nat) : Kept 0x40000000400200452 s (State.dropBeat s e) := by
  unfold State.dropBeat
  exact Kept.ite (Kept.ite (Kept.trans (by exact (State.bump_kept ..).up) ((State.putEntry_kept ..).up)) ((State.bump_kept ..).up)) (Kept.trans (by exact Kept.trans (by exact Kept.ite (Kept.trans (by exact (State.bump_kept ..).up) ((State.putEntry_kept ..).up)) ((State.bump_kept ..).up)) ((State.setEngine_kept ..).up)) ((State.log1_kept ..).up))

theorem execReleaseWriteEnable_kept (s : State) : OutKept 0x1ffc00000000000000 s (execReleaseWriteEnable s) := by
  unfold execReleaseWriteEnable
  exact (State.withFabric_kept (m := 0x1ffc00000000000000) ..).up

theorem State.creditRoom_kept (s : State) (q : Nat) (slot : Nat) : Kept 0x100000080100 s (State.creditRoom s q slot) := by
  unfold State.creditRoom
  exact by (try dsimp only); split; exact (Kept.ite ((State.raiseRoom_kept ..).up) (Kept.refl _)); exact (Kept.refl _)

theorem execResumeReceived_kept (wire : LaneWire) (s : State) : OutKept 0x40000000080000000 s (execResumeReceived wire s) := by
  have h := State.receive_kept s wire.lane wire.block
  unfold execResumeReceived
  split
  · rename_i e; rw [e] at h
    split
    · exact h.up
    · exact h.up.trans ((State.setEngine_kept ..).up)
  · rename_i e; rw [e] at h; exact h.up

theorem State.sendBeat_kept (s : State) (b : BridgeBinding) (k : Nat) (beat : List Nat) : Kept 0x80000000 s (State.sendBeat s b k beat) := by
  unfold State.sendBeat
  exact Kept.ite (Kept.refl _) (Kept.foldl (fun _ _ => (State.sendBlock_kept ..).up) (Kept.refl _))

theorem State.bridgeRoom_kept (s : State) (e : Nat) (b : BridgeBinding) : Kept 0x100000080102 s (State.bridgeRoom s e b) := by
  unfold State.bridgeRoom
  exact Kept.ite (Kept.ite (Kept.refl _) (Kept.trans (by exact (State.bump_kept ..).up) ((State.raiseRoom_kept ..).up))) ((State.clearRoom_kept ..).up)

theorem execBridgeBeatTransmitted_kept (engine : Nat) (s : State) : OutKept 0x40000100080080102 s (execBridgeBeatTransmitted engine s) := by
  unfold execBridgeBeatTransmitted
  exact by (try dsimp only); split; exact (Kept.refl _); exact (by (try dsimp only); split; exact (Kept.refl _); exact (Kept.ite (Kept.refl _) (Kept.trans (by exact Kept.trans (by exact (State.setEngine_kept ..).up) ((State.sendBeat_kept ..).up)) ((State.bridgeRoom_kept ..).up))))

theorem State.engineBlock_kept (s : State) (b : BridgeBinding) (x : LaneBlock) : Kept 0x80000000 s (State.engineBlock s b x) := by
  unfold State.engineBlock
  exact Kept.ite ((State.sendBlock_kept ..).up) (Kept.refl _)

theorem State.checkPause_kept (s : State) (e : Nat) (b : BridgeBinding) : Kept 0x40000000080000002 s (State.checkPause s e b) := by
  unfold State.checkPause
  exact Kept.ite (Kept.trans (by exact Kept.trans (by exact (State.setEngine_kept ..).up) ((State.engineBlock_kept ..).up)) ((State.bump_kept ..).up)) (Kept.refl _)

theorem execBridgeBeatReceived_kept (engine : Nat) (blocks : List Nat) (s : State) : OutKept 0x40000000480200452 s (execBridgeBeatReceived engine blocks s) := by
  unfold execBridgeBeatReceived
  exact by (try dsimp only); split; exact (Kept.refl _); exact (Kept.ite (Kept.trans (by exact (State.setEngine_kept ..).up) ((State.checkPause_kept ..).up)) ((State.dropBeat_kept ..).up))

theorem State.removeIsolation_kept (s : State) (tiles : List Nat) : Kept 0x1ffc00000000000000 s (State.removeIsolation s tiles) := by
  unfold State.removeIsolation
  exact (State.withFabric_kept (m := 0x1ffc00000000000000) ..).up

theorem State.goldenProbe_kept (s : State) (mux : Nat) (v : Nat) : Kept 0x10000 s (State.goldenProbe s mux v) := by
  unfold State.goldenProbe
  exact Kept.up (Kept.upd (m := 0x10000) id id)

theorem State.stretchTile_kept (s : State) (tk : Nat) : Kept 0x200000000 s (State.stretchTile s tk) := by
  unfold State.stretchTile
  exact Kept.ite (Kept.refl _) (Kept.up (Kept.upd (m := 0x200000000) id id))

theorem State.portPush_kept (s : State) (q : Nat) (k : Nat) (slot : Nat) (c : Channel) : Kept 0x80010100401e80552 s (State.portPush s q k slot c) := by
  unfold State.portPush
  exact Kept.ite (Kept.trans (by exact (State.writeBytes_kept ..).up) ((State.withFabric_kept (m := 0x80000000000000000) ..).up)) (Kept.ite (Kept.trans (by exact (State.writeBytes_kept ..).up) ((State.portMismatch_kept ..).up)) (Kept.trans (by exact Kept.trans (by exact Kept.trans (by exact Kept.trans (by exact (State.writeBytes_kept ..).up) ((State.portPost_kept ..).up)) ((State.countEvent_kept ..).up)) ((State.messageDone_kept ..).up)) ((State.creditRoom_kept ..).up)))

theorem execPauseReceived_kept (wire : LaneWire) (s : State) : OutKept 0x40000000080000000 s (execPauseReceived wire s) := by
  have h := State.receive_kept s wire.lane wire.block
  unfold execPauseReceived
  split
  · rename_i e; rw [e] at h
    split
    · exact h.up
    · exact h.up.trans ((State.setEngine_kept ..).up)
  · rename_i e; rw [e] at h; exact h.up

theorem execProbeSelectWrite_kept (req : Nat) (mux : Nat) (value : Nat) (s : State) : OutKept 0x401005b s (execProbeSelectWrite req mux value s) := by
  unfold execProbeSelectWrite
  exact State.writingValue_kept (hk := fun _ _ => Kept.ite ((State.refuse_kept ..).up) (Kept.trans (by exact Kept.trans (by exact (State.putEntry_kept ..).up) ((State.goldenProbe_kept ..).up)) ((State.accept_kept ..).up))) ..

theorem State.popBeat_kept (s : State) (e : Nat) (b : BridgeBinding) : Kept 0x40000000080000000 s (State.popBeat s e b) := by
  unfold State.popBeat
  exact Kept.trans (by exact Kept.ite ((State.engineBlock_kept ..).up) (Kept.refl _)) ((State.setEngine_kept ..).up)

theorem State.probeEdge_kept (s : State) : Kept 0x20000000000000000 s (State.probeEdge s) := by
  unfold State.probeEdge
  exact Kept.up (Kept.upd (m := 0x20000000000000000) id id)

theorem State.pushBeat_kept (s : State) (e : Nat) (b : BridgeBinding) : Kept 0x40000100400280552 s (State.pushBeat s e b) := by
  unfold State.pushBeat
  exact Kept.ite (Kept.trans (by exact Kept.trans (by exact Kept.trans (by exact (State.setEngine_kept ..).up) ((State.bridgeRoom_kept ..).up)) ((State.log1_kept ..).up)) ((State.raiseStop_kept ..).up)) (Kept.trans (by exact (State.setEngine_kept ..).up) ((State.bridgeRoom_kept ..).up))

theorem execReleaseClockStart_kept (s : State) : OutKept 0x1ffc00000000000000 s (execReleaseClockStart s) := by
  unfold execReleaseClockStart
  exact (State.withFabric_kept (m := 0x1ffc00000000000000) ..).up

end Sys2Proof.Machine
end

