-- ==== Sys2Proof/Laws/KeptWordCells.lean ====
section
/-! SUPPORT. What the operations of Machine/WordCells.lean keep. -/

set_option Elab.async false

namespace Sys2Proof.Machine

theorem State.stageBytes_kept (s : State) (k : Nat) (bytes : List Nat) : Kept 0x8000000000 s (State.stageBytes s k bytes) := by
  unfold State.stageBytes
  exact Kept.foldl (fun _ _ => (State.withArr_kept (m := 0x8000000000) ..).up) (Kept.refl _)

theorem State.landStagings_kept (s : State) (k : Nat) : Kept 0x2000008000000000 s (State.landStagings s k) := by
  unfold State.landStagings
  exact Kept.ite (Kept.refl _) (Kept.trans (by exact (State.stageBytes_kept ..).up) ((State.withFabric_kept (m := 0x2000000000000000) ..).up))

theorem State.landCell_kept (s : State) (k : Nat) : Kept 0x1ffc00008000000000 s (State.landCell s k) := by
  unfold State.landCell
  exact Kept.trans (by exact (State.landStagings_kept ..).up) ((State.withFabric_kept (m := 0x1ffc00000000000000) ..).up)

theorem State.holdCell_kept (s : State) (k : Nat) : Kept 0x2000000000000000 s (State.holdCell s k) := by
  unfold State.holdCell
  exact (State.withFabric_kept (m := 0x2000000000000000) ..).up

theorem State.actPort_kept (s : State) (k : Nat) (e : Nat) : Kept 0xc0010100481e80552 s (State.actPort s k e) := by
  unfold State.actPort
  exact by (try dsimp only); split; exact (Kept.refl _); exact (Kept.ite (Kept.trans (by exact Kept.ite ((State.pushBeat_kept ..).up) (Kept.refl _)) ((State.popBeat_kept ..).up)) (Kept.ite ((State.pushBeat_kept ..).up) (Kept.refl _))); exact (by (try dsimp only); split; exact (Kept.ite ((State.portPush_kept ..).up) (Kept.ite ((State.portPop_kept ..).up) (Kept.refl _))); exact (Kept.refl _))

theorem State.drawMul_kept (s : State) (k : Nat) (op : Nat) : Kept 0x10000000000 s (State.drawMul s k op) := by
  unfold State.drawMul
  exact Kept.ite ((State.withArr_kept (m := 0x10000000000) ..).up) (Kept.refl _)

theorem State.runEntry_kept (s : State) (k : Nat) (e : Nat) : Kept 0xc2010110481e80552 s (State.runEntry s k e) := by
  unfold State.runEntry
  exact Kept.trans (by exact Kept.trans (by exact (State.actPort_kept ..).up) ((State.withFabric_kept (m := 0x2000000000000000) ..).up)) ((State.drawMul_kept ..).up)

theorem State.execCell_kept (s : State) (op : Nat) (k : Nat) : Kept 0x1ffc10118681e80552 s (State.execCell s op k) := by
  unfold State.execCell
  exact Kept.ite (Kept.refl _) (Kept.trans (by exact Kept.ite (Kept.trans (by exact (State.landCell_kept ..).up) ((State.holdCell_kept ..).up)) (Kept.trans (by exact (State.landCell_kept ..).up) ((State.runEntry_kept ..).up))) ((State.stretchTile_kept ..).up))

theorem execWcPass_kept (cell : Nat) (s : State) : OutKept 0x1ffc10118681e80552 s (execWcPass cell s) := by
  unfold execWcPass
  exact (State.execCell_kept ..).up

theorem execWcMulhs_kept (cell : Nat) (s : State) : OutKept 0x1ffc10118681e80552 s (execWcMulhs cell s) := by
  unfold execWcMulhs
  exact (State.execCell_kept ..).up

theorem execWcPop_kept (cell : Nat) (s : State) : OutKept 0x1ffc10118681e80552 s (execWcPop cell s) := by
  unfold execWcPop
  exact (State.execCell_kept ..).up

theorem execWcRol_kept (cell : Nat) (s : State) : OutKept 0x1ffc10118681e80552 s (execWcRol cell s) := by
  unfold execWcRol
  exact (State.execCell_kept ..).up

theorem execWcResultLand_kept (cell : Nat) (s : State) : OutKept 0x1ffc00000000000000 s (execWcResultLand cell s) := by
  unfold execWcResultLand
  exact Kept.ite ((State.withFabric_kept (m := 0x1ffc00000000000000) ..).up) (Kept.refl _)

theorem execWcAnd_kept (cell : Nat) (s : State) : OutKept 0x1ffc10118681e80552 s (execWcAnd cell s) := by
  unfold execWcAnd
  exact (State.execCell_kept ..).up

theorem execWcEq_kept (cell : Nat) (s : State) : OutKept 0x1ffc10118681e80552 s (execWcEq cell s) := by
  unfold execWcEq
  exact (State.execCell_kept ..).up

theorem execCrossingStrobeSet_kept (cell : Nat) (s : State) : OutKept 0x2000000000000000 s (execCrossingStrobeSet cell s) := by
  unfold execCrossingStrobeSet
  exact Kept.ite ((State.withFabric_kept (m := 0x2000000000000000) ..).up) (Kept.refl _)

theorem execWcNot_kept (cell : Nat) (s : State) : OutKept 0x1ffc10118681e80552 s (execWcNot cell s) := by
  unfold execWcNot
  exact (State.execCell_kept ..).up

theorem execWcMullo_kept (cell : Nat) (s : State) : OutKept 0x1ffc10118681e80552 s (execWcMullo cell s) := by
  unfold execWcMullo
  exact (State.execCell_kept ..).up

theorem execWcNop_kept (cell : Nat) (s : State) : OutKept 0x1ffc10118681e80552 s (execWcNop cell s) := by
  unfold execWcNop
  exact (State.execCell_kept ..).up

theorem execWcMulhu_kept (cell : Nat) (s : State) : OutKept 0x1ffc10118681e80552 s (execWcMulhu cell s) := by
  unfold execWcMulhu
  exact (State.execCell_kept ..).up

theorem execStagingByteWrite_kept (cell : Nat) (s : State) : OutKept 0x2000008000000000 s (execStagingByteWrite cell s) := by
  unfold execStagingByteWrite
  exact Kept.ite ((State.landStagings_kept ..).up) (Kept.refl _)

theorem execWcOr_kept (cell : Nat) (s : State) : OutKept 0x1ffc10118681e80552 s (execWcOr cell s) := by
  unfold execWcOr
  exact (State.execCell_kept ..).up

theorem execWcSar_kept (cell : Nat) (s : State) : OutKept 0x1ffc10118681e80552 s (execWcSar cell s) := by
  unfold execWcSar
  exact (State.execCell_kept ..).up

theorem execWcShr_kept (cell : Nat) (s : State) : OutKept 0x1ffc10118681e80552 s (execWcShr cell s) := by
  unfold execWcShr
  exact (State.execCell_kept ..).up

theorem execWcBit_kept (cell : Nat) (s : State) : OutKept 0x1ffc10118681e80552 s (execWcBit cell s) := by
  unfold execWcBit
  exact (State.execCell_kept ..).up

theorem execWcSub_kept (cell : Nat) (s : State) : OutKept 0x1ffc10118681e80552 s (execWcSub cell s) := by
  unfold execWcSub
  exact (State.execCell_kept ..).up

theorem execWcMaxu_kept (cell : Nat) (s : State) : OutKept 0x1ffc10118681e80552 s (execWcMaxu cell s) := by
  unfold execWcMaxu
  exact (State.execCell_kept ..).up

theorem execWcShl_kept (cell : Nat) (s : State) : OutKept 0x1ffc10118681e80552 s (execWcShl cell s) := by
  unfold execWcShl
  exact (State.execCell_kept ..).up

theorem execWcMinu_kept (cell : Nat) (s : State) : OutKept 0x1ffc10118681e80552 s (execWcMinu cell s) := by
  unfold execWcMinu
  exact (State.execCell_kept ..).up

theorem execWcAdd_kept (cell : Nat) (s : State) : OutKept 0x1ffc10118681e80552 s (execWcAdd cell s) := by
  unfold execWcAdd
  exact (State.execCell_kept ..).up

theorem execWcInc_kept (cell : Nat) (s : State) : OutKept 0x1ffc10118681e80552 s (execWcInc cell s) := by
  unfold execWcInc
  exact (State.execCell_kept ..).up

theorem execWcSel_kept (cell : Nat) (s : State) : OutKept 0x1ffc10118681e80552 s (execWcSel cell s) := by
  unfold execWcSel
  exact (State.execCell_kept ..).up

theorem execWcLtu_kept (cell : Nat) (s : State) : OutKept 0x1ffc10118681e80552 s (execWcLtu cell s) := by
  unfold execWcLtu
  exact (State.execCell_kept ..).up

theorem execWcLts_kept (cell : Nat) (s : State) : OutKept 0x1ffc10118681e80552 s (execWcLts cell s) := by
  unfold execWcLts
  exact (State.execCell_kept ..).up

theorem execWcXor_kept (cell : Nat) (s : State) : OutKept 0x1ffc10118681e80552 s (execWcXor cell s) := by
  unfold execWcXor
  exact (State.execCell_kept ..).up

end Sys2Proof.Machine
end

