-- ==== Sys2Proof/Laws/KeptPulses.lean ====
section
/-! SUPPORT. What the operations of Machine/Pulses.lean keep. -/

set_option Elab.async false

namespace Sys2Proof.Machine

theorem State.setPulse_kept (s : State) (g : Nat) (p : Pulse) : Kept 0x2000 s (State.setPulse s g p) := by
  unfold State.setPulse
  exact Kept.up (Kept.upd (m := 0x2000) id id)

theorem State.writePulseControl_kept (s : State) (req : Nat) (g : Nat) (v : Nat) : Kept 0x204b s (State.writePulseControl s req g v) := by
  unfold State.writePulseControl
  exact Kept.ite (Kept.trans (by exact Kept.trans (by exact (State.putEntry_kept ..).up) ((State.setPulse_kept ..).up)) ((State.accept_kept ..).up)) (Kept.ite ((State.refuse_kept ..).up) (Kept.ite ((State.refuse_kept ..).up) (Kept.ite ((State.refuse_kept ..).up) (Kept.ite ((State.refuse_kept ..).up) (Kept.trans (by exact Kept.trans (by exact (State.putEntry_kept ..).up) ((State.setPulse_kept ..).up)) ((State.accept_kept ..).up))))))

theorem execPulseArm_kept (req : Nat) (generator : Nat) (value : Nat) (s : State) : OutKept 0x400205b s (execPulseArm req generator value s) := by
  unfold execPulseArm
  exact State.writingValue_kept (hk := fun _ _ => (State.writePulseControl_kept ..).up) ..

theorem State.recordFire_kept (s : State) (g : Nat) : Kept 0x2 s (State.recordFire s g) := by
  unfold State.recordFire
  exact Kept.trans (by exact Kept.trans (by exact (State.putEntry_kept ..).up) ((State.putEntry_kept ..).up)) ((State.putEntry_kept ..).up)

theorem execPulseLeadingEdge_kept (generator : Nat) (s : State) : OutKept 0x400202002 s (execPulseLeadingEdge generator s) := by
  unfold execPulseLeadingEdge
  exact Kept.ite (Kept.trans (by exact Kept.trans (by exact Kept.trans (by exact (State.setPulse_kept ..).up) ((State.recordFire_kept ..).up)) ((State.bump_kept ..).up)) ((State.raiseLine_kept ..).up)) (Kept.refl _)

theorem execPulseStop_kept (req : Nat) (generator : Nat) (value : Nat) (s : State) : OutKept 0x400205b s (execPulseStop req generator value s) := by
  unfold execPulseStop
  exact State.writingValue_kept (hk := fun _ _ => (State.writePulseControl_kept ..).up) ..

theorem State.markPulse_kept (s : State) (g : Nat) : Kept 0x2000 s (State.markPulse s g) := by
  unfold State.markPulse
  exact Kept.ite ((State.setPulse_kept ..).up) (Kept.refl _)

theorem State.disarmPulses_kept (s : State) : Kept 0x2040 s (State.disarmPulses s) := by
  unfold State.disarmPulses
  exact Kept.ite (Kept.refl _) (Kept.trans (by exact Kept.up (Kept.upd (m := 0x2000) id id)) ((State.log1_quiet ..).up))

theorem execPulseTrailingEdge_kept (generator : Nat) (s : State) : OutKept 0x2000 s (execPulseTrailingEdge generator s) := by
  unfold execPulseTrailingEdge
  exact Kept.ite ((State.setPulse_kept ..).up) (Kept.refl _)

end Sys2Proof.Machine
end

