-- ==== Sys2Proof/Laws/KeptTrigger.lean ====
section
/-! SUPPORT. What the operations of Machine/Trigger.lean keep. -/

set_option Elab.async false

namespace Sys2Proof.Machine

theorem State.streamRoom_kept (s : State) (k : Nat) : Kept 0x100000080100 s (State.streamRoom s k) := by
  unfold State.streamRoom
  exact Kept.ite ((State.raiseRoom_kept ..).up) ((State.clearRoom_kept ..).up)

theorem State.drainWrite_kept (s : State) (addr : Nat) (bs : List Byte) : Kept 0x1000040420004b s (State.drainWrite s addr bs) := by
  unfold State.drainWrite
  exact Kept.ite (Kept.refl _) (Kept.ite (Kept.trans (by exact (State.denied_kept ..).up) (Kept.up (Kept.upd (m := 0x1) id id))) (Kept.ite (Kept.trans (by exact (State.writeBytes_kept ..).up) ((State.countEvent_kept ..).up)) ((State.logDetail_quiet ..).up)))

theorem State.countSample_kept (s : State) (k : Nat) (sub : Nat) : Kept 0x2 s (State.countSample s k sub) := by
  unfold State.countSample
  exact Kept.ite (Kept.trans (by exact (State.bump_kept ..).up) ((State.putEntry_kept ..).up)) ((State.bump_kept ..).up)

theorem State.setSampler_kept (s : State) (k : Nat) (x : Sampler) : Kept 0x200000000 s (State.setSampler s k x) := by
  unfold State.setSampler
  exact Kept.up (Kept.upd (m := 0x200000000) id id)

theorem State.drainOne_kept (s : State) (k : Nat) : Kept 0x1000060420004b s (State.drainOne s k) := by
  unfold State.drainOne
  exact Kept.trans (by exact Kept.trans (by exact Kept.trans (by exact (State.drainWrite_kept ..).up) ((State.drainWrite_kept ..).up)) ((State.countSample_kept ..).up)) ((State.setSampler_kept ..).up)

theorem State.pathEdge_kept (s : State) : Kept 0x200000000 s (State.pathEdge s) := by
  unfold State.pathEdge
  exact Kept.up (Kept.upd (m := 0x200000000) id id)

theorem State.forceSampler_kept (s : State) (k : Nat) : Kept 0x200000000 s (State.forceSampler s k) := by
  unfold State.forceSampler
  exact Kept.ite ((State.setSampler_kept ..).up) (Kept.refl _)

theorem execSamplerForceTrigger_kept (req : Nat) (sampler : Nat) (s : State) : OutKept 0x20400005b s (execSamplerForceTrigger req sampler s) := by
  unfold execSamplerForceTrigger
  exact State.writing_kept (hk := fun _ => Kept.trans (by exact (State.forceSampler_kept ..).up) ((State.accept_kept ..).up)) ..

theorem State.synchronise_kept (s : State) (k : Nat) : Kept 0x200000000 s (State.synchronise s k) := by
  unfold State.synchronise
  exact Kept.ite ((State.setSampler_kept ..).up) (Kept.refl _)

theorem State.writeHeader_kept (s : State) (k : Nat) : Kept 0x10000000000000 s (State.writeHeader s k) := by
  unfold State.writeHeader
  exact (State.writeBytes_kept ..).up

theorem State.completeExposure_kept (s : State) (k : Nat) (aborted : Bool) : Kept 0x10100600200040 s (State.completeExposure s k aborted) := by
  unfold State.completeExposure
  exact Kept.ite (Kept.trans (by exact Kept.trans (by exact Kept.trans (by exact Kept.trans (by exact (State.setSampler_kept ..).up) ((State.clearRoom_kept ..).up)) ((State.writeHeader_kept ..).up)) ((State.raiseLine_kept ..).up)) ((State.log1_quiet ..).up)) (Kept.ite (Kept.trans (by exact Kept.trans (by exact Kept.trans (by exact (State.setSampler_kept ..).up) ((State.clearRoom_kept ..).up)) ((State.writeHeader_kept ..).up)) ((State.raiseLine_kept ..).up)) (Kept.trans (by exact Kept.trans (by exact Kept.trans (by exact Kept.trans (by exact (State.setSampler_kept ..).up) ((State.clearRoom_kept ..).up)) ((State.writeHeader_kept ..).up)) ((State.raiseLine_kept ..).up)) ((State.log1_quiet ..).up)))

theorem State.keepSample_kept (s : State) (k : Nat) : Kept 0x10100600280142 s (State.keepSample s k) := by
  unfold State.keepSample
  exact Kept.ite (Kept.trans (by exact Kept.trans (by exact Kept.ite (Kept.trans (by exact Kept.trans (by exact (State.writeBytes_kept ..).up) ((State.countSample_kept ..).up)) ((State.countSample_kept ..).up)) (Kept.trans (by exact (State.writeBytes_kept ..).up) ((State.countSample_kept ..).up))) ((State.setSampler_kept ..).up)) ((State.completeExposure_kept ..).up)) (Kept.trans (by exact Kept.trans (by exact Kept.trans (by exact Kept.ite (Kept.trans (by exact Kept.trans (by exact (State.writeBytes_kept ..).up) ((State.countSample_kept ..).up)) ((State.countSample_kept ..).up)) (Kept.trans (by exact (State.writeBytes_kept ..).up) ((State.countSample_kept ..).up))) ((State.setSampler_kept ..).up)) ((State.writeHeader_kept ..).up)) ((State.streamRoom_kept ..).up))

theorem State.sampleEdge_kept (s : State) (k : Nat) : Kept 0x10100600280142 s (State.sampleEdge s k) := by
  unfold State.sampleEdge
  exact Kept.ite (Kept.refl _) (Kept.ite (Kept.trans (by exact (State.countSample_kept ..).up) ((State.keepSample_kept ..).up)) (Kept.trans (by exact Kept.trans (by exact (State.countSample_kept ..).up) ((State.countSample_kept ..).up)) ((State.setSampler_kept ..).up)))

theorem execSampleClockEdge_kept (sampler : Nat) (s : State) : OutKept 0x10100600280142 s (execSampleClockEdge sampler s) := by
  unfold execSampleClockEdge
  exact Kept.ite (Kept.refl _) (Kept.trans (by exact (State.synchronise_kept ..).up) ((State.sampleEdge_kept ..).up))

theorem State.cycleSamples_kept (s : State) : Kept 0x10100600280142 s (State.cycleSamples s) := by
  unfold State.cycleSamples
  exact Kept.foldl (fun _ _ => Kept.ite ((State.sampleEdge_kept ..).up) (Kept.refl _)) (Kept.refl _)

theorem State.drain_kept (k n : Nat) (s : State) : Kept 0x1000060420004b s (State.drain k n s) := by
  induction n generalizing s with
  | zero => exact Kept.refl _
  | succ n ih =>
    unfold State.drain
    exact Kept.ite (Kept.trans ((State.drainOne_kept ..).up) (ih _)) (Kept.refl _)

theorem State.setUnit_kept (s : State) (u : Nat) (x : TrigUnit) : Kept 0x200000000 s (State.setUnit s u x) := by
  unfold State.setUnit
  exact Kept.up (Kept.upd (m := 0x200000000) id id)

theorem State.assertOutputs_kept (s : State) (kind : Nat) (index : Nat) : Kept 0x200000000 s (State.assertOutputs s kind index) := by
  unfold State.assertOutputs
  exact Kept.up (Kept.upd (m := 0x200000000) id id)

theorem State.qualify_kept (s : State) (u : Nat) (x : TrigUnit) : Kept 0x200000002 s (s.qualify u x).1 := by
  unfold State.qualify
  split
  · exact Kept.trans ((State.setUnit_kept ..).up) ((State.bump_kept ..).up)
  · split
    · exact (State.setUnit_kept ..).up
    · exact Kept.trans (Kept.trans ((State.setUnit_kept ..).up) ((State.bump_kept ..).up)) ((State.assertOutputs_kept ..).up)

theorem State.countHoldoff_kept (s : State) (u : Nat) (held : Bool) : Kept 0x200000000 s (State.countHoldoff s u held) := by
  unfold State.countHoldoff
  exact Kept.ite ((State.setUnit_kept ..).up) (Kept.refl _)

theorem State.evaluateUnit_kept (seen s : State) (u : Nat) : Kept 0x200000002 s (State.evaluateUnit seen s u).1 := by
  have h0 : Kept 0x200000002 s (s.setUnit u ((seen.unitView u).arm (s.unit u))) := (State.setUnit_kept ..).up
  unfold State.evaluateUnit
  dsimp only
  split
  · exact ((State.qualify_kept s u ((seen.unitView u).arm (s.unit u))).up (m := 0x200000002)).trans ((State.countHoldoff_kept ..).up)
  · exact h0.trans ((State.countHoldoff_kept ..).up)

theorem State.triggerSampler_kept (s : State) (k : Nat) (cause : Nat) (forced : Bool) : Kept 0x10100600280140 s (State.triggerSampler s k cause forced) := by
  unfold State.triggerSampler
  exact Kept.ite (Kept.refl _) (Kept.ite (Kept.trans (by exact Kept.ite (Kept.trans (by exact Kept.trans (by exact Kept.trans (by exact Kept.trans (by exact (State.setSampler_kept ..).up) ((State.writeHeader_kept ..).up)) ((State.raiseLine_kept ..).up)) ((State.assertOutputs_kept ..).up)) ((State.raiseStop_kept ..).up)) (Kept.trans (by exact Kept.trans (by exact Kept.trans (by exact (State.setSampler_kept ..).up) ((State.writeHeader_kept ..).up)) ((State.raiseLine_kept ..).up)) ((State.assertOutputs_kept ..).up))) ((State.completeExposure_kept ..).up)) (Kept.ite (Kept.trans (by exact Kept.trans (by exact Kept.trans (by exact Kept.trans (by exact (State.setSampler_kept ..).up) ((State.writeHeader_kept ..).up)) ((State.raiseLine_kept ..).up)) ((State.assertOutputs_kept ..).up)) ((State.raiseStop_kept ..).up)) (Kept.trans (by exact Kept.trans (by exact Kept.trans (by exact (State.setSampler_kept ..).up) ((State.writeHeader_kept ..).up)) ((State.raiseLine_kept ..).up)) ((State.assertOutputs_kept ..).up))))

theorem State.forceTriggers_kept (s : State) : Kept 0x10100600280140 s (State.forceTriggers s) := by
  unfold State.forceTriggers
  exact Kept.foldl (fun _ _ => Kept.ite ((State.triggerSampler_kept ..).up) (Kept.refl _)) (Kept.refl _)

theorem State.unitsFired_kept (s : State) (fired : Nat) : Kept 0x10100600280140 s (State.unitsFired s fired) := by
  unfold State.unitsFired
  exact Kept.foldl (fun _ _ => Kept.ite (Kept.trans (by exact (State.setSampler_kept ..).up) ((State.triggerSampler_kept ..).up)) ((State.setSampler_kept ..).up)) (Kept.refl _)

theorem State.unitEdge_kept (s : State) : Kept 0x10100600280142 s s.unitEdge := by
  have hf : ∀ (t : State) (l : List Nat) (x : State × List Nat), Kept 0x10100600280142 s x.1 → Kept 0x10100600280142 s (l.foldl (fun (r : State × List Nat) u =>
      let e := t.evaluateUnit r.1 u
      (e.1, if e.2 then u :: r.2 else r.2)) x).1 := by
    intro t l
    induction l with
    | nil => exact fun x h => h
    | cons m ms ih => exact fun x h => ih _ (h.trans ((State.evaluateUnit_kept ..).up))
  have hp : Kept 0x10100600280142 s s.pathEdge := (State.pathEdge_kept s).up
  unfold State.unitEdge
  refine Kept.ite (Kept.refl _) ?_
  refine Kept.trans ?_ ((State.forceTriggers_kept ..).up)
  exact Kept.ite (hf _ _ _ hp) (Kept.trans (hf _ _ _ hp) ((State.unitsFired_kept ..).up))

theorem execTriggerUnitFire_kept (s : State) : OutKept 0x10100600280142 s (execTriggerUnitFire s) := by
  unfold execTriggerUnitFire
  exact (State.unitEdge_kept ..).up

theorem State.armSampler_kept (s : State) (k : Nat) (e : Nat) : Kept 0x10000200000002 s (State.armSampler s k e) := by
  unfold State.armSampler
  exact Kept.trans (by exact Kept.trans (by exact Kept.foldl (fun _ _ => (State.putEntry_kept ..).up) (Kept.refl _)) ((State.setSampler_kept ..).up)) ((State.writeHeader_kept ..).up)

theorem execSamplerArm_kept (req : Nat) (sampler : Nat) (s : State) : OutKept 0x1000020400005b s (execSamplerArm req sampler s) := by
  unfold execSamplerArm
  exact State.writing_kept (hk := fun _ => Kept.ite ((State.refuse_kept ..).up) (Kept.ite ((State.refuse_kept ..).up) (by (try dsimp only); split; exact ((State.refuse_kept ..).up); exact (Kept.trans (by exact (State.armSampler_kept ..).up) ((State.accept_kept ..).up))))) ..

theorem State.restartUnit_kept (s : State) (u : Nat) : Kept 0x200000000 s (State.restartUnit s u) := by
  unfold State.restartUnit
  exact (State.setUnit_kept ..).up

theorem State.disarmSampler_kept (s : State) (k : Nat) : Kept 0x10100600200040 s (State.disarmSampler s k) := by
  unfold State.disarmSampler
  exact Kept.ite (Kept.refl _) (Kept.ite (Kept.ite ((State.completeExposure_kept ..).up) (Kept.trans (by exact (State.setSampler_kept ..).up) ((State.clearRoom_kept ..).up))) ((State.setSampler_kept ..).up))

theorem execHoldoffExpiry_kept (unit : Nat) (s : State) : OutKept 0x200000000 s (execHoldoffExpiry unit s) := by
  unfold execHoldoffExpiry
  exact Kept.ite ((State.setUnit_kept ..).up) (Kept.refl _)

theorem State.abortSamplers_kept (s : State) (p : Nat → Bool) : Kept 0x10100600200040 s (State.abortSamplers s p) := by
  unfold State.abortSamplers
  exact Kept.foldl (fun _ _ => Kept.ite ((State.completeExposure_kept ..).up) (Kept.refl _)) (Kept.refl _)

theorem State.releaseOutputs_kept (s : State) : Kept 0x200000002 s (State.releaseOutputs s) := by
  unfold State.releaseOutputs
  exact Kept.trans (by exact Kept.foldl (fun _ _ => (State.putEntry_kept ..).up) (Kept.refl _)) (Kept.up (Kept.upd (m := 0x200000000) id id))

theorem State.sleepTriggers_kept (s : State) : Kept 0x10100600200042 s (State.sleepTriggers s) := by
  unfold State.sleepTriggers
  exact Kept.trans (by exact Kept.trans (by exact (State.abortSamplers_kept ..).up) ((State.releaseOutputs_kept ..).up)) (Kept.up (Kept.upd (m := 0x200000000) id id))

theorem State.loadTriggers_kept (s : State) : Kept 0x10100600280142 s (State.loadTriggers s) := by
  unfold State.loadTriggers
  exact Kept.trans (by exact Kept.up (Kept.upd (m := 0x200000000) id id)) ((State.cycleSamples_kept ..).up)

theorem execSamplerDisarm_kept (req : Nat) (sampler : Nat) (s : State) : OutKept 0x1010060420005b s (execSamplerDisarm req sampler s) := by
  unfold execSamplerDisarm
  exact State.writing_kept (hk := fun _ => Kept.trans (by exact (State.disarmSampler_kept ..).up) ((State.accept_kept ..).up)) ..

theorem execStreamDrain_kept (sampler : Nat) (s : State) : OutKept 0x1010060428014b s (execStreamDrain sampler s) := by
  unfold execStreamDrain
  exact Kept.ite (Kept.ite (Kept.trans (by exact (State.drain_kept ..).up) ((State.completeExposure_kept ..).up)) (Kept.trans (by exact Kept.trans (by exact (State.drain_kept ..).up) ((State.writeHeader_kept ..).up)) ((State.streamRoom_kept ..).up))) (Kept.refl _)

theorem execTriggerOutputPulseEnd_kept (output : Nat) (s : State) : OutKept 0x200000000 s (execTriggerOutputPulseEnd output s) := by
  unfold execTriggerOutputPulseEnd
  exact Kept.up (Kept.upd (m := 0x200000000) id id)

theorem execStreamReadPointerWrite_kept (req : Nat) (sampler : Nat) (value : Nat) (s : State) : OutKept 0x400005b s (execStreamReadPointerWrite req sampler value s) := by
  unfold execStreamReadPointerWrite
  exact State.writingValue_kept (hk := fun _ _ => Kept.trans (by exact (State.putEntry_kept ..).up) ((State.accept_kept ..).up)) ..

theorem execTrigLineChange_kept (line : Nat) (level : Bool) (s : State) : OutKept 0x200000000 s (execTrigLineChange line level s) := by
  unfold execTrigLineChange
  exact Kept.ite (Kept.up (Kept.upd (m := 0x200000000) id id)) (Kept.refl _)

end Sys2Proof.Machine
end

