-- ==== Sys2Proof/Laws/KeptCrossing.lean ====
section
/-! SUPPORT. What the operations of Machine/Crossing.lean keep. -/

set_option Elab.async false

namespace Sys2Proof.Machine

theorem State.keepSeen_kept (s : State) : Kept 0x200000000 s (State.keepSeen s) := by
  unfold State.keepSeen
  exact Kept.up (Kept.upd (m := 0x200000000) id id)

theorem State.sampleHold_kept (s : State) : Kept 0xffff000000000 s (State.sampleHold s) := by
  unfold State.sampleHold
  exact Kept.trans (by exact (State.withArr_kept (m := 0xffff000000000) ..).up) ((State.withSched_kept ..).up)

theorem State.sampleStaging_kept (s : State) : Kept 0x200ffff000000000 s (State.sampleStaging s) := by
  unfold State.sampleStaging
  exact Kept.trans (by exact Kept.foldl (fun _ _ => (State.landStagings_kept ..).up) (Kept.refl _)) ((State.sampleHold_kept ..).up)

theorem State.loadWordSide_kept (s : State) : Kept 0x1ffc1ffff600280142 s (State.loadWordSide s) := by
  unfold State.loadWordSide
  exact Kept.trans (by exact Kept.trans (by exact Kept.trans (by exact Kept.trans (by exact Kept.trans (by exact (State.keepSeen_kept ..).up) ((State.withArr_kept (m := 0xffff000000000) ..).up)) ((State.withFabric_kept (m := 0x1ffc00000000000000) ..).up)) ((State.withFabric_kept (m := 0x80000000000000000) ..).up)) ((State.withSched_kept ..).up)) ((State.loadTriggers_kept ..).up)

theorem State.crossBoundary_kept (s : State) : Kept 0xffff000000000 s (State.crossBoundary s) := by
  unfold State.crossBoundary
  exact (State.withArr_kept (m := 0xffff000000000) ..).up

end Sys2Proof.Machine
end

