-- ==== Sys2Proof/Laws/KeptStalls.lean ====
section
/-! SUPPORT. What the operations of Machine/Stalls.lean keep. -/

set_option Elab.async false

namespace Sys2Proof.Machine

theorem State.addStall_kept (s : State) (st : Stall) : Kept 0x100000080000 s (State.addStall s st) := by
  unfold State.addStall
  exact Kept.trans (by exact Kept.ite (Kept.up (Kept.upd (m := 0x80000) id id)) (Kept.refl _)) ((State.withSched_kept ..).up)

theorem State.countLate_kept (s : State) (w : Nat) (keys : List Nat) : Kept 0x100000000002 s (State.countLate s w keys) := by
  unfold State.countLate
  exact Kept.ite (Kept.refl _) (Kept.trans (by exact (State.bumpBy_kept ..).up) ((State.withSched_kept ..).up))

theorem State.decideSlot_kept (s : State) (w : Nat) : Kept 0x100000080002 s (State.decideSlot s w) := by
  unfold State.decideSlot
  exact Kept.ite (Kept.trans (by exact (State.countLate_kept ..).up) ((State.withSched_kept ..).up)) (Kept.trans (by exact Kept.trans (by exact (State.countLate_kept ..).up) ((State.withSched_kept ..).up)) ((State.addStall_kept ..).up))

theorem State.decideDue_kept (s : State) : Kept 0x100000080002 s (State.decideDue s) := by
  unfold State.decideDue
  exact Kept.ite ((State.decideSlot_kept ..).up) (Kept.refl _)

end Sys2Proof.Machine
end

