-- ==== Sys2Proof/Laws/KeptInterconnect.lean ====
section
/-! SUPPORT. What the operations of Machine/Interconnect.lean keep. -/

set_option Elab.async false

namespace Sys2Proof.Machine

theorem State.countQueue_kept (s : State) (die : Nat) (which : Nat) (n : Nat) : Kept 0x40000 s (State.countQueue s die which n) := by
  unfold State.countQueue
  exact Kept.up (Kept.upd (m := 0x40000) id id)

theorem State.calendarMiss_kept (s : State) (key : Nat) : Kept 0x400000048000 s (State.calendarMiss s key) := by
  unfold State.calendarMiss
  exact Kept.ite (Kept.trans (by exact Kept.ite (Kept.trans (by exact Kept.ite (Kept.up (Kept.upd (m := 0x8000) id id)) (Kept.refl _)) ((State.countQueue_kept ..).up)) (Kept.ite (Kept.up (Kept.upd (m := 0x8000) id id)) (Kept.refl _))) ((State.withArr_kept (m := 0x400000000000) ..).up)) (Kept.ite (Kept.trans (by exact Kept.ite (Kept.up (Kept.upd (m := 0x8000) id id)) (Kept.refl _)) ((State.countQueue_kept ..).up)) (Kept.ite (Kept.up (Kept.upd (m := 0x8000) id id)) (Kept.refl _)))

theorem State.calendarMisses_kept (s : State) : Kept 0x400000048000 s (State.calendarMisses s) := by
  unfold State.calendarMisses
  exact Kept.foldl (fun _ _ => (State.calendarMiss_kept ..).up) (Kept.refl _)

theorem State.beginStep_kept (s : State) : Kept 0x1ffc1ffff600280142 s (State.beginStep s) := by
  unfold State.beginStep
  exact Kept.ite (Kept.refl _) (Kept.trans (by exact Kept.ite (Kept.trans (by exact Kept.ite (Kept.trans (by exact (State.decideDue_kept ..).up) ((State.loadWordSide_kept ..).up)) ((State.decideDue_kept ..).up)) ((State.sampleStaging_kept ..).up)) (Kept.ite (Kept.trans (by exact (State.decideDue_kept ..).up) ((State.loadWordSide_kept ..).up)) ((State.decideDue_kept ..).up))) ((State.withSched_kept ..).up))

theorem State.routeParity_kept (s : State) : Kept 0x100400280550 s (State.routeParity s) := by
  unfold State.routeParity
  exact Kept.foldl (fun _ _ => Kept.trans (by exact (State.logDetail_kept ..).up) ((State.raiseStopAt_kept ..).up)) (Kept.refl _)

theorem State.launch_kept (s : State) (r : Route) : Kept 0x8060800000000 s (State.launch s r) := by
  unfold State.launch
  exact Kept.ite (Kept.refl _) (Kept.trans (by exact Kept.ite (Kept.up (Kept.upd (m := 0x800000000) id id)) (Kept.refl _)) ((State.withArr_kept (m := 0x8060000000000) ..).up))

theorem State.launchAll_kept (s : State) : Kept 0x8060800000000 s (State.launchAll s) := by
  unfold State.launchAll
  exact Kept.foldl (fun _ _ => (State.launch_kept ..).up) (Kept.refl _)

theorem State.resolveClaims_kept (s : State) : Kept 0x260800000000 s (State.resolveClaims s) := by
  unfold State.resolveClaims
  exact Kept.ite (Kept.trans (by exact (State.withArr_kept (m := 0x260000000000) ..).up) (Kept.up (Kept.upd (m := 0x800000000) id id))) ((State.withArr_kept (m := 0x260000000000) ..).up)

theorem State.landFlights_kept (s : State) : Kept 0x20000000000 s (State.landFlights s) := by
  unfold State.landFlights
  exact (State.withArr_kept (m := 0x20000000000) ..).up

theorem State.deliverStep_kept (s : State) : Kept 0xffff000100000 s (State.deliverStep s) := by
  unfold State.deliverStep
  exact Kept.trans (by exact Kept.trans (by exact Kept.up (Kept.upd (m := 0x100000) id id)) ((State.landFlights_kept ..).up)) ((State.withArr_kept (m := 0xffff000000000) ..).up)

theorem State.leaveNulls_kept (s : State) (key : Nat) : Kept 0x400000040000 s (State.leaveNulls s key) := by
  unfold State.leaveNulls
  exact Kept.ite (Kept.trans (by exact (State.withArr_kept (m := 0x400000000000) ..).up) ((State.countQueue_kept ..).up)) (Kept.refl _)

theorem State.logCollisions_kept (s : State) : Kept 0x300400280550 s (State.logCollisions s) := by
  unfold State.logCollisions
  exact Kept.trans (by exact Kept.ite (Kept.foldl (fun _ _ => by (try dsimp only); split; exact ((State.logDetail_kept ..).up); exact (Kept.refl _)) (Kept.refl _)) (Kept.foldl (fun _ _ => (State.raiseStopAt_kept ..).up) (Kept.foldl (fun _ _ => by (try dsimp only); split; exact ((State.logDetail_kept ..).up); exact (Kept.refl _)) (Kept.refl _)))) ((State.withArr_kept (m := 0x200000000000) ..).up)

theorem State.logEarly_kept (s : State) : Kept 0x300400280550 s (State.logEarly s) := by
  unfold State.logEarly
  exact Kept.trans (by exact Kept.foldl (fun _ _ => (State.raiseStopAt_kept ..).up) (Kept.foldl (fun _ _ => by (try dsimp only); split; exact ((State.logDetail_kept ..).up); exact (Kept.refl _)) (Kept.refl _))) ((State.withArr_kept (m := 0x200000000000) ..).up)

theorem State.lateWrites_kept (s : State) : Kept 0x2 s (State.lateWrites s) := by
  unfold State.lateWrites
  exact Kept.ite (Kept.refl _) ((State.bumpBy_kept ..).up)

theorem State.findStep_kept (s : State) : Kept 0x7004002c8552 s (State.findStep s) := by
  unfold State.findStep
  exact Kept.trans (by exact Kept.foldl (fun _ _ => (State.leaveNulls_kept ..).up) (Kept.trans (by exact Kept.trans (by exact (State.logCollisions_kept ..).up) ((State.logEarly_kept ..).up)) ((State.calendarMisses_kept ..).up))) ((State.lateWrites_kept ..).up)

theorem State.nextOpens_kept (s : State) : Kept 0xffff000000000 s (State.nextOpens s) := by
  unfold State.nextOpens
  exact Kept.trans (by exact (State.withArr_kept (m := 0xffff000000000) ..).up) ((State.withSched_kept ..).up)

theorem State.settleStep_kept (s : State) : Kept 0xffffc003c8552 s (State.settleStep s) := by
  unfold State.settleStep
  exact Kept.trans (by exact Kept.trans (by exact Kept.trans (by exact Kept.trans (by exact Kept.trans (by exact (State.routeParity_kept ..).up) ((State.launchAll_kept ..).up)) ((State.resolveClaims_kept ..).up)) ((State.deliverStep_kept ..).up)) ((State.findStep_kept ..).up)) ((State.nextOpens_kept ..).up)

theorem State.dieOverdraw_kept (s : State) (g : Nat) (d : Nat) : Kept 0x300400288550 s (State.dieOverdraw s g d) := by
  unfold State.dieOverdraw
  exact by (try dsimp only); split; exact (Kept.refl _); exact (Kept.trans (by exact Kept.ite (Kept.up (Kept.upd (m := 0x8000) id id)) (Kept.trans (by exact Kept.trans (by exact Kept.up (Kept.upd (m := 0x8000) id id)) ((State.logDetail_kept ..).up)) ((State.withArr_kept (m := 0x200000000000) ..).up))) ((State.raiseStopAt_kept ..).up))

theorem State.endSegment_kept (s : State) (g : Nat) : Kept 0xffff400288550 s (State.endSegment s g) := by
  unfold State.endSegment
  exact Kept.trans (by exact Kept.foldl (fun _ _ => (State.dieOverdraw_kept ..).up) (Kept.refl _)) ((State.withArr_kept (m := 0xffff000000000) ..).up)

theorem State.settle_kept (s : State) : Kept 0x1ffc1ffffe003c8552 s (State.settle s) := by
  unfold State.settle
  exact Kept.ite (Kept.trans (by exact Kept.trans (by exact (State.beginStep_kept ..).up) ((State.settleStep_kept ..).up)) ((State.endSegment_kept ..).up)) (Kept.trans (by exact (State.beginStep_kept ..).up) ((State.settleStep_kept ..).up))

theorem State.settleN_kept (n : Nat) (s : State) : Kept 0x1ffc1ffffe003c8552 s (State.settleN n s) := by
  induction n generalizing s with
  | zero => exact Kept.refl _
  | succ n ih =>
    unfold State.settleN
    split
    · exact Kept.refl _
    · exact Kept.trans ((State.settle_kept ..).up) (ih _)

theorem State.runTo_kept (s : State) (t : Nat) : Kept 0x1ffc1ffffe003c8552 s (State.runTo s t) := by
  unfold State.runTo
  exact (State.settleN_kept ..).up

theorem State.openStep_kept (s : State) (t : Nat) : Kept 0x1ffc1ffffe003c8552 s (State.openStep s t) := by
  unfold State.openStep
  exact Kept.trans (by exact (State.runTo_kept ..).up) ((State.beginStep_kept ..).up)

end Sys2Proof.Machine
end

