-- ==== Sys2Proof/Laws/KeptNib.lean ====
section
/-! SUPPORT. What the operations of Machine/Nib.lean keep. -/

set_option Elab.async false

namespace Sys2Proof.Machine

theorem State.finishNib_kept (s : State) (n : Nat) (x : Nib) (out : Bool) : Kept 0x101000000000 s (State.finishNib s n x out) := by
  unfold State.finishNib
  exact Kept.trans (by exact (State.withArr_kept (m := 0x1000000000) ..).up) ((State.withSched_kept ..).up)

theorem State.upsetNop_kept (s : State) (n : Nat) (invalid : Bool) : Kept 0x101400288550 s (State.upsetNop s n invalid) := by
  unfold State.upsetNop
  exact Kept.trans (by exact Kept.trans (by exact Kept.trans (by exact (State.finishNib_kept ..).up) (Kept.up (Kept.upd (m := 0x8000) id id))) ((State.logDetail_kept ..).up)) ((State.raiseStopAt_kept ..).up)

theorem State.noteEarly_kept (s : State) (n : Nat) (x2 : Option (Nat × Nat)) : Kept 0x200000000000 s (State.noteEarly s n x2) := by
  unfold State.noteEarly
  exact by (try dsimp only); split; exact (Kept.refl _); exact ((State.withArr_kept (m := 0x200000000000) ..).up)

theorem State.draw_kept (s : State) (tile : Nat) (k : Nat) : Kept 0x10400208002 s (State.draw s tile k) := by
  unfold State.draw
  exact Kept.trans (by exact Kept.trans (by exact (State.withArr_kept (m := 0x10000000000) ..).up) (Kept.up (Kept.upd (m := 0x8000) id id))) ((State.countEvent_kept ..).up)

theorem State.vote_kept (s : State) (n : Nat) (event : Nat) (scope : Bool) : Kept 0x2100000080100 s (State.vote s n event scope) := by
  unfold State.vote
  exact Kept.trans (by exact Kept.ite (Kept.trans (by exact (State.withArr_kept (m := 0x2000000000000) ..).up) (Kept.up (Kept.upd (m := 0x80000) id id))) ((State.withArr_kept (m := 0x2000000000000) ..).up)) ((State.raiseStopAt_kept ..).up)

theorem State.performWord_kept (s : State) (cls : NibClass) (n : Nat) (w : BitVec 64) : Kept 0x2311400288102 s (State.performWord s cls n w) := by
  unfold State.performWord
  exact by (try dsimp only); split; exact (Kept.trans (by exact (State.noteEarly_kept ..).up) ((State.draw_kept ..).up)); exact (Kept.trans (by exact Kept.trans (by exact (State.noteEarly_kept ..).up) ((State.draw_kept ..).up)) ((State.finishNib_kept ..).up)); exact (Kept.trans (by exact Kept.trans (by exact (State.noteEarly_kept ..).up) ((State.draw_kept ..).up)) ((State.finishNib_kept ..).up)); exact (Kept.trans (by exact Kept.trans (by exact (State.noteEarly_kept ..).up) ((State.draw_kept ..).up)) ((State.finishNib_kept ..).up)); exact (Kept.trans (by exact Kept.trans (by exact Kept.trans (by exact (State.noteEarly_kept ..).up) ((State.draw_kept ..).up)) ((State.finishNib_kept ..).up)) ((State.withArr_kept (m := 0x10000000000) ..).up)); exact (Kept.ite (Kept.trans (by exact Kept.trans (by exact Kept.trans (by exact (State.noteEarly_kept ..).up) ((State.draw_kept ..).up)) ((State.finishNib_kept ..).up)) ((State.vote_kept ..).up)) (Kept.trans (by exact Kept.trans (by exact (State.noteEarly_kept ..).up) ((State.draw_kept ..).up)) ((State.finishNib_kept ..).up))); exact (Kept.trans (by exact (State.noteEarly_kept ..).up) ((State.draw_kept ..).up)); exact (Kept.trans (by exact (State.noteEarly_kept ..).up) ((State.draw_kept ..).up))

theorem State.execNib_kept (s : State) (cls : NibClass) (t : Nat) (n : Nat) : Kept 0x1ffc1ffffe003c8552 s (State.execNib s cls t n) := by
  unfold State.execNib
  exact Kept.ite (Kept.refl _) (by (try dsimp only); split; exact (Kept.trans (by exact (State.openStep_kept ..).up) ((State.upsetNop_kept ..).up)); exact (Kept.ite (Kept.refl _) (Kept.ite (Kept.trans (by exact (State.openStep_kept ..).up) ((State.finishNib_kept ..).up)) (Kept.trans (by exact (State.openStep_kept ..).up) ((State.performWord_kept ..).up)))))

theorem State.arrive_kept (s : State) (nib : Nat) (rx : Nat) : Kept 0x360800000000 s (State.arrive s nib rx) := by
  unfold State.arrive
  exact by (try dsimp only); split; exact (Kept.trans (by exact Kept.trans (by exact (State.resolveClaims_kept ..).up) ((State.withArr_kept (m := 0x20000000000) ..).up)) ((State.withSched_kept ..).up)); exact (Kept.refl _)

theorem execProbe_kept (atStep : Nat) (nib : Nat) (s : State) : OutKept 0x1ffc1ffffe003c8552 s (execProbe atStep nib s) := by
  unfold execProbe
  exact (State.execNib_kept ..).up

theorem execEval_kept (atStep : Nat) (nib : Nat) (s : State) : OutKept 0x1ffc1ffffe003c8552 s (execEval atStep nib s) := by
  unfold execEval
  exact (State.execNib_kept ..).up

theorem execSync_kept (atStep : Nat) (nib : Nat) (s : State) : OutKept 0x1ffc1ffffe003c8552 s (execSync atStep nib s) := by
  unfold execSync
  exact (State.execNib_kept ..).up

theorem execSend_kept (atStep : Nat) (nib : Nat) (s : State) : OutKept 0x1ffc1ffffe003c8552 s (execSend atStep nib s) := by
  unfold execSend
  exact (State.execNib_kept ..).up

theorem State.laneValue_kept (s : State) (nib : Nat) (rx : Nat) (v : Bool) : Kept 0x20000000000 s (State.laneValue s nib rx v) := by
  unfold State.laneValue
  exact by (try dsimp only); split; exact ((State.withArr_kept (m := 0x20000000000) ..).up); exact (Kept.refl _)

theorem execNop_kept (atStep : Nat) (nib : Nat) (s : State) : OutKept 0x1ffc1ffffe003c8552 s (execNop atStep nib s) := by
  unfold execNop
  exact (State.execNib_kept ..).up

theorem execInterconnectArrival_kept (atStep : Nat) (nib : Nat) (rx : Nat) (lane : Option Bool) (s : State) : OutKept 0x1ffc1ffffe003c8552 s (execInterconnectArrival atStep nib rx lane s) := by
  unfold execInterconnectArrival
  exact Kept.ite (Kept.refl _) (by (try dsimp only); split; exact (Kept.trans (by exact (State.openStep_kept ..).up) ((State.laneValue_kept ..).up)); exact (Kept.trans (by exact (State.openStep_kept ..).up) ((State.arrive_kept ..).up)))

theorem execStore_kept (atStep : Nat) (nib : Nat) (s : State) : OutKept 0x1ffc1ffffe003c8552 s (execStore atStep nib s) := by
  unfold execStore
  exact (State.execNib_kept ..).up

end Sys2Proof.Machine
end

