-- ==== Sys2Proof/Laws/KeptRings.lean ====
section
/-! SUPPORT. What the operations of Machine/Rings.lean keep. -/

set_option Elab.async false

namespace Sys2Proof.Machine

theorem State.withRings_kept (s : State) (f : Rings → Rings) : Kept 0x10000000 s (State.withRings s f) := by
  unfold State.withRings
  exact Kept.up (Kept.upd (m := 0x10000000) id id)

theorem execDomainSleep_kept (domain : Nat) (s : State) : OutKept 0x10000000 s (execDomainSleep domain s) := by
  unfold execDomainSleep
  exact Kept.ite ((State.withRings_kept ..).up) (Kept.refl _)

theorem State.poweredOff_kept (s : State) (o : StopOwner) : Kept 0x40 s (State.poweredOff s o) := by
  unfold State.poweredOff
  exact (State.log1_quiet ..).up

theorem State.inject_kept (s : State) (x : Transit) : Kept 0x10000000 s (State.inject s x) := by
  unfold State.inject
  exact (State.withRings_kept ..).up

theorem State.sendAnswer_kept (s : State) (stop : Nat) (p : RingPacket) (a : Answer) : Kept 0x10000000 s (s.sendAnswer stop p a) := by
  unfold State.sendAnswer
  exact (State.inject_kept ..).up

theorem State.capture_kept (s : State) (a : Answer) : Kept 0x2000000 s (State.capture s a) := by
  unfold State.capture
  exact by (try dsimp only); split; exact (Kept.up (Kept.upd (m := 0x2000000) id id)); exact (Kept.up (Kept.upd (m := 0x2000000) id id)); exact (Kept.up (Kept.upd (m := 0x2000000) id id)); exact (Kept.up (Kept.upd (m := 0x2000000) id id)); exact (Kept.up (Kept.upd (m := 0x2000000) id id)); exact (Kept.up (Kept.upd (m := 0x2000000) id id)); exact (Kept.up (Kept.upd (m := 0x2000000) id id)); exact (Kept.up (Kept.upd (m := 0x2000000) id id)); exact (Kept.up (Kept.upd (m := 0x2000000) id id)); exact (Kept.up (Kept.upd (m := 0x2000000) id id))

theorem State.complete_kept (s : State) (req : Nat) (a : Answer) : Kept 0x12000000 s (State.complete s req a) := by
  unfold State.complete
  exact Kept.ite (Kept.trans (by exact (State.withRings_kept ..).up) ((State.capture_kept ..).up)) ((State.withRings_kept ..).up)

theorem State.failHeld_kept (s : State) (x1 : Held) : Kept 0x12000000 s (State.failHeld s x1) := by
  unfold State.failHeld
  exact by (try dsimp only); split; exact (Kept.ite ((State.sendAnswer_kept ..).up) (Kept.refl _)); exact ((State.complete_kept ..).up)

theorem State.reserveEngine_kept (s : State) (e : Nat) : Kept 0x10000000 s (State.reserveEngine s e) := by
  unfold State.reserveEngine
  exact by (try dsimp only); split; exact ((State.withRings_kept ..).up); exact (Kept.ite ((State.withRings_kept ..).up) (by (try dsimp only); split; exact ((State.withRings_kept ..).up); exact (Kept.trans (by exact (State.withRings_kept ..).up) ((State.withRings_kept ..).up))))

theorem execDomainWakeTimeout_kept (domain : Nat) (s : State) : OutKept 0x12000042 s (execDomainWakeTimeout domain s) := by
  unfold execDomainWakeTimeout
  exact Kept.ite (Kept.refl _) (Kept.trans (by exact Kept.trans (by exact Kept.foldl (fun _ _ => (State.failHeld_kept ..).up) ((State.withRings_kept ..).up)) ((State.log1_quiet ..).up)) ((State.bump_kept ..).up))

theorem State.leaveStop_kept (s : State) (x : Transit) : Kept 0x10000000 s (State.leaveStop s x) := by
  unfold State.leaveStop
  exact (State.withRings_kept ..).up

theorem State.discardPacket_kept (s : State) (o : StopOwner) (x : Transit) : Kept 0x100410280552 s (State.discardPacket s o x) := by
  unfold State.discardPacket
  exact Kept.trans (by exact Kept.trans (by exact Kept.trans (by exact (State.leaveStop_kept ..).up) ((State.bump_kept ..).up)) ((State.logAs_kept ..).up)) ((State.raiseStop_kept ..).up)

theorem State.carry_kept (s : State) (n : Nat) (x : Transit) : Kept 0x410200002 s (State.carry s n x) := by
  unfold State.carry
  exact Kept.trans (by exact Kept.trans (by exact Kept.ite (Kept.trans (by exact (State.bump_kept ..).up) ((State.countEvent_kept ..).up)) (Kept.refl _)) ((State.leaveStop_kept ..).up)) ((State.withRings_kept ..).up)

theorem State.holdFor_kept (s : State) (d : Nat) (x : Held) : Kept 0x10000002 s (State.holdFor s d x) := by
  unfold State.holdFor
  exact Kept.trans (by exact Kept.ite (Kept.refl _) ((State.bump_kept ..).up)) ((State.withRings_kept ..).up)

theorem State.answered_kept (s : State) (h : Nat) (a : Answer) : Kept 0x12000000 s (State.answered s h a) := by
  unfold State.answered
  exact by (try dsimp only); split; exact (Kept.refl _); exact (Kept.trans (by exact (State.withRings_kept ..).up) ((State.complete_kept ..).up))

theorem State.reserveEngines_kept (s : State) (es : List Nat) : Kept 0x10000000 s (State.reserveEngines s es) := by
  unfold State.reserveEngines
  exact Kept.foldl (fun _ _ => (State.reserveEngine_kept ..).up) (Kept.refl _)

theorem execRequestTimeout_kept (tag : Nat) (s : State) : OutKept 0x120001c2 s (execRequestTimeout tag s) := by
  unfold execRequestTimeout
  exact by (try dsimp only); split; exact (Kept.refl _); exact (Kept.trans (by exact Kept.ite (Kept.trans (by exact (State.withRings_kept ..).up) ((State.bump_kept ..).up)) (Kept.trans (by exact Kept.trans (by exact Kept.trans (by exact (State.withRings_kept ..).up) ((State.bump_kept ..).up)) ((State.logDetail_quiet ..).up)) (Kept.up (Kept.upd (m := 0x180) id id)))) ((State.complete_kept ..).up))

end Sys2Proof.Machine
end

