-- ==== Sys2Proof/Laws/KeptQueues.lean ====
section
/-! SUPPORT. What the operations of Machine/Queues.lean keep. -/

set_option Elab.async false

namespace Sys2Proof.Machine

theorem State.waitMember_kept (s : State) (m : Nat × BitVec 64) (v : Bool) : Kept 0x111400208002 s (State.waitMember s m v) := by
  unfold State.waitMember
  exact Kept.trans (by exact (State.draw_kept ..).up) ((State.finishNib_kept ..).up)

theorem State.drawFree_kept (s : State) : Kept 0x800000000 s (State.drawFree s).2 := by
  unfold State.drawFree
  exact Kept.up (Kept.upd (m := 0x800000000) id id)

theorem State.waitMembers_kept (s : State) (w : Nat) (answer : Nat) (ms : List (Nat × BitVec 64)) : Kept 0x111c00208002 s (State.waitMembers s w answer ms) := by
  unfold State.waitMembers
  exact Kept.foldl (fun _ _ => Kept.ite ((State.waitMember_kept ..).up) (Kept.trans (by exact (State.drawFree_kept ..).up) ((State.waitMember_kept ..).up))) (Kept.refl _)

theorem State.strayWaits_kept (o : State) (port : Nat) (desc : Nat) (ms : List (Nat × BitVec 64)) : Kept 0x111c00208002 o (State.strayWaits o port desc ms) := by
  unfold State.strayWaits
  exact by (try dsimp only); split; exact (Kept.ite ((State.waitMembers_kept ..).up) ((State.waitMembers_kept ..).up)); exact ((State.waitMembers_kept ..).up)

theorem State.withQueue_kept (s : State) (key : Nat) (f : Queue → Queue) : Kept 0x400000000000 s (State.withQueue s key f) := by
  unfold State.withQueue
  exact (State.withArr_kept (m := 0x400000000000) ..).up

theorem State.waitWithoutRequest_kept (s : State) (port : Nat) (desc : Nat) (ms : List (Nat × BitVec 64)) : Kept 0x711400288552 s (State.waitWithoutRequest s port desc ms) := by
  unfold State.waitWithoutRequest
  exact Kept.trans (by exact Kept.ite (Kept.trans (by exact Kept.foldl (fun _ _ => (State.waitMember_kept ..).up) (Kept.refl _)) ((State.withQueue_kept ..).up)) (Kept.trans (by exact Kept.trans (by exact Kept.trans (by exact Kept.foldl (fun _ _ => (State.waitMember_kept ..).up) (Kept.refl _)) ((State.withQueue_kept ..).up)) ((State.logDetail_kept ..).up)) ((State.withArr_kept (m := 0x200000000000) ..).up))) ((State.raiseStopAt_kept ..).up)

theorem State.waitGroup_kept (o : State) (port : Nat) (desc : Nat) (ms : List (Nat × BitVec 64)) : Kept 0x711c002c8552 o (State.waitGroup o port desc ms) := by
  unfold State.waitGroup
  exact by (try dsimp only); split; exact ((State.waitWithoutRequest_kept ..).up); exact (Kept.ite ((State.waitWithoutRequest_kept ..).up) (Kept.ite (Kept.trans (by exact (State.waitMembers_kept ..).up) ((State.withQueue_kept ..).up)) (Kept.trans (by exact Kept.trans (by exact (State.waitMembers_kept ..).up) ((State.withQueue_kept ..).up)) ((State.countQueue_kept ..).up))))

theorem State.offerRequest_kept (s : State) (port : Nat) (desc : Nat) (cycle : Nat) (step : Nat) (write : Bool) (isNull : Bool) (out : Bool) (latency : Nat) : Kept 0x1000042 s (State.offerRequest s port desc cycle step write isNull out latency) := by
  unfold State.offerRequest
  exact Kept.foldl (fun _ _ => Kept.ite ((State.offer_kept ..).up) (Kept.refl _)) (Kept.refl _)

theorem execDesignAnswerArrival_kept (port : Nat) (desc : Nat) (latencyNs : Nat) (s : State) : OutKept 0x400001000042 s (execDesignAnswerArrival port desc latencyNs s) := by
  unfold execDesignAnswerArrival
  exact Kept.ite (Kept.refl _) (Kept.ite ((State.withQueue_kept ..).up) (by (try dsimp only); split; exact (Kept.trans (by exact (State.withQueue_kept ..).up) ((State.offerRequest_kept ..).up)); exact (Kept.refl _)))

theorem State.divert_kept (s : State) (port : Nat) (desc : Nat) (n : Nat) : Kept 0x100400280550 s (State.divert s port desc n) := by
  unfold State.divert
  exact Kept.foldl (fun _ _ => Kept.trans (by exact (State.logDetail_kept ..).up) ((State.raiseStopAt_kept ..).up)) (Kept.refl _)

theorem execWaitDecisionPoint_kept (slot : Nat) (s : State) : OutKept 0x1ffc1ffffe003c8552 s (execWaitDecisionPoint slot s) := by
  unfold execWaitDecisionPoint
  exact Kept.ite ((State.openStep_kept ..).up) (Kept.refl _)

theorem State.toStall_kept (s : State) : Kept 0x1ffc1ffffe003c8552 s (State.toStall s) := by
  unfold State.toStall
  exact by (try dsimp only); split; exact (Kept.ite ((State.runTo_kept ..).up) (Kept.refl _)); exact (Kept.refl _)

theorem State.markGroup_kept (s : State) (m : Nat) : Kept 0x100000000000 s (State.markGroup s m) := by
  unfold State.markGroup
  exact (State.withSched_kept ..).up

theorem execWait_kept (atStep : Nat) (port : Nat) (desc : Nat) (s : State) : OutKept 0x1ffc1ffffe003c8552 s (execWait atStep port desc s) := by
  unfold execWait
  exact Kept.ite (Kept.refl _) (Kept.ite (Kept.trans (by exact Kept.trans (by exact (State.openStep_kept ..).up) ((State.markGroup_kept ..).up)) ((State.waitGroup_kept ..).up)) (Kept.trans (by exact Kept.trans (by exact (State.openStep_kept ..).up) ((State.markGroup_kept ..).up)) ((State.strayWaits_kept ..).up)))

theorem State.inStall_kept {m : Nat} (s : State) (f : State → Stall → State) (hm : 0x1ffc1ffffe003c8552 ||| m = m := by decide) (hf : ∀ a0 a1, Kept m a0 (f a0 a1)) : Kept m s (State.inStall s f) := by
  unfold State.inStall
  exact by (try dsimp only); split; exact (Kept.refl _); exact (Kept.trans (by exact (State.toStall_kept ..).up2 hm) (hf ..))

theorem State.latchInStall_kept (s : State) (periods : Nat) : Kept 0x1ffc1ffff600280142 s (State.latchInStall s periods) := by
  unfold State.latchInStall
  exact by (try dsimp only); split; exact (Kept.refl _); exact (Kept.ite ((State.loadWordSide_kept ..).up) ((State.withSched_kept ..).up))

theorem State.endStall_kept (s : State) (st : Stall) (periods : Nat) : Kept 0x1ffc1ffff601280142 s (State.endStall s st periods) := by
  unfold State.endStall
  exact Kept.ite (Kept.trans (by exact Kept.trans (by exact Kept.trans (by exact Kept.trans (by exact Kept.trans (by exact Kept.ite (Kept.trans (by exact (State.withSched_kept ..).up) (Kept.up (Kept.upd (m := 0x80000) id id))) ((State.withSched_kept ..).up)) ((State.bump_kept ..).up)) ((State.bumpBy_kept ..).up)) ((State.countEvent_kept ..).up)) ((State.latchInStall_kept ..).up)) ((State.offer_kept ..).up)) (Kept.trans (by exact Kept.trans (by exact Kept.trans (by exact Kept.trans (by exact Kept.ite (Kept.trans (by exact (State.withSched_kept ..).up) (Kept.up (Kept.upd (m := 0x80000) id id))) ((State.withSched_kept ..).up)) ((State.bump_kept ..).up)) ((State.bumpBy_kept ..).up)) ((State.countEvent_kept ..).up)) ((State.latchInStall_kept ..).up))

theorem State.pushWrite_kept (s : State) (port : Nat) (desc : Nat) (e : QEntry) : Kept 0x400000040002 s (State.pushWrite s port desc e) := by
  unfold State.pushWrite
  exact Kept.trans (by exact Kept.ite (Kept.trans (by exact (State.countQueue_kept ..).up) ((State.bump_kept ..).up)) ((State.countQueue_kept ..).up)) ((State.withQueue_kept ..).up)

theorem State.pushRead_kept (s : State) (port : Nat) (desc : Nat) (e : QEntry) : Kept 0x400000040000 s (State.pushRead s port desc e) := by
  unfold State.pushRead
  exact Kept.ite (Kept.trans (by exact (State.countQueue_kept ..).up) ((State.withQueue_kept ..).up)) (Kept.trans (by exact Kept.trans (by exact (State.countQueue_kept ..).up) ((State.withQueue_kept ..).up)) ((State.countQueue_kept ..).up))

theorem State.passWrite_kept (s : State) (port : Nat) : Kept 0x40000 s (State.passWrite s port) := by
  unfold State.passWrite
  exact Kept.trans (by exact (State.countQueue_kept ..).up) ((State.countQueue_kept ..).up)

theorem State.outOfRange_kept (s : State) (port : Nat) (desc : Nat) (d : BitVec 128) : Kept 0x7004012c0552 s (State.outOfRange s port desc d) := by
  unfold State.outOfRange
  exact Kept.trans (by exact Kept.ite (Kept.ite (Kept.trans (by exact Kept.trans (by exact (State.bump_kept ..).up) ((State.offerRequest_kept ..).up)) ((State.passWrite_kept ..).up)) (Kept.trans (by exact Kept.trans (by exact (State.bump_kept ..).up) ((State.offerRequest_kept ..).up)) ((State.pushRead_kept ..).up))) (Kept.trans (by exact Kept.trans (by exact Kept.ite (Kept.trans (by exact Kept.trans (by exact (State.bump_kept ..).up) ((State.offerRequest_kept ..).up)) ((State.passWrite_kept ..).up)) (Kept.trans (by exact Kept.trans (by exact (State.bump_kept ..).up) ((State.offerRequest_kept ..).up)) ((State.pushRead_kept ..).up))) ((State.logDetail_kept ..).up)) ((State.withArr_kept (m := 0x200000000000) ..).up))) ((State.raiseStopAt_kept ..).up)

theorem State.writeRegion_kept (s : State) (d : BitVec 128) (port : Nat) (a : Nat) (v : Nat) : Kept 0x30000000000000 s (State.writeRegion s d port a v) := by
  unfold State.writeRegion
  exact Kept.ite ((State.writeOnDie_kept ..).up) ((State.writeBytes_kept ..).up)

theorem State.sendRequest_kept (s : State) (port : Nat) (desc : Nat) (offset : Nat) (data : Nat) : Kept 0x800000000000 s (State.sendRequest s port desc offset data) := by
  unfold State.sendRequest
  exact (State.withArr_kept (m := 0x800000000000) ..).up

theorem State.issue_kept (s : State) (port : Nat) (desc : Nat) (hasEnable : Bool) (values : Nat) : Kept 0x30f104012c8552 s (State.issue s port desc hasEnable values) := by
  unfold State.issue
  exact Kept.ite (Kept.ite (Kept.trans (by exact Kept.trans (by exact Kept.trans (by exact (State.draw_kept ..).up) ((State.countEvent_kept ..).up)) ((State.offerRequest_kept ..).up)) ((State.pushWrite_kept ..).up)) (Kept.trans (by exact Kept.trans (by exact Kept.trans (by exact (State.draw_kept ..).up) ((State.countEvent_kept ..).up)) ((State.offerRequest_kept ..).up)) ((State.pushRead_kept ..).up))) (Kept.ite (Kept.trans (by exact Kept.trans (by exact (State.draw_kept ..).up) ((State.countEvent_kept ..).up)) ((State.outOfRange_kept ..).up)) (Kept.ite (Kept.ite (Kept.trans (by exact Kept.trans (by exact Kept.trans (by exact (State.draw_kept ..).up) ((State.countEvent_kept ..).up)) ((State.writeRegion_kept ..).up)) ((State.pushWrite_kept ..).up)) (Kept.trans (by exact Kept.trans (by exact Kept.trans (by exact (State.draw_kept ..).up) ((State.countEvent_kept ..).up)) ((State.sendRequest_kept ..).up)) ((State.pushWrite_kept ..).up))) (Kept.ite (Kept.trans (by exact Kept.trans (by exact (State.draw_kept ..).up) ((State.countEvent_kept ..).up)) ((State.pushRead_kept ..).up)) (Kept.trans (by exact Kept.trans (by exact Kept.trans (by exact (State.draw_kept ..).up) ((State.countEvent_kept ..).up)) ((State.sendRequest_kept ..).up)) ((State.pushRead_kept ..).up)))))

theorem State.enqMember_kept (st : State × Nat) (m : Nat × BitVec 64) : Kept 0x1ffc3ffffe013c8552 st.1 (State.enqMember st m).1 := by
  unfold State.enqMember
  exact Kept.trans (Kept.trans ((State.noteEarly_kept ..).up) ((State.draw_kept ..).up)) ((State.finishNib_kept ..).up)

theorem State.execGroup_kept (s : State) (t port desc : Nat) : Kept 0x1ffc3ffffe013c8552 s (s.execGroup t port desc) := by
  have hf : ∀ (l : List (Nat × BitVec 64)) (x : State × Nat), Kept 0x1ffc3ffffe013c8552 s x.1 → Kept 0x1ffc3ffffe013c8552 s (l.foldl State.enqMember x).1 := by
    intro l
    induction l with
    | nil => exact fun x h => h
    | cons m ms ih => exact fun x h => ih _ (h.trans ((State.enqMember_kept ..).up))
  have h0 := fun l => hf l ((s.openStep t).markGroup (enqMark (queueKey port desc)), 0)
    (Kept.trans ((State.openStep_kept ..).up) ((State.markGroup_kept ..).up))
  unfold State.execGroup
  dsimp only
  exact Kept.ite (Kept.refl _) (Kept.ite (Kept.refl _)
    (by split <;> first | exact Kept.trans (h0 _) ((State.divert_kept ..).up) | exact Kept.trans (h0 _) ((State.issue_kept ..).up)))

theorem execEnq_kept (atStep : Nat) (port : Nat) (desc : Nat) (s : State) : OutKept 0x1ffc3ffffe013c8552 s (execEnq atStep port desc s) := by
  unfold execEnq
  exact (State.execGroup_kept ..).up

theorem State.countRequest_kept (s : State) (d : BitVec 128) (a : Nat) : Kept 0x400200002 s (State.countRequest s d a) := by
  unfold State.countRequest
  exact Kept.ite ((State.countEvent_kept ..).up) ((State.countEvent_kept ..).up)

theorem State.endWriteTimeout_kept (s : State) : Kept 0x40 s (State.endWriteTimeout s) := by
  unfold State.endWriteTimeout
  exact Kept.ite (Kept.refl _) ((State.endCode_kept ..).up)

theorem execWriteAckArrival_kept (port : Nat) (desc : Nat) (latencyNs : Nat) (s : State) : OutKept 0x400001040042 s (execWriteAckArrival port desc latencyNs s) := by
  unfold execWriteAckArrival
  exact by (try dsimp only); split; exact (Kept.ite (Kept.trans (by exact Kept.trans (by exact Kept.trans (by exact (State.withQueue_kept ..).up) ((State.countQueue_kept ..).up)) ((State.endWriteTimeout_kept ..).up)) ((State.offerRequest_kept ..).up)) (Kept.refl _)); exact (Kept.refl _)

theorem execStallResume_kept (periods : Nat) (s : State) : OutKept 0x1ffc1ffffe013c8552 s (execStallResume periods s) := by
  unfold execStallResume State.inStall
  split
  · exact Kept.refl _
  · exact Kept.ite (Kept.trans ((State.toStall_kept ..).up) ((State.endStall_kept ..).up)) (Kept.refl _)

theorem execWriteStallTimeout_kept (s : State) : OutKept 0x1ffc1ffffe003c8552 s (execWriteStallTimeout s) := by
  unfold execWriteStallTimeout
  exact State.inStall_kept (hf := fun _ _ => Kept.foldl (fun _ _ => Kept.trans (by exact (State.withQueue_kept ..).up) ((State.logDetail_kept ..).up)) (Kept.refl _)) ..

theorem execDdr5Retraining_kept (channel : Nat) (s : State) : OutKept 0x200000000000000 s (execDdr5Retraining channel s) := by
  unfold execDdr5Retraining
  exact Kept.ite (Kept.up (Kept.upd (m := 0x200000000000000) id id)) (Kept.refl _)

theorem State.perform_kept (s : State) (port : Nat) (r : PortRequest) (rest : List PortRequest) : Kept 0x30c00000000000 s (State.perform s port r rest) := by
  unfold State.perform
  exact Kept.ite (Kept.trans (by exact Kept.ite (Kept.trans (by exact (State.withArr_kept (m := 0x800000000000) ..).up) ((State.writeRegion_kept ..).up)) ((State.withArr_kept (m := 0x800000000000) ..).up)) ((State.withQueue_kept ..).up)) (Kept.ite (Kept.trans (by exact (State.withArr_kept (m := 0x800000000000) ..).up) ((State.writeRegion_kept ..).up)) ((State.withArr_kept (m := 0x800000000000) ..).up))

theorem execStallTimeout_kept (s : State) : OutKept 0x1ffc1ffffe003c8552 s (execStallTimeout s) := by
  unfold execStallTimeout
  exact State.inStall_kept (hf := fun _ _ => Kept.foldl (fun _ _ => Kept.trans (by exact Kept.trans (by exact (State.withQueue_kept ..).up) ((State.logDetail_kept ..).up)) ((State.raiseStopAt_kept ..).up)) (Kept.refl _)) ..

theorem execMemoryRequestReceived_kept (port : Nat) (s : State) : OutKept 0x30c00400200002 s (execMemoryRequestReceived port s) := by
  unfold execMemoryRequestReceived
  exact by (try dsimp only); split; exact (Kept.refl _); exact (Kept.ite (Kept.refl _) (Kept.trans (by exact (State.perform_kept ..).up) ((State.countRequest_kept ..).up)))

end Sys2Proof.Machine
end

