-- ==== Sys2Proof/Laws/KeptLanes.lean ====
section
/-! SUPPORT. What the operations of Machine/Lanes.lean keep. -/

set_option Elab.async false

namespace Sys2Proof.Machine

theorem State.loseDomain_kept (s : State) (l : Nat) : Kept 0x1004802805d0 s (State.loseDomain s l) := by
  unfold State.loseDomain
  exact Kept.trans (by exact Kept.trans (by exact Kept.trans (by exact Kept.up (Kept.upd (m := 0x80) id id)) ((State.setLane_kept ..).up)) ((State.log1_kept ..).up)) ((State.raiseStop_kept ..).up)

theorem State.unpin_kept (s : State) (l : Nat) : Kept 0x1004802805d0 s (State.unpin s l) := by
  unfold State.unpin
  exact Kept.ite ((State.loseDomain_kept ..).up) (Kept.refl _)

theorem execLaneDarkCommand_kept (req : Nat) (lane : Nat) (s : State) : OutKept 0x8400005b s (execLaneDarkCommand req lane s) := by
  unfold execLaneDarkCommand
  exact State.writing_kept (hk := fun _ => Kept.ite (Kept.trans (by exact (State.setLane_kept ..).up) ((State.accept_kept ..).up)) ((State.refuse_kept ..).up)) ..

theorem State.darkLanes_kept (s : State) : Kept 0x80000000 s (State.darkLanes s) := by
  unfold State.darkLanes
  exact Kept.up (Kept.upd (m := 0x80000000) id id)

theorem State.pinDomain_kept (s : State) : Kept 0x80000000 s (State.pinDomain s) := by
  unfold State.pinDomain
  exact by (try dsimp only); split; exact (Kept.refl _); exact (Kept.foldl (fun _ _ => Kept.ite ((State.setLane_kept ..).up) (Kept.refl _)) (Kept.refl _))

theorem State.trainLane_kept (s : State) (l : Nat) : Kept 0x80000000 s (State.trainLane s l) := by
  unfold State.trainLane
  exact (State.setLane_kept ..).up

theorem execLaneLost_kept (lane : Nat) (s : State) : OutKept 0x1004802805d0 s (execLaneLost lane s) := by
  unfold execLaneLost
  exact Kept.ite (Kept.trans (by exact Kept.trans (by exact Kept.trans (by exact (State.unpin_kept ..).up) ((State.logAs_quiet ..).up)) ((State.setLane_kept ..).up)) ((State.trainLane_kept ..).up)) (Kept.refl _)

theorem State.alignEdges_kept (s : State) (l : Nat) (r : BringUpResult) : Kept 0x1000 s (State.alignEdges s l r) := by
  unfold State.alignEdges
  exact by (try dsimp only); split; exact (Kept.ite (Kept.up (Kept.upd (m := 0x1000) id id)) (Kept.refl _)); exact (Kept.refl _)

theorem State.tellLatency_kept (s : State) : Kept 0x80000 s (State.tellLatency s) := by
  unfold State.tellLatency
  exact Kept.ite (Kept.up (Kept.upd (m := 0x80000) id id)) (Kept.refl _)

theorem execLaneBringUpDone_kept (lane : Nat) (result : BringUpResult) (s : State) : OutKept 0x80081040 s (execLaneBringUpDone lane result s) := by
  unfold execLaneBringUpDone
  exact Kept.ite (Kept.ite (Kept.trans (by exact by (try dsimp only); split; exact (Kept.ite (Kept.trans (by exact Kept.trans (by exact (State.setLane_kept ..).up) ((State.alignEdges_kept ..).up)) ((State.tellLatency_kept ..).up)) (Kept.trans (by exact (State.setLane_kept ..).up) ((State.alignEdges_kept ..).up))); exact (Kept.trans (by exact Kept.ite (Kept.trans (by exact Kept.trans (by exact (State.setLane_kept ..).up) ((State.alignEdges_kept ..).up)) ((State.tellLatency_kept ..).up)) (Kept.trans (by exact (State.setLane_kept ..).up) ((State.alignEdges_kept ..).up))) ((State.logAs_quiet ..).up))) ((State.logAs_quiet ..).up)) (by (try dsimp only); split; exact (Kept.ite (Kept.trans (by exact Kept.trans (by exact (State.setLane_kept ..).up) ((State.alignEdges_kept ..).up)) ((State.tellLatency_kept ..).up)) (Kept.trans (by exact (State.setLane_kept ..).up) ((State.alignEdges_kept ..).up))); exact (Kept.trans (by exact Kept.ite (Kept.trans (by exact Kept.trans (by exact (State.setLane_kept ..).up) ((State.alignEdges_kept ..).up)) ((State.tellLatency_kept ..).up)) (Kept.trans (by exact (State.setLane_kept ..).up) ((State.alignEdges_kept ..).up))) ((State.logAs_quiet ..).up)))) (Kept.refl _)

theorem State.reachStep_kept (s : State) (t : Nat) : Kept 0x1ffc1ffffe003c8552 s (State.reachStep s t) := by
  unfold State.reachStep
  exact Kept.ite ((State.runTo_kept ..).up) (Kept.refl _)

theorem State.retrainChanged_kept (s : State) (before : List (Nat × Nat)) : Kept 0x80000000 s (State.retrainChanged s before) := by
  unfold State.retrainChanged
  exact Kept.foldl (fun _ _ => Kept.ite (Kept.refl _) ((State.trainLane_kept ..).up)) (Kept.refl _)

theorem execLaneSignalDetect_kept (lane : Nat) (restored : Bool) (s : State) : OutKept 0x80000000 s (execLaneSignalDetect lane restored s) := by
  unfold execLaneSignalDetect
  exact Kept.ite (Kept.ite ((State.setLane_kept ..).up) ((State.trainLane_kept ..).up)) (Kept.refl _)

theorem execLaneTrainRetry_kept (lane : Nat) (s : State) : OutKept 0x80000000 s (execLaneTrainRetry lane s) := by
  unfold execLaneTrainRetry
  exact Kept.ite ((State.trainLane_kept ..).up) (Kept.refl _)

theorem execLaneBitSlip_kept (req : Nat) (lane : Nat) (invalidHeaders : Nat) (s : State) : OutKept 0x8400005b s (execLaneBitSlip req lane invalidHeaders s) := by
  unfold execLaneBitSlip
  exact State.writing_kept (hk := fun _ => Kept.ite (Kept.trans (by exact (State.setLane_kept ..).up) ((State.accept_kept ..).up)) ((State.refuse_kept ..).up)) ..

theorem execDarkIdleTimeout_kept (lane : Nat) (s : State) : OutKept 0x80000000 s (execDarkIdleTimeout lane s) := by
  unfold execDarkIdleTimeout
  exact Kept.ite ((State.setLane_kept ..).up) (Kept.refl _)

theorem execWindowBaseWrite_kept (write : BaseWrite) (s : State) : OutKept 0x400000000 s (execWindowBaseWrite write s) := by
  unfold execWindowBaseWrite
  exact Kept.ite (Kept.up (Kept.upd (m := 0x400000000) id id)) (Kept.refl _)

theorem execDarkBlockReceived_kept (wire : LaneWire) (s : State) : OutKept 0x80000000 s (execDarkBlockReceived wire s) := by
  have h := State.receive_kept s wire.lane wire.block
  unfold execDarkBlockReceived
  split
  · rename_i e; rw [e] at h
    split
    · exact h.up.trans ((State.setLane_kept ..).up)
    · exact h.up.trans ((State.sendBlock_kept ..).up)
  · rename_i e; rw [e] at h; exact h.up

theorem execLaneBringUp_kept (req : Nat) (lane : Nat) (s : State) : OutKept 0x1004842805db s (execLaneBringUp req lane s) := by
  unfold execLaneBringUp
  exact State.writing_kept (hk := fun _ => Kept.ite (Kept.trans (by exact Kept.trans (by exact (State.unpin_kept ..).up) ((State.trainLane_kept ..).up)) ((State.accept_kept ..).up)) ((State.refuse_kept ..).up)) ..

theorem State.trainLanes_kept (s : State) (p : Lane → Bool) : Kept 0x80000000 s (State.trainLanes s p) := by
  unfold State.trainLanes
  exact Kept.up (Kept.upd (m := 0x80000000) id id)

theorem execDomainLinkLost_kept (lane : Nat) (find : BufferFind) (s : State) : OutKept 0x1ffc1ffffe803c85d2 s (execDomainLinkLost lane find s) := by
  unfold execDomainLinkLost
  exact Kept.ite (Kept.trans (by exact Kept.trans (by exact (State.reachStep_kept ..).up) ((State.loseDomain_kept ..).up)) ((State.setLane_kept ..).up)) (Kept.refl _)

end Sys2Proof.Machine
end

