-- ==== Sys2Proof/Laws/KeptPins.lean ====
section
/-! SUPPORT. What the operations of Machine/Pins.lean keep. -/

set_option Elab.async false

namespace Sys2Proof.Machine

theorem State.withPins_kept (s : State) (f : Pins → Pins) : Kept 0x100000000 s (State.withPins s f) := by
  unfold State.withPins
  exact Kept.up (Kept.upd (m := 0x100000000) id id)

theorem State.setPattern_kept (s : State) (u : Nat) (v : Nat) : Kept 0x100000000 s (State.setPattern s u v) := by
  unfold State.setPattern
  exact (State.withPins_kept ..).up

theorem State.firePattern_kept (s : State) (u : Nat) : Kept 0x500200002 s (State.firePattern s u) := by
  unfold State.firePattern
  exact Kept.ite (Kept.trans (by exact Kept.trans (by exact Kept.trans (by exact (State.setPattern_kept ..).up) ((State.raiseLine_kept ..).up)) ((State.bump_kept ..).up)) ((State.putEntry_kept ..).up)) (Kept.trans (by exact Kept.trans (by exact (State.setPattern_kept ..).up) ((State.raiseLine_kept ..).up)) ((State.bump_kept ..).up))

theorem State.beginSwitch_kept (s : State) (n : Nat) (shown : Pad) : Kept 0x100000000 s (State.beginSwitch s n shown) := by
  unfold State.beginSwitch
  exact (State.withPins_kept ..).up

theorem State.endSafe_kept (s : State) (ns : List Nat) : Kept 0x100000000 s (State.endSafe s ns) := by
  unfold State.endSafe
  exact (State.withPins_kept ..).up

theorem State.countEdge_kept (s : State) (j : Nat) : Kept 0x2 s (State.countEdge s j) := by
  unfold State.countEdge
  exact Kept.ite (Kept.trans (by exact (State.bump_kept ..).up) ((State.putEntry_kept ..).up)) ((State.bump_kept ..).up)

theorem State.applySafe_kept (s : State) (ns : List Nat) (cause : Nat) : Kept 0x100000040 s (State.applySafe s ns cause) := by
  unfold State.applySafe
  exact Kept.trans (by exact (State.withPins_kept ..).up) ((State.log1_quiet ..).up)

theorem State.feed_kept (s : State) (f : Nat) (v : Bool) : Kept 0x300000042 s (State.feed s f v) := by
  unfold State.feed
  exact Kept.ite (Kept.ite (Kept.trans (by exact (State.withPins_kept ..).up) ((State.countEdge_kept ..).up)) ((State.withPins_kept ..).up)) (Kept.ite (Kept.trans (by exact (State.withPins_kept ..).up) ((State.log1_quiet ..).up)) (Kept.ite (Kept.ite (Kept.trans (by exact (State.withPins_kept ..).up) ((State.applySafe_kept ..).up)) ((State.withPins_kept ..).up)) (Kept.ite (Kept.ite (Kept.trans (by exact (State.withPins_kept ..).up) ((State.forceSampler_kept ..).up)) ((State.withPins_kept ..).up)) ((State.withPins_kept ..).up))))

theorem State.feedAll_kept (s : State) : Kept 0x300000042 s (State.feedAll s) := by
  unfold State.feedAll
  exact Kept.foldl (fun _ _ => (State.feed_kept ..).up) (Kept.refl _)

theorem State.evaluatePatterns_kept (before : State) (s : State) : Kept 0x500200002 s (State.evaluatePatterns before s) := by
  unfold State.evaluatePatterns
  exact by (try dsimp only); split; exact (Kept.trans (by exact Kept.foldl (fun _ _ => (State.firePattern_kept ..).up) (Kept.foldl (fun _ _ => (State.setPattern_kept ..).up) (Kept.refl _))) ((State.putEntry_kept ..).up)); exact (Kept.foldl (fun _ _ => (State.firePattern_kept ..).up) (Kept.foldl (fun _ _ => (State.setPattern_kept ..).up) (Kept.refl _)))

theorem State.levelsChanged_kept (before : State) (s : State) : Kept 0x10100700280142 s (State.levelsChanged before s) := by
  unfold State.levelsChanged
  exact Kept.trans (by exact Kept.trans (by exact (State.feedAll_kept ..).up) ((State.evaluatePatterns_kept ..).up)) ((State.unitEdge_kept ..).up)

theorem State.restartPattern_kept (s : State) (u : Nat) : Kept 0x100000000 s (State.restartPattern s u) := by
  unfold State.restartPattern
  exact (State.setPattern_kept ..).up

theorem State.endHold_kept (s : State) (ns : List Nat) : Kept 0x100000000 s (State.endHold s ns) := by
  unfold State.endHold
  exact Kept.foldl (fun _ _ => (State.beginSwitch_kept ..).up) ((State.withPins_kept ..).up)

theorem State.releasePins_kept (s : State) (ns : List Nat) : Kept 0x100000000 s (State.releasePins s ns) := by
  unfold State.releasePins
  exact Kept.trans (by exact (State.endSafe_kept ..).up) ((State.endHold_kept ..).up)

theorem execPinRelease_kept (req : Nat) (bank : Nat) (value : Nat) (s : State) : OutKept 0x10400005b s (execPinRelease req bank value s) := by
  unfold execPinRelease
  exact State.writingValue_kept (hk := fun _ _ => Kept.trans (by exact (State.releasePins_kept ..).up) ((State.accept_kept ..).up)) ..

theorem State.logShared_kept (s : State) : Kept 0x100000040 s (State.logShared s) := by
  unfold State.logShared
  exact Kept.trans (by exact Kept.foldl (fun _ _ => (State.log1_quiet ..).up) (Kept.refl _)) ((State.withPins_kept ..).up)

theorem State.filterShows_kept (s : State) (n : Nat) (x : PinFilter) (v : Bool) (settled : List Nat) : Kept 0x10100700280142 s (State.filterShows s n x v settled) := by
  unfold State.filterShows
  exact Kept.ite ((State.withPins_kept ..).up) (Kept.trans (by exact (State.withPins_kept ..).up) ((State.levelsChanged_kept ..).up))

theorem State.pinInput_kept (s : State) (n : Nat) (v : Bool) : Kept 0x10100700280142 s (State.pinInput s n v) := by
  unfold State.pinInput
  exact Kept.ite (Kept.refl _) ((State.filterShows_kept ..).up)

theorem execSafeReq_kept (level : Bool) (s : State) : OutKept 0x10100700280142 s (execSafeReq level s) := by
  unfold execSafeReq
  exact by (try dsimp only); split; exact ((State.pinInput_kept ..).up); exact (Kept.refl _)

theorem execEdgeCountClear_kept (req : Nat) (counter : Nat) (s : State) : OutKept 0x400005b s (execEdgeCountClear req counter s) := by
  unfold execEdgeCountClear
  exact State.writing_kept (hk := fun _ => Kept.trans (by exact Kept.trans (by exact (State.putEntry_kept ..).up) ((State.putEntry_kept ..).up)) ((State.accept_kept ..).up)) ..

theorem execSafeCommand_kept (req : Nat) (s : State) : OutKept 0x10400005b s (execSafeCommand req s) := by
  unfold execSafeCommand
  exact State.writing_kept (hk := fun _ => Kept.trans (by exact (State.applySafe_kept ..).up) ((State.accept_kept ..).up)) ..

theorem State.switchEdge_kept (s : State) : Kept 0x100000000 s (State.switchEdge s) := by
  unfold State.switchEdge
  exact (State.withPins_kept ..).up

theorem State.ioEdge_kept (s : State) : Kept 0x20010100700280142 s (State.ioEdge s) := by
  unfold State.ioEdge
  exact Kept.trans (by exact Kept.trans (by exact Kept.trans (by exact (State.probeEdge_kept ..).up) ((State.withPins_kept ..).up)) ((State.switchEdge_kept ..).up)) ((State.unitEdge_kept ..).up)

theorem State.logInputs_kept (s : State) (f : Nat) : Kept 0x40 s (State.logInputs s f) := by
  unfold State.logInputs
  exact Kept.ite ((State.log1_quiet ..).up) (Kept.refl _)

theorem State.configureAll_kept (s : State) : Kept 0x100000040 s (State.configureAll s) := by
  unfold State.configureAll
  exact Kept.trans (by exact Kept.foldl (fun _ _ => (State.logInputs_kept ..).up) (Kept.refl _)) ((State.withPins_kept ..).up)

theorem State.releaseBridgePins_kept (s : State) : Kept 0x100000000 s (State.releaseBridgePins s) := by
  unfold State.releaseBridgePins
  exact (State.releasePins_kept ..).up

theorem State.wakePins_kept (s : State) : Kept 0x100000000 s (State.wakePins s) := by
  unfold State.wakePins
  exact (State.withPins_kept ..).up

/-- The change itself keeps what it keeps of `s`, whatever state it is applied to. -/
theorem State.repin_kept {m : Nat} (s : State) (f : State → State) (hm : 0x100000040 ||| m = m := by decide) (hf : ∀ a0, Kept m a0 (f a0)) :
    Kept m s (s.repin f) := by
  unfold State.repin
  exact Kept.trans (Kept.foldl (fun _ _ => (State.beginSwitch_kept ..).up2 hm) (hf s)) ((State.logShared_kept ..).up2 hm)

theorem State.repin_kept' {m : Nat} {s t u : State} (h : Kept m s u) (hm : 0x100000040 ||| m = m := by decide) :
    Kept m s (State.repin t fun _ => u) := by
  unfold State.repin
  exact Kept.trans (Kept.foldl (fun _ _ => (State.beginSwitch_kept ..).up2 hm) h) ((State.logShared_kept ..).up2 hm)

theorem State.refeed_kept (before : State) (s : State) (f : Nat) : Kept 0x100000000 s (State.refeed before s f) := by
  unfold State.refeed
  exact Kept.ite (Kept.refl _) ((State.withPins_kept ..).up)

theorem State.configurePin_kept (s : State) (n : Nat) (v : Nat) : Kept 0x10100700280142 s (State.configurePin s n v) := by
  unfold State.configurePin
  exact Kept.ite (Kept.trans (by exact Kept.ite (State.repin_kept (hf := fun _ => (State.putEntry_kept ..).up) ..) (Kept.trans (by exact Kept.trans (by exact Kept.trans (by exact Kept.trans (by exact State.repin_kept (hf := fun _ => (State.putEntry_kept ..).up) ..) ((State.refeed_kept ..).up)) ((State.refeed_kept ..).up)) ((State.logInputs_kept ..).up)) ((State.logInputs_kept ..).up))) ((State.levelsChanged_kept ..).up)) (Kept.trans (by exact Kept.ite (State.repin_kept (hf := fun _ => (State.putEntry_kept ..).up) ..) (Kept.trans (by exact Kept.trans (by exact Kept.trans (by exact Kept.trans (by exact State.repin_kept (hf := fun _ => (State.putEntry_kept ..).up) ..) ((State.refeed_kept ..).up)) ((State.refeed_kept ..).up)) ((State.logInputs_kept ..).up)) ((State.logInputs_kept ..).up))) ((State.feedAll_kept ..).up))

theorem State.sleepPins_kept (s : State) : Kept 0x100000000 s (State.sleepPins s) := by
  unfold State.sleepPins
  exact (State.withPins_kept ..).up

theorem execPinConfigWrite_kept (req : Nat) (pin : Nat) (value : Nat) (s : State) : OutKept 0x1010070428015b s (execPinConfigWrite req pin value s) := by
  unfold execPinConfigWrite
  exact State.writingValue_kept (hk := fun _ _ => Kept.ite (Kept.trans (by exact (State.configurePin_kept ..).up) ((State.accept_kept ..).up)) ((State.refuse_kept ..).up)) ..

theorem State.holdPins_kept (s : State) (ns : List Nat) : Kept 0x100000000 s (State.holdPins s ns) := by
  unfold State.holdPins
  exact (State.withPins_kept ..).up

theorem State.pinSample_kept (s : State) (n : Nat) (v : Bool) : Kept 0x10100700280142 s (State.pinSample s n v) := by
  unfold State.pinSample
  exact Kept.ite (Kept.refl _) (Kept.ite ((State.filterShows_kept ..).up) (Kept.trans (by exact (State.withPins_kept ..).up) ((State.filterShows_kept ..).up)))

end Sys2Proof.Machine
end

