-- ==== Sys2Proof/Laws/KeptCommit.lean ====
section
/-! SUPPORT. What the operations of Machine/Commit.lean keep. -/

set_option Elab.async false

namespace Sys2Proof.Machine

theorem State.writeBinding_kept (s : State) (m : Staged) (h : Header) (used : List (Nat × Nat)) : Kept 0x10000000000000 s (State.writeBinding s m h used).1 := by
  unfold State.writeBinding
  exact by (try dsimp only); split; exact (Kept.refl _); exact (by (try dsimp only); split; exact ((State.writeBytes_kept ..).up); exact (Kept.refl _))

theorem State.destroyDeclared_kept (s : State) : Kept 0x1e00042 s (State.destroyDeclared s) := by
  unfold State.destroyDeclared
  exact Kept.trans (by exact Kept.foldl (fun _ _ => by (try dsimp only); split; exact ((State.destroyChannel_kept ..).up); exact (Kept.refl _)) (Kept.refl _)) (Kept.up (Kept.upd (m := 0x800000) id id))

theorem State.setDirections_kept (s : State) (m : Staged) : Kept 0x20000 s (State.setDirections s m) := by
  unfold State.setDirections
  exact Kept.up (Kept.upd (m := 0x20000) id id)

theorem State.commitArray_kept (s : State) (m : Staged) (h : Header) : Kept 0xffff000020000 s (State.commitArray s m h) := by
  unfold State.commitArray
  exact Kept.trans (by exact (State.setDirections_kept ..).up) ((State.withArr_kept (m := 0xffff000000000) ..).up)

theorem State.writeRecord_kept (s : State) (m : Staged) (ds : List ImageDesc) (r : MemRecord) : Kept 0x30000000000000 s (State.writeRecord s m ds r) := by
  unfold State.writeRecord
  exact by (try dsimp only); split; exact (Kept.refl _); exact (Kept.ite ((State.writeOnDie_kept ..).up) ((State.writeBytes_kept ..).up))

theorem State.zeroBanks_kept (s : State) : Kept 0x60000000000000 s s.zeroBanks := by
  unfold State.zeroBanks
  exact (Kept.mk rfl rfl (fun h => Memory.wf_mk (Memory.wf_bytes h) (Sparse.keep_wf _ _ _ (Memory.wf_onDie h))) id id)

theorem State.commitMemory_kept (s : State) (m : Staged) (h : Header) : Kept 0x170000000040000 s (State.commitMemory s m h) := by
  unfold State.commitMemory
  exact Kept.trans (by exact Kept.foldl (fun _ _ => (State.writeRecord_kept ..).up) ((State.zeroBanks_kept ..).up)) (Kept.up (Kept.upd (m := 0x100000000040000) id id))

theorem State.commitFabric_kept (s : State) (fs : List Frame) (latency : List Nat) : Kept 0x1ffc00000010000002 s (State.commitFabric s fs latency) := by
  unfold State.commitFabric
  exact by (try dsimp only); split; exact (Kept.foldl (fun _ _ => (State.putEntry_kept ..).up) (Kept.trans (by exact (State.withFabric_kept (m := 0x1ffc00000000000000) ..).up) ((State.reserveEngines_kept ..).up))); exact (Kept.trans (by exact (State.withFabric_kept (m := 0x1ffc00000000000000) ..).up) ((State.reserveEngines_kept ..).up))

theorem State.commitContents_kept (s : State) (m : Staged) (h : Header) (fs : List Frame) : Kept 0x1ffd7ffff711e70042 s (State.commitContents s m h fs) := by
  unfold State.commitContents
  exact Kept.trans (by exact Kept.trans (by exact Kept.trans (by exact Kept.trans (by exact Kept.trans (by exact Kept.trans (by exact Kept.trans (by exact (State.abortSamplers_kept ..).up) ((State.holdPins_kept ..).up)) ((State.isolateAll_kept ..).up)) (Kept.up (Kept.upd (m := 0x10000) id id))) ((State.destroyDeclared_kept ..).up)) ((State.commitArray_kept ..).up)) ((State.commitMemory_kept ..).up)) ((State.commitFabric_kept ..).up)

theorem State.dropImage_kept (s : State) : Kept 0x14080 s (State.dropImage s) := by
  unfold State.dropImage
  exact Kept.up (Kept.upd (m := 0x14080) id id)

theorem State.createDeclared_kept (s : State) (ds : List Declaration) (fs : List Frame) (r : Reservation) : Kept 0x1800042 s (State.createDeclared s ds fs r) := by
  unfold State.createDeclared
  exact Kept.trans (by exact Kept.foldl (fun _ _ => (State.addChannel_kept ..).up) (Kept.refl _)) (Kept.up (Kept.upd (m := 0x800000) id id))

theorem State.takeGolden_kept (s : State) : Kept 0x10000 s (State.takeGolden s) := by
  unfold State.takeGolden
  exact Kept.up (Kept.upd (m := 0x10000) id id)

theorem State.newPass_kept (s : State) : Kept 0x10000 s (State.newPass s) := by
  unfold State.newPass
  exact Kept.up (Kept.upd (m := 0x10000) id id)

theorem State.clearEntries_kept (s : State) (keys : List Nat) : Kept 0x2 s (State.clearEntries s keys) := by
  unfold State.clearEntries
  exact Kept.foldl (fun _ _ => (State.putEntry_kept ..).up) (Kept.refl _)

theorem State.endCommitFaults_kept (s : State) : Kept 0x40 s (State.endCommitFaults s) := by
  unfold State.endCommitFaults
  exact by (try dsimp only); split; exact (Kept.ite (Kept.trans (by exact Kept.trans (by exact (State.endCode_kept ..).up) ((State.endCode_kept ..).up)) ((State.endCodeClass_kept ..).up)) (Kept.trans (by exact (State.endCode_kept ..).up) ((State.endCode_kept ..).up))); exact (Kept.trans (by exact (State.endCode_kept ..).up) ((State.endCode_kept ..).up))

theorem State.commitFinish_kept (s : State) (m : Staged) (patched : Staged) (h : Header) (fs : List Frame) (r : Reservation) : Kept 0x1ffc1000010983c0c2 s (State.commitFinish s m patched h fs r) := by
  unfold State.commitFinish
  exact Kept.trans (by exact Kept.trans (by exact Kept.trans (by exact Kept.trans (by exact Kept.trans (by exact Kept.trans (by exact Kept.trans (by exact Kept.trans (by exact Kept.trans (by exact Kept.trans (by exact Kept.trans (by exact (State.createDeclared_kept ..).up) ((State.writeBinding_kept ..).up)) (Kept.up (Kept.upd (m := 0xc080) id id))) (Kept.up (Kept.upd (m := 0x20000) id id))) (Kept.up (Kept.upd (m := 0x8000000) id id))) ((State.takeGolden_kept ..).up)) (Kept.up (Kept.upd (m := 0x10000) id id))) ((State.newPass_kept ..).up)) ((State.clearEntries_kept ..).up)) ((State.endCommitFaults_kept ..).up)) ((State.removeIsolation_kept ..).up)) ((State.releaseBridgePins_kept ..).up)

theorem State.commitFull_kept (s : State) (m : Staged) (failure : Option Nat) : Kept 0x1ffd7ffff79de7c4d2 s (s.commitFull m failure) := by
  have hc : ∀ h fs, Kept 0x1ffd7ffff79de7c4d2 s (s.commitContents m h fs) := fun h fs => (State.commitContents_kept s m h fs).up
  unfold State.commitFull
  dsimp only
  split
  · exact Kept.refl _
  · split
    · exact Kept.trans (Kept.trans (Kept.trans (hc _ _) ((State.dropImage_kept ..).up)) ((State.logAs_kept ..).up)) ((State.setMode_kept ..).up)
    · exact Kept.trans (State.repin_kept' (Kept.trans (Kept.trans (hc _ _) ((State.commitFinish_kept ..).up)) ((State.endHold_kept ..).up)))
        ((State.retrainChanged_kept ..).up)

theorem State.partialDone_kept (s : State) (i : Image) (m : Staged) : Kept 0x8004000 s (State.partialDone s i m) := by
  unfold State.partialDone
  exact Kept.up (Kept.upd (m := 0x8004000) id id)

theorem State.writeRegion'_kept (s : State) (region : List Nat) (fs : List Frame) : Kept 0x1ffc00000010000000 s (State.writeRegion' s region fs) := by
  unfold State.writeRegion'
  exact Kept.trans (by exact Kept.trans (by exact (State.withFabric_kept (m := 0x1ffc00000000000000) ..).up) ((State.reserveEngines_kept ..).up)) ((State.withFabric_kept (m := 0x1ffc00000000000000) ..).up)

theorem State.takeGoldenRegion_kept (s : State) (region : List Nat) (fs : List Frame) : Kept 0x10000 s (State.takeGoldenRegion s region fs) := by
  unfold State.takeGoldenRegion
  exact Kept.up (Kept.upd (m := 0x10000) id id)

theorem State.commitPartial_kept (s : State) (i : Image) (m : Staged) (failure : Option Nat) : Kept 0x1ffc100005952144d2 s (s.commitPartial i m failure) := by
  have h0 : ∀ (r : List Nat) (p : List Nat) fs, Kept 0x1ffc100005952144d2 s ((r.foldl State.isolate (s.holdPins p)).writeRegion' r fs) := fun r p fs =>
    Kept.trans (Kept.foldl (fun _ _ => (State.isolate_kept ..).up) ((State.holdPins_kept ..).up)) ((State.writeRegion'_kept ..).up)
  unfold State.commitPartial
  dsimp only
  split
  · exact Kept.trans (Kept.trans (Kept.trans (Kept.trans (h0 _ _ _) ((State.isolateAll_kept ..).up)) ((State.dropImage_kept ..).up)) ((State.logAs_kept ..).up))
      ((State.setMode_kept ..).up)
  · refine Kept.trans (State.repin_kept' (Kept.trans (Kept.trans (Kept.trans ?_ ((State.endCode_kept ..).up)) ((State.removeIsolation_kept ..).up)) ((State.endHold_kept ..).up)))
      ((State.retrainChanged_kept ..).up)
    exact Kept.trans (Kept.trans (h0 _ _ _) ((State.takeGoldenRegion_kept ..).up)) ((State.newPass_kept ..).up)

end Sys2Proof.Machine
end

