-- ==== Sys2Proof/Laws/KeptLoader.lean ====
section
/-! SUPPORT. What the operations of Machine/Loader.lean keep. -/

set_option Elab.async false

namespace Sys2Proof.Machine

theorem State.withLoader_kept (s : State) (g : Loader → Loader) : Kept 0x8000000 s (State.withLoader s g) := by
  unfold State.withLoader
  exact Kept.up (Kept.upd (m := 0x8000000) id id)

theorem State.ignoreStream_kept (s : State) (port : Nat) (id : Nat) : Kept 0x8000000 s (State.ignoreStream s port id) := by
  unfold State.ignoreStream
  exact (State.withLoader_kept ..).up

theorem State.afterEdges_kept (s : State) (port : Nat) (edges : List PortEdge) : Kept 0x8000000 s (State.afterEdges s port edges) := by
  unfold State.afterEdges
  exact (State.withLoader_kept ..).up

theorem State.seeFrame_kept (s : State) (port : Nat) (f : StreamFrame) : Kept 0x8000000 s (State.seeFrame s port f) := by
  unfold State.seeFrame
  exact (State.withLoader_kept ..).up

theorem State.refuseStream_kept (s : State) (f : LoadFault) : Kept 0x408200452 s (State.refuseStream s f) := by
  unfold State.refuseStream
  exact Kept.trans (by exact Kept.trans (by exact (State.withLoader_kept ..).up) ((State.logAs_kept ..).up)) ((State.bump_kept ..).up)

theorem State.refuseFirst_kept (s : State) (port : Nat) (id : Nat) (f : LoadFault) : Kept 0x408200452 s (State.refuseFirst s port id f) := by
  unfold State.refuseFirst
  exact Kept.trans (by exact (State.ignoreStream_kept ..).up) ((State.refuseStream_kept ..).up)

theorem State.refuseCurrent_kept (s : State) (f : LoadFault) : Kept 0x408200452 s (State.refuseCurrent s f) := by
  unfold State.refuseCurrent
  exact by (try dsimp only); split; exact (Kept.refl _); exact (Kept.trans (by exact (State.withLoader_kept ..).up) ((State.refuseFirst_kept ..).up))

theorem State.giveWay_kept (s : State) (port : Nat) : Kept 0x4082004d2 s (State.giveWay s port) := by
  unfold State.giveWay
  exact by (try dsimp only); split; exact (Kept.ite (Kept.trans (by exact Kept.trans (by exact (State.refuseCurrent_kept ..).up) ((State.withLoader_kept ..).up)) (Kept.up (Kept.upd (m := 0x80) id id))) (Kept.refl _)); exact (Kept.refl _)

theorem State.beginStream_kept (s : State) (port : Nat) (f : StreamFrame) : Kept 0x18000080 s (State.beginStream s port f) := by
  unfold State.beginStream
  exact Kept.trans (by exact Kept.trans (by exact (State.withLoader_kept ..).up) (Kept.up (Kept.upd (m := 0x80) id id))) ((State.wakeDdr_kept ..).up)

theorem State.firstFrame_kept (s : State) (port : Nat) (f : StreamFrame) : Kept 0x4182004d2 s (State.firstFrame s port f) := by
  unfold State.firstFrame
  exact Kept.ite ((State.ignoreStream_kept ..).up) (by (try dsimp only); split; exact (Kept.trans (by exact (State.giveWay_kept ..).up) ((State.refuseFirst_kept ..).up)); exact (Kept.trans (by exact (State.giveWay_kept ..).up) ((State.beginStream_kept ..).up)))

theorem State.anyFrame_kept {m : Nat} (s : State) (port : Nat) (f : StreamFrame) (k : Stream → State → State) (hm : 0x4182004d2 ||| m = m := by decide) (hk : ∀ a0 a1, Kept m a1 (k a0 a1)) : Kept m s (State.anyFrame s port f k) := by
  unfold State.anyFrame
  exact Kept.ite (Kept.trans (by exact (State.seeFrame_kept ..).up2 hm) ((State.withLoader_kept ..).up2 hm)) (by (try dsimp only); split; exact (Kept.trans (by exact (State.seeFrame_kept ..).up2 hm) (hk ..)); exact (Kept.ite (Kept.trans (by exact (State.seeFrame_kept ..).up2 hm) ((State.ignoreStream_kept ..).up2 hm)) (Kept.trans (by exact (State.seeFrame_kept ..).up2 hm) ((State.firstFrame_kept ..).up2 hm))))

theorem State.arriveFrame_kept {m : Nat} (s : State) (port : Nat) (edges : List PortEdge) (k : StreamFrame → Stream → State → State) (hm : 0x4182004d2 ||| m = m := by decide) (hk : ∀ a0 a1 a2, Kept m a2 (k a0 a1 a2)) : Kept m s (State.arriveFrame s port edges k) := by
  unfold State.arriveFrame
  exact Kept.ite (Kept.ite ((State.afterEdges_kept ..).up2 hm) (Kept.trans (by exact (State.afterEdges_kept ..).up2 hm) (State.anyFrame_kept (hm := maskLe hm) (hk := fun _ _ => hk ..) ..))) (Kept.refl _)

theorem execStreamHeaderFrame_kept (port : Nat) (edges : List PortEdge) (s : State) : OutKept 0x4182004d2 s (execStreamHeaderFrame port edges s) := by
  unfold execStreamHeaderFrame
  exact State.arriveFrame_kept (hk := fun _ _ _ => (State.refuseCurrent_kept ..).up) ..

theorem execDmaCommand_kept (req : Nat) (value : Nat) (s : State) : OutKept 0xc00005b s (execDmaCommand req value s) := by
  unfold execDmaCommand
  exact State.writing_kept (hk := fun _ => Kept.ite ((State.refuse_kept ..).up) (Kept.trans (by exact (State.withLoader_kept ..).up) ((State.accept_kept ..).up))) ..

theorem execStreamTimeout_kept (s : State) : OutKept 0x408200452 s (execStreamTimeout s) := by
  unfold execStreamTimeout
  exact Kept.ite ((State.refuseCurrent_kept ..).up) (Kept.refl _)

theorem State.commitDone_kept (s : State) (x : Stream) : Kept 0x1000041d2840c2 s (State.commitDone s x) := by
  unfold State.commitDone
  exact Kept.ite (by (try dsimp only); split; exact (Kept.trans (by exact Kept.trans (by exact (State.withLoader_kept ..).up) ((State.bump_kept ..).up)) ((State.partialDone_kept ..).up)); exact (Kept.trans (by exact (State.withLoader_kept ..).up) ((State.bump_kept ..).up))) (Kept.trans (by exact Kept.trans (by exact Kept.trans (by exact (State.withLoader_kept ..).up) ((State.bump_kept ..).up)) ((State.setMode_kept ..).up)) ((State.tellLatency_kept ..).up))

theorem execLoadAbort_kept (req : Nat) (s : State) : OutKept 0x40c20045b s (execLoadAbort req s) := by
  unfold execLoadAbort
  exact State.writing_kept (hk := fun _ => Kept.ite ((State.refuse_kept ..).up) (Kept.trans (by exact (State.refuseCurrent_kept ..).up) ((State.accept_kept ..).up))) ..

theorem State.dataFrame_kept (s : State) (x : Stream) (f : StreamFrame) : Kept 0x10000408200452 s (State.dataFrame s x f) := by
  unfold State.dataFrame
  exact by (try dsimp only); split; exact ((State.refuseCurrent_kept ..).up); exact (Kept.trans (by exact (State.writeBytes_kept ..).up) ((State.withLoader_kept ..).up))

theorem execDataFrame_kept (port : Nat) (head : List PortEdge) (body : List PortEdge) (s : State) : OutKept 0x100004182004d2 s (execDataFrame port head body s) := by
  unfold execDataFrame
  exact State.arriveFrame_kept (hk := fun _ _ _ => (State.dataFrame_kept ..).up) ..

theorem execCommitComplete_kept (s : State) : OutKept 0x1000041d2840c2 s (execCommitComplete s) := by
  unfold execCommitComplete
  exact by (try dsimp only); split; exact (Kept.ite ((State.commitDone_kept ..).up) (Kept.refl _)); exact (Kept.refl _)

theorem State.checkAndCommit_kept (s : State) (x : Stream) (readBackFailure : Option Nat) : Kept 0x1ffd7ffff79de7c6d2 s (State.checkAndCommit s x readBackFailure) := by
  unfold State.checkAndCommit
  exact by (try dsimp only); split; exact ((State.refuseCurrent_kept ..).up); exact (by (try dsimp only); split; exact (Kept.trans (by exact by (try dsimp only); split; exact (Kept.trans (by exact Kept.trans (by exact (State.withLoader_kept ..).up) (Kept.up (Kept.upd (m := 0x600) id id))) ((State.commitPartial_kept ..).up)); exact (Kept.trans (by exact Kept.trans (by exact (State.withLoader_kept ..).up) (Kept.up (Kept.upd (m := 0x600) id id))) ((State.commitFull_kept ..).up))) ((State.withLoader_kept ..).up)); exact (by (try dsimp only); split; exact (Kept.trans (by exact Kept.trans (by exact (State.withLoader_kept ..).up) (Kept.up (Kept.upd (m := 0x600) id id))) ((State.commitPartial_kept ..).up)); exact (Kept.trans (by exact Kept.trans (by exact (State.withLoader_kept ..).up) (Kept.up (Kept.upd (m := 0x600) id id))) ((State.commitFull_kept ..).up))))

theorem execLoadChecksComplete_kept (readBackFailure : Option Nat) (s : State) : OutKept 0x1ffd7ffff79de7c6d2 s (execLoadChecksComplete readBackFailure s) := by
  unfold execLoadChecksComplete
  exact by (try dsimp only); split; exact (Kept.ite ((State.checkAndCommit_kept ..).up) (Kept.refl _)); exact (Kept.refl _)

theorem State.trailerFrame_kept (s : State) (x : Stream) (f : StreamFrame) : Kept 0x408200452 s (State.trailerFrame s x f) := by
  unfold State.trailerFrame
  exact by (try dsimp only); split; exact ((State.refuseCurrent_kept ..).up); exact ((State.withLoader_kept ..).up)

theorem execTrailerFrame_kept (port : Nat) (head : List PortEdge) (body : List PortEdge) (s : State) : OutKept 0x4182004d2 s (execTrailerFrame port head body s) := by
  unfold execTrailerFrame
  exact State.arriveFrame_kept (hk := fun _ _ _ => (State.trailerFrame_kept ..).up) ..

end Sys2Proof.Machine
end

