-- ==== Sys2Proof/Laws/KeptBundles.lean ====
section
/-! SUPPORT. What the operations of Machine/Bundles.lean keep. -/

set_option Elab.async false

namespace Sys2Proof.Machine

theorem State.setBundle_kept (s : State) (b : Nat) (x : Bundle) : Kept 0x20000 s (State.setBundle s b x) := by
  unfold State.setBundle
  exact Kept.up (Kept.upd (m := 0x20000) id id)

theorem State.weakLane_kept (s : State) (b : Nat) (l : Nat) (p : Nat) : Kept 0x20040 s (State.weakLane s b l p) := by
  unfold State.weakLane
  exact Kept.ite (Kept.refl _) (by (try dsimp only); split; exact ((State.logAs_quiet ..).up); exact (Kept.trans (by exact (State.setBundle_kept ..).up) ((State.logAs_quiet ..).up)))

theorem State.bundleFailed_kept (s : State) (b : Nat) (cycle : Nat) (st : Nat) : Kept 0x100400280550 s (State.bundleFailed s b cycle st) := by
  unfold State.bundleFailed
  exact Kept.trans (by exact (State.logAs_kept ..).up) ((State.raiseStopAt_kept ..).up)

theorem State.mapBundles_kept (s : State) (f : Bundle → Bundle) : Kept 0x20000 s (State.mapBundles s f) := by
  unfold State.mapBundles
  exact Kept.up (Kept.upd (m := 0x20000) id id)

theorem State.beginTraining_kept (s : State) : Kept 0x20000 s (State.beginTraining s) := by
  unfold State.beginTraining
  exact (State.mapBundles_kept ..).up

theorem State.trainBundles_kept (s : State) (failing : List (Nat × Nat)) : Kept 0x1004002a0550 s (State.trainBundles s failing) := by
  unfold State.trainBundles
  exact Kept.ite (Kept.trans (by exact Kept.foldl (fun _ _ => Kept.ite ((State.setBundle_kept ..).up) (Kept.refl _)) (Kept.refl _)) ((State.endCodeClass_kept ..).up)) (Kept.foldl (fun _ _ => (State.bundleFailed_kept ..).up) (Kept.foldl (fun _ _ => Kept.ite ((State.setBundle_kept ..).up) (Kept.refl _)) (Kept.refl _)))

theorem execBundleRetrainComplete_kept (failing : List (Nat × Nat)) (s : State) : OutKept 0x1004002a0550 s (execBundleRetrainComplete failing s) := by
  unfold execBundleRetrainComplete
  exact Kept.ite ((State.trainBundles_kept ..).up) (Kept.refl _)

theorem State.withdrawSpare_kept (s : State) (b : Nat) (l : Nat) : Kept 0x20040 s (State.withdrawSpare s b l) := by
  unfold State.withdrawSpare
  exact Kept.trans (by exact (State.setBundle_kept ..).up) ((State.logAs_quiet ..).up)

theorem execLaneMarginLow_kept (bundle : Nat) (lane : Nat) (s : State) : OutKept 0x20040 s (execLaneMarginLow bundle lane s) := by
  unfold execLaneMarginLow
  exact Kept.ite (Kept.refl _) (by (try dsimp only); split; exact ((State.weakLane_kept ..).up); exact ((State.withdrawSpare_kept ..).up))

theorem State.remapBundles_kept (s : State) : Kept 0x20000 s (State.remapBundles s) := by
  unfold State.remapBundles
  exact Kept.up (Kept.upd (m := 0x20000) id id)

theorem State.loseLane_kept (s : State) (b : Nat) (l : Nat) (p : Nat) (st : Nat) : Kept 0x1004002a0550 s (State.loseLane s b l p st) := by
  unfold State.loseLane
  exact Kept.ite (Kept.ite (Kept.trans (by exact Kept.trans (by exact (State.setBundle_kept ..).up) ((State.logAs_kept ..).up)) ((State.raiseStopAt_kept ..).up)) (Kept.ite (Kept.trans (by exact Kept.trans (by exact Kept.trans (by exact (State.setBundle_kept ..).up) ((State.logAs_kept ..).up)) ((State.raiseStopAt_kept ..).up)) ((State.raiseStopAt_kept ..).up)) (Kept.trans (by exact Kept.trans (by exact Kept.trans (by exact (State.setBundle_kept ..).up) ((State.logAs_kept ..).up)) ((State.raiseStopAt_kept ..).up)) ((State.bundleFailed_kept ..).up)))) (Kept.trans (by exact Kept.ite (Kept.trans (by exact Kept.trans (by exact (State.setBundle_kept ..).up) ((State.logAs_kept ..).up)) ((State.raiseStopAt_kept ..).up)) (Kept.ite (Kept.trans (by exact Kept.trans (by exact Kept.trans (by exact (State.setBundle_kept ..).up) ((State.logAs_kept ..).up)) ((State.raiseStopAt_kept ..).up)) ((State.raiseStopAt_kept ..).up)) (Kept.trans (by exact Kept.trans (by exact Kept.trans (by exact (State.setBundle_kept ..).up) ((State.logAs_kept ..).up)) ((State.raiseStopAt_kept ..).up)) ((State.bundleFailed_kept ..).up)))) ((State.remapBundles_kept ..).up))

theorem execDieLaneLost_kept (bundle : Nat) (lane : Nat) (atStep : Nat) (s : State) : OutKept 0x1ffc1ffffe003e8552 s (execDieLaneLost bundle lane atStep s) := by
  unfold execDieLaneLost
  exact Kept.ite (Kept.refl _) (by (try dsimp only); split; exact (Kept.trans (by exact Kept.ite ((State.runTo_kept ..).up) (Kept.refl _)) ((State.loseLane_kept ..).up)); exact ((State.withdrawSpare_kept ..).up))

theorem execBundleRetrain_kept (req : Nat) (s : State) : OutKept 0x402005b s (execBundleRetrain req s) := by
  unfold execBundleRetrain
  exact State.writing_kept (hk := fun _ => Kept.trans (by exact (State.beginTraining_kept ..).up) ((State.accept_kept ..).up)) ..

theorem State.passBundles_kept (s : State) : Kept 0x20000 s (State.passBundles s) := by
  unfold State.passBundles
  exact Kept.up (Kept.upd (m := 0x20000) id id)

end Sys2Proof.Machine
end

