-- ==== Sys2Proof/Laws/KeptBoundary.lean ====
section
/-! SUPPORT. What the operations of Machine/Boundary.lean keep. -/

set_option Elab.async false

namespace Sys2Proof.Machine

theorem State.closeCycle_kept (s : State) : Kept 0xffff000008000 s (State.closeCycle s) := by
  unfold State.closeCycle
  exact Kept.trans (by exact Kept.trans (by exact Kept.trans (by exact (State.crossBoundary_kept ..).up) ((State.withArr_kept (m := 0xffff000000000) ..).up)) (Kept.up (Kept.upd (m := 0x8000) id id))) ((State.withSched_kept ..).up)

theorem State.traceStop_kept (s : State) : Kept 0x1000042 s (State.traceStop s) := by
  unfold State.traceStop
  exact Kept.ite ((State.offer_kept ..).up) (Kept.refl _)

theorem State.stopArray_kept (s : State) (causes : Nat) (fault : Nat) : Kept 0x100401220142 s (State.stopArray s causes fault) := by
  unfold State.stopArray
  exact Kept.trans (by exact Kept.trans (by exact Kept.trans (by exact Kept.trans (by exact Kept.up (Kept.upd (m := 0x100) id id)) ((State.withSched_kept ..).up)) ((State.traceStop_kept ..).up)) ((State.raiseLine_kept ..).up)) ((State.remapBundles_kept ..).up)

theorem State.forceDemands_kept (s : State) (new : List (Nat × Nat)) : Kept 0x100000000000 s (State.forceDemands s new) := by
  unfold State.forceDemands
  exact (State.withSched_kept ..).up

theorem State.setPoint_kept (s : State) (p : Nat) : Kept 0x100001000042 s (State.setPoint s p) := by
  unfold State.setPoint
  exact Kept.ite (Kept.refl _) (Kept.ite (Kept.trans (by exact Kept.trans (by exact (State.withSched_kept ..).up) ((State.bump_kept ..).up)) ((State.offer_kept ..).up)) (Kept.trans (by exact (State.withSched_kept ..).up) ((State.bump_kept ..).up)))

theorem State.settleDemands_kept (s : State) : Kept 0x100001000042 s (State.settleDemands s) := by
  unfold State.settleDemands
  exact Kept.trans (by exact Kept.trans (by exact (State.withSched_kept ..).up) ((State.forceDemands_kept ..).up)) ((State.setPoint_kept ..).up)

theorem State.pointBoundary_kept (s : State) (n : Nat) : Kept 0x100001000042 s (State.pointBoundary s n) := by
  unfold State.pointBoundary
  exact Kept.trans (by exact Kept.trans (by exact (State.withSched_kept ..).up) ((State.forceDemands_kept ..).up)) ((State.setPoint_kept ..).up)

theorem State.recordVotes_kept (s : State) (n : Nat) : Kept 0x3000000000000 s (State.recordVotes s n) := by
  unfold State.recordVotes
  exact (State.withArr_kept (m := 0x3000000000000) ..).up

theorem State.takeMark_kept (s : State) : Kept 0x400202080 s (State.takeMark s) := by
  unfold State.takeMark
  exact Kept.ite (Kept.ite (Kept.trans (by exact Kept.trans (by exact Kept.up (Kept.upd (m := 0x80) id id)) ((State.raiseLine_kept ..).up)) ((State.markPulse_kept ..).up)) (Kept.trans (by exact Kept.up (Kept.upd (m := 0x80) id id)) ((State.raiseLine_kept ..).up))) (Kept.refl _)

theorem State.beginCycle_kept (s : State) : Kept 0x1004012020c2 s (State.beginCycle s) := by
  unfold State.beginCycle
  exact Kept.ite (Kept.trans (by exact Kept.trans (by exact Kept.trans (by exact Kept.up (Kept.upd (m := 0x80) id id)) ((State.withSched_kept ..).up)) ((State.takeMark_kept ..).up)) ((State.offer_kept ..).up)) (Kept.trans (by exact Kept.trans (by exact Kept.up (Kept.upd (m := 0x80) id id)) ((State.withSched_kept ..).up)) ((State.takeMark_kept ..).up))

theorem State.launchArray_kept (s : State) : Kept 0x1ffc1ffff6012821c2 s (State.launchArray s) := by
  unfold State.launchArray
  exact Kept.trans (by exact Kept.foldl (fun _ _ => Kept.ite ((State.decideSlot_kept ..).up) (Kept.refl _)) (Kept.trans (by exact Kept.trans (by exact Kept.ite ((State.loadWordSide_kept ..).up) (Kept.refl _)) (Kept.up (Kept.upd (m := 0x100) id id))) ((State.withSched_kept ..).up))) ((State.beginCycle_kept ..).up)

theorem State.stopBoundary_kept (s : State) (n : Nat) : Kept 0x1ffc1ffff6012a21c2 s (State.stopBoundary s n) := by
  unfold State.stopBoundary
  exact Kept.ite (Kept.trans (by exact Kept.ite (Kept.trans (by exact (State.withSched_kept ..).up) ((State.recordVotes_kept ..).up)) ((State.withSched_kept ..).up)) ((State.beginCycle_kept ..).up)) (Kept.ite (Kept.trans (by exact Kept.trans (by exact Kept.ite (Kept.trans (by exact (State.withSched_kept ..).up) ((State.recordVotes_kept ..).up)) ((State.withSched_kept ..).up)) ((State.stopArray_kept ..).up)) ((State.launchArray_kept ..).up)) (Kept.trans (by exact Kept.ite (Kept.trans (by exact (State.withSched_kept ..).up) ((State.recordVotes_kept ..).up)) ((State.withSched_kept ..).up)) ((State.stopArray_kept ..).up)))

theorem State.passBoundary_kept (s : State) : Kept 0x1ffc1ffffe01fea5d2 s (State.passBoundary s) := by
  unfold State.passBoundary
  exact Kept.trans (by exact Kept.trans (by exact Kept.trans (by exact Kept.trans (by exact Kept.trans (by exact Kept.trans (by exact (State.runTo_kept ..).up) ((State.closeCycle_kept ..).up)) ((State.countEvent_kept ..).up)) ((State.passBundles_kept ..).up)) ((State.pointBoundary_kept ..).up)) ((State.stopBoundary_kept ..).up)) ((State.wakeCycles_kept ..).up)

theorem execSegmentTokenCheck_kept (segment : Nat) (s : State) : OutKept 0x1ffc1ffffe003c8552 s (execSegmentTokenCheck segment s) := by
  unfold execSegmentTokenCheck
  exact Kept.ite ((State.runTo_kept ..).up) (Kept.refl _)

theorem State.tellDemand_kept (s : State) : Kept 0x80000 s (State.tellDemand s) := by
  unfold State.tellDemand
  exact Kept.ite (Kept.up (Kept.upd (m := 0x80000) id id)) (Kept.refl _)

theorem State.demandAt_kept (s : State) (n : Nat) (st : Nat) (raised : List (Nat × Nat)) : Kept 0x100001000042 s (State.demandAt s n st raised) := by
  unfold State.demandAt
  exact Kept.ite (Kept.trans (by exact (State.withSched_kept ..).up) ((State.withSched_kept ..).up)) (Kept.trans (by exact Kept.trans (by exact (State.withSched_kept ..).up) ((State.forceDemands_kept ..).up)) ((State.setPoint_kept ..).up))

theorem State.demandChanged_kept (s : State) (raised : List (Nat × Nat)) : Kept 0x100001080042 s (State.demandChanged s raised) := by
  unfold State.demandChanged
  exact Kept.trans (by exact (State.tellDemand_kept ..).up) ((State.demandAt_kept ..).up)

theorem execCycleLimitReached_kept (s : State) : OutKept 0x1ffc1ffffe01fea5d2 s (execCycleLimitReached s) := by
  unfold execCycleLimitReached
  exact Kept.ite ((State.passBoundary_kept ..).up) (Kept.refl _)

theorem execCycleBoundary_kept (s : State) : OutKept 0x1ffc1ffffe01fea5d2 s (execCycleBoundary s) := by
  unfold execCycleBoundary
  exact Kept.ite ((State.passBoundary_kept ..).up) (Kept.refl _)

theorem execStagingSample_kept (s : State) : OutKept 0x1ffc1ffffe003c8552 s (execStagingSample s) := by
  unfold execStagingSample
  exact Kept.ite ((State.openStep_kept ..).up) (Kept.refl _)

theorem execCrossingLatchLoad_kept (s : State) : OutKept 0x1ffc1ffffe003c8552 s (execCrossingLatchLoad s) := by
  unfold execCrossingLatchLoad
  exact by (try dsimp only); split; exact (Kept.refl _); exact (Kept.ite (Kept.ite ((State.openStep_kept ..).up) (Kept.refl _)) ((State.loadWordSide_kept ..).up))

theorem State.cellInterval_kept (s : State) (u : Nat) : Kept 0x110400288550 s (State.cellInterval s u) := by
  unfold State.cellInterval
  exact Kept.ite ((State.withArr_kept (m := 0x10000000000) ..).up) (Kept.trans (by exact Kept.ite (Kept.trans (by exact (State.withArr_kept (m := 0x10000000000) ..).up) (Kept.up (Kept.upd (m := 0x8000) id id))) (Kept.trans (by exact Kept.trans (by exact Kept.trans (by exact (State.withArr_kept (m := 0x10000000000) ..).up) (Kept.up (Kept.upd (m := 0x8000) id id))) ((State.logDetail_kept ..).up)) (Kept.up (Kept.upd (m := 0x8000) id id)))) ((State.raiseStop_kept ..).up))

theorem execWordCellTokenInterval_kept (s : State) : OutKept 0x110400288550 s (execWordCellTokenInterval s) := by
  unfold execWordCellTokenInterval
  exact Kept.foldl (fun _ _ => (State.cellInterval_kept ..).up) (Kept.refl _)

theorem State.startOrWait_kept (s : State) : Kept 0x1ffc1ffff6012821c2 s (State.startOrWait s) := by
  unfold State.startOrWait
  exact Kept.ite ((State.launchArray_kept ..).up) (Kept.trans (by exact Kept.up (Kept.upd (m := 0x100) id id)) ((State.withSched_kept ..).up))

end Sys2Proof.Machine
end

