-- ==== Sys2Proof/Laws/KeptSheets.lean ====
section
/-! SUPPORT. What the operations of Machine/Sheets.lean keep. -/

set_option Elab.async false

namespace Sys2Proof.Machine

theorem State.restoreArray_kept (s : State) (d : DesignState) : Kept 0xffff000000000 s (State.restoreArray s d) := by
  unfold State.restoreArray
  exact (State.withArr_kept (m := 0xffff000000000) ..).up

theorem State.recommitBase_kept (s : State) (m : Staged) (readBackFailure : Option Nat) : Kept 0x1ffd7ffff79de7c4d2 s (State.recommitBase s m readBackFailure) := by
  unfold State.recommitBase
  exact Kept.trans (by exact (State.withLoader_kept ..).up) ((State.commitFull_kept ..).up)

theorem State.flushWhere_kept (s : State) (p : CacheLine → Bool) : Kept 0x60000000000000 s (State.flushWhere s p) := by
  unfold State.flushWhere
  exact Kept.trans (by exact Kept.foldl (fun _ _ => (State.writeOnDie_kept ..).up) (Kept.refl _)) (Kept.up (Kept.upd (m := 0x40000000000000) id id))

theorem State.flushCaches_kept (s : State) : Kept 0x60000000000000 s (State.flushCaches s) := by
  unfold State.flushCaches
  exact (State.flushWhere_kept ..).up

theorem State.setArena_kept (s : State) (base : Nat) (size : Nat) (bs : Sparse Byte) : Kept 0x10000000000000 s (State.setArena s base size bs) := by
  unfold State.setArena
  exact Kept.foldl (fun _ _ => (State.writeBytes_kept ..).up) ((State.forgetBytes_kept ..).up)

theorem State.storeBody_kept (s : State) (a : Nat) (n : Nat) (d : DesignState) : Kept 0x10000000000000 s (State.storeBody s a n d) := by
  unfold State.storeBody
  exact (State.setArena_kept ..).up

theorem State.setSlot_kept (s : State) (k : Nat) (x : Sheet) : Kept 0x40000000 s (State.setSlot s k x) := by
  unfold State.setSlot
  exact Kept.up (Kept.upd (m := 0x40000000) id id)

theorem State.fillSlot_kept (s : State) (i : Image) (k : Nat) (scope : Nat) (n : Nat) (a : Nat) : Kept 0x70000040000000 s (State.fillSlot s i k scope n a) := by
  unfold State.fillSlot
  exact Kept.trans (by exact Kept.trans (by exact (State.flushCaches_kept ..).up) ((State.storeBody_kept ..).up)) ((State.setSlot_kept ..).up)

theorem State.refuseCommand_kept (s : State) (req : Nat) (key : Nat) (code : Nat) : Kept 0x400200459 s (State.refuseCommand s req key code) := by
  unfold State.refuseCommand
  exact Kept.trans (by exact (State.logAs_kept ..).up) ((State.reply_kept ..).up)

theorem State.sheetCommand_kept {m : Nat} (s : State) (req : Nat) (value : Nat) (modes : List Mode) (k : State → State) (hm : 0x40420045b ||| m = m := by decide) (hk : ∀ a0, Kept m a0 (k a0)) : Kept m s (State.sheetCommand s req value modes k) := by
  unfold State.sheetCommand
  exact State.writing_kept (hm := maskLe hm) (hk := fun _ => by (try dsimp only); split; exact ((State.refuseCommand_kept ..).up2 hm); exact (Kept.ite (hk ..) ((State.refuseCommand_kept ..).up2 hm))) ..

theorem State.recommitFails_kept (s : State) (arg : Nat) : Kept 0x1ffd7ffff79de7c4d2 s (State.recommitFails s arg) := by
  unfold State.recommitFails
  exact by (try dsimp only); split; exact (Kept.trans (by exact (State.recommitBase_kept ..).up) ((State.withLoader_kept ..).up)); exact (Kept.refl _)

theorem State.sheetStatus_kept (s : State) (v : Nat) : Kept 0x10000002 s (State.sheetStatus s v) := by
  unfold State.sheetStatus
  exact Kept.trans (by exact Kept.ite ((State.wakeDdr_kept ..).up) (Kept.refl _)) ((State.putEntry_kept ..).up)

theorem State.recommitNext_kept (s : State) (p : Staged) : Kept 0x1ffc1000059d2144d2 s (State.recommitNext s p) := by
  unfold State.recommitNext
  exact by (try dsimp only); split; exact (Kept.trans (by exact (State.commitPartial_kept ..).up) ((State.partialDone_kept ..).up)); exact (Kept.refl _)

theorem State.recommit_kept (s : State) (m : Staged) : Kept 0x1ffd7ffff79de7c4d2 s (State.recommit s m) := by
  unfold State.recommit
  exact Kept.foldl (fun _ _ => (State.recommitNext_kept ..).up) ((State.recommitBase_kept ..).up)

theorem State.restoreImage_kept (s : State) : Kept 0x1ffd7ffff79de7c4d2 s (State.restoreImage s) := by
  unfold State.restoreImage
  exact by (try dsimp only); split; exact ((State.recommit_kept ..).up); exact (Kept.refl _)

theorem State.restoreDesign_kept (s : State) (d : DesignState) (scope : Nat) : Kept 0x1ffc7ffff000040000 s (State.restoreDesign s d scope) := by
  unfold State.restoreDesign
  exact by (try dsimp only); split; exact (Kept.trans (by exact Kept.trans (by exact Kept.trans (by exact (State.flushCaches_kept ..).up) ((State.restoreArray_kept ..).up)) (Kept.up (Kept.upd (m := 0x20000000040000) id (fun h => Memory.wf_mk (Memory.wf_bytes h) (Sparse.canon_wf ..))))) ((State.withFabric_kept (m := 0x1ffc00000000000000) ..).up)); exact (Kept.ite (Kept.trans (by exact Kept.ite (Kept.trans (by exact Kept.trans (by exact Kept.trans (by exact Kept.trans (by exact (State.flushCaches_kept ..).up) ((State.restoreArray_kept ..).up)) (Kept.up (Kept.upd (m := 0x20000000040000) id (fun h => Memory.wf_mk (Memory.wf_bytes h) (Sparse.canon_wf ..))))) ((State.withFabric_kept (m := 0x1ffc00000000000000) ..).up)) ((State.setArena_kept ..).up)) (Kept.trans (by exact Kept.trans (by exact Kept.trans (by exact (State.flushCaches_kept ..).up) ((State.restoreArray_kept ..).up)) (Kept.up (Kept.upd (m := 0x20000000040000) id (fun h => Memory.wf_mk (Memory.wf_bytes h) (Sparse.canon_wf ..))))) ((State.withFabric_kept (m := 0x1ffc00000000000000) ..).up))) ((State.setArena_kept ..).up)) (Kept.ite (Kept.trans (by exact Kept.trans (by exact Kept.trans (by exact Kept.trans (by exact (State.flushCaches_kept ..).up) ((State.restoreArray_kept ..).up)) (Kept.up (Kept.upd (m := 0x20000000040000) id (fun h => Memory.wf_mk (Memory.wf_bytes h) (Sparse.canon_wf ..))))) ((State.withFabric_kept (m := 0x1ffc00000000000000) ..).up)) ((State.setArena_kept ..).up)) (Kept.trans (by exact Kept.trans (by exact Kept.trans (by exact (State.flushCaches_kept ..).up) ((State.restoreArray_kept ..).up)) (Kept.up (Kept.upd (m := 0x20000000040000) id (fun h => Memory.wf_mk (Memory.wf_bytes h) (Sparse.canon_wf ..))))) ((State.withFabric_kept (m := 0x1ffc00000000000000) ..).up))))

theorem State.writeSheet_kept (s : State) (x : Sheet) : Kept 0x1ffd7ffff79de7c4d2 s (State.writeSheet s x) := by
  unfold State.writeSheet
  exact Kept.trans (by exact Kept.trans (by exact Kept.trans (by exact Kept.trans (by exact (State.restoreImage_kept ..).up) ((State.restoreDesign_kept ..).up)) ((State.removeIsolation_kept ..).up)) ((State.releaseBridgePins_kept ..).up)) ((State.wakeCycles_kept ..).up)

theorem State.restoreFails_kept (s : State) : Kept 0x10000182 s (State.restoreFails s) := by
  unfold State.restoreFails
  exact Kept.trans (by exact (State.sheetStatus_kept ..).up) (Kept.up (Kept.upd (m := 0x180) id id))

theorem execRestore_kept (req : Nat) (failure : Option Nat) (s : State) : OutKept 0x1ffd7ffff79de7c5db s (execRestore req failure s) := by
  unfold execRestore
  exact State.sheetCommand_kept (hk := fun _ => by (try dsimp only); split; exact (Kept.trans (by exact (State.logAs_kept ..).up) ((State.reply_kept ..).up)); exact (Kept.ite (Kept.trans (by exact Kept.trans (by exact (State.recommitFails_kept ..).up) ((State.sheetStatus_kept ..).up)) ((State.accept_kept ..).up)) (Kept.trans (by exact Kept.trans (by exact (State.writeSheet_kept ..).up) ((State.restoreFails_kept ..).up)) ((State.accept_kept ..).up))); exact (Kept.trans (by exact Kept.trans (by exact (State.writeSheet_kept ..).up) ((State.sheetStatus_kept ..).up)) ((State.accept_kept ..).up))) ..

theorem State.restoreDone_kept (s : State) : Kept 0x700004152000c2 s (State.restoreDone s) := by
  unfold State.restoreDone
  exact Kept.trans (by exact Kept.trans (by exact Kept.trans (by exact Kept.up (Kept.upd (m := 0x80) id id)) ((State.flushCaches_kept ..).up)) ((State.sheetStatus_kept ..).up)) ((State.setMode_kept ..).up)

theorem execDiscard_kept (req : Nat) (s : State) : OutKept 0x45420045b s (execDiscard req s) := by
  unfold execDiscard
  exact State.sheetCommand_kept (hk := fun _ => Kept.trans (by exact Kept.trans (by exact (State.setSlot_kept ..).up) ((State.sheetStatus_kept ..).up)) ((State.accept_kept ..).up)) ..

theorem execAdopt_kept (req : Nat) (s : State) : OutKept 0x45420045b s (execAdopt req s) := by
  unfold execAdopt
  exact State.sheetCommand_kept (hk := fun _ => Kept.ite (Kept.trans (by exact Kept.trans (by exact (State.setSlot_kept ..).up) ((State.sheetStatus_kept ..).up)) ((State.accept_kept ..).up)) ((State.refuseCommand_kept ..).up)) ..

theorem execSheetHeaderWrite_kept (req : Nat) (header : List Byte) (s : State) : OutKept 0x44420045b s (execSheetHeaderWrite req header s) := by
  unfold execSheetHeaderWrite
  exact State.writing_kept (hk := fun _ => Kept.ite ((State.refuse_kept ..).up) (by (try dsimp only); split; exact ((State.refuseCommand_kept ..).up); exact (Kept.trans (by exact (State.setSlot_kept ..).up) ((State.accept_kept ..).up)))) ..

theorem State.saveSlot_kept (s : State) (k scope : Nat) : ∀ t, s.saveSlot k scope = some t → Kept 0x70000040000000 s t := by
  intro t h
  unfold State.saveSlot at h
  split at h
  · cases h
  · obtain ⟨a, -, rfl⟩ := Option.map_eq_some_iff.mp h
    exact State.fillSlot_kept ..

theorem execSave_kept (req : Nat) (s : State) : OutKept 0x7000045420045b s (execSave req s) := by
  unfold execSave
  refine State.sheetCommand_kept (hk := fun t => ?_) ..
  split
  · exact Kept.trans (Kept.trans (State.saveSlot_kept _ _ _ _ ‹_›).up ((State.sheetStatus_kept ..).up)) ((State.accept_kept ..).up)
  · exact (State.refuseCommand_kept ..).up

theorem execSaveComplete_kept (s : State) : OutKept 0x60000010000002 s (execSaveComplete s) := by
  unfold execSaveComplete
  exact Kept.ite (Kept.trans (by exact (State.flushCaches_kept ..).up) ((State.sheetStatus_kept ..).up)) (Kept.refl _)

end Sys2Proof.Machine
end

