-- ==== Sys2Proof/Laws/KeptHalt.lean ====
section
/-! SUPPORT. What the operations of Machine/Halt.lean keep. -/

set_option Elab.async false

namespace Sys2Proof.Machine

theorem State.stopLoader_kept (s : State) : Kept 0x8014080 s (State.stopLoader s) := by
  unfold State.stopLoader
  exact Kept.trans (by exact Kept.ite ((State.dropImage_kept ..).up) (Kept.refl _)) ((State.withLoader_kept ..).up)

theorem State.stopAll_kept (s : State) : Kept 0x10038e2140c2 s (State.stopAll s) := by
  unfold State.stopAll
  exact Kept.trans (by exact Kept.trans (by exact Kept.trans (by exact Kept.trans (by exact (State.withSched_kept ..).up) ((State.applySafe_kept ..).up)) ((State.releaseOutputs_kept ..).up)) ((State.stopLoader_kept ..).up)) (Kept.up (Kept.upd (m := 0x86200000) id id))

theorem State.deviceHalt_kept (s : State) (cause : Nat) (code : Nat) (arg : Nat) : Kept 0x10078e2144d2 s (State.deviceHalt s cause code arg) := by
  unfold State.deviceHalt
  exact Kept.ite (Kept.trans (by exact Kept.trans (by exact Kept.up (Kept.upd (m := 0x2000000) id id)) ((State.log1_kept ..).up)) (Kept.up (Kept.upd (m := 0x40) id id))) (Kept.trans (by exact Kept.trans (by exact Kept.trans (by exact Kept.up (Kept.upd (m := 0x2000000) id id)) ((State.log1_kept ..).up)) (Kept.up (Kept.upd (m := 0x40) id id))) ((State.stopAll_kept ..).up))

theorem State.tagFailure_kept (s : State) (address : Nat) (unit : Nat) : Kept 0x10078e2144d2 s (State.tagFailure s address unit) := by
  unfold State.tagFailure
  exact (State.deviceHalt_kept ..).up

end Sys2Proof.Machine
end

