-- ==== Sys2Proof/Laws/KeptAudit.lean ====
section
/-! SUPPORT. What the operations of Machine/Audit.lean keep. -/

set_option Elab.async false

namespace Sys2Proof.Machine

theorem execFaultAcknowledge_kept (req : Nat) (s : State) : OutKept 0x400005b s (execFaultAcknowledge req s) := by
  unfold execFaultAcknowledge
  exact State.writing_kept (hk := fun _ => Kept.trans (by exact (State.endFaults_kept ..).up) ((State.accept_kept ..).up)) ..

theorem State.withLog_kept (s : State) (f : Log → Log) (hf : s.log.bounded → (f s.log).bounded := by exact id) : Kept 0x40 s (s.withLog f) :=
  (Kept.mk rfl rfl id hf id)

theorem State.logBroken_kept (s : State) (k : Nat) : Kept 0x400200450 s (State.logBroken s k) := by
  unfold State.logBroken
  exact Kept.ite ((State.log1_kept ..).up) ((State.log1_kept ..).up)

theorem execAuditComplete_kept (s : State) : OutKept 0x400200450 s (execAuditComplete s) := by
  unfold execAuditComplete
  exact Kept.ite (Kept.trans (by exact Kept.foldl (fun _ _ => (State.logBroken_kept ..).up) (Kept.refl _)) ((State.withLog_kept ..).up)) (Kept.refl _)

theorem execAuditCommand_kept (req : Nat) (s : State) : OutKept 0x400005b s (execAuditCommand req s) := by
  unfold execAuditCommand
  exact State.writing_kept (hk := fun _ => Kept.ite ((State.refuse_kept ..).up) (Kept.ite ((State.refuse_kept ..).up) (Kept.trans (by exact (State.withLog_kept ..).up) ((State.accept_kept ..).up)))) ..

end Sys2Proof.Machine
end

