-- ==== Sys2Proof/Laws/KeptMemory.lean ====
section
/-! SUPPORT. What the operations of Machine/Memory.lean keep. -/

set_option Elab.async false

namespace Sys2Proof.Machine

theorem State.moveBytes_kept (s : State) (a : SysAccess) : Kept 0x10000000000009 s (State.moveBytes s a) := by
  unfold State.moveBytes
  exact Kept.trans (by exact Kept.ite ((State.writeBytes_kept ..).up) (Kept.refl _)) ((State.reply_kept ..).up)

theorem State.countSystem_kept (s : State) (x1 : List Nat) : Kept 0x400200002 s (State.countSystem s x1) := by
  unfold State.countSystem
  exact by (try dsimp only); split; exact (Kept.refl _); exact (Kept.ite ((State.countEvent_kept ..).up) ((State.countEvent_kept ..).up))

theorem State.performMemory_kept (s : State) (a : SysAccess) : Kept 0x1010078e2144db s (State.performMemory s a) := by
  unfold State.performMemory
  exact Kept.ite (Kept.trans (by exact Kept.trans (by exact (State.countSystem_kept ..).up) ((State.tagFailure_kept ..).up)) ((State.reply_kept ..).up)) (Kept.trans (by exact (State.countSystem_kept ..).up) ((State.moveBytes_kept ..).up))

theorem State.memoryAccess_kept (s : State) (a : SysAccess) : Kept 0x1010079e2144db s (State.memoryAccess s a) := by
  unfold State.memoryAccess
  exact Kept.ite ((State.reply_kept ..).up) (by (try dsimp only); split; exact ((State.performMemory_kept ..).up); exact (Kept.ite (Kept.trans (by exact (State.poweredOff_kept ..).up) ((State.reply_kept ..).up)) (by (try dsimp only); split; exact (Kept.trans (by exact (State.holdFor_kept ..).up) ((State.reply_kept ..).up)); exact ((State.performMemory_kept ..).up))))

end Sys2Proof.Machine
end

