-- ==== Sys2Proof/Laws/KeptGuest.lean ====
section
/-! SUPPORT. What the operations of Machine/Guest.lean keep. -/

set_option Elab.async false

namespace Sys2Proof.Machine

theorem State.withGuest_kept (s : State) (f : Guest → Guest) : Kept 0x20000000 s (State.withGuest s f) := by
  unfold State.withGuest
  exact Kept.up (Kept.upd (m := 0x20000000) id id)

theorem execGuestWindowWrite_kept (req : Nat) (window : Nat) (sub : Nat) (value : Nat) (s : State) : OutKept 0x2400005b s (execGuestWindowWrite req window sub value s) := by
  unfold execGuestWindowWrite
  exact Kept.ite ((State.refuse_kept ..).up) (State.writingValue_kept (hk := fun _ _ => Kept.ite (Kept.trans (by exact Kept.trans (by exact (State.putEntry_kept ..).up) ((State.withGuest_kept ..).up)) ((State.accept_kept ..).up)) ((State.refuse_kept ..).up)) ..)

theorem State.guestDenied_kept (s : State) (w : Nat) : Kept 0x2000004b s (State.guestDenied s w) := by
  unfold State.guestDenied
  exact Kept.trans (by exact Kept.ite ((State.bump_kept ..).up) (Kept.trans (by exact Kept.trans (by exact (State.bump_kept ..).up) ((State.logAs_quiet ..).up)) (Kept.up (Kept.upd (m := 0x20000000) id id)))) ((State.reply_kept ..).up)

theorem State.guestDrop_kept (s : State) (state : Nat) : Kept 0x32000000 s (State.guestDrop s state) := by
  unfold State.guestDrop
  exact Kept.trans (by exact Kept.foldl (fun _ _ => (State.failHeld_kept ..).up) (Kept.trans (by exact Kept.foldl (fun _ _ => Kept.trans (by exact (State.withRings_kept ..).up) ((State.complete_kept ..).up)) (Kept.refl _)) ((State.withRings_kept ..).up))) ((State.withGuest_kept ..).up)

theorem State.cutGuest_kept (s : State) : Kept 0x432200450 s (State.cutGuest s) := by
  unfold State.cutGuest
  exact Kept.trans (by exact Kept.trans (by exact (State.guestDrop_kept ..).up) ((State.withGuest_kept ..).up)) ((State.logAs_kept ..).up)

theorem State.guestMemory_kept (s : State) (x : GuestWindow) (a : GuestAccess) : Kept 0x1010079e2144db s (State.guestMemory s x a) := by
  unfold State.guestMemory
  exact Kept.ite ((State.memoryAccess_kept ..).up) ((State.denied_kept ..).up)

theorem State.serveWindow_kept (s : State) (w : Nat) : Kept 0x101007be2144db s (State.serveWindow s w) := by
  unfold State.serveWindow
  exact by (try dsimp only); split; exact (Kept.refl _); exact (Kept.ite (Kept.refl _) (Kept.trans (by exact Kept.ite (Kept.trans (by exact (State.withGuest_kept ..).up) ((State.guestMemory_kept ..).up)) (Kept.trans (by exact Kept.trans (by exact (State.withGuest_kept ..).up) ((State.guestMemory_kept ..).up)) ((State.complete_kept ..).up))) ((State.reply_kept ..).up)))

theorem State.guestTick_kept (s : State) : Kept 0x101007be2144db s (State.guestTick s) := by
  unfold State.guestTick
  exact Kept.ite (Kept.refl _) (Kept.foldl (fun _ _ => (State.serveWindow_kept ..).up) ((State.withGuest_kept ..).up))

theorem State.channelOp_kept (s : State) (op : Nat) (v : Nat) : ChanKept 0x1e00042 s (State.channelOp s op v) := by
  unfold State.channelOp
  exact by (try dsimp only); split; exact ((State.chrecv_kept ..).up); exact ((State.chrelease_kept ..).up); exact ((State.chreserve_kept ..).up); exact ((State.chpost_kept ..).up); exact ((State.chcount_kept ..).up)

theorem State.supplyGuest_kept (s : State) : Kept 0x32000000 s (State.supplyGuest s) := by
  unfold State.supplyGuest
  exact Kept.ite (Kept.refl _) (Kept.ite (Kept.ite ((State.withGuest_kept ..).up) (Kept.refl _)) (Kept.ite (Kept.refl _) ((State.guestDrop_kept ..).up)))

theorem execGuestPowerEnableWrite_kept (req : Nat) (value : Nat) (s : State) : OutKept 0x3600005b s (execGuestPowerEnableWrite req value s) := by
  unfold execGuestPowerEnableWrite
  exact State.writingValue_kept (hk := fun _ _ => Kept.trans (by exact Kept.trans (by exact Kept.ite (Kept.ite (Kept.trans (by exact (State.putEntry_kept ..).up) ((State.withGuest_kept ..).up)) (Kept.ite (Kept.trans (by exact Kept.trans (by exact (State.putEntry_kept ..).up) ((State.withGuest_kept ..).up)) ((State.endCode_kept ..).up)) ((State.putEntry_kept ..).up))) ((State.putEntry_kept ..).up)) ((State.supplyGuest_kept ..).up)) ((State.accept_kept ..).up)) ..

theorem execGuestSleepRequest_kept (s : State) : OutKept 0x30000000 s (execGuestSleepRequest s) := by
  unfold execGuestSleepRequest
  exact Kept.ite (Kept.trans (by exact (State.withGuest_kept ..).up) ((State.withRings_kept ..).up)) (Kept.refl _)

theorem State.apertureRead_kept (s : State) (address : Nat) : Kept 0x1e0004b s (s.apertureRead address) := by
  unfold State.apertureRead
  refine Kept.ite ((State.reply_kept ..).up) (Kept.ite (Kept.trans ((State.bump_kept ..).up) ((State.reply_kept ..).up)) ?_)
  have h : ∀ op v, ChanKept 0x1e0004b s (s.channelOp op v) := fun op v => by
    unfold State.channelOp
    split <;> first | exact (State.chrecv_kept ..).up | exact (State.chrelease_kept ..).up | exact (State.chreserve_kept ..).up | exact (State.chpost_kept ..).up | exact (State.chcount_kept ..).up
  have h := h ((address - s.guestAperture) / 2 ^ 51) ((address - s.guestAperture) % 2 ^ 51 / 8)
  split
  · exact Kept.trans ((State.bump_kept ..).up) ((State.reply_kept ..).up)
  · rename_i e; rw [e] at h; exact Kept.trans h ((State.reply_kept ..).up)

theorem State.guestRate_kept (s : State) (w : Nat) (a : GuestAccess) : Kept 0x101007be2144db s (State.guestRate s w a) := by
  unfold State.guestRate
  exact Kept.ite ((State.guestMemory_kept ..).up) (Kept.ite (Kept.trans (by exact (State.withGuest_kept ..).up) ((State.guestMemory_kept ..).up)) (Kept.trans (by exact Kept.trans (by exact (State.withGuest_kept ..).up) ((State.bump_kept ..).up)) ((State.reply_kept ..).up)))

theorem execGuestLinkUp_kept (rateGT : Nat) (s : State) : OutKept 0x20000040 s (execGuestLinkUp rateGT s) := by
  unfold execGuestLinkUp
  exact Kept.ite (Kept.trans (by exact (State.withGuest_kept ..).up) ((State.endCode_kept ..).up)) (Kept.refl _)

theorem execGuestDescriptorReceived_kept (descriptor : List Byte) (s : State) : OutKept 0x20000000 s (execGuestDescriptorReceived descriptor s) := by
  unfold execGuestDescriptorReceived
  exact Kept.ite ((State.withGuest_kept ..).up) (Kept.refl _)

theorem execGuestLinkLost_kept (s : State) : OutKept 0x100432280550 s (execGuestLinkLost s) := by
  unfold execGuestLinkLost
  exact Kept.ite (Kept.ite (Kept.trans (by exact Kept.trans (by exact (State.guestDrop_kept ..).up) ((State.logAs_kept ..).up)) ((State.raiseStop_kept ..).up)) (Kept.trans (by exact (State.guestDrop_kept ..).up) ((State.logAs_kept ..).up))) (Kept.refl _)

theorem execGuestAccess_kept (access : GuestAccess) (s : State) : OutKept 0x101007bfe144db s (execGuestAccess access s) := by
  unfold execGuestAccess
  exact Kept.ite (Kept.refl _) (by (try dsimp only); split; exact (Kept.ite ((State.guestDenied_kept ..).up) (Kept.ite ((State.apertureRead_kept ..).up) ((State.reply_kept ..).up))); exact (Kept.ite ((State.guestRate_kept ..).up) ((State.guestDenied_kept ..).up)))

theorem execGuestApertureRead_kept (address : Nat) (s : State) : OutKept 0x1e0004b s (execGuestApertureRead address s) := by
  unfold execGuestApertureRead
  exact Kept.ite (Kept.refl _) ((State.apertureRead_kept ..).up)

theorem execGuestPowerReport_kept (span : PowerSpan) (deciwatts : Nat) (s : State) : OutKept 0x100432280550 s (execGuestPowerReport span deciwatts s) := by
  unfold execGuestPowerReport
  exact Kept.ite (Kept.refl _) (by (try dsimp only); split; exact (Kept.ite (Kept.trans (by exact (State.logAs_kept ..).up) ((State.raiseStop_kept ..).up)) (Kept.refl _)); exact (Kept.ite (Kept.trans (by exact (State.withGuest_kept ..).up) ((State.cutGuest_kept ..).up)) ((State.withGuest_kept ..).up)); exact (Kept.ite ((State.cutGuest_kept ..).up) (Kept.refl _)))

end Sys2Proof.Machine
end

