-- ==== Sys2Proof/Laws/KeptTime.lean ====
section
/-! SUPPORT. What the operations of Machine/Time.lean keep. -/

set_option Elab.async false

namespace Sys2Proof.Machine

theorem State.withTime_kept (s : State) (f : TimeBase → TimeBase) : Kept 0x1000 s (State.withTime s f) := by
  unfold State.withTime
  exact Kept.up (Kept.upd (m := 0x1000) id id)

theorem State.setPtpPort_kept (s : State) (p : Nat) (x : PtpPort) : Kept 0x1000 s (State.setPtpPort s p x) := by
  unfold State.setPtpPort
  exact (State.withTime_kept ..).up

theorem State.timeState_kept (s : State) (n : Nat) : Kept 0x10000401201042 s (State.timeState s n) := by
  unfold State.timeState
  exact Kept.ite (Kept.refl _) (Kept.ite ((State.withTime_kept ..).up) (Kept.trans (by exact (State.withTime_kept ..).up) ((State.sync_kept ..).up)))

theorem State.chooseSource_kept (s : State) : Kept 0x10000401201042 s (State.chooseSource s) := by
  unfold State.chooseSource
  exact Kept.ite (Kept.refl _) (Kept.ite (Kept.trans (by exact (State.withTime_kept ..).up) ((State.timeState_kept ..).up)) ((State.withTime_kept ..).up))

theorem execPtpAnnounceReceived_kept (port : Nat) (announce : Announce) (s : State) : OutKept 0x10000401201042 s (execPtpAnnounceReceived port announce s) := by
  unfold execPtpAnnounceReceived
  exact Kept.ite (Kept.trans (by exact (State.setPtpPort_kept ..).up) ((State.chooseSource_kept ..).up)) (Kept.refl _)

theorem State.stepTime_kept (s : State) (delta : Int) : Kept 0x3040 s (State.stepTime s delta) := by
  unfold State.stepTime
  exact Kept.trans (by exact Kept.trans (by exact (State.withTime_kept ..).up) ((State.log1_quiet ..).up)) ((State.disarmPulses_kept ..).up)

theorem State.tryAcquire_kept (s : State) : Kept 0x3040 s (State.tryAcquire s) := by
  unfold State.tryAcquire
  exact Kept.ite (Kept.trans (by exact (State.stepTime_kept ..).up) ((State.withTime_kept ..).up)) (Kept.refl _)

theorem State.sourceSync_kept (s : State) (offset : Int) (rate : Int) : Kept 0x10000401203042 s (State.sourceSync s offset rate) := by
  unfold State.sourceSync
  exact Kept.ite (Kept.trans (by exact (State.withTime_kept ..).up) ((State.timeState_kept ..).up)) (Kept.trans (by exact (State.withTime_kept ..).up) ((State.tryAcquire_kept ..).up))

theorem execPtpSyncReceived_kept (port : Nat) (sync : PtpSync) (delay : PtpDelay) (rate : Int) (s : State) : OutKept 0x10000401203042 s (execPtpSyncReceived port sync delay rate s) := by
  unfold execPtpSyncReceived
  exact Kept.ite (Kept.ite (Kept.trans (by exact (State.setPtpPort_kept ..).up) ((State.sourceSync_kept ..).up)) ((State.setPtpPort_kept ..).up)) (Kept.refl _)

theorem State.sleepTime_kept (s : State) : Kept 0x3000 s (State.sleepTime s) := by
  unfold State.sleepTime
  exact Kept.trans (by exact Kept.up (Kept.upd (m := 0x2000) id id)) ((State.withTime_kept ..).up)

theorem execHoldoverExpiry_kept (s : State) : OutKept 0x10000401201042 s (execHoldoverExpiry s) := by
  unfold execHoldoverExpiry
  exact Kept.ite ((State.timeState_kept ..).up) (Kept.refl _)

theorem State.readTime_kept (s : State) : Kept 0x1009 s (State.readTime s) := by
  unfold State.readTime
  exact Kept.trans (by exact (State.withTime_kept ..).up) ((State.reply_kept ..).up)

theorem execTimeRead_kept (req : Nat) (s : State) : OutKept 0x400104b s (execTimeRead req s) := by
  unfold execTimeRead
  exact State.reading_kept (hk := fun _ => (State.readTime_kept ..).up) ..

theorem execOffsetUnlockExpiry_kept (s : State) : OutKept 0x10000401201042 s (execOffsetUnlockExpiry s) := by
  unfold execOffsetUnlockExpiry
  exact Kept.ite ((State.timeState_kept ..).up) (Kept.refl _)

theorem execSetTimeCommand_kept (req : Nat) (s : State) : OutKept 0x400305b s (execSetTimeCommand req s) := by
  unfold execSetTimeCommand
  exact State.writing_kept (hk := fun _ => Kept.ite ((State.refuse_kept ..).up) (Kept.trans (by exact (State.stepTime_kept ..).up) ((State.accept_kept ..).up))) ..

theorem execPtpMasterLost_kept (port : Nat) (s : State) : OutKept 0x10000401201042 s (execPtpMasterLost port s) := by
  unfold execPtpMasterLost
  exact Kept.ite (Kept.trans (by exact Kept.trans (by exact (State.setPtpPort_kept ..).up) ((State.log1_quiet ..).up)) ((State.chooseSource_kept ..).up)) (Kept.refl _)

theorem State.wakeTime_kept (s : State) : Kept 0x10000401201042 s (State.wakeTime s) := by
  unfold State.wakeTime
  exact Kept.trans (by exact (State.timeState_kept ..).up) ((State.withTime_kept ..).up)

theorem State.ptpChanged_kept (s : State) : Kept 0x10000401201042 s (State.ptpChanged s) := by
  unfold State.ptpChanged
  exact Kept.ite (Kept.ite ((State.timeState_kept ..).up) (Kept.refl _)) (Kept.trans (by exact (State.withTime_kept ..).up) ((State.timeState_kept ..).up))

end Sys2Proof.Machine
end

