-- ==== Sys2Proof/Laws/KeptRunControl.lean ====
section
/-! SUPPORT. What the operations of Machine/RunControl.lean keep. -/

set_option Elab.async false

namespace Sys2Proof.Machine

theorem State.peerRelease_kept (s : State) (cycle : Nat) (slot : Nat) : Kept 0x100000000000 s (State.peerRelease s cycle slot) := by
  unfold State.peerRelease
  exact (State.withSched_kept ..).up

theorem State.withRun_kept {m : Nat} (s : State) (f : RunCtl → RunCtl) (h : ∀ x : RunCtl, (m.testBit 7 = true ∨ { (f x) with stopCause := 0, stopFault := 0 } = { x with stopCause := 0, stopFault := 0 }) ∧
      (m.testBit 8 = true ∨ ((f x).stopCause, (f x).stopFault) = (x.stopCause, x.stopFault)) := by
      intro x; refine ⟨?_, ?_⟩ <;> first | exact .inl rfl | exact .inr rfl) : Kept m s (s.withRun f) := by
  have h := h s.run
  refine Kept.mk rfl rfl ?_ id id fun c => ?_
  · exact id
  · cases c
    all_goals first | exact .inr rfl | simp only [Component.bit, State.withRun]
    · exact h.1
    · exact h.2

theorem State.awaitStart_kept (s : State) (edge : Nat) (target : Option Nat) : Kept 0x100080000080 s (State.awaitStart s edge target) := by
  unfold State.awaitStart
  exact Kept.trans (by exact Kept.trans (by exact (State.pinDomain_kept ..).up) ((State.withRun_kept (m := 0x80) ..).up)) ((State.withSched_kept ..).up)

theorem State.endStopFaults_kept (s : State) : Kept 0x40 s (State.endStopFaults s) := by
  unfold State.endStopFaults
  exact (State.endFaults_kept ..).up

theorem State.openRun_kept (s : State) : Kept 0x710004152000c2 s (State.openRun s) := by
  unfold State.openRun
  exact Kept.trans (by exact Kept.trans (by exact (State.flushCaches_kept ..).up) ((State.withArr_kept (m := 0x1000000000000) ..).up)) ((State.setMode_kept ..).up)

theorem State.peerStart_kept (s : State) (edge : Nat) (target : Option Nat) : Kept 0x711004952004d2 s (State.peerStart s edge target) := by
  unfold State.peerStart
  exact Kept.ite (Kept.refl _) (Kept.ite ((State.awaitStart_kept ..).up) (Kept.ite (Kept.refl _) (by (try dsimp only); split; exact ((State.logAs_kept ..).up); exact (Kept.trans (by exact Kept.trans (by exact (State.endStopFaults_kept ..).up) ((State.openRun_kept ..).up)) ((State.awaitStart_kept ..).up)))))

theorem State.runStatus_kept (s : State) (v : Nat) : Kept 0x80 s (State.runStatus s v) := by
  unfold State.runStatus
  exact (State.withRun_kept (m := 0x80) ..).up

theorem State.reportHold_kept (s : State) : Kept 0x1ffc7ffff6152831c2 s (State.reportHold s) := by
  unfold State.reportHold
  exact Kept.trans (by exact Kept.ite (Kept.trans (by exact Kept.ite (Kept.trans (by exact Kept.trans (by exact Kept.trans (by exact Kept.ite (Kept.trans (by exact (State.flushCaches_kept ..).up) ((State.loadWordSide_kept ..).up)) ((State.flushCaches_kept ..).up)) ((State.withSched_kept ..).up)) ((State.setMode_kept ..).up)) ((State.runStatus_kept ..).up)) (Kept.trans (by exact Kept.trans (by exact Kept.ite (Kept.trans (by exact (State.flushCaches_kept ..).up) ((State.loadWordSide_kept ..).up)) ((State.flushCaches_kept ..).up)) ((State.withSched_kept ..).up)) ((State.setMode_kept ..).up))) (Kept.up (Kept.upd (m := 0x80000) id id))) (Kept.ite (Kept.trans (by exact Kept.trans (by exact Kept.trans (by exact Kept.ite (Kept.trans (by exact (State.flushCaches_kept ..).up) ((State.loadWordSide_kept ..).up)) ((State.flushCaches_kept ..).up)) ((State.withSched_kept ..).up)) ((State.setMode_kept ..).up)) ((State.runStatus_kept ..).up)) (Kept.trans (by exact Kept.trans (by exact Kept.ite (Kept.trans (by exact (State.flushCaches_kept ..).up) ((State.loadWordSide_kept ..).up)) ((State.flushCaches_kept ..).up)) ((State.withSched_kept ..).up)) ((State.setMode_kept ..).up)))) ((State.tryAcquire_kept ..).up)

theorem State.nameStart_kept (s : State) (target : Option Nat) : Kept 0x100080080080 s (State.nameStart s target) := by
  unfold State.nameStart
  exact Kept.trans (by exact Kept.up (Kept.upd (m := 0x80000) id id)) ((State.awaitStart_kept ..).up)

theorem State.resumeRoom_kept (s : State) : Kept 0x1ffc1ffff6812821c2 s (State.resumeRoom s) := by
  unfold State.resumeRoom
  exact Kept.ite ((State.launchArray_kept ..).up) (Kept.ite ((State.nameStart_kept ..).up) (Kept.refl _))

theorem execRoomResume_kept (s : State) : OutKept 0x1ffc1ffff6812821c2 s (execRoomResume s) := by
  unfold execRoomResume
  exact Kept.ite ((State.resumeRoom_kept ..).up) (Kept.refl _)

theorem State.freshLimits_kept (s : State) : Kept 0x40000000024008200 s (State.freshLimits s) := by
  unfold State.freshLimits
  exact Kept.up (Kept.upd (m := 0x40000000024008200) id id)

theorem State.acceptRun_kept (s : State) : Kept 0x40000000024008289 s (State.acceptRun s) := by
  unfold State.acceptRun
  exact Kept.trans (by exact Kept.trans (by exact (State.freshLimits_kept ..).up) ((State.withRun_kept (m := 0x80) ..).up)) ((State.accept_kept ..).up)

theorem State.enterRun_kept (s : State) (limit : Nat) : Kept 0x1ffc7ffff6952821c2 s (State.enterRun s limit) := by
  unfold State.enterRun
  exact Kept.ite (Kept.trans (by exact (State.openRun_kept ..).up) ((State.nameStart_kept ..).up)) (Kept.trans (by exact Kept.trans (by exact (State.openRun_kept ..).up) ((State.withSched_kept ..).up)) ((State.startOrWait_kept ..).up))

theorem State.startNow_kept (s : State) (limit : Nat) : Kept 0x1ffc7ffff6b528a3cb s (State.startNow s limit) := by
  unfold State.startNow
  exact Kept.trans (by exact Kept.trans (by exact Kept.trans (by exact (State.acceptRun_kept ..).up) ((State.endStopFaults_kept ..).up)) ((State.enterRun_kept ..).up)) ((State.runStatus_kept ..).up)

theorem State.runCommand_kept {m : Nat} (s : State) (req : Nat) (value : Nat) (modes : List Mode) (k : State → State) (hm : 0x40420045b ||| m = m := by decide) (hk : ∀ a0, Kept m a0 (k a0)) : Kept m s (State.runCommand s req value modes k) := by
  unfold State.runCommand
  exact State.writing_kept (hm := maskLe hm) (hk := fun _ => by (try dsimp only); split; exact ((State.refuseCommand_kept ..).up2 hm); exact (hk ..)) ..

theorem execRun_kept (req : Nat) (s : State) : OutKept 0x1ffc7ffff6b528a7db s (execRun req s) := by
  unfold execRun
  exact State.runCommand_kept (hk := fun _ => by (try dsimp only); split; exact ((State.refuseCommand_kept ..).up); exact ((State.startNow_kept ..).up)) ..

theorem execMarkControlWrite_kept (req : Nat) (value : Nat) (s : State) : OutKept 0x40000db s (execMarkControlWrite req value s) := by
  unfold execMarkControlWrite
  exact State.writingValue_kept (hk := fun _ _ => Kept.trans (by exact Kept.trans (by exact (State.putEntry_kept ..).up) ((State.withRun_kept (m := 0x80) ..).up)) ((State.accept_kept ..).up)) ..

theorem execHoldReport_kept (s : State) : OutKept 0x1ffc7ffff6152831c2 s (execHoldReport s) := by
  unfold execHoldReport
  exact Kept.ite ((State.reportHold_kept ..).up) (Kept.refl _)

theorem State.ownCommand_kept {m : Nat} (s : State) (req : Nat) (value : Nat) (modes : List Mode) (k : State → State) (hm : 0x40420045b ||| m = m := by decide) (hk : ∀ a0, Kept m a0 (k a0)) : Kept m s (State.ownCommand s req value modes k) := by
  unfold State.ownCommand
  exact State.runCommand_kept (hm := maskLe hm) (hk := fun _ => Kept.ite ((State.refuseCommand_kept ..).up2 hm) (hk ..)) ..

theorem execService_kept (req : Nat) (s : State) : OutKept 0x400700004352086db s (execService req s) := by
  unfold execService
  exact State.ownCommand_kept (hk := fun _ => Kept.trans (by exact Kept.trans (by exact Kept.trans (by exact (State.acceptRun_kept ..).up) ((State.flushCaches_kept ..).up)) ((State.runStatus_kept ..).up)) ((State.setMode_kept ..).up)) ..

theorem execLeave_kept (req : Nat) (s : State) : OutKept 0x400700004352086db s (execLeave req s) := by
  unfold execLeave
  exact State.runCommand_kept (hk := fun _ => Kept.ite ((State.refuseCommand_kept ..).up) (Kept.trans (by exact Kept.trans (by exact Kept.trans (by exact (State.acceptRun_kept ..).up) ((State.flushCaches_kept ..).up)) ((State.runStatus_kept ..).up)) ((State.setMode_kept ..).up))) ..

theorem execStep_kept (req : Nat) (s : State) : OutKept 0x1ffc7ffff6b528a7db s (execStep req s) := by
  unfold execStep
  exact State.runCommand_kept (hk := fun _ => by (try dsimp only); split; exact ((State.refuseCommand_kept ..).up); exact (Kept.ite ((State.refuse_kept ..).up) ((State.startNow_kept ..).up))) ..

theorem execCancel_kept (req : Nat) (s : State) : OutKept 0x400000004242086db s (execCancel req s) := by
  unfold execCancel
  exact State.runCommand_kept (hk := fun _ => Kept.trans (by exact (State.acceptRun_kept ..).up) ((State.runStatus_kept ..).up)) ..

theorem execHold_kept (req : Nat) (atStep : Nat) (s : State) : OutKept 0x1ffc7ffffe353c87db s (execHold req atStep s) := by
  unfold execHold
  exact State.runCommand_kept (hk := fun _ => Kept.ite (Kept.trans (by exact Kept.trans (by exact Kept.trans (by exact Kept.ite ((State.runTo_kept ..).up) (Kept.refl _)) ((State.acceptRun_kept ..).up)) ((State.runStatus_kept ..).up)) ((State.raiseStop_kept ..).up)) (Kept.trans (by exact Kept.trans (by exact Kept.trans (by exact (State.acceptRun_kept ..).up) ((State.flushCaches_kept ..).up)) ((State.runStatus_kept ..).up)) ((State.setMode_kept ..).up))) ..

theorem State.peerStop_kept (s : State) (b : Nat) (cycle : Nat) (st : Nat) : Kept 0x100000080100 s (State.peerStop s b cycle st) := by
  unfold State.peerStop
  exact (State.raiseStopAt_kept ..).up

theorem State.peerPoint_kept (s : State) (l : Nat) (p : Nat) (cycle : Nat) (st : Nat) : Kept 0x100001000042 s (State.peerPoint s l p cycle st) := by
  unfold State.peerPoint
  exact Kept.trans (by exact (State.withSched_kept ..).up) ((State.demandAt_kept ..).up)

theorem State.takeNotice_kept (s : State) (lane : Nat) (x2 : Notice) : Kept 0x731004952805d2 s (State.takeNotice s lane x2) := by
  unfold State.takeNotice
  exact by (try dsimp only); split; exact (Kept.ite ((State.addStall_kept ..).up) (Kept.refl _)); exact ((State.peerRelease_kept ..).up); exact ((State.peerStop_kept ..).up); exact (Kept.trans (by exact (State.withArr_kept (m := 0x2000000000000) ..).up) ((State.peerStop_kept ..).up)); exact ((State.peerPoint_kept ..).up); exact ((State.peerStart_kept ..).up); exact ((State.withRun_kept (m := 0x80) ..).up); exact ((State.withRun_kept (m := 0x80) ..).up)

theorem execLaneNoticeReceived_kept (lane : Nat) (notice : Notice) (s : State) : OutKept 0x731004952805d2 s (execLaneNoticeReceived lane notice s) := by
  unfold execLaneNoticeReceived
  exact Kept.ite ((State.takeNotice_kept ..).up) (Kept.refl _)

theorem execRunAt_kept (req : Nat) (s : State) : OutKept 0x400000004242086db s (execRunAt req s) := by
  unfold execRunAt
  exact State.runCommand_kept (hk := fun _ => by (try dsimp only); split; exact ((State.refuseCommand_kept ..).up); exact (Kept.ite ((State.refuseCommand_kept ..).up) (Kept.ite ((State.refuseCommand_kept ..).up) (Kept.trans (by exact Kept.trans (by exact Kept.trans (by exact (State.acceptRun_kept ..).up) ((State.endStopFaults_kept ..).up)) ((State.withRun_kept (m := 0x80) ..).up)) ((State.runStatus_kept ..).up))))) ..

theorem execPark_kept (req : Nat) (s : State) : OutKept 0x400700004352086db s (execPark req s) := by
  unfold execPark
  exact State.ownCommand_kept (hk := fun _ => Kept.trans (by exact Kept.trans (by exact Kept.trans (by exact (State.acceptRun_kept ..).up) ((State.flushCaches_kept ..).up)) ((State.runStatus_kept ..).up)) ((State.setMode_kept ..).up)) ..

theorem execDomainStartEdge_kept (s : State) : OutKept 0x1ffc1ffff6012821c2 s (execDomainStartEdge s) := by
  unfold execDomainStartEdge
  exact Kept.ite ((State.startOrWait_kept ..).up) (Kept.refl _)

theorem execBoundaryRecordRead_kept (req : Nat) (s : State) : OutKept 0x40000cb s (execBoundaryRecordRead req s) := by
  unfold execBoundaryRecordRead
  exact State.reading_kept (hk := fun _ => Kept.trans (by exact (State.withRun_kept (m := 0x80) ..).up) ((State.reply_kept ..).up)) ..

theorem execRunAtFire_kept (s : State) : OutKept 0x1ffc7ffff6952825d2 s (execRunAtFire s) := by
  unfold execRunAtFire
  exact by (try dsimp only); split; exact (Kept.refl _); exact (by (try dsimp only); split; exact (Kept.trans (by exact Kept.trans (by exact (State.withRun_kept (m := 0x80) ..).up) ((State.logAs_kept ..).up)) ((State.runStatus_kept ..).up)); exact (Kept.trans (by exact (State.withRun_kept (m := 0x80) ..).up) ((State.enterRun_kept ..).up)))

theorem execCycleCountRead_kept (req : Nat) (s : State) : OutKept 0x10000400004b s (execCycleCountRead req s) := by
  unfold execCycleCountRead
  exact State.reading_kept (hk := fun _ => Kept.trans (by exact (State.withSched_kept ..).up) ((State.reply_kept ..).up)) ..

end Sys2Proof.Machine
end

