-- ==== Sys2Proof/Laws/KeptSecurity.lean ====
section
/-! SUPPORT. What the operations of Machine/Security.lean keep. -/

set_option Elab.async false

namespace Sys2Proof.Machine

theorem State.withSec_kept {m : Nat} (s : State) (f : Security → Security) (h : ∀ x : Security, (m.testBit 25 = true ∨ { (f x) with deniedLogged := [], levelLogged := [] } = { x with deniedLogged := [], levelLogged := [] }) ∧
      (m.testBit 26 = true ∨ ((f x).deniedLogged, (f x).levelLogged) = (x.deniedLogged, x.levelLogged)) := by
      intro x; refine ⟨?_, ?_⟩ <;> first | exact .inl rfl | exact .inr rfl) : Kept m s (s.withSec f) := by
  have h := h s.sec
  refine Kept.mk rfl rfl ?_ id id fun c => ?_
  · exact id
  · cases c
    all_goals first | exact .inr rfl | simp only [Component.bit, State.withSec]
    · exact h.1
    · exact h.2

theorem execSecureWipeComplete_kept (s : State) : OutKept 0x2000000 s (execSecureWipeComplete s) := by
  unfold execSecureWipeComplete
  exact (State.withSec_kept (m := 0x2000000) ..).up

theorem State.drawKey_kept (s : State) : Kept 0x800000000 s (State.drawKey s).2 := by
  unfold State.drawKey
  exact Kept.up (Kept.upd (m := 0x800000000) id id)

theorem State.newNonce_kept (s : State) : Kept 0x802000000 s (State.newNonce s) := by
  unfold State.newNonce
  exact Kept.trans (by exact (State.drawKey_kept ..).up) ((State.withSec_kept (m := 0x2000000) ..).up)

theorem execRightsLockWrite_kept (req : Nat) (s : State) : OutKept 0x600005b s (execRightsLockWrite req s) := by
  unfold execRightsLockWrite
  exact State.writing_kept (hk := fun _ => Kept.trans (by exact (State.withSec_kept (m := 0x2000000) ..).up) ((State.accept_kept ..).up)) ..

theorem State.authorise_kept {m : Nat} (s : State) (req : Nat) (bs : List Byte) (k : State → State) (hm : 0xc0620045b ||| m = m := by decide) (hk : ∀ a0, Kept m a0 (k a0)) : Kept m s (State.authorise s req bs k) := by
  unfold State.authorise
  exact State.writing_kept (hm := maskLe hm) (hk := fun _ => Kept.ite (Kept.trans (by exact Kept.trans (by exact Kept.trans (by exact (State.newNonce_kept ..).up2 hm) (hk ..)) ((State.withSec_kept (m := 0x2000000) ..).up2 hm)) ((State.accept_kept ..).up2 hm)) (Kept.trans (by exact Kept.trans (by exact (State.newNonce_kept ..).up2 hm) ((State.withSec_kept (m := 0x2000000) ..).up2 hm)) ((State.refuseCommand_kept ..).up2 hm))) ..

theorem State.setLevel_kept (s : State) (n : Nat) : Kept 0x6000000 s (State.setLevel s n) := by
  unfold State.setLevel
  exact Kept.ite (Kept.refl _) ((State.withSec_kept (m := 0x6000000) ..).up)

theorem execDebugLevelRaise_kept (req : Nat) (record : List Byte) (s : State) : OutKept 0xc0620045b s (execDebugLevelRaise req record s) := by
  unfold execDebugLevelRaise
  exact Kept.ite (Kept.refl _) (State.authorise_kept (hk := fun _ => (State.setLevel_kept ..).up) ..)

theorem execDbgReq_kept (s : State) : OutKept 0x420004b s (execDbgReq s) := by
  unfold execDbgReq
  exact Kept.ite (Kept.refl _) (Kept.ite ((State.levelRefused_kept ..).up) (Kept.up (Kept.upd (m := 0x200000) id id)))

theorem State.resumeCore_kept (s : State) (c : Nat) : Kept 0x1200042 s (State.resumeCore s c) := by
  unfold State.resumeCore
  exact Kept.trans (by exact (State.wakeCore_kept ..).up) ((State.withCore_kept ..).up)

theorem execAttestRequest_kept (req : Nat) (nonce : List Byte) (s : State) : OutKept 0x40620045b s (execAttestRequest req nonce s) := by
  unfold execAttestRequest
  exact State.writing_kept (hk := fun _ => Kept.ite ((State.refuseCommand_kept ..).up) (Kept.ite ((State.refuse_kept ..).up) (Kept.trans (by exact (State.withSec_kept (m := 0x2000000) ..).up) ((State.accept_kept ..).up)))) ..

theorem execProvision_kept (req : Nat) (item : List Byte) (value : List Byte) (s : State) : OutKept 0x40620045b s (execProvision req item value s) := by
  unfold execProvision
  exact State.writing_kept (hk := fun _ => Kept.ite ((State.refuseCommand_kept ..).up) (Kept.trans (by exact (State.withSec_kept (m := 0x6000000) ..).up) ((State.accept_kept ..).up))) ..

theorem State.beginWipe_kept (s : State) : Kept 0x10000002000000 s (State.beginWipe s) := by
  unfold State.beginWipe
  exact Kept.trans (by exact (State.forgetBytes_kept ..).up) ((State.withSec_kept (m := 0x2000000) ..).up)

theorem execTamperEvent_kept (s : State) : OutKept 0x1010078e2144da s (execTamperEvent s) := by
  unfold execTamperEvent
  exact Kept.ite (Kept.refl _) (Kept.ite (Kept.trans (by exact Kept.trans (by exact Kept.trans (by exact Kept.trans (by exact (State.withSec_kept (m := 0x2000000) ..).up) ((State.bump_kept ..).up)) ((State.wakeClock_kept ..).up)) ((State.beginWipe_kept ..).up)) ((State.deviceHalt_kept ..).up)) (Kept.trans (by exact Kept.trans (by exact Kept.trans (by exact (State.withSec_kept (m := 0x2000000) ..).up) ((State.bump_kept ..).up)) ((State.wakeClock_kept ..).up)) ((State.withSec_kept (m := 0x2000000) ..).up)))

theorem execKeyLoad_kept (req : Nat) (head : List Byte) (key : List Byte) (s : State) : OutKept 0x40620045b s (execKeyLoad req head key s) := by
  unfold execKeyLoad
  exact Kept.ite (Kept.refl _) (State.writing_kept (hk := fun _ => by (try dsimp only); split; exact ((State.refuseCommand_kept ..).up); exact (Kept.ite ((State.refuseCommand_kept ..).up) (Kept.trans (by exact (State.withSec_kept (m := 0x6000000) ..).up) ((State.accept_kept ..).up)))) ..)

theorem execBatterySlotLost_kept (s : State) : OutKept 0x2000000 s (execBatterySlotLost s) := by
  unfold execBatterySlotLost
  exact Kept.ite (Kept.refl _) ((State.withSec_kept (m := 0x2000000) ..).up)

theorem State.changeLifeCycle_kept (s : State) (b : LifeCycle) : Kept 0x10000802000000 s (State.changeLifeCycle s b) := by
  unfold State.changeLifeCycle
  exact Kept.trans (by exact Kept.ite (Kept.trans (by exact Kept.trans (by exact Kept.ite (Kept.trans (by exact (State.beginWipe_kept ..).up) ((State.withSec_kept (m := 0x2000000) ..).up)) ((State.beginWipe_kept ..).up)) ((State.drawKey_kept ..).up)) ((State.withSec_kept (m := 0x2000000) ..).up)) (Kept.ite (Kept.trans (by exact (State.beginWipe_kept ..).up) ((State.withSec_kept (m := 0x2000000) ..).up)) ((State.beginWipe_kept ..).up))) ((State.withSec_kept (m := 0x2000000) ..).up)

theorem execLifeCycleChange_kept (req : Nat) (record : List Byte) (s : State) : OutKept 0x10000c0620045b s (execLifeCycleChange req record s) := by
  unfold execLifeCycleChange
  exact Kept.ite (Kept.refl _) (State.authorise_kept (hk := fun _ => by (try dsimp only); split; exact ((State.changeLifeCycle_kept ..).up); exact (Kept.refl _)) ..)

theorem execRightsTableWrite_kept (req : Nat) (table : Nat) (entries : List Nat) (s : State) : OutKept 0x600005b s (execRightsTableWrite req table entries s) := by
  unfold execRightsTableWrite
  exact State.writing_kept (hk := fun _ => Kept.ite ((State.refuse_kept ..).up) (Kept.trans (by exact (State.withSec_kept (m := 0x2000000) ..).up) ((State.accept_kept ..).up))) ..

theorem execDebugLevelLower_kept (req : Nat) (value : Nat) (s : State) : OutKept 0x720005b s (execDebugLevelLower req value s) := by
  unfold execDebugLevelLower
  exact State.writingValue_kept (hk := fun _ _ => Kept.ite ((State.refuse_kept ..).up) (Kept.trans (by exact Kept.ite (Kept.foldl (fun _ _ => (State.resumeCore_kept ..).up) ((State.setLevel_kept ..).up)) ((State.setLevel_kept ..).up)) ((State.accept_kept ..).up))) ..

theorem execRevokeDigest_kept (req : Nat) (record : List Byte) (s : State) : OutKept 0xc0620045b s (execRevokeDigest req record s) := by
  unfold execRevokeDigest
  exact Kept.ite (Kept.refl _) (State.authorise_kept (hk := fun _ => (State.withSec_kept (m := 0x2000000) ..).up) ..)

theorem execTapInstruction_kept (scan : TapScan) (s : State) : OutKept 0x10600004b s (execTapInstruction scan s) := by
  unfold execTapInstruction
  exact Kept.trans (by exact Kept.ite (Kept.trans (by exact Kept.ite (Kept.ite ((State.holdPins_kept ..).up) (Kept.refl _)) (Kept.trans (by exact Kept.ite ((State.holdPins_kept ..).up) (Kept.refl _)) ((State.levelRefused_kept ..).up))) (Kept.up (Kept.upd (m := 0x1) id id))) (Kept.ite (Kept.ite ((State.holdPins_kept ..).up) (Kept.refl _)) (Kept.trans (by exact Kept.ite ((State.holdPins_kept ..).up) (Kept.refl _)) ((State.levelRefused_kept ..).up)))) ((State.withSec_kept (m := 0x2000000) ..).up)

theorem execKeyErase_kept (req : Nat) (record : List Byte) (s : State) : OutKept 0x40620045b s (execKeyErase req record s) := by
  unfold execKeyErase
  exact Kept.ite (Kept.refl _) (State.writing_kept (hk := fun _ => Kept.ite ((State.refuseCommand_kept ..).up) (Kept.trans (by exact (State.withSec_kept (m := 0x6000000) ..).up) ((State.accept_kept ..).up))) ..)

end Sys2Proof.Machine
end

