-- ==== Sys2Proof/Laws/KeptSleep.lean ====
section
/-! SUPPORT. What the operations of Machine/Sleep.lean keep. -/

set_option Elab.async false

namespace Sys2Proof.Machine

theorem State.awake_kept (s : State) (m : Mode) : Kept 0x101004372000c2 s (State.awake s m) := by
  unfold State.awake
  exact Kept.foldl (fun _ _ => (State.releaseCore_kept ..).up) (Kept.trans (by exact Kept.trans (by exact Kept.trans (by exact Kept.trans (by exact (State.setMode_kept ..).up) ((State.supplyGuest_kept ..).up)) ((State.settleDemands_kept ..).up)) ((State.withRun_kept (m := 0x80) ..).up)) ((State.runStatus_kept ..).up))

theorem State.wakeRestore_kept (s : State) : Kept 0x1ffd7ffff7bfe7c4d2 s (State.wakeRestore s) := by
  unfold State.wakeRestore
  exact by (try dsimp only); split; exact (Kept.trans (by exact (State.logAs_quiet ..).up) ((State.awake_kept ..).up)); exact (Kept.trans (by exact (State.writeSheet_kept ..).up) ((State.runStatus_kept ..).up))

theorem State.loseTiers_kept (s : State) : Kept 0x14bc00487000000000 s (State.loseTiers s) := by
  unfold State.loseTiers
  exact Kept.trans (by exact (State.withArr_kept (m := 0x487000000000) ..).up) ((State.withFabric_kept (m := 0x14bc00000000000000) ..).up)

theorem State.wakePatterns_kept (s : State) : Kept 0x100000000 s (State.wakePatterns s) := by
  unfold State.wakePatterns
  exact Kept.foldl (fun _ _ => (State.setPattern_kept ..).up) (Kept.refl _)

theorem State.suspendRunning_kept (s : State) (c : Nat) : Kept 0xc00000 s (State.suspendRunning s c) := by
  unfold State.suspendRunning
  exact by (try dsimp only); split; exact (Kept.trans (by exact (State.unlist_kept ..).up) ((State.setThread_kept ..).up)); exact (Kept.refl _)

theorem State.holdCore_kept (s : State) (c : Nat) : Kept 0x1e00042 s (State.holdCore s c) := by
  unfold State.holdCore
  exact Kept.ite (Kept.trans (by exact Kept.trans (by exact (State.suspendRunning_kept ..).up) ((State.withCore_kept ..).up)) ((State.sleepCore_kept ..).up)) (Kept.refl _)

theorem State.holdCores_kept (s : State) : Kept 0x1e00042 s (State.holdCores s) := by
  unfold State.holdCores
  exact Kept.foldl (fun _ _ => (State.holdCore_kept ..).up) (Kept.refl _)

theorem State.clearEngines_kept (s : State) : Kept 0xc0000000000000000 s (State.clearEngines s) := by
  unfold State.clearEngines
  exact (State.withFabric_kept (m := 0xc0000000000000000) ..).up

theorem State.freeThreads_kept (s : State) : Kept 0x400000 s (State.freeThreads s) := by
  unfold State.freeThreads
  exact (State.withScheduler_kept ..).up

theorem State.destroyChannels_kept (s : State) (p : Channel → Bool) : Kept 0x1e00042 s (State.destroyChannels s p) := by
  unfold State.destroyChannels
  exact Kept.foldl (fun _ _ => (State.destroyChannel_kept ..).up) (Kept.refl _)

theorem State.destroyAllChannels_kept (s : State) : Kept 0x1e00042 s (State.destroyAllChannels s) := by
  unfold State.destroyAllChannels
  exact Kept.trans (by exact (State.destroyChannels_kept ..).up) (Kept.up (Kept.upd (m := 0x800000) id id))

theorem State.loseInDormant_kept (s : State) : Kept 0x14bc10487001e140c2 s (State.loseInDormant s) := by
  unfold State.loseInDormant
  exact Kept.trans (by exact Kept.trans (by exact Kept.trans (by exact Kept.trans (by exact Kept.trans (by exact (State.freeThreads_kept ..).up) ((State.destroyAllChannels_kept ..).up)) ((State.loseTiers_kept ..).up)) ((State.dropImage_kept ..).up)) ((State.forgetBytes_kept ..).up)) ((State.forgetBytes_kept ..).up)

theorem State.sleepUnits_kept (s : State) : Kept 0x10100780203042 s (State.sleepUnits s) := by
  unfold State.sleepUnits
  exact Kept.trans (by exact Kept.trans (by exact Kept.trans (by exact (State.sleepTriggers_kept ..).up) ((State.sleepPins_kept ..).up)) ((State.sleepTime_kept ..).up)) ((State.darkLanes_kept ..).up)

theorem State.quiesce_kept (s : State) : Kept 0x1e00042 s (State.quiesce s) := by
  unfold State.quiesce
  exact Kept.trans (by exact Kept.ite (Kept.refl _) ((State.withScheduler_kept ..).up)) ((State.holdCores_kept ..).up)

theorem State.saveForSleep_kept (s : State) : Kept 0x70000040000040 s s.saveForSleep.1 := by
  unfold State.saveForSleep
  split
  · split
    · exact (State.saveSlot_kept _ _ _ _ ‹_›).up
    · exact (State.logAs_quiet s 0x5301 .refused srcHub 0).up
  · exact Kept.refl _

theorem execFastClockStop_kept (s : State) : OutKept 0x8 s (execFastClockStop s) := by
  unfold execFastClockStop
  exact Kept.ite (Kept.up (Kept.upd (m := 0x8) id id)) (Kept.refl _)

theorem State.clearDesign_kept (s : State) : Kept 0x2f79000000000 s (State.clearDesign s) := by
  unfold State.clearDesign
  exact (State.withArr_kept (m := 0x2f79000000000) ..).up

theorem State.powerArrayOff_kept (s : State) : Kept 0x1ffc62f79010000002 s s.powerArrayOff := by
  unfold State.powerArrayOff
  exact Kept.trans (Kept.trans (Kept.trans ((State.isolateAll_kept ..).up) ((State.clearDesign_kept ..).up)) ((State.clearEngines_kept ..).up))
    (Kept.mk rfl rfl (fun h => Memory.wf_mk (Memory.wf_bytes h) rfl) id id)

theorem State.enterSleep_kept (s : State) (m : Mode) : Kept 0x1ffc72fff7f7e170c2 s (State.enterSleep s m) := by
  unfold State.enterSleep
  exact Kept.trans (by exact Kept.trans (by exact Kept.trans (by exact Kept.trans (by exact Kept.trans (by exact Kept.trans (by exact Kept.ite (Kept.trans (by exact Kept.trans (by exact Kept.trans (by exact (State.saveForSleep_kept ..).up) ((State.flushCaches_kept ..).up)) ((State.quiesce_kept ..).up)) ((State.loseInDormant_kept ..).up)) (Kept.trans (by exact Kept.trans (by exact (State.saveForSleep_kept ..).up) ((State.flushCaches_kept ..).up)) ((State.quiesce_kept ..).up))) ((State.setMode_kept ..).up)) ((State.flushTrace_kept ..).up)) ((State.sleepUnits_kept ..).up)) ((State.powerArrayOff_kept ..).up)) ((State.withRun_kept (m := 0x80) ..).up)) ((State.supplyGuest_kept ..).up)

theorem State.sleepCommand_kept (s : State) (req : Nat) (value : Nat) (modes : List Mode) (m : Mode) : Kept 0x1ffc72fff7f7e1f6db s (State.sleepCommand s req value modes m) := by
  unfold State.sleepCommand
  exact State.ownCommand_kept (hk := fun _ => Kept.ite ((State.refuse_kept ..).up) (Kept.trans (by exact Kept.trans (by exact (State.acceptRun_kept ..).up) ((State.runStatus_kept ..).up)) ((State.enterSleep_kept ..).up))) ..

theorem execDormant_kept (req : Nat) (s : State) : OutKept 0x1ffc72fff7f7e1f6db s (execDormant req s) := by
  unfold execDormant
  exact (State.sleepCommand_kept ..).up

theorem State.wakeClocks_kept (s : State) : Kept 0x208 s (State.wakeClocks s) := by
  unfold State.wakeClocks
  exact Kept.up (Kept.upd (m := 0x208) id id)

theorem State.wakeUnits_kept (s : State) : Kept 0x10000581211042 s (State.wakeUnits s) := by
  unfold State.wakeUnits
  exact Kept.ite (Kept.trans (by exact Kept.trans (by exact Kept.trans (by exact Kept.trans (by exact (State.wakePins_kept ..).up) ((State.wakePatterns_kept ..).up)) ((State.wakeTime_kept ..).up)) ((State.trainLanes_kept ..).up)) ((State.newPass_kept ..).up)) (Kept.trans (by exact Kept.trans (by exact Kept.trans (by exact (State.wakePins_kept ..).up) ((State.wakePatterns_kept ..).up)) ((State.wakeTime_kept ..).up)) ((State.trainLanes_kept ..).up))

theorem State.wakeModule_kept (s : State) : Kept 0x1ffd7ffff7bfe7d6da s (State.wakeModule s) := by
  unfold State.wakeModule
  exact Kept.ite (Kept.trans (by exact Kept.trans (by exact Kept.trans (by exact Kept.trans (by exact (State.wakeClocks_kept ..).up) ((State.withRun_kept (m := 0x80) ..).up)) ((State.wakeUnits_kept ..).up)) ((State.wakeDdr_kept ..).up)) ((State.wakeRestore_kept ..).up)) (Kept.trans (by exact Kept.trans (by exact Kept.trans (by exact (State.wakeClocks_kept ..).up) ((State.withRun_kept (m := 0x80) ..).up)) ((State.wakeUnits_kept ..).up)) ((State.awake_kept ..).up))

theorem State.wakeNow_kept (s : State) : Kept 0x1ffd7ffff7bfe7d6db s (State.wakeNow s) := by
  unfold State.wakeNow
  exact by (try dsimp only); split; exact (Kept.refl _); exact (Kept.trans (by exact (State.acceptRun_kept ..).up) ((State.wakeModule_kept ..).up))

theorem State.wakeEdge_kept (s : State) (t : State) : Kept 0x1ffd7ffff7bfe7d6db t (State.wakeEdge s t) := by
  unfold State.wakeEdge
  exact Kept.ite ((State.wakeNow_kept ..).up) (Kept.refl _)

theorem State.wakeDone_kept (s : State) : Kept 0x101004372000c2 s (State.wakeDone s) := by
  unfold State.wakeDone
  exact Kept.trans (by exact (State.awake_kept ..).up) ((State.withRun_kept (m := 0x80) ..).up)

theorem execWake_kept (req : Nat) (s : State) : OutKept 0x1ffd7ffff7bfe7d6db s (execWake req s) := by
  unfold execWake
  exact State.runCommand_kept (hk := fun _ => Kept.trans (by exact (State.acceptRun_kept ..).up) ((State.wakeModule_kept ..).up)) ..

theorem execRestoreComplete_kept (s : State) : OutKept 0x701004372000c2 s (execRestoreComplete s) := by
  unfold execRestoreComplete
  exact Kept.ite (Kept.ite ((State.wakeDone_kept ..).up) (Kept.refl _)) (Kept.ite ((State.restoreDone_kept ..).up) (Kept.refl _))

theorem execWakePinEdge_kept (pin : Nat) (s : State) : OutKept 0x1ffd7ffff7bfefd7db s (execWakePinEdge pin s) := by
  unfold execWakePinEdge
  exact Kept.ite (Kept.trans (by exact (State.pinInput_kept ..).up) ((State.wakeEdge_kept ..).up)) (Kept.refl _)

theorem execPinInputChange_kept (pin : Nat) (levels : List Bool) (s : State) : OutKept 0x1ffd7ffff7bfefd7db s (execPinInputChange pin levels s) := by
  unfold execPinInputChange
  exact Kept.foldl (fun _ _ => Kept.trans (by exact (State.pinSample_kept ..).up) ((State.wakeEdge_kept ..).up)) (Kept.refl _)

theorem execStandby_kept (req : Nat) (s : State) : OutKept 0x1ffc72fff7f7e1f6db s (execStandby req s) := by
  unfold execStandby
  exact (State.sleepCommand_kept ..).up

end Sys2Proof.Machine
end

