-- ==== Sys2Proof/Laws/KeptWindows.lean ====
section
/-! SUPPORT. What the operations of Machine/Windows.lean keep. -/

set_option Elab.async false

namespace Sys2Proof.Machine

theorem State.unmapped_kept (s : State) (req : Nat) (addr : Nat) (write : Bool) : Kept 0x49 s (State.unmapped s req addr write) := by
  unfold State.unmapped
  exact Kept.trans (by exact (State.logDetail_quiet ..).up) ((State.reply_kept ..).up)

theorem State.windowRefused_kept (s : State) (code : Nat) : Kept 0x49 s (State.windowRefused s code) := by
  unfold State.windowRefused
  exact Kept.trans (by exact (State.logAs_quiet ..).up) ((State.reply_kept ..).up)

theorem State.windowModes_kept {m : Nat} (s : State) (req : Nat) (d : Nat) (forces : Bool) (k : State → State) (hm : 0x400004b ||| m = m := by decide) (hk : ∀ a0, Kept m a0 (k a0)) : Kept m s (State.windowModes s req d forces k) := by
  unfold State.windowModes
  exact Kept.ite (Kept.ite (Kept.trans (by exact Kept.trans (by exact (State.windowRefused_kept ..).up2 hm) ((State.log1_quiet ..).up2 hm)) ((State.reply_kept ..).up2 hm)) ((State.windowRefused_kept ..).up2 hm)) (State.atLevel_kept (hm := maskLe hm) (hk := fun _ => Kept.ite ((State.windowRefused_kept ..).up2 hm) (hk ..)) ..)

theorem State.makeWay_kept (s : State) (d : Nat) (off : Nat) : Kept 0x60000800000000 s (State.makeWay s d off) := by
  unfold State.makeWay
  exact Kept.ite (Kept.refl _) (by (try dsimp only); split; exact (Kept.trans (by exact (State.drawFree_kept ..).up) ((State.flushWhere_kept ..).up)); exact ((State.drawFree_kept ..).up))

theorem State.lineBytes_kept (s : State) (d : Nat) (off : Nat) : Kept 0x800000000 s (State.lineBytes s d off).2 := by
  unfold State.lineBytes
  exact by (try dsimp only); split; exact (Kept.refl _); exact (Kept.up (Kept.upd (m := 0x800000000) id id))

theorem State.addLine_kept (s : State) (d : Nat) (off : Nat) (bs : List Byte) : Kept 0x40000400200002 s (State.addLine s d off bs) := by
  unfold State.addLine
  exact Kept.trans (by exact Kept.up (Kept.upd (m := 0x40000000000000) id id)) ((State.countEvent_kept ..).up)

theorem State.fillLine_kept (s : State) (d : Nat) (off : Nat) : Kept 0x60000c00200002 s (State.fillLine s d off) := by
  unfold State.fillLine
  exact by (try dsimp only); split; exact (Kept.refl _); exact (Kept.trans (by exact Kept.trans (by exact (State.makeWay_kept ..).up) ((State.lineBytes_kept ..).up)) ((State.addLine_kept ..).up))

theorem State.upperRead_kept (s : State) (d : Nat) (off : Nat) (n : Nat) : Kept 0x60000c00200002 s (State.upperRead s d off n).2 := by
  unfold State.upperRead
  exact by (try dsimp only); split; exact (Kept.refl _); exact (Kept.foldl (fun _ _ => (State.fillLine_kept ..).up) (Kept.refl _))

theorem State.windowRead_kept (s : State) (req : Nat) (d : Nat) (off : Nat) (n : Nat) : Kept 0x60000c0420004b s (State.windowRead s req d off n) := by
  unfold State.windowRead
  exact State.windowModes_kept (hk := fun _ => by (try dsimp only); split; exact ((State.windowRefused_kept ..).up); exact (Kept.trans (by exact (State.upperRead_kept ..).up) ((State.reply_kept ..).up))) ..

theorem State.forceByte_kept (s : State) (d : Nat) (off : Nat) (v : Byte) : Kept 0x1ffc0ffff000000000 s (State.forceByte s d off v) := by
  unfold State.forceByte
  exact Kept.ite (Kept.refl _) (Kept.ite (Kept.ite (Kept.refl _) ((State.withFabric_kept (m := 0x1ffc00000000000000) ..).up)) (Kept.ite (Kept.refl _) ((State.withArr_kept (m := 0xffff000000000) ..).up)))

theorem State.forceBytes_kept (s : State) (d off : Nat) (l : List Byte) : Kept 0x1ffc0ffff000000000 s (s.forceBytes d off l) := by
  induction l generalizing s off with
  | nil => exact Kept.refl _
  | cons b bs ih => exact Kept.trans ((State.forceByte_kept ..).up) (ih _ _)

theorem State.writeCached_kept (s : State) (d : Nat) (off : Nat) (v : Byte) : Kept 0x60000c00200002 s (State.writeCached s d off v) := by
  unfold State.writeCached
  exact Kept.trans (by exact (State.fillLine_kept ..).up) (Kept.up (Kept.upd (m := 0x40000000000000) id id))

theorem State.writeCachedBytes_kept (s : State) (d off : Nat) (l : List Byte) : Kept 0x60000c00200002 s (s.writeCachedBytes d off l) := by
  induction l generalizing s off with
  | nil => exact Kept.refl _
  | cons b bs ih => exact Kept.trans ((State.writeCached_kept ..).up) (ih _ _)

theorem State.upperWrite_kept (s : State) (d : Nat) (off : Nat) (data : List Byte) : Kept 0x60000c00200002 s (State.upperWrite s d off data) := by
  unfold State.upperWrite
  exact (State.writeCachedBytes_kept ..).up

theorem State.windowWrite_kept (s : State) (req : Nat) (d : Nat) (off : Nat) (data : List Byte) : Kept 0x1ffc6ffffc0420004b s (State.windowWrite s req d off data) := by
  unfold State.windowWrite
  exact State.windowModes_kept (hk := fun _ => by (try dsimp only); split; exact ((State.windowRefused_kept ..).up); exact (Kept.ite ((State.windowRefused_kept ..).up) (Kept.trans (by exact Kept.trans (by exact (State.forceBytes_kept ..).up) ((State.upperWrite_kept ..).up)) ((State.accept_kept ..).up)))) ..

theorem State.windowAccess_kept (s : State) (req : Nat) (d : Nat) (off : Nat) (op : MemOp) : Kept 0x1ffc6ffffc0420004b s (State.windowAccess s req d off op) := by
  unfold State.windowAccess
  exact Kept.ite ((State.unmapped_kept ..).up) (by (try dsimp only); split; exact ((State.windowRead_kept ..).up); exact ((State.windowWrite_kept ..).up))

theorem State.marchZero_kept (s : State) : Kept 0x1ffc70000000014082 s (State.marchZero s) := by
  unfold State.marchZero
  exact Kept.ite (Kept.refl _) (Kept.ite (Kept.ite (Kept.trans (by exact Kept.up (Kept.upd (m := 0x60000000000000) id (fun h => Memory.wf_mk (Memory.wf_bytes h) rfl))) ((State.forgetBytes_kept ..).up)) (Kept.up (Kept.upd (m := 0x60000000000000) id (fun h => Memory.wf_mk (Memory.wf_bytes h) rfl)))) (Kept.trans (by exact Kept.trans (by exact Kept.ite (Kept.trans (by exact Kept.up (Kept.upd (m := 0x60000000000000) id (fun h => Memory.wf_mk (Memory.wf_bytes h) rfl))) ((State.forgetBytes_kept ..).up)) (Kept.up (Kept.upd (m := 0x60000000000000) id (fun h => Memory.wf_mk (Memory.wf_bytes h) rfl)))) ((State.isolateAll_kept ..).up)) ((State.dropImage_kept ..).up)))

theorem State.withMarch_kept (s : State) (f : March → March) : Kept 0x80000000000000 s (State.withMarch s f) := by
  unfold State.withMarch
  exact Kept.up (Kept.upd (m := 0x80000000000000) id id)

theorem State.marchCommand_kept (s : State) (req : Nat) (kind : Nat) : Kept 0xe000001400005b s (State.marchCommand s req kind) := by
  unfold State.marchCommand
  exact Kept.ite (State.reaching_kept (hk := fun _ => (State.refuse_kept ..).up) ..) (State.writing_kept (hk := fun _ => Kept.ite ((State.refuse_kept ..).up) (Kept.ite ((State.refuse_kept ..).up) (Kept.trans (by exact Kept.trans (by exact Kept.trans (by exact (State.flushCaches_kept ..).up) ((State.wakeDdr_kept ..).up)) ((State.withMarch_kept ..).up)) ((State.accept_kept ..).up)))) ..)

theorem execMarchPreservingOnDie_kept (req : Nat) (s : State) : OutKept 0xe000001400005b s (execMarchPreservingOnDie req s) := by
  unfold execMarchPreservingOnDie
  exact (State.marchCommand_kept ..).up

theorem State.checkedAccess_kept {m : Nat} (s : State) (req : Nat) (addr : Nat) (len : Nat) (write : Bool) (atomic : Bool) (k : State → State) (hm : 0x400004b ||| m = m := by decide) (hk : ∀ a0, Kept m a0 (k a0)) : Kept m s (State.checkedAccess s req addr len write atomic k) := by
  unfold State.checkedAccess
  exact Kept.ite ((State.reply_kept ..).up2 hm) (Kept.ite ((State.denied_kept ..).up2 hm) (hk ..))

theorem State.windowCommand_kept (s : State) (req : Nat) (d : Nat) (off : Nat) (op : MemOp) : Kept 0x1ffc6ffffc0420004b s (State.windowCommand s req d off op) := by
  unfold State.windowCommand
  exact State.checkedAccess_kept (hk := fun _ => (State.windowAccess_kept ..).up) ..

theorem execApertureWrite_kept (req : Nat) (die : Nat) (offset : Nat) (data : List Byte) (s : State) : OutKept 0x1ffc6ffffc0420004b s (execApertureWrite req die offset data s) := by
  unfold execApertureWrite
  exact Kept.ite ((State.windowCommand_kept ..).up) (Kept.refl _)

theorem State.marchEnds_kept (s : State) (r : MarchResult) : Kept 0x1ffcf00000000140c2 s (State.marchEnds s r) := by
  unfold State.marchEnds
  exact Kept.trans (by exact Kept.foldl (fun _ _ => (State.log1_quiet ..).up) (Kept.foldl (fun _ _ => (State.log1_quiet ..).up) (Kept.trans (by exact (State.flushCaches_kept ..).up) ((State.marchZero_kept ..).up)))) ((State.withMarch_kept ..).up)

theorem execMarchPreservingAll_kept (req : Nat) (s : State) : OutKept 0xe000001400005b s (execMarchPreservingAll req s) := by
  unfold execMarchPreservingAll
  exact (State.marchCommand_kept ..).up

theorem execRemoteCacheFlush_kept (req : Nat) (die : Nat) (s : State) : OutKept 0x6000000400005b s (execRemoteCacheFlush req die s) := by
  unfold execRemoteCacheFlush
  exact State.writing_kept (hk := fun _ => Kept.trans (by exact (State.flushWhere_kept ..).up) ((State.accept_kept ..).up)) ..

theorem execWordCellRecordWrite_kept (req : Nat) (die : Nat) (offset : Nat) (data : List Byte) (s : State) : OutKept 0x1ffc6ffffc0420004b s (execWordCellRecordWrite req die offset data s) := by
  unfold execWordCellRecordWrite
  exact Kept.ite ((State.windowCommand_kept ..).up) (Kept.refl _)

theorem execMarchDestructiveAll_kept (req : Nat) (s : State) : OutKept 0xe000001400005b s (execMarchDestructiveAll req s) := by
  unfold execMarchDestructiveAll
  exact (State.marchCommand_kept ..).up

theorem execMarchDestructiveOnDie_kept (req : Nat) (s : State) : OutKept 0xe000001400005b s (execMarchDestructiveOnDie req s) := by
  unfold execMarchDestructiveOnDie
  exact (State.marchCommand_kept ..).up

theorem execDesignMemoryWindowAccess_kept (req : Nat) (die : Nat) (offset : Nat) (op : MemOp) (s : State) : OutKept 0x1ffc6ffffc0420004b s (execDesignMemoryWindowAccess req die offset op s) := by
  unfold execDesignMemoryWindowAccess
  exact Kept.ite ((State.windowCommand_kept ..).up) (Kept.refl _)

end Sys2Proof.Machine
end

