-- ==== Sys2Proof/Laws/KeptFixer.lean ====
section
/-! SUPPORT. What the operations of Machine/Fixer.lean keep. -/

set_option Elab.async false

namespace Sys2Proof.Machine

theorem State.setGroupWord_kept (s : State) (g : FrameGroupId) (i : Nat) (v : Nat) : Kept 0x141c0ffff000000002 s (State.setGroupWord s g i v) := by
  unfold State.setGroupWord
  exact by (try dsimp only); split; exact ((State.withArr_kept (m := 0xffff000000000) ..).up); exact ((State.withArr_kept (m := 0x1000000000) ..).up); exact ((State.withArr_kept (m := 0x400000000000) ..).up); exact ((State.withFabric_kept (m := 0x400000000000000) ..).up); exact ((State.withFabric_kept (m := 0x800000000000000) ..).up); exact ((State.setEngine_kept ..).up); exact (Kept.foldl (fun _ _ => (State.putEntry_kept ..).up) ((State.withFabric_kept (m := 0x1000000000000000) ..).up)); exact ((State.withFabric_kept (m := 0x100000000000000000) ..).up)

theorem State.upset_kept (s : State) (g : FrameGroupId) (flips : BitFlips) : Kept 0x141c0ffff000000002 s (State.upset s g flips) := by
  unfold State.upset
  exact Kept.foldl (fun _ _ => Kept.ite ((State.setGroupWord_kept ..).up) (Kept.refl _)) (Kept.refl _)

theorem State.keepRecord_kept (s : State) (r : Nat) : Kept 0x10000 s (State.keepRecord s r) := by
  unfold State.keepRecord
  exact Kept.up (Kept.upd (m := 0x10000) id id)

theorem State.repairFailed_kept (s : State) (g : FrameGroupId) (select : Option Nat) (words : Nat) (missing : Bool) : Kept 0x100400290552 s (State.repairFailed s g select words missing) := by
  unfold State.repairFailed
  exact Kept.trans (by exact Kept.trans (by exact Kept.trans (by exact Kept.trans (by exact (State.bump_kept ..).up) ((State.logAs_kept ..).up)) ((State.keepRecord_kept ..).up)) (Kept.up (Kept.upd (m := 0x10000) id id))) ((State.raiseStop_kept ..).up)

theorem State.rewrite_kept (s : State) (g : FrameGroupId) (l : List Nat) : Kept 0x141c0ffff000000002 s (State.rewrite s g l) := by
  unfold State.rewrite
  exact Kept.foldl (fun _ _ => (State.setGroupWord_kept ..).up) (Kept.refl _)

theorem State.repaired_kept (s : State) (g : FrameGroupId) (select : Option Nat) (words : Nat) : Kept 0x100400290552 s (State.repaired s g select words) := by
  unfold State.repaired
  exact Kept.ite (Kept.trans (by exact Kept.trans (by exact Kept.trans (by exact (State.bump_kept ..).up) ((State.logAs_kept ..).up)) ((State.keepRecord_kept ..).up)) ((State.raiseStop_kept ..).up)) (Kept.trans (by exact Kept.trans (by exact (State.bump_kept ..).up) ((State.logAs_kept ..).up)) ((State.keepRecord_kept ..).up))

theorem State.groupMatched_kept (s : State) (g : FrameGroupId) : Kept 0x10040 s (State.groupMatched s g) := by
  unfold State.groupMatched
  exact Kept.ite (Kept.ite (Kept.trans (by exact Kept.up (Kept.upd (m := 0x10000) id id)) ((State.endCode_kept ..).up)) (Kept.up (Kept.upd (m := 0x10000) id id))) (Kept.refl _)

theorem State.countDiffering_kept (s : State) : Kept 0x10040 s (State.countDiffering s) := by
  unfold State.countDiffering
  exact Kept.ite (Kept.trans (by exact Kept.trans (by exact Kept.up (Kept.upd (m := 0x10000) id id)) ((State.log1_quiet ..).up)) (Kept.up (Kept.upd (m := 0x10000) id id))) (Kept.up (Kept.upd (m := 0x10000) id id))

theorem State.repairGroup_kept (s : State) (g : FrameGroupId) (stuck : BitFlips) : Kept 0x141c0ffff400290552 s (State.repairGroup s g stuck) := by
  unfold State.repairGroup
  exact Kept.trans (by exact Kept.ite (Kept.trans (by exact Kept.ite ((State.bump_kept ..).up) (Kept.refl _)) ((State.repairFailed_kept ..).up)) (Kept.ite (Kept.trans (by exact Kept.trans (by exact Kept.trans (by exact Kept.ite ((State.bump_kept ..).up) (Kept.refl _)) ((State.rewrite_kept ..).up)) ((State.upset_kept ..).up)) ((State.repairFailed_kept ..).up)) (Kept.trans (by exact Kept.trans (by exact Kept.trans (by exact Kept.trans (by exact Kept.ite ((State.bump_kept ..).up) (Kept.refl _)) ((State.rewrite_kept ..).up)) ((State.upset_kept ..).up)) ((State.repaired_kept ..).up)) ((State.groupMatched_kept ..).up)))) ((State.countDiffering_kept ..).up)

theorem State.groupChecked_kept (s : State) (g : FrameGroupId) : Kept 0x10002 s (State.groupChecked s g) := by
  unfold State.groupChecked
  exact Kept.ite (Kept.up (Kept.upd (m := 0x10000) id id)) (Kept.trans (by exact Kept.trans (by exact Kept.trans (by exact Kept.up (Kept.upd (m := 0x10000) id id)) ((State.bump_kept ..).up)) ((State.putEntry_kept ..).up)) ((State.newPass_kept ..).up))

theorem State.checkGroup_kept (s : State) (g : FrameGroupId) (stuck : BitFlips) : Kept 0x141c0ffff400290552 s (State.checkGroup s g stuck) := by
  unfold State.checkGroup
  exact Kept.trans (by exact Kept.ite ((State.repairGroup_kept ..).up) ((State.groupMatched_kept ..).up)) ((State.groupChecked_kept ..).up)

theorem execFixerGroupCheck_kept (group : FrameGroup) (sourceTagOk : Bool) (s : State) : OutKept 0x141c0ffff78e2945d2 s (execFixerGroupCheck group sourceTagOk s) := by
  unfold execFixerGroupCheck
  exact by (try dsimp only); split; exact (Kept.refl _); exact (Kept.ite (Kept.refl _) (Kept.ite (Kept.trans (by exact (State.upset_kept ..).up) ((State.checkGroup_kept ..).up)) (Kept.trans (by exact (State.upset_kept ..).up) ((State.deviceHalt_kept ..).up))))

theorem State.controlWritten_kept (s : State) (i : Nat) : Kept 0x10000 s (State.controlWritten s i) := by
  unfold State.controlWritten
  exact Kept.up (Kept.upd (m := 0x10000) id id)

theorem execFixerEnableWrite_kept (req : Nat) (value : Nat) (s : State) : OutKept 0x401005b s (execFixerEnableWrite req value s) := by
  unfold execFixerEnableWrite
  exact State.writingValue_kept (hk := fun _ _ => Kept.trans (by exact Kept.trans (by exact Kept.trans (by exact (State.putEntry_kept ..).up) ((State.controlWritten_kept ..).up)) ((State.newPass_kept ..).up)) ((State.accept_kept ..).up)) ..

theorem State.resetFixer_kept (s : State) : Kept 0x10042 s (State.resetFixer s) := by
  unfold State.resetFixer
  exact Kept.trans (by exact Kept.trans (by exact Kept.trans (by exact (State.log1_quiet ..).up) ((State.bump_kept ..).up)) ((State.newPass_kept ..).up)) (Kept.up (Kept.upd (m := 0x10000) id id))

theorem execProtectedSetCheck_kept (flips : BitFlips) (s : State) : OutKept 0x10042 s (execProtectedSetCheck flips s) := by
  unfold execProtectedSetCheck
  exact Kept.trans (by exact Kept.ite ((State.resetFixer_kept ..).up) (Kept.refl _)) (Kept.up (Kept.upd (m := 0x10000) id id))

theorem State.fixerEdge_kept (s : State) : Kept 0x10000 s (State.fixerEdge s) := by
  unfold State.fixerEdge
  exact Kept.up (Kept.upd (m := 0x10000) id id)

end Sys2Proof.Machine
end

