-- ==== Sys2Proof/Laws/KeptReset.lean ====
section
/-! SUPPORT. What the operations of Machine/Reset.lean keep. -/

set_option Elab.async false

namespace Sys2Proof.Machine

theorem State.endEngines_kept (s : State) : Kept 0x80000000000002 s (State.endEngines s) := by
  unfold State.endEngines
  exact Kept.trans (by exact Kept.ite ((State.putEntry_kept ..).up) (Kept.refl _)) ((State.withMarch_kept ..).up)

theorem State.loseStaged_kept (s : State) : Kept 0x48010000 s (State.loseStaged s) := by
  unfold State.loseStaged
  exact Kept.trans (by exact (State.withLoader_kept ..).up) (Kept.up (Kept.upd (m := 0x40010000) id id))

theorem State.resetDesign_kept (s : State) : Kept 0x1ffc02ff905805c082 s (State.resetDesign s) := by
  unfold State.resetDesign
  exact Kept.trans (by exact Kept.trans (by exact Kept.trans (by exact Kept.trans (by exact Kept.trans (by exact Kept.trans (by exact Kept.trans (by exact Kept.trans (by exact (State.isolateAll_kept ..).up) ((State.clearDesign_kept ..).up)) ((State.clearEngines_kept ..).up)) ((State.dropImage_kept ..).up)) ((State.stopLoader_kept ..).up)) ((State.withArr_kept (m := 0x480000000000) ..).up)) ((State.loseStaged_kept ..).up)) (Kept.up (Kept.upd (m := 0x10058000) id id))) ((State.withRun_kept (m := 0x80) ..).up)

theorem State.resetThreads_kept (s : State) : Kept 0x1e00042 s (State.resetThreads s) := by
  unfold State.resetThreads
  exact Kept.trans (by exact Kept.foldl (fun _ _ => (State.bumpBy_kept ..).up) (Kept.trans (by exact (State.freeThreads_kept ..).up) ((State.destroyChannels_kept ..).up))) (Kept.up (Kept.upd (m := 0x800000) id id))

theorem State.withRst_kept {m : Nat} (s : State) (f : ResetCtl → ResetCtl) (h : ∀ x : ResetCtl, (m.testBit 9 = true ∨ { (f x) with commitFaults := 0 } = { x with commitFaults := 0 }) ∧
      (m.testBit 10 = true ∨ (f x).commitFaults = x.commitFaults) := by
      intro x; refine ⟨?_, ?_⟩ <;> first | exact .inl rfl | exact .inr rfl) : Kept m s (s.withRst f) := by
  have h := h s.rst
  refine Kept.mk rfl rfl ?_ id id fun c => ?_
  · exact id
  · cases c
    all_goals first | exact .inr rfl | simp only [Component.bit, State.withRst]
    · exact h.1
    · exact h.2

theorem State.resetWatchdog_kept (s : State) : Kept 0x202 s (State.resetWatchdog s) := by
  unfold State.resetWatchdog
  exact Kept.trans (by exact (State.putEntry_kept ..).up) ((State.withRst_kept (m := 0x200) ..).up)

theorem State.resetController_kept (s : State) : Kept 0x600 s (State.resetController s) := by
  unfold State.resetController
  exact (State.withRst_kept (m := 0x600) ..).up

theorem State.retireKey_kept (s : State) : Kept 0x10000002000000 s (State.retireKey s) := by
  unfold State.retireKey
  exact Kept.trans (by exact (State.forgetBytes_kept ..).up) ((State.withSec_kept (m := 0x2000000) ..).up)

theorem State.resetCommon_kept (s : State) : Kept 0x1ffc92ff9c5fe5c6c2 s (State.resetCommon s) := by
  unfold State.resetCommon
  exact Kept.trans (by exact Kept.trans (by exact Kept.trans (by exact Kept.trans (by exact Kept.trans (by exact Kept.trans (by exact Kept.trans (by exact Kept.trans (by exact Kept.trans (by exact Kept.trans (by exact Kept.trans (by exact Kept.trans (by exact (State.resetDesign_kept ..).up) ((State.holdCores_kept ..).up)) ((State.resetThreads_kept ..).up)) ((State.endEngines_kept ..).up)) ((State.putEntry_kept ..).up)) ((State.withScheduler_kept ..).up)) ((State.resetWatchdog_kept ..).up)) ((State.resetController_kept ..).up)) ((State.retireKey_kept ..).up)) ((State.newNonce_kept ..).up)) ((State.setMode_kept ..).up)) ((State.endCode_kept ..).up)) ((State.endCode_kept ..).up)

theorem State.withBoot_kept (s : State) (f : Boot → Boot) : Kept 0x20 s (State.withBoot s f) := by
  unfold State.withBoot
  exact Kept.up (Kept.upd (m := 0x20) id id)

theorem State.restartFirmware_kept (s : State) : Kept 0x30 s (State.restartFirmware s) := by
  unfold State.restartFirmware
  exact Kept.trans (by exact (State.withBoot_kept ..).up) (Kept.up (Kept.upd (m := 0x10) id id))

theorem State.resetTriggers_kept (s : State) : Kept 0x10100600200042 s (State.resetTriggers s) := by
  unfold State.resetTriggers
  exact Kept.trans (by exact (State.sleepTriggers_kept ..).up) (Kept.up (Kept.upd (m := 0x200000000) id id))

theorem State.resetTime_kept (s : State) : Kept 0x10000401203042 s (State.resetTime s) := by
  unfold State.resetTime
  exact Kept.trans (by exact Kept.trans (by exact (State.timeState_kept ..).up) (Kept.up (Kept.upd (m := 0x2000) id id))) ((State.withTime_kept ..).up)

theorem State.resetEntries_kept (s : State) : Kept 0x100000002 s (State.resetEntries s) := by
  unfold State.resetEntries
  exact Kept.foldl (fun _ _ => (State.putEntry_kept ..).up) (Kept.trans (by exact Kept.trans (by exact Kept.up (Kept.upd (m := 0x2) id id)) ((State.withPins_kept ..).up)) ((State.clearEntries_kept ..).up))

theorem State.resetStatus_kept (s : State) : Kept 0x10000088003c0 s (State.resetStatus s) := by
  unfold State.resetStatus
  exact Kept.trans (by exact Kept.trans (by exact Kept.trans (by exact Kept.trans (by exact (State.withRun_kept (m := 0x180) ..).up) (Kept.up (Kept.upd (m := 0x40) id id))) (Kept.up (Kept.upd (m := 0x1000000800000) id id))) ((State.withRst_kept (m := 0x200) ..).up)) ((State.withLoader_kept ..).up)

theorem State.resetTrace_kept (s : State) : Kept 0x10000401200042 s (State.resetTrace s) := by
  unfold State.resetTrace
  exact Kept.trans (by exact Kept.trans (by exact Kept.trans (by exact (State.flushTrace_kept ..).up) ((State.putEntry_kept ..).up)) ((State.clearTraceCounters_kept ..).up)) (Kept.up (Kept.upd (m := 0x1000000) id id))

theorem State.porPins_kept (s : State) : Kept 0x100000000 s (State.porPins s) := by
  unfold State.porPins
  exact (State.withPins_kept ..).up

theorem State.clearCounters_kept (s : State) : Kept 0x90039a00 s (State.clearCounters s) := by
  unfold State.clearCounters
  exact Kept.up (Kept.upd (m := 0x90039a00) id id)

theorem State.clearLog_kept (s : State) : Kept 0x4c s s.clearLog :=
  (Kept.mk rfl rfl id (fun h => ⟨Nat.zero_le _, h.2.1, Nat.zero_le _⟩) id)

theorem State.resetPor_kept (s : State) : Kept 0x14bfd4587193c39a6e s (State.resetPor s) := by
  unfold State.resetPor
  exact Kept.trans (by exact Kept.trans (by exact Kept.trans (by exact Kept.trans (by exact Kept.trans (by exact Kept.trans (by exact Kept.trans (by exact Kept.trans (by exact Kept.trans (by exact Kept.trans (by exact Kept.trans (by exact Kept.trans (by exact Kept.trans (by exact Kept.trans (by exact (State.loseTiers_kept ..).up) ((State.porPins_kept ..).up)) ((State.clearCounters_kept ..).up)) ((State.clearLog_kept ..).up)) (Kept.up (Kept.upd (m := 0xc00002) id id))) ((State.forgetBytes_kept ..).up)) ((State.beginWipe_kept ..).up)) ((State.withMarch_kept ..).up)) (Kept.up (Kept.upd (m := 0x344000000000000) id id))) (Kept.up (Kept.upd (m := 0x1000000) id id))) ((State.withTime_kept ..).up)) ((State.withBoot_kept ..).up)) ((State.withSec_kept (m := 0x2000000) ..).up)) (Kept.up (Kept.upd (m := 0x800) id id))) ((State.withSched_kept ..).up)

theorem State.drawSession_kept (s : State) : Kept 0x402200450 s (State.drawSession s) := by
  unfold State.drawSession
  exact Kept.ite (Kept.trans (by exact (State.endCode_kept ..).up) ((State.withSec_kept (m := 0x2000000) ..).up)) (Kept.trans (by exact (State.endCode_kept ..).up) ((State.logAs_kept ..).up))

theorem State.resetLinks_kept (s : State) : Kept 0x901a0000 s (State.resetLinks s) := by
  unfold State.resetLinks
  exact Kept.trans (by exact Kept.trans (by exact (State.trainLanes_kept ..).up) ((State.beginTraining_kept ..).up)) (Kept.up (Kept.upd (m := 0x10180000) id id))

theorem State.resetSecurity_kept (s : State) : Kept 0x6000040 s (State.resetSecurity s) := by
  unfold State.resetSecurity
  exact Kept.trans (by exact (State.endFaults_kept ..).up) ((State.withSec_kept (m := 0x6000000) ..).up)

theorem State.resetSys_kept (s : State) : Kept 0x11100fbffa33f2 s (State.resetSys s) := by
  unfold State.resetSys
  exact Kept.trans (by exact Kept.trans (by exact Kept.trans (by exact Kept.trans (by exact Kept.trans (by exact Kept.trans (by exact Kept.trans (by exact Kept.trans (by exact Kept.trans (by exact Kept.trans (by exact (State.destroyAllChannels_kept ..).up) ((State.resetTrace_kept ..).up)) ((State.resetTriggers_kept ..).up)) ((State.resetTime_kept ..).up)) ((State.resetLinks_kept ..).up)) ((State.guestDrop_kept ..).up)) ((State.resetEntries_kept ..).up)) ((State.resetSecurity_kept ..).up)) ((State.restartFirmware_kept ..).up)) ((State.resetStatus_kept ..).up)) ((State.newNonce_kept ..).up)

theorem State.resetPins_kept (s : State) : Kept 0x100000040 s (State.resetPins s) := by
  unfold State.resetPins
  exact Kept.trans (by exact Kept.ite ((State.holdPins_kept ..).up) (Kept.trans (by exact (State.holdPins_kept ..).up) ((State.applySafe_kept ..).up))) ((State.withPins_kept ..).up)

theorem State.performReset_kept (s : State) (level : Nat) (sources : Nat) (escalated : Bool) : Kept 0x1fffd7fffffffffffe s (State.performReset s level sources escalated) := by
  unfold State.performReset
  exact Kept.trans (by exact Kept.ite (Kept.trans (by exact Kept.trans (by exact Kept.ite (Kept.trans (by exact Kept.ite (Kept.trans (by exact Kept.trans (by exact Kept.ite (Kept.refl _) ((State.resetPins_kept ..).up)) ((State.resetCommon_kept ..).up)) ((State.resetSys_kept ..).up)) (Kept.trans (by exact Kept.ite (Kept.refl _) ((State.resetPins_kept ..).up)) ((State.resetCommon_kept ..).up))) ((State.resetPor_kept ..).up)) (Kept.ite (Kept.trans (by exact Kept.ite (Kept.trans (by exact Kept.trans (by exact Kept.ite (Kept.refl _) ((State.resetPins_kept ..).up)) ((State.resetCommon_kept ..).up)) ((State.resetSys_kept ..).up)) (Kept.trans (by exact Kept.ite (Kept.refl _) ((State.resetPins_kept ..).up)) ((State.resetCommon_kept ..).up))) ((State.drawSession_kept ..).up)) (Kept.ite (Kept.trans (by exact Kept.trans (by exact Kept.ite (Kept.refl _) ((State.resetPins_kept ..).up)) ((State.resetCommon_kept ..).up)) ((State.resetSys_kept ..).up)) (Kept.trans (by exact Kept.ite (Kept.refl _) ((State.resetPins_kept ..).up)) ((State.resetCommon_kept ..).up))))) ((State.withRst_kept (m := 0x200) ..).up)) (Kept.up (Kept.upd (m := 0x40) id id))) (Kept.trans (by exact Kept.ite (Kept.trans (by exact Kept.ite (Kept.trans (by exact Kept.trans (by exact Kept.ite (Kept.refl _) ((State.resetPins_kept ..).up)) ((State.resetCommon_kept ..).up)) ((State.resetSys_kept ..).up)) (Kept.trans (by exact Kept.ite (Kept.refl _) ((State.resetPins_kept ..).up)) ((State.resetCommon_kept ..).up))) ((State.resetPor_kept ..).up)) (Kept.ite (Kept.trans (by exact Kept.ite (Kept.trans (by exact Kept.trans (by exact Kept.ite (Kept.refl _) ((State.resetPins_kept ..).up)) ((State.resetCommon_kept ..).up)) ((State.resetSys_kept ..).up)) (Kept.trans (by exact Kept.ite (Kept.refl _) ((State.resetPins_kept ..).up)) ((State.resetCommon_kept ..).up))) ((State.drawSession_kept ..).up)) (Kept.ite (Kept.trans (by exact Kept.trans (by exact Kept.ite (Kept.refl _) ((State.resetPins_kept ..).up)) ((State.resetCommon_kept ..).up)) ((State.resetSys_kept ..).up)) (Kept.trans (by exact Kept.ite (Kept.refl _) ((State.resetPins_kept ..).up)) ((State.resetCommon_kept ..).up))))) ((State.withRst_kept (m := 0x200) ..).up))) ((State.logAs_quiet ..).up)

end Sys2Proof.Machine
end

