-- ==== Sys2Proof/Laws/KeptBoot.lean ====
section
/-! SUPPORT. What the operations of Machine/Boot.lean keep. -/

set_option Elab.async false

namespace Sys2Proof.Machine

theorem State.loadEntries_kept (s : State) : Kept 0x2000002 s (State.loadEntries s) := by
  unfold State.loadEntries
  exact Kept.trans (by exact Kept.foldl (fun _ _ => (State.putEntry_kept ..).up) (Kept.refl _)) ((State.withSec_kept (m := 0x2000000) ..).up)

theorem State.reportBattery_kept (s : State) : Kept 0x402200450 s (State.reportBattery s) := by
  unfold State.reportBattery
  exact Kept.trans (by exact Kept.ite (Kept.trans (by exact Kept.ite ((State.logAs_quiet ..).up) (Kept.refl _)) ((State.logAs_kept ..).up)) (Kept.ite ((State.logAs_quiet ..).up) (Kept.refl _))) ((State.withSec_kept (m := 0x2000000) ..).up)

theorem State.startCan_kept (s : State) : Kept 0x10 s (State.startCan s) := by
  unfold State.startCan
  exact Kept.trans (by exact Kept.up (Kept.upd (m := 0x10) id id)) ((State.send_kept ..).up)

theorem State.chooseReference_kept (s : State) : Kept 0x1240 s (State.chooseReference s) := by
  unfold State.chooseReference
  exact Kept.trans (by exact Kept.trans (by exact Kept.ite ((State.logAs_quiet ..).up) (Kept.refl _)) ((State.withRst_kept (m := 0x200) ..).up)) ((State.withTime_kept ..).up)

theorem State.readRoms_kept (s : State) : Kept 0x400200450 s (State.readRoms s) := by
  unfold State.readRoms
  exact by (try dsimp only); split; exact ((State.logAs_kept ..).up); exact ((State.endCodeClass_kept ..).up)

theorem State.placeControl_kept (s : State) : Kept 0x400200652 s (State.placeControl s) := by
  unfold State.placeControl
  exact Kept.ite ((State.putEntry_kept ..).up) (Kept.ite ((State.putEntry_kept ..).up) (Kept.ite (Kept.trans (by exact Kept.trans (by exact (State.putEntry_kept ..).up) ((State.logAs_kept ..).up)) ((State.withRst_kept (m := 0x200) ..).up)) (Kept.trans (by exact (State.putEntry_kept ..).up) ((State.logAs_quiet ..).up))))

theorem State.applySettings_kept (s : State) : Kept 0x10100533201042 s (State.applySettings s) := by
  unfold State.applySettings
  exact Kept.foldl (fun _ _ => (State.restartPattern_kept ..).up) (Kept.trans (by exact Kept.trans (by exact Kept.trans (by exact Kept.ite ((State.timeState_kept ..).up) (Kept.refl _)) ((State.supplyGuest_kept ..).up)) ((State.settleDemands_kept ..).up)) ((State.configureAll_kept ..).up))

theorem State.startStages_kept (s : State) : Kept 0x101005332a1752 s (State.startStages s) := by
  unfold State.startStages
  exact Kept.trans (by exact Kept.trans (by exact Kept.trans (by exact Kept.trans (by exact Kept.trans (by exact Kept.trans (by exact Kept.trans (by exact Kept.trans (by exact (State.loadEntries_kept ..).up) ((State.reportBattery_kept ..).up)) ((State.startCan_kept ..).up)) ((State.chooseReference_kept ..).up)) ((State.readRoms_kept ..).up)) ((State.trainBundles_kept ..).up)) ((State.drawSession_kept ..).up)) ((State.placeControl_kept ..).up)) ((State.applySettings_kept ..).up)

theorem State.detect_kept (s : State) (b : Nat) : Kept 0x200 s (State.detect s b) := by
  unfold State.detect
  exact (State.withRst_kept (m := 0x200) ..).up

theorem State.lapse_kept (s : State) : Kept 0x40 s (State.lapse s) := by
  unfold State.lapse
  exact Kept.up (Kept.upd (m := 0x40) id id)

theorem execBrownOut_kept (s : State) : OutKept 0x1010044a2947d8 s (execBrownOut s) := by
  unfold execBrownOut
  exact Kept.ite (Kept.refl _) (Kept.ite (Kept.trans (by exact Kept.trans (by exact Kept.trans (by exact Kept.trans (by exact Kept.trans (by exact Kept.trans (by exact (State.detect_kept ..).up) ((State.withRst_kept (m := 0x200) ..).up)) ((State.wakeClock_kept ..).up)) ((State.lapse_kept ..).up)) ((State.retireKey_kept ..).up)) ((State.loseStaged_kept ..).up)) ((State.stopLoader_kept ..).up)) (Kept.trans (by exact Kept.trans (by exact Kept.trans (by exact Kept.trans (by exact Kept.trans (by exact Kept.trans (by exact Kept.trans (by exact Kept.trans (by exact Kept.trans (by exact (State.detect_kept ..).up) ((State.withRst_kept (m := 0x200) ..).up)) ((State.wakeClock_kept ..).up)) ((State.lapse_kept ..).up)) ((State.retireKey_kept ..).up)) ((State.loseStaged_kept ..).up)) ((State.stopLoader_kept ..).up)) ((State.withRst_kept (m := 0x200) ..).up)) ((State.logAs_kept ..).up)) ((State.raiseStop_kept ..).up)))

theorem State.finishRecovery_kept (s : State) : Kept 0x1ffc72fff7f7e172e2 s (State.finishRecovery s) := by
  unfold State.finishRecovery
  exact Kept.ite (Kept.trans (by exact Kept.trans (by exact Kept.trans (by exact (State.withBoot_kept ..).up) ((State.withRst_kept (m := 0x200) ..).up)) ((State.endFaults_kept ..).up)) ((State.enterSleep_kept ..).up)) (Kept.trans (by exact Kept.trans (by exact (State.withBoot_kept ..).up) ((State.withRst_kept (m := 0x200) ..).up)) ((State.endFaults_kept ..).up))

theorem execMarchComplete_kept (result : MarchResult) (s : State) : OutKept 0x1ffcf2fff7f7e172e2 s (execMarchComplete result s) := by
  unfold execMarchComplete
  exact Kept.ite (Kept.refl _) (Kept.ite (Kept.trans (by exact Kept.trans (by exact (State.marchEnds_kept ..).up) ((State.withMarch_kept ..).up)) ((State.finishRecovery_kept ..).up)) ((State.marchEnds_kept ..).up))

theorem State.checkNode_kept (s : State) : Kept 0x400200450 s (State.checkNode s) := by
  unfold State.checkNode
  exact Kept.ite ((State.logAs_kept ..).up) ((State.endCode_kept ..).up)

theorem State.internalPor_kept (s : State) (b : Nat) (escalated : Bool) : Kept 0x1fffd7fffffffffffe s (State.internalPor s b escalated) := by
  unfold State.internalPor
  exact Kept.trans (by exact Kept.trans (by exact (State.withRst_kept (m := 0x200) ..).up) ((State.performReset_kept ..).up)) ((State.checkNode_kept ..).up)

theorem State.escalate_kept (s : State) (b : Nat) : Kept 0x1fffd7fffffffffffe s (State.escalate s b) := by
  unfold State.escalate
  exact Kept.trans (by exact Kept.trans (by exact (State.internalPor_kept ..).up) ((State.withRst_kept (m := 0x200) ..).up)) ((State.withBoot_kept ..).up)

theorem execBrownOutRecovery_kept (s : State) : OutKept 0x1fffd7fffffffffffe s (execBrownOutRecovery s) := by
  unfold execBrownOutRecovery
  exact Kept.ite (Kept.refl _) (Kept.ite (Kept.trans (by exact (State.withRst_kept (m := 0x200) ..).up) ((State.wakeClock_kept ..).up)) (Kept.ite (Kept.trans (by exact Kept.trans (by exact (State.withRst_kept (m := 0x200) ..).up) ((State.wakeClock_kept ..).up)) ((State.escalate_kept ..).up)) (Kept.ite (Kept.trans (by exact Kept.trans (by exact (State.withRst_kept (m := 0x200) ..).up) ((State.wakeClock_kept ..).up)) ((State.performReset_kept ..).up)) (Kept.trans (by exact Kept.trans (by exact (State.withRst_kept (m := 0x200) ..).up) ((State.wakeClock_kept ..).up)) ((State.internalPor_kept ..).up)))))

theorem State.ignoreSource_kept (s : State) (b : Nat) : Kept 0x40 s (State.ignoreSource s b) := by
  unfold State.ignoreSource
  exact (State.log1_quiet ..).up

theorem State.requestReset_kept (s : State) (req : Nat) (level : Nat) : Kept 0x400025b s (State.requestReset s req level) := by
  unfold State.requestReset
  exact Kept.ite (Kept.refl _) (Kept.ite (Kept.trans (by exact Kept.trans (by exact (State.detect_kept ..).up) ((State.ignoreSource_kept ..).up)) ((State.reply_kept ..).up)) (State.writing_kept (hk := fun _ => Kept.ite (Kept.trans (by exact Kept.trans (by exact (State.detect_kept ..).up) ((State.ignoreSource_kept ..).up)) ((State.accept_kept ..).up)) (Kept.trans (by exact Kept.trans (by exact (State.detect_kept ..).up) ((State.withRst_kept (m := 0x200) ..).up)) ((State.accept_kept ..).up))) ..))

theorem execLifeCycleSysReset_kept (s : State) : OutKept 0x1fffd7fffffffffffe s (execLifeCycleSysReset s) := by
  unfold execLifeCycleSysReset
  exact Kept.ite ((State.performReset_kept ..).up) (Kept.refl _)

theorem execPowerOn_kept (straps : Straps) (environment : StartEnvironment) (s : State) : OutKept 0x1ffff7fffffffffffe s (execPowerOn straps environment s) := by
  unfold execPowerOn
  exact Kept.trans (by exact Kept.trans (by exact Kept.trans (by exact Kept.trans (by exact Kept.up (Kept.upd (m := 0x7000012a000850) id (fun _ => rfl))) ((State.withRst_kept (m := 0x200) ..).up)) ((State.withBoot_kept ..).up)) ((State.performReset_kept ..).up)) ((State.checkNode_kept ..).up)

theorem State.attemptFails_kept (s : State) (code : Nat) : Kept 0x60 s (State.attemptFails s code) := by
  unfold State.attemptFails
  exact Kept.trans (by exact (State.logAs_quiet ..).up) ((State.withBoot_kept ..).up)

theorem execStartRetryWaitExpiry_kept (s : State) : OutKept 0x20 s (execStartRetryWaitExpiry s) := by
  unfold execStartRetryWaitExpiry
  exact Kept.ite ((State.withBoot_kept ..).up) (Kept.refl _)

theorem execWatchdogRefresh_kept (req : Nat) (s : State) : OutKept 0x400025b s (execWatchdogRefresh req s) := by
  unfold execWatchdogRefresh
  exact State.writing_kept (hk := fun _ => Kept.trans (by exact (State.withRst_kept (m := 0x200) ..).up) ((State.accept_kept ..).up)) ..

theorem execMgmtWatchdogExpiry_kept (s : State) : OutKept 0x60 s (execMgmtWatchdogExpiry s) := by
  unfold execMgmtWatchdogExpiry
  exact Kept.ite ((State.attemptFails_kept ..).up) (Kept.refl _)

theorem State.marchOrFinish_kept (s : State) : Kept 0x1ffcf2fff7f7e172e2 s (State.marchOrFinish s) := by
  unfold State.marchOrFinish
  exact Kept.ite (Kept.trans (by exact (State.withMarch_kept ..).up) ((State.withBoot_kept ..).up)) ((State.finishRecovery_kept ..).up)

theorem State.takeReset_kept (s : State) (b : Nat) (level : Nat) : Kept 0x1fffd7fffffffffffe s (State.takeReset s b level) := by
  unfold State.takeReset
  exact Kept.ite ((State.performReset_kept ..).up) (by (try dsimp only); split; exact ((State.performReset_kept ..).up); exact ((State.performReset_kept ..).up); exact ((State.escalate_kept ..).up))

theorem State.fullSource_kept (s : State) (b : Nat) (level : Nat) : Kept 0x1fffd7fffffffffffe s (State.fullSource s b level) := by
  unfold State.fullSource
  exact Kept.ite (Kept.trans (by exact (State.detect_kept ..).up) ((State.ignoreSource_kept ..).up)) (Kept.trans (by exact (State.detect_kept ..).up) ((State.takeReset_kept ..).up))

theorem execAlwaysOnLoss_kept (s : State) : OutKept 0x1ffff7fffffffffffe s (execAlwaysOnLoss s) := by
  unfold execAlwaysOnLoss
  exact Kept.ite (Kept.refl _) (Kept.trans (by exact Kept.trans (by exact Kept.trans (by exact Kept.trans (by exact Kept.trans (by exact Kept.trans (by exact (State.lapse_kept ..).up) ((State.resetCommon_kept ..).up)) ((State.resetSys_kept ..).up)) ((State.resetPor_kept ..).up)) ((State.withRst_kept (m := 0x200) ..).up)) (Kept.up (Kept.upd (m := 0x70000000000000) id (fun _ => rfl)))) ((State.withBoot_kept ..).up))

theorem execPinReset_kept (s : State) : OutKept 0x1fffd7fffffffffffe s (execPinReset s) := by
  unfold execPinReset
  exact Kept.ite (Kept.trans (by exact (State.detect_kept ..).up) ((State.takeReset_kept ..).up)) (Kept.refl _)

theorem execRequestedResetTaken_kept (s : State) : OutKept 0x1fffd7fffffffffffe s (execRequestedResetTaken s) := by
  unfold execRequestedResetTaken
  exact by (try dsimp only); split; exact (Kept.refl _); exact (Kept.ite (Kept.trans (by exact (State.withRst_kept (m := 0x200) ..).up) ((State.ignoreSource_kept ..).up)) (Kept.trans (by exact (State.withRst_kept (m := 0x200) ..).up) ((State.takeReset_kept ..).up)))

theorem execNmtResetNode_kept (node : Nat) (s : State) : OutKept 0x1fffd7fffffffffffe s (execNmtResetNode node s) := by
  unfold execNmtResetNode
  exact Kept.ite (Kept.trans (by exact (State.wakeClock_kept ..).up) ((State.fullSource_kept ..).up)) (Kept.refl _)

theorem execStartAttempt_kept (signatureOk : Bool) (s : State) : OutKept 0x60 s (execStartAttempt signatureOk s) := by
  unfold execStartAttempt
  exact Kept.ite (Kept.refl _) (by (try dsimp only); split; exact (Kept.trans (by exact Kept.trans (by exact (State.withBoot_kept ..).up) ((State.logAs_quiet ..).up)) ((State.attemptFails_kept ..).up)); exact (Kept.ite (Kept.trans (by exact Kept.trans (by exact (State.withBoot_kept ..).up) ((State.logAs_quiet ..).up)) ((State.attemptFails_kept ..).up)) (Kept.ite (Kept.trans (by exact Kept.trans (by exact (State.withBoot_kept ..).up) ((State.logAs_quiet ..).up)) ((State.attemptFails_kept ..).up)) (Kept.trans (by exact Kept.trans (by exact (State.withBoot_kept ..).up) ((State.logAs_quiet ..).up)) ((State.withBoot_kept ..).up)))))

theorem execResetRequestSys_kept (req : Nat) (s : State) : OutKept 0x400025b s (execResetRequestSys req s) := by
  unfold execResetRequestSys
  exact (State.requestReset_kept ..).up

theorem State.startSucceeds_kept (s : State) : Kept 0x60 s (State.startSucceeds s) := by
  unfold State.startSucceeds
  exact Kept.ite (Kept.trans (by exact (State.withBoot_kept ..).up) ((State.logAs_quiet ..).up)) ((State.withBoot_kept ..).up)

theorem State.restartEntries_kept (s : State) : Kept 0x10100533201052 s (State.restartEntries s) := by
  unfold State.restartEntries
  exact Kept.trans (by exact Kept.trans (by exact Kept.trans (by exact (State.resetEntries_kept ..).up) ((State.loadEntries_kept ..).up)) ((State.startCan_kept ..).up)) ((State.applySettings_kept ..).up)

theorem execFirmwareStartComplete_kept (s : State) : OutKept 0x1ffcf2fff7f7eb77f2 s (execFirmwareStartComplete s) := by
  unfold execFirmwareStartComplete
  exact Kept.ite (Kept.refl _) (Kept.ite (Kept.trans (by exact Kept.trans (by exact (State.startSucceeds_kept ..).up) ((State.withBoot_kept ..).up)) ((State.restartEntries_kept ..).up)) (Kept.trans (by exact Kept.trans (by exact Kept.trans (by exact (State.startSucceeds_kept ..).up) ((State.withBoot_kept ..).up)) ((State.startStages_kept ..).up)) ((State.marchOrFinish_kept ..).up)))

theorem execWatchdogExpiry_kept (s : State) : OutKept 0x1fffd7fffffffffffe s (execWatchdogExpiry s) := by
  unfold execWatchdogExpiry
  exact Kept.ite (Kept.refl _) (Kept.trans (by exact Kept.trans (by exact (State.log1_kept ..).up) ((State.withRst_kept (m := 0x200) ..).up)) ((State.fullSource_kept ..).up))

theorem execFirmwareStartTimeout_kept (s : State) : OutKept 0x60 s (execFirmwareStartTimeout s) := by
  unfold execFirmwareStartTimeout
  exact Kept.ite ((State.attemptFails_kept ..).up) (Kept.refl _)

theorem State.escalateCommit_kept (s : State) : Kept 0x1fffd7fffffffffffe s (State.escalateCommit s) := by
  unfold State.escalateCommit
  exact Kept.ite ((State.performReset_kept ..).up) (Kept.refl _)

theorem execResetRequestCore_kept (req : Nat) (s : State) : OutKept 0x400025b s (execResetRequestCore req s) := by
  unfold execResetRequestCore
  exact (State.requestReset_kept ..).up

theorem execEscalationWaitExpiry_kept (s : State) : OutKept 0x20 s (execEscalationWaitExpiry s) := by
  unfold execEscalationWaitExpiry
  exact Kept.ite ((State.withBoot_kept ..).up) (Kept.refl _)

theorem execDbgaccResetRequest_kept (data : Nat) (s : State) : OutKept 0x1fffd7ffffffffffff s (execDbgaccResetRequest data s) := by
  unfold execDbgaccResetRequest
  exact Kept.ite (Kept.refl _) (Kept.ite (Kept.trans (by exact (State.detect_kept ..).up) ((State.ignoreSource_kept ..).up)) (Kept.ite (Kept.trans (by exact (State.levelRefused_kept ..).up) ((State.withSec_kept (m := 0x2000000) ..).up)) (Kept.ite (Kept.trans (by exact (State.withSec_kept (m := 0x2000000) ..).up) ((State.fullSource_kept ..).up)) ((State.withSec_kept (m := 0x2000000) ..).up))))

end Sys2Proof.Machine
end

