-- ==== Sys2Proof/Laws/KeptClocks.lean ====
section
/-! SUPPORT. What the operations of Machine/Clocks.lean keep. -/

set_option Elab.async false

namespace Sys2Proof.Machine

theorem State.logClock_kept (s : State) (c : ClockSource) : Kept 0x400200450 s (State.logClock s c) := by
  unfold State.logClock
  exact by (try dsimp only); split; exact ((State.logAs_kept ..).up); exact ((State.logAs_kept ..).up); exact (Kept.refl _)

theorem State.holdEngines_kept (s : State) (d : Nat) (h : Bool) : Kept 0x40000000000000000 s (State.holdEngines s d h) := by
  unfold State.holdEngines
  exact (State.withFabric_kept (m := 0x40000000000000000) ..).up

theorem State.holdFabric_kept (s : State) (d : Nat) : Kept 0x1ffc00000000000000 s (State.holdFabric s d) := by
  unfold State.holdFabric
  exact Kept.trans (by exact (State.withFabric_kept (m := 0x1ffc00000000000000) ..).up) ((State.holdEngines_kept ..).up)

theorem State.holdClock_kept (s : State) (c : ClockSource) : Kept 0x1ffc12ff945d25c6d2 s (State.holdClock s c) := by
  unfold State.holdClock
  exact Kept.ite (Kept.trans (by exact Kept.trans (by exact Kept.trans (by exact (State.logAs_kept ..).up) ((State.withRst_kept (m := 0x200) ..).up)) ((State.resetDesign_kept ..).up)) ((State.setMode_kept ..).up)) (by (try dsimp only); split; exact (Kept.trans (by exact Kept.trans (by exact (State.logAs_kept ..).up) ((State.withRst_kept (m := 0x200) ..).up)) ((State.holdFabric_kept ..).up)); exact (Kept.trans (by exact (State.logAs_kept ..).up) ((State.withRst_kept (m := 0x200) ..).up)))

theorem State.clockFails_kept (s : State) (c : ClockSource) : Kept 0x1fffd7fffffffffffe s (State.clockFails s c) := by
  unfold State.clockFails
  exact Kept.ite (Kept.trans (by exact Kept.trans (by exact (State.logClock_kept ..).up) ((State.detect_kept ..).up)) ((State.ignoreSource_kept ..).up)) (Kept.ite (Kept.trans (by exact Kept.trans (by exact Kept.trans (by exact (State.logClock_kept ..).up) ((State.detect_kept ..).up)) ((State.withRst_kept (m := 0x200) ..).up)) ((State.takeReset_kept ..).up)) (Kept.trans (by exact Kept.trans (by exact (State.logClock_kept ..).up) ((State.detect_kept ..).up)) ((State.holdClock_kept ..).up)))

theorem execClockFailure_kept (source : ClockSource) (s : State) : OutKept 0x1fffd7fffffffffffe s (execClockFailure source s) := by
  unfold execClockFailure
  exact Kept.ite ((State.clockFails_kept ..).up) (Kept.refl _)

theorem execDiePllUnlock_kept (die : Nat) (loop : Nat) (s : State) : OutKept 0x1fffd7fffffffffffe s (execDiePllUnlock die loop s) := by
  unfold execDiePllUnlock
  exact Kept.ite ((State.clockFails_kept ..).up) (Kept.refl _)

theorem State.clearRelease_kept (s : State) (c : Nat) : Kept 0x2 s (State.clearRelease s c) := by
  unfold State.clearRelease
  exact (State.putEntry_kept ..).up

theorem execCoreLockup_kept (core : Nat) (mepc : Nat) (mcause : Nat) (s : State) : OutKept 0x401e00652 s (execCoreLockup core mepc mcause s) := by
  unfold execCoreLockup
  exact Kept.ite (Kept.refl _) (Kept.ite (Kept.trans (by exact Kept.trans (by exact Kept.trans (by exact (State.withCore_kept ..).up) ((State.logDetail_kept ..).up)) ((State.detect_kept ..).up)) ((State.ignoreSource_kept ..).up)) (Kept.trans (by exact Kept.trans (by exact Kept.trans (by exact Kept.trans (by exact Kept.trans (by exact (State.withCore_kept ..).up) ((State.logDetail_kept ..).up)) ((State.detect_kept ..).up)) ((State.holdCore_kept ..).up)) ((State.clearRelease_kept ..).up)) ((State.withRst_kept (m := 0x200) ..).up)))

theorem State.blockReset_kept {m : Nat} (s : State) (req : Nat) (code : Nat) (valid : Bool) (idle : Bool) (effect : State → State) (hm : 0x400025b ||| m = m := by decide) (heffect : ∀ a0, Kept m a0 (effect a0)) : Kept m s (State.blockReset s req code valid idle effect) := by
  unfold State.blockReset
  exact State.writing_kept (hm := maskLe hm) (hk := fun _ => Kept.ite ((State.refuse_kept ..).up2 hm) (Kept.ite ((State.refuseArg_kept ..).up2 hm) (Kept.trans (by exact Kept.trans (by exact (State.withRst_kept (m := 0x200) ..).up2 hm) (heffect ..)) ((State.accept_kept ..).up2 hm)))) ..

theorem execBlockResetCore_kept (req : Nat) (core : Nat) (s : State) : OutKept 0x5e0025b s (execBlockResetCore req core s) := by
  unfold execBlockResetCore
  exact State.blockReset_kept (heffect := fun _ => Kept.trans (by exact (State.holdCore_kept ..).up) ((State.clearRelease_kept ..).up)) ..

theorem State.resetTriggerEngine_kept (s : State) : Kept 0x200000002 s (State.resetTriggerEngine s) := by
  unfold State.resetTriggerEngine
  exact Kept.trans (by exact Kept.trans (by exact Kept.foldl (fun _ _ => (State.putEntry_kept ..).up) (Kept.refl _)) ((State.releaseOutputs_kept ..).up)) (Kept.up (Kept.upd (m := 0x200000000) id id))

theorem State.retrainEngine_kept (s : State) (e : Nat) : Kept 0x80000000 s (State.retrainEngine s e) := by
  unfold State.retrainEngine
  exact by (try dsimp only); split; exact (Kept.foldl (fun _ _ => Kept.ite ((State.trainLane_kept ..).up) (Kept.refl _)) (Kept.refl _)); exact (Kept.refl _)

theorem State.releaseBlock_kept (s : State) (code : Nat) : Kept 0x40000000080000240 s (State.releaseBlock s code) := by
  unfold State.releaseBlock
  exact Kept.ite ((State.endFaults_kept ..).up) (Kept.ite (Kept.trans (by exact Kept.trans (by exact (State.withRst_kept (m := 0x200) ..).up) ((State.withFabric_kept (m := 0x40000000000000000) ..).up)) ((State.retrainEngine_kept ..).up)) ((State.withRst_kept (m := 0x200) ..).up))

theorem execLoopLockedAgain_kept (source : ClockSource) (s : State) : OutKept 0x40000000080000240 s (execLoopLockedAgain source s) := by
  unfold execLoopLockedAgain
  exact Kept.ite (Kept.refl _) (Kept.foldl (fun _ _ => (State.releaseBlock_kept ..).up) (Kept.trans (by exact by (try dsimp only); split; exact (Kept.trans (by exact Kept.trans (by exact (State.withRst_kept (m := 0x200) ..).up) ((State.endFaults_kept ..).up)) ((State.holdEngines_kept ..).up)); exact (Kept.trans (by exact (State.withRst_kept (m := 0x200) ..).up) ((State.endFaults_kept ..).up))) ((State.withRst_kept (m := 0x200) ..).up)))

theorem State.resetPort_kept (s : State) (p : Nat) : Kept 0x1000 s (State.resetPort s p) := by
  unfold State.resetPort
  exact (State.withTime_kept ..).up

theorem execReferenceLost_kept (s : State) : OutKept 0x1fffd7fffffffffffe s (execReferenceLost s) := by
  unfold execReferenceLost
  exact Kept.ite ((State.clockFails_kept ..).up) (Kept.refl _)

theorem execBlockResetTriggerEngine_kept (req : Nat) (s : State) : OutKept 0x20400025b s (execBlockResetTriggerEngine req s) := by
  unfold execBlockResetTriggerEngine
  exact State.blockReset_kept (heffect := fun _ => (State.resetTriggerEngine_kept ..).up) ..

theorem State.initPort_kept (s : State) (p : Nat) : Kept 0x1000 s (State.initPort s p) := by
  unfold State.initPort
  exact Kept.trans (by exact (State.resetPort_kept ..).up) ((State.setPtpPort_kept ..).up)

theorem execBlockResetRelease_kept (clockStable : Bool) (s : State) : OutKept 0x40000000080000240 s (execBlockResetRelease clockStable s) := by
  unfold execBlockResetRelease
  exact by (try dsimp only); split; exact (Kept.ite (Kept.trans (by exact (State.withRst_kept (m := 0x200) ..).up) ((State.releaseBlock_kept ..).up)) ((State.withRst_kept (m := 0x200) ..).up)); exact (by (try dsimp only); split; exact (Kept.ite (Kept.trans (by exact (State.withRst_kept (m := 0x200) ..).up) ((State.releaseBlock_kept ..).up)) (Kept.refl _)); exact (Kept.refl _))

theorem execBlockResetEthernetPort_kept (req : Nat) (port : Nat) (s : State) : OutKept 0x400125b s (execBlockResetEthernetPort req port s) := by
  unfold execBlockResetEthernetPort
  exact State.blockReset_kept (heffect := fun _ => (State.initPort_kept ..).up) ..

theorem execBlockResetBridgeEngine_kept (req : Nat) (engine : Nat) (s : State) : OutKept 0x4000000000400025b s (execBlockResetBridgeEngine req engine s) := by
  unfold execBlockResetBridgeEngine
  exact State.blockReset_kept (heffect := fun _ => (State.withFabric_kept (m := 0x40000000000000000) ..).up) ..

end Sys2Proof.Machine
end

