-- ==== Sys2Proof/Laws/KeptThermal.lean ====
section
/-! SUPPORT. What the operations of Machine/Thermal.lean keep. -/

set_option Elab.async false

namespace Sys2Proof.Machine

theorem State.withTherm_kept (s : State) (f : Thermal → Thermal) : Kept 0x800 s (State.withTherm s f) := by
  unfold State.withTherm
  exact Kept.up (Kept.upd (m := 0x800) id id)

theorem State.tellDemands_kept (s : State) (before : List (Nat × Nat)) : Kept 0x100001080042 s (State.tellDemands s before) := by
  unfold State.tellDemands
  exact Kept.ite (Kept.refl _) ((State.demandChanged_kept ..).up)

theorem State.updateDemands_kept (s : State) : Kept 0x100001080842 s (State.updateDemands s) := by
  unfold State.updateDemands
  exact Kept.ite (Kept.trans (by exact Kept.trans (by exact Kept.trans (by exact (State.withTherm_kept ..).up) ((State.tellDemands_kept ..).up)) ((State.log1_quiet ..).up)) ((State.withTherm_kept ..).up)) (Kept.trans (by exact (State.withTherm_kept ..).up) ((State.tellDemands_kept ..).up))

theorem State.logSensors_kept (s : State) (temps : List Nat) (supply : List Nat) : Kept 0x48 s (State.logSensors s temps supply) := by
  unfold State.logSensors
  exact Kept.foldl (fun _ _ => Kept.trans (by exact (State.log1_quiet ..).up) ((State.wakeClock_kept ..).up)) (Kept.foldl (fun _ _ => Kept.trans (by exact (State.log1_quiet ..).up) ((State.wakeClock_kept ..).up)) (Kept.refl _))

theorem State.reachCritical_kept (s : State) (e : Nat) : Kept 0x100400280558 s (State.reachCritical s e) := by
  unfold State.reachCritical
  exact Kept.trans (by exact Kept.trans (by exact (State.logAs_kept ..).up) ((State.wakeClock_kept ..).up)) ((State.raiseStop_kept ..).up)

theorem State.updateCritical_kept (s : State) : Kept 0x100400280d58 s (State.updateCritical s) := by
  unfold State.updateCritical
  exact Kept.ite (Kept.trans (by exact Kept.foldl (fun _ _ => (State.reachCritical_kept ..).up) (Kept.refl _)) ((State.withTherm_kept ..).up)) (Kept.trans (by exact Kept.trans (by exact Kept.foldl (fun _ _ => (State.reachCritical_kept ..).up) (Kept.refl _)) ((State.withTherm_kept ..).up)) ((State.endCode_kept ..).up))

theorem State.overCeiling_kept (s : State) (deciwatts : Nat) : Kept 0x100400280750 s (State.overCeiling s deciwatts) := by
  unfold State.overCeiling
  exact Kept.ite (Kept.up (Kept.upd (m := 0x200) id id)) (Kept.trans (by exact Kept.trans (by exact Kept.trans (by exact Kept.up (Kept.upd (m := 0x200) id id)) (Kept.up (Kept.upd (m := 0x200) id id))) ((State.logAs_kept ..).up)) ((State.raiseStop_kept ..).up))

theorem State.updateSupply_kept (s : State) : Kept 0x40 s (State.updateSupply s) := by
  unfold State.updateSupply
  exact Kept.ite (Kept.up (Kept.upd (m := 0x40) id id)) (Kept.refl _)

theorem execPowerAverageInterval_kept (deciwatts : Nat) (s : State) : OutKept 0x100400280750 s (execPowerAverageInterval deciwatts s) := by
  unfold execPowerAverageInterval
  exact Kept.ite ((State.overCeiling_kept ..).up) (Kept.refl _)

theorem State.updateLimit_kept (s : State) : Kept 0x400200c50 s (State.updateLimit s) := by
  unfold State.updateLimit
  exact Kept.ite (Kept.ite (Kept.up (Kept.upd (m := 0x40) id id)) (Kept.trans (by exact Kept.trans (by exact Kept.up (Kept.upd (m := 0x40) id id)) ((State.log1_kept ..).up)) ((State.withTherm_kept ..).up))) (Kept.refl _)

theorem State.updateSensors_kept (s : State) (temps : List Nat) (supply : List Nat) : Kept 0x100401280d5a s (State.updateSensors s temps supply) := by
  unfold State.updateSensors
  exact Kept.ite (Kept.trans (by exact Kept.trans (by exact (State.withTherm_kept ..).up) ((State.logSensors_kept ..).up)) ((State.updateSupply_kept ..).up)) (Kept.trans (by exact Kept.trans (by exact Kept.trans (by exact Kept.trans (by exact Kept.trans (by exact (State.withTherm_kept ..).up) ((State.logSensors_kept ..).up)) ((State.updateSupply_kept ..).up)) ((State.updateDemands_kept ..).up)) ((State.updateCritical_kept ..).up)) ((State.updateLimit_kept ..).up))

theorem execSensorUpdate_kept (sample : SensorSample) (s : State) : OutKept 0x100401280d5a s (execSensorUpdate sample s) := by
  unfold execSensorUpdate
  dsimp only
  split
  · trivial
  · exact (State.updateSensors_kept ..).up

end Sys2Proof.Machine
end

