-- ==== Sys2Proof/Laws/KeptManagement.lean ====
section
/-! SUPPORT. What the operations of Machine/Management.lean keep. -/

set_option Elab.async false

namespace Sys2Proof.Machine

theorem State.firmwareFails_kept (s : State) (code : Nat) : Kept 0x60 s (State.firmwareFails s code) := by
  unfold State.firmwareFails
  exact Kept.trans (by exact (State.logAs_quiet ..).up) ((State.withBoot_kept ..).up)

theorem State.discardSaved_kept (s : State) : Kept 0x4 s (State.discardSaved s) := by
  unfold State.discardSaved
  exact Kept.up (Kept.upd (m := 0x4) id id)

theorem State.checkFirmware_kept (s : State) (f : FirmwareImage) (c : FirmwareChecks) : Kept 0x60 s (State.checkFirmware s f c) := by
  unfold State.checkFirmware
  exact Kept.ite ((State.firmwareFails_kept ..).up) (Kept.ite ((State.firmwareFails_kept ..).up) ((State.withBoot_kept ..).up))

theorem State.firmwareEvent_kept (s : State) : Kept 0x40 s (State.firmwareEvent s) := by
  unfold State.firmwareEvent
  exact (State.logEvent_kept ..).up

theorem execFirmwareWriteComplete_kept (readBackOk : Bool) (s : State) : OutKept 0x60 s (execFirmwareWriteComplete readBackOk s) := by
  unfold execFirmwareWriteComplete
  exact by (try dsimp only); split; exact (Kept.refl _); exact (Kept.ite (Kept.trans (by exact (State.withBoot_kept ..).up) ((State.firmwareEvent_kept ..).up)) ((State.firmwareFails_kept ..).up))

theorem State.firmwareCommand_kept {m : Nat} (s : State) (req : Nat) (value : Nat) (k : State → State) (hm : 0x400005b ||| m = m := by decide) (hk : ∀ a0, Kept m a0 (k a0)) : Kept m s (State.firmwareCommand s req value k) := by
  unfold State.firmwareCommand
  exact State.writing_kept (hm := maskLe hm) (hk := fun _ => Kept.ite ((State.refuse_kept ..).up2 hm) (Kept.trans (by exact Kept.trans (by exact (State.firmwareEvent_kept ..).up2 hm) (hk ..)) ((State.accept_kept ..).up2 hm))) ..

theorem execFirmwareActivate_kept (req : Nat) (s : State) : OutKept 0x400007b s (execFirmwareActivate req s) := by
  unfold execFirmwareActivate
  exact State.firmwareCommand_kept (hk := fun _ => (State.withBoot_kept ..).up) ..

theorem State.store_kept (s : State) : Kept 0x4 s (State.store s) := by
  unfold State.store
  exact Kept.up (Kept.upd (m := 0x4) id id)

theorem execStoreParameters_kept (req : Nat) (s : State) : OutKept 0x400005f s (execStoreParameters req s) := by
  unfold execStoreParameters
  exact State.writing_kept (hk := fun _ => Kept.trans (by exact (State.store_kept ..).up) ((State.accept_kept ..).up)) ..

theorem execRestoreDefaults_kept (req : Nat) (s : State) : OutKept 0x400005f s (execRestoreDefaults req s) := by
  unfold execRestoreDefaults
  exact State.writing_kept (hk := fun _ => Kept.trans (by exact (State.discardSaved_kept ..).up) ((State.accept_kept ..).up)) ..

theorem execHeartbeat_kept (s : State) : OutKept 0x10 s (execHeartbeat s) := by
  unfold execHeartbeat
  exact Kept.ite (Kept.refl _) ((State.send_kept ..).up)

theorem execLogReadSelect_kept (req : Nat) (seq : Nat) (s : State) : OutKept 0x400005b s (execLogReadSelect req seq s) := by
  unfold execLogReadSelect
  exact State.writingValue_kept (hk := fun _ _ => Kept.trans (by exact Kept.up (Kept.upd (m := 0x40) id id)) ((State.accept_kept ..).up)) ..

theorem execFirmwareCheckAndWrite_kept (req : Nat) (image : FirmwareImage) (checks : FirmwareChecks) (s : State) : OutKept 0x400007b s (execFirmwareCheckAndWrite req image checks s) := by
  unfold execFirmwareCheckAndWrite
  exact State.firmwareCommand_kept (hk := fun _ => (State.checkFirmware_kept ..).up) ..

end Sys2Proof.Machine
end

