-- ==== Sys2Proof/Laws/KeptDictionary.lean ====
section
/-! SUPPORT. What the operations of Machine/Dictionary.lean keep. -/

set_option Elab.async false

namespace Sys2Proof.Machine

theorem State.mirrorInvalid_kept (s : State) (req : Nat) (key : Nat) : Kept 0x49 s (State.mirrorInvalid s req key) := by
  unfold State.mirrorInvalid
  exact Kept.trans (by exact (State.logAs_quiet ..).up) ((State.reply_kept ..).up)

theorem after_kept {m : Nat} (o : State → Host.Outcome State Fault Refusal) (s : State) (hm : 0x0 ||| m = m := by decide)
    (ho : ∀ s, OutKept m s (o s)) : Kept m s (after o s) := by
  have h := ho s
  unfold after
  split
  · rename_i e; rw [e] at h; exact h
  · exact Kept.refl _

theorem latchingRead_kept (req key : Nat) (c : State → Host.Outcome State Fault Refusal) (h : latchingRead req key = some c) :
    ∀ s, OutKept 0x1000040010cb s (c s) := by
  unfold latchingRead at h
  repeat' split at h
  all_goals cases h
  · exact fun s => (execCycleCountRead_kept req s).up
  · exact fun s => (execBoundaryRecordRead_kept req s).up
  · exact fun s => (execTimeRead_kept req s).up

theorem State.readEntry_kept (s : State) (req key : Nat) : Kept 0x1000040010cb s (s.readEntry req key) := by
  unfold State.readEntry
  split
  · exact after_kept _ _ (ho := latchingRead_kept _ _ _ ‹_›)
  · exact State.reading_kept (hk := fun _ => (State.reply_kept ..).up) ..

theorem State.mirrorRead_kept (s : State) (req : Nat) (offset : Nat) (width : Nat) : Kept 0x1000040010cb s (State.mirrorRead s req offset width) := by
  unfold State.mirrorRead
  exact State.reaching_kept (hk := fun _ => Kept.ite ((State.mirrorInvalid_kept ..).up) (Kept.ite ((State.reply_kept ..).up) ((State.readEntry_kept ..).up))) ..

theorem State.badSheetCommand_kept (s : State) (req : Nat) (v : Nat) : Kept 0x400005b s (State.badSheetCommand s req v) := by
  unfold State.badSheetCommand
  exact State.reaching_kept (hk := fun _ => Kept.ite ((State.holdWrite_kept ..).up) ((State.refuse_kept ..).up)) ..

theorem recordCommand_kept (req : Nat) (bs : List Byte) (s : State) : OutKept 0x10000c0620045b s (recordCommand req bs s) := by
  unfold recordCommand
  split
  · exact (execDebugLevelRaise_kept ..).up
  · split
    · exact (execRevokeDigest_kept ..).up
    · exact (execLifeCycleChange_kept ..).up

theorem State.clearBits_kept (s : State) (key : Nat) (v : Nat) : Kept 0x202 s (State.clearBits s key v) := by
  unfold State.clearBits
  exact Kept.ite ((State.withRst_kept (m := 0x200) ..).up) ((State.putEntry_kept ..).up)

theorem State.settingDone_kept (s : State) (key : Nat) (old : Nat) (v : Nat) : Kept 0x10100701291042 s (State.settingDone s key old v) := by
  unfold State.settingDone
  exact Kept.ite ((State.demandChanged_kept ..).up) (Kept.ite ((State.ptpChanged_kept ..).up) (Kept.ite ((State.controlWritten_kept ..).up) (Kept.ite ((State.controlWritten_kept ..).up) (Kept.ite (Kept.ite (Kept.trans (by exact Kept.ite ((State.resetPort_kept ..).up) (Kept.refl _)) ((State.chooseSource_kept ..).up)) (Kept.ite ((State.chooseSource_kept ..).up) (Kept.refl _))) (Kept.ite (Kept.ite ((State.restartPattern_kept ..).up) (Kept.ite ((State.putEntry_kept ..).up) (Kept.refl _))) (Kept.ite ((State.restartUnit_kept ..).up) (Kept.refl _)))))))

theorem State.storeSetting_kept (s : State) (key : Nat) (v : Nat) : Kept 0x10100701291042 s (State.storeSetting s key v) := by
  unfold State.storeSetting
  exact Kept.trans (by exact Kept.ite (State.repin_kept (hf := fun _ => (State.putEntry_kept ..).up) ..) ((State.putEntry_kept ..).up)) ((State.settingDone_kept ..).up)

theorem State.writeSetting_kept (s : State) (req : Nat) (key : Nat) (v : Nat) : Kept 0x10100705a9125b s (State.writeSetting s req key v) := by
  unfold State.writeSetting
  exact State.writingValue_kept (hk := fun _ _ => Kept.ite (Kept.trans (by exact Kept.up (Kept.upd (m := 0x800000) id id)) ((State.accept_kept ..).up)) (Kept.ite (Kept.trans (by exact (State.clearBits_kept ..).up) ((State.accept_kept ..).up)) (Kept.ite (Kept.trans (by exact (State.storeSetting_kept ..).up) ((State.accept_kept ..).up)) ((State.refuse_kept ..).up)))) ..

theorem State.badCommand_kept (s : State) (req : Nat) (key : Nat) (v : Nat) : Kept 0x400005b s (State.badCommand s req key v) := by
  unfold State.badCommand
  exact State.writing_kept (hk := fun _ => (State.refuse_kept ..).up) ..

/-- Every state that a command leaves is kept. -/
def CmdKept (c : State → Host.Outcome State Fault Refusal) : Prop := ∀ s, OutKept 0x1ffdfffffffffff7ff s (c s)

theorem CmdKept.of {a : Nat} {c : State → Host.Outcome State Fault Refusal} (h : ∀ s, OutKept a s (c s))
    (hm : a ||| 0x1ffdfffffffffff7ff = 0x1ffdfffffffffff7ff := by decide) : CmdKept c := fun s => (h s).up hm

/-- So for the command that a write names, if any. -/
def WriteKind.Kept : WriteKind → Prop
  | .command c => CmdKept c
  | .setting => True
  | .unlisted => True

theorem WriteKind.of_kept {o : Option (State → Host.Outcome State Fault Refusal)} (h : ∀ c, o = some c → CmdKept c) :
    (WriteKind.of o).Kept := by
  cases o with
  | none => trivial
  | some c => exact h c rfl

theorem listed_kept {l : List (State → Host.Outcome State Fault Refusal)} (v : Nat) (h : ∀ c ∈ l, CmdKept c) :
    (WriteKind.of (listed l v)).Kept := by
  refine WriteKind.of_kept fun c hc => ?_
  unfold listed at hc
  split at hc
  · cases hc
  · exact h c (List.mem_of_getElem? hc)

theorem only_kept (x v : Nat) {c : State → Host.Outcome State Fault Refusal} (h : CmdKept c) : (WriteKind.of (only x v c)).Kept := by
  refine WriteKind.of_kept fun d hd => ?_
  unfold only at hd
  split at hd
  · cases hd; exact h
  · cases hd

theorem if_kept {p : Prop} [Decidable p] {a b : WriteKind} (h : a.Kept) (k : b.Kept) : (if p then a else b).Kept := by
  split <;> assumption

theorem blockCommand_kept (req v : Nat) : (WriteKind.of (blockCommand req v)).Kept := by
  refine WriteKind.of_kept fun c hc => ?_
  unfold blockCommand at hc
  repeat' split at hc
  all_goals cases hc
  all_goals intro s
  · exact (execBlockResetCore_kept ..).up
  · exact (execBlockResetBridgeEngine_kept ..).up
  · exact (execBlockResetTriggerEngine_kept ..).up
  · exact (execBlockResetEthernetPort_kept ..).up

theorem CmdKept.nil : ∀ c ∈ ([] : List (State → Host.Outcome State Fault Refusal)), CmdKept c := fun _ h => nomatch h

theorem CmdKept.cons {d : State → Host.Outcome State Fault Refusal} {l} (h : CmdKept d) (k : ∀ c ∈ l, CmdKept c) :
    ∀ c ∈ d :: l, CmdKept c := fun c hc => by
  cases hc with
  | head => exact h
  | tail _ hc => exact k c hc

theorem State.runCommands_kept (s : State) (req : Nat) : ∀ c ∈ s.runCommands req, CmdKept c :=
  .cons (CmdKept.of (execRun_kept req)) <| .cons (CmdKept.of (execRunAt_kept req)) <| .cons (CmdKept.of (execStep_kept req)) <| .cons (CmdKept.of (execHold_kept req _)) <|
    .cons (CmdKept.of (execPark_kept req)) <| .cons (CmdKept.of (execService_kept req)) <| .cons (CmdKept.of (execLeave_kept req)) <| .cons (CmdKept.of (execStandby_kept req)) <|
    .cons (CmdKept.of (execDormant_kept req)) <| .cons (CmdKept.of (execWake_kept req)) <| .cons (CmdKept.of (execCancel_kept req)) .nil

theorem State.sheetCommands_kept (s : State) (req : Nat) : ∀ c ∈ s.sheetCommands req, CmdKept c :=
  .cons (CmdKept.of (execSave_kept req)) <| .cons (CmdKept.of (execRestore_kept req _)) <| .cons (CmdKept.of (execDiscard_kept req)) <| .cons (CmdKept.of (execAdopt_kept req)) .nil

theorem State.commandsLow_kept (s : State) (req key v : Nat) : (s.commandsLow req key v).Kept := by
  unfold State.commandsLow
  dsimp only
  refine if_kept (only_kept _ _ (CmdKept.of (execStoreParameters_kept req))) <| if_kept (only_kept _ _ (CmdKept.of (execRestoreDefaults_kept req))) <|
    if_kept (listed_kept _ (s.runCommands_kept req)) <| if_kept ?_ <|
    if_kept (CmdKept.of (execMarkControlWrite_kept req v)) <|
    if_kept (listed_kept _ (.cons (CmdKept.of (execResetRequestCore_kept req)) <| .cons (CmdKept.of (execResetRequestSys_kept req)) .nil)) <|
    if_kept (only_kept _ _ (CmdKept.of (execWatchdogRefresh_kept req))) <| if_kept (blockCommand_kept req v) <|
    if_kept (only_kept _ _ (CmdKept.of (execSetTimeCommand_kept req))) <| if_kept ?_ <| if_kept (CmdKept.of (execDmaCommand_kept req v)) <|
    if_kept (only_kept _ _ (CmdKept.of (execLoadAbort_kept req))) <| if_kept (CmdKept.of (execFixerEnableWrite_kept req v)) <|
    if_kept (CmdKept.of (execDebugLevelLower_kept req v)) <| if_kept (CmdKept.of (execRightsLockWrite_kept req)) <| if_kept ?_ trivial
  · split
    · rename_i c hc
      have h := listed_kept v (s.sheetCommands_kept req)
      rw [hc] at h
      exact h
    · exact fun t => (State.badSheetCommand_kept t req v).up
  · exact fun t => by split <;> first | exact (execPulseArm_kept ..).up | exact (execPulseStop_kept ..).up
  · exact fun t => State.writing_kept (hk := fun u => (State.accept_kept u).up) ..

theorem State.commandsMiddle_kept (s : State) (req key v : Nat) : (s.commandsMiddle req key v).Kept := by
  unfold State.commandsMiddle
  dsimp only
  exact if_kept (CmdKept.of (execPinConfigWrite_kept req _ v)) <| if_kept (CmdKept.of (execPinRelease_kept req _ v)) <|
    if_kept (only_kept _ _ (CmdKept.of (execSafeCommand_kept req))) <| if_kept (CmdKept.of (execProbeSelectWrite_kept req _ v)) <|
    if_kept (only_kept _ _ (CmdKept.of (execEdgeCountClear_kept req _))) <|
    if_kept (listed_kept _ (.cons (CmdKept.of (execLaneBringUp_kept req _)) <| .cons (CmdKept.of (execLaneDarkCommand_kept req _)) .nil)) <|
    if_kept (only_kept _ _ (CmdKept.of (execLaneBitSlip_kept req _ _))) <|
    if_kept (listed_kept _ (.cons (CmdKept.of (execSamplerArm_kept req _)) <| .cons (CmdKept.of (execSamplerDisarm_kept req _)) <|
      .cons (CmdKept.of (execSamplerForceTrigger_kept req _)) .nil)) <|
    if_kept (CmdKept.of (execStreamReadPointerWrite_kept req _ v)) <| if_kept (CmdKept.of (execTraceEnableWrite_kept req v)) <|
    if_kept (CmdKept.of (execBlotterReadPointerWrite_kept req v)) trivial

theorem State.commandsHigh_kept (s : State) (req key v : Nat) : (s.commandsHigh req key v).Kept := by
  unfold State.commandsHigh
  dsimp only
  exact if_kept (CmdKept.of (execHostEvent_kept req v)) <| if_kept (CmdKept.of (execCoreReleaseWrite_kept req v)) <|
    if_kept (only_kept _ _ (CmdKept.of (execBundleRetrain_kept req))) <|
    if_kept (listed_kept _ (.cons (CmdKept.of (execMarchDestructiveOnDie_kept req)) <| .cons (CmdKept.of (execMarchDestructiveAll_kept req)) <|
      .cons (CmdKept.of (execMarchPreservingOnDie_kept req)) <| .cons (CmdKept.of (execMarchPreservingAll_kept req)) .nil)) <|
    if_kept (CmdKept.of (execLogReadSelect_kept req v)) <|
    if_kept (listed_kept _ (.cons (CmdKept.of (execFirmwareCheckAndWrite_kept req _ _)) <| .cons (CmdKept.of (execFirmwareActivate_kept req)) .nil)) <|
    if_kept (only_kept _ _ (CmdKept.of (execRemoteCacheFlush_kept req _))) <| if_kept (CmdKept.of (execGuestPowerEnableWrite_kept req v)) <|
    if_kept (CmdKept.of (execGuestWindowWrite_kept req _ _ v)) <| if_kept (only_kept _ _ (CmdKept.of (execChannelDestroy_kept req))) <|
    if_kept (only_kept _ _ (CmdKept.of (execFaultAcknowledge_kept req))) <| if_kept (only_kept _ _ (CmdKept.of (execAuditCommand_kept req))) trivial

theorem State.writeKind_kept (s : State) (req key v : Nat) : (s.writeKind req key v).Kept := by
  unfold State.writeKind
  exact if_kept (s.commandsLow_kept ..) <| if_kept (s.commandsMiddle_kept ..) (s.commandsHigh_kept ..)

theorem State.writeEntry_kept (s : State) (req key v : Nat) : Kept 0x1ffdfffffffffff7ff s (s.writeEntry req key v) := by
  unfold State.writeEntry
  have h := s.writeKind_kept req key (narrowed key v)
  split
  · exact State.reaching_kept (hk := fun _ => (State.refuse_kept ..).up) ..
  · split
    · exact (State.writeSetting_kept ..).up
    · rename_i e; rw [e] at h; exact after_kept _ _ (ho := h)
    · exact (State.badCommand_kept ..).up

theorem keyCommand_kept (req : Nat) (bs : List Byte) (s : State) : OutKept 0x40620045b s (keyCommand req bs s) := by
  unfold keyCommand
  split
  · exact (execKeyErase_kept ..).up
  · exact (execKeyLoad_kept ..).up

theorem State.writeDomain_kept (s : State) (req : Nat) (key : Nat) (bs : List Byte) : Kept 0x10000c4620045b s (State.writeDomain s req key bs) := by
  unfold State.writeDomain
  exact Kept.ite (after_kept (ho := fun _ => (execSheetHeaderWrite_kept ..).up) ..) (Kept.ite (after_kept (ho := fun _ => (recordCommand_kept ..).up) ..) (Kept.ite (after_kept (ho := fun _ => (execProvision_kept ..).up) ..) (Kept.ite (after_kept (ho := fun _ => (keyCommand_kept ..).up) ..) (Kept.ite (after_kept (ho := fun _ => (execAttestRequest_kept ..).up) ..) (Kept.ite (after_kept (ho := fun _ => (execRightsTableWrite_kept ..).up) ..) ((State.badCommand_kept ..).up))))))

theorem State.writeBytesTo_kept (s : State) (req : Nat) (key : Nat) (bs : List Byte) : Kept 0x1ffdfffffffffff7ff s (State.writeBytesTo s req key bs) := by
  unfold State.writeBytesTo
  exact by (try dsimp only); split; exact (State.reaching_kept (hk := fun _ => (State.refuse_kept ..).up) ..); exact (Kept.ite (Kept.ite ((State.writeEntry_kept ..).up) ((State.badCommand_kept ..).up)) ((State.writeDomain_kept ..).up))

theorem State.mirrorWrite_kept (s : State) (req : Nat) (offset : Nat) (width : Nat) (v : Nat) : Kept 0x1ffdfffffffffff7ff s (State.mirrorWrite s req offset width v) := by
  unfold State.mirrorWrite
  exact State.reaching_kept (hk := fun _ => Kept.ite ((State.mirrorInvalid_kept ..).up) (Kept.ite ((State.refuse_kept ..).up) (Kept.ite ((State.holdWrite_kept ..).up) ((State.writeEntry_kept ..).up)))) ..

theorem execDictionaryWrite_kept (req : Nat) (offset : Nat) (width : Nat) (value : Nat) (s : State) : OutKept 0x1ffdfffffffffff7ff s (execDictionaryWrite req offset width value s) := by
  unfold execDictionaryWrite
  exact (State.mirrorWrite_kept ..).up

end Sys2Proof.Machine
end

