-- ==== Sys2Proof/Laws/KeptCan.lean ====
section
/-! SUPPORT. What the operations of Machine/Can.lean keep. -/

set_option Elab.async false

namespace Sys2Proof.Machine

theorem State.sdoAborted_kept (s : State) : Kept 0x19 s (State.sdoAborted s) := by
  unfold State.sdoAborted
  exact Kept.trans (by exact (State.send_kept ..).up) ((State.reply_kept ..).up)

theorem State.withCan_kept (s : State) (f : Can → Can) : Kept 0x10 s (State.withCan s f) := by
  unfold State.withCan
  exact Kept.up (Kept.upd (m := 0x10) id id)

theorem State.performHeld_kept (s : State) (h : Nat × Nat × Nat) : Kept 0x1ffdfffffffffff7ff s (State.performHeld s h) := by
  unfold State.performHeld
  exact Kept.trans (by exact Kept.trans (by exact (State.writeEntry_kept ..).up) ((State.complete_kept ..).up)) (Kept.up (Kept.upd (m := 0x1) id id))

theorem State.releaseHeld_kept (s : State) : Kept 0x1ffdfffffffffff7ff s (State.releaseHeld s) := by
  unfold State.releaseHeld
  exact Kept.foldl (fun _ _ => (State.performHeld_kept ..).up) ((State.withCan_kept ..).up)

theorem State.endTransfer_kept (s : State) : Kept 0x1ffdfffffffffff7ff s (State.endTransfer s) := by
  unfold State.endTransfer
  exact Kept.trans (by exact (State.withCan_kept ..).up) ((State.releaseHeld_kept ..).up)

theorem State.reloadCommunication_kept (s : State) : Kept 0x2 s (State.reloadCommunication s) := by
  unfold State.reloadCommunication
  exact Kept.foldl (fun _ _ => Kept.ite ((State.putEntry_kept ..).up) (Kept.refl _)) (Kept.up (Kept.upd (m := 0x2) id id))

theorem execNmtResetCommunication_kept (node : Nat) (s : State) : OutKept 0x1ffdfffffffffff7ff s (execNmtResetCommunication node s) := by
  unfold execNmtResetCommunication
  exact Kept.ite (Kept.trans (by exact Kept.trans (by exact Kept.trans (by exact (State.wakeClock_kept ..).up) ((State.endTransfer_kept ..).up)) ((State.reloadCommunication_kept ..).up)) ((State.startCan_kept ..).up)) (Kept.refl _)

theorem execNmtStop_kept (node : Nat) (s : State) : OutKept 0x1ffdfffffffffff7ff s (execNmtStop node s) := by
  unfold execNmtStop
  exact Kept.ite (Kept.trans (by exact Kept.trans (by exact (State.wakeClock_kept ..).up) ((State.endTransfer_kept ..).up)) ((State.withCan_kept ..).up)) (Kept.refl _)

theorem State.takeMapped_kept (s : State) (l : List (Nat × Nat)) (data : Nat) : Kept 0x1ffdfffffffffff7ff s (s.takeMapped l data) := by
  induction l generalizing s data with
  | nil => exact Kept.refl _
  | cons b bs ih => exact Kept.trans ((State.writeEntry_kept ..).up) (ih _ _)

theorem execNmtEnterPreoperational_kept (node : Nat) (s : State) : OutKept 0x18 s (execNmtEnterPreoperational node s) := by
  unfold execNmtEnterPreoperational
  exact Kept.ite (Kept.trans (by exact (State.wakeClock_kept ..).up) ((State.withCan_kept ..).up)) (Kept.refl _)

theorem State.upload_kept (s : State) (key : Nat) : Kept 0x1000040010db s (State.upload s key) := by
  unfold State.upload
  exact Kept.ite ((State.sdoAborted_kept ..).up) (by (try dsimp only); split; exact (Kept.trans (by exact (State.readEntry_kept ..).up) ((State.send_kept ..).up)); exact (Kept.trans (by exact (State.readEntry_kept ..).up) ((State.send_kept ..).up)))

theorem State.download_kept (s : State) (key : Nat) (bs : List Byte) : Kept 0x1ffdfffffffffff7ff s (State.download s key bs) := by
  unfold State.download
  exact by (try dsimp only); split; exact (Kept.trans (by exact (State.writeBytesTo_kept ..).up) ((State.send_kept ..).up)); exact (Kept.trans (by exact (State.writeBytesTo_kept ..).up) ((State.send_kept ..).up))

theorem State.beginTransfer_kept (s : State) (key : Nat) (isDownload : Bool) : Kept 0x1ffdfffffffffff7ff s (State.beginTransfer s key isDownload) := by
  unfold State.beginTransfer
  exact Kept.ite (Kept.ite (Kept.trans (by exact (State.endTransfer_kept ..).up) ((State.download_kept ..).up)) (Kept.trans (by exact (State.endTransfer_kept ..).up) ((State.sdoAborted_kept ..).up))) (Kept.ite (Kept.trans (by exact (State.endTransfer_kept ..).up) ((State.withCan_kept ..).up)) (by (try dsimp only); split; exact (Kept.trans (by exact Kept.trans (by exact (State.endTransfer_kept ..).up) ((State.readEntry_kept ..).up)) ((State.withCan_kept ..).up)); exact (Kept.trans (by exact Kept.trans (by exact (State.endTransfer_kept ..).up) ((State.readEntry_kept ..).up)) ((State.send_kept ..).up))))

theorem State.finishTransfer_kept (s : State) (bs : List Byte) : Kept 0x1ffdfffffffffff7ff s (State.finishTransfer s bs) := by
  unfold State.finishTransfer
  exact by (try dsimp only); split; exact ((State.sdoAborted_kept ..).up); exact (Kept.trans (by exact Kept.ite ((State.download_kept ..).up) ((State.send_kept ..).up)) ((State.endTransfer_kept ..).up))

theorem execSdoTransfer_kept (op : SdoOp) (s : State) : OutKept 0x1ffdfffffffffff7ff s (execSdoTransfer op s) := by
  unfold execSdoTransfer
  exact Kept.ite (Kept.refl _) (by (try dsimp only); split; exact (Kept.trans (by exact Kept.trans (by exact (State.wakeClock_kept ..).up) ((State.endTransfer_kept ..).up)) ((State.upload_kept ..).up)); exact (Kept.trans (by exact Kept.trans (by exact (State.wakeClock_kept ..).up) ((State.endTransfer_kept ..).up)) ((State.download_kept ..).up)); exact (Kept.trans (by exact (State.wakeClock_kept ..).up) ((State.beginTransfer_kept ..).up)); exact (Kept.trans (by exact (State.wakeClock_kept ..).up) ((State.beginTransfer_kept ..).up)); exact (Kept.trans (by exact (State.wakeClock_kept ..).up) ((State.finishTransfer_kept ..).up)); exact (Kept.trans (by exact (State.wakeClock_kept ..).up) ((State.endTransfer_kept ..).up)))

theorem execRpdoReceived_kept (n : Nat) (data : Nat) (s : State) : OutKept 0x1ffdfffffffffff7ff s (execRpdoReceived n data s) := by
  unfold execRpdoReceived
  exact Kept.ite (Kept.refl _) (Kept.trans (by exact (State.wakeClock_kept ..).up) ((State.takeMapped_kept ..).up))

theorem State.sendTpdo_kept (s : State) (n : Nat) : Kept 0x10 s (State.sendTpdo s n) := by
  unfold State.sendTpdo
  exact Kept.ite (Kept.refl _) ((State.send_kept ..).up)

theorem execCanopenSyncReceived_kept (s : State) : OutKept 0x10 s (execCanopenSyncReceived s) := by
  unfold execCanopenSyncReceived
  exact Kept.ite (Kept.refl _) (Kept.foldl (fun _ _ => Kept.ite ((State.sendTpdo_kept ..).up) (Kept.refl _)) ((State.withCan_kept ..).up))

theorem execNmtStart_kept (node : Nat) (s : State) : OutKept 0x18 s (execNmtStart node s) := by
  unfold execNmtStart
  exact Kept.ite (Kept.trans (by exact (State.wakeClock_kept ..).up) ((State.withCan_kept ..).up)) (Kept.refl _)

end Sys2Proof.Machine
end

