-- ==== Sys2Proof/Laws/KeptSystem.lean ====
section
/-! SUPPORT. What the operations of Machine/System.lean keep. -/

set_option Elab.async false

namespace Sys2Proof.Machine

theorem State.checkedSystem_kept {m : Nat} (s : State) (a : SysAccess) (k : State → State) (hm : 0x400004b ||| m = m := by decide) (hk : ∀ a0, Kept m a0 (k a0)) : Kept m s (State.checkedSystem s a k) := by
  unfold State.checkedSystem
  exact Kept.ite ((State.reply_kept ..).up2 hm) (Kept.ite (hk ..) ((State.denied_kept ..).up2 hm))

theorem State.dieAccess_kept (s : State) (a : SysAccess) : Kept 0x1ffc6ffffc0420004b s (State.dieAccess s a) := by
  unfold State.dieAccess
  exact (State.windowAccess_kept ..).up

theorem State.routeRequest_kept (s : State) (a : SysAccess) (o : StopOwner) : Kept 0x10000009 s (State.routeRequest s a o) := by
  unfold State.routeRequest
  exact by (try dsimp only); split; exact ((State.reply_kept ..).up); exact (Kept.trans (by exact (State.inject_kept ..).up) ((State.reply_kept ..).up))

theorem State.captureAccess_kept (s : State) (a : SysAccess) : Kept 0x1000000400004b s (State.captureAccess s a) := by
  unfold State.captureAccess
  exact State.atLevel_kept (hk := fun _ => Kept.ite ((State.reply_kept ..).up) ((State.moveBytes_kept ..).up)) ..

theorem State.dictAccess_kept (s : State) (a : SysAccess) : Kept 0x1ffdfffffffffff7ff s (State.dictAccess s a) := by
  unfold State.dictAccess
  exact Kept.ite ((State.mirrorWrite_kept ..).up) ((State.mirrorRead_kept ..).up)

theorem State.sendGuest_kept (s : State) (a : SysAccess) : Kept 0x10000009 s (State.sendGuest s a) := by
  unfold State.sendGuest
  exact Kept.trans (by exact (State.withRings_kept ..).up) ((State.reply_kept ..).up)

theorem State.guestTarget_kept (s : State) (a : SysAccess) : Kept 0x1000000b s (State.guestTarget s a) := by
  unfold State.guestTarget
  exact Kept.ite (Kept.trans (by exact (State.holdFor_kept ..).up) ((State.reply_kept ..).up)) ((State.sendGuest_kept ..).up)

theorem State.systemTarget_kept (s : State) (a : SysAccess) : Kept 0x1ffdfffffffffff7ff s (State.systemTarget s a) := by
  unfold State.systemTarget
  exact Kept.ite ((State.unmapped_kept ..).up) (Kept.ite ((State.reply_kept ..).up) (Kept.ite ((State.captureAccess_kept ..).up) (Kept.ite ((State.dictAccess_kept ..).up) (Kept.ite ((State.dieAccess_kept ..).up) (Kept.ite ((State.guestTarget_kept ..).up) ((State.memoryAccess_kept ..).up))))))

theorem State.systemAccess_kept (s : State) (a : SysAccess) : Kept 0x1ffdfffffffffff7ff s (State.systemAccess s a) := by
  unfold State.systemAccess
  exact State.checkedSystem_kept (hk := fun _ => by (try dsimp only); split; exact ((State.systemTarget_kept ..).up); exact (Kept.ite ((State.routeRequest_kept ..).up) ((State.systemTarget_kept ..).up))) ..

theorem State.debugAccess_kept (s : State) (op : AccessOp) (address : Nat) (data : Nat) : Kept 0x1ffdfffffffffff7ff s (State.debugAccess s op address data) := by
  unfold State.debugAccess
  exact Kept.ite (Kept.trans (by exact (State.withSec_kept (m := 0x2000000) ..).up) ((State.withSec_kept (m := 0x2000000) ..).up)) (Kept.ite (Kept.trans (by exact Kept.trans (by exact (State.withSec_kept (m := 0x2000000) ..).up) ((State.systemAccess_kept ..).up)) ((State.capture_kept ..).up)) (Kept.trans (by exact Kept.trans (by exact Kept.trans (by exact (State.withSec_kept (m := 0x2000000) ..).up) ((State.systemAccess_kept ..).up)) ((State.capture_kept ..).up)) ((State.withSec_kept (m := 0x2000000) ..).up)))

theorem execDbgaccRead_kept (address : Nat) (s : State) : OutKept 0x1ffdfffffffffff7ff s (execDbgaccRead address s) := by
  unfold execDbgaccRead
  exact Kept.ite ((State.debugAccess_kept ..).up) (Kept.refl _)

theorem execDbgaccWrite_kept (address : Nat) (data : Nat) (s : State) : OutKept 0x1ffdfffffffffff7ff s (execDbgaccWrite address data s) := by
  unfold execDbgaccWrite
  exact Kept.ite ((State.debugAccess_kept ..).up) (Kept.refl _)

theorem execSystemClassAccess_kept (access : SysAccess) (s : State) : OutKept 0x1ffdfffffffffff7ff s (execSystemClassAccess access s) := by
  unfold execSystemClassAccess
  exact Kept.ite ((State.systemAccess_kept ..).up) (Kept.refl _)

end Sys2Proof.Machine
end

