-- ==== Sys2Proof/Laws/KeptPackets.lean ====
section
/-! SUPPORT. What the operations of Machine/Packets.lean keep. -/

set_option Elab.async false

namespace Sys2Proof.Machine

theorem State.present_kept (s : State) (ring : Nat) (stop : Nat) (p : RingPacket) : Kept 0x10000000 s (State.present s ring stop p).1 := by
  unfold State.present
  exact by (try dsimp only); split; exact (Kept.refl _); exact (by (try dsimp only); split; exact ((State.inject_kept ..).up); exact (Kept.refl _))

theorem State.serveRequest_kept (s : State) (stop : Nat) (p : RingPacket) : Kept 0x1ffdfffffffffff7ff s (State.serveRequest s stop p) := by
  unfold State.serveRequest
  exact Kept.trans (by exact Kept.ite (Kept.trans (by exact State.checkedSystem_kept (hk := fun _ => (State.systemTarget_kept ..).up) ..) ((State.withRings_kept ..).up)) (Kept.trans (by exact State.checkedSystem_kept (hk := fun _ => (State.systemTarget_kept ..).up) ..) ((State.sendAnswer_kept ..).up))) (Kept.up (Kept.upd (m := 0x1) id id))

theorem State.deliver_kept (s : State) (stop : Nat) (p : RingPacket) : Kept 0x1ffdfffffffffff7ff s (State.deliver s stop p) := by
  unfold State.deliver
  exact Kept.ite (Kept.trans (by exact (State.withRings_kept ..).up) ((State.answered_kept ..).up)) (Kept.ite (Kept.trans (by exact (State.withRings_kept ..).up) ((State.serveRequest_kept ..).up)) ((State.withRings_kept ..).up))

theorem State.performHeldAccess_kept (s : State) (d : Nat) (a : SysAccess) : Kept 0x1010079e2144db s (State.performHeldAccess s d a) := by
  unfold State.performHeldAccess
  exact Kept.trans (by exact Kept.ite (Kept.ite ((State.sendGuest_kept ..).up) ((State.performMemory_kept ..).up)) (Kept.trans (by exact Kept.ite ((State.sendGuest_kept ..).up) ((State.performMemory_kept ..).up)) ((State.complete_kept ..).up))) (Kept.up (Kept.upd (m := 0x1) id id))

theorem State.deliverHeld_kept (d : Nat) (s : State) (x2 : Held) : Kept 0x1ffdfffffffffff7ff s (State.deliverHeld d s x2) := by
  unfold State.deliverHeld
  exact by (try dsimp only); split; exact ((State.deliver_kept ..).up); exact ((State.performHeldAccess_kept ..).up)

theorem State.awaken_kept (s : State) (d : Nat) : Kept 0x30000000 s (State.awaken s d) := by
  unfold State.awaken
  exact Kept.ite (Kept.trans (by exact (State.withRings_kept ..).up) ((State.withGuest_kept ..).up)) ((State.withRings_kept ..).up)

theorem execDomainWakeAnswer_kept (domain : Nat) (s : State) : OutKept 0x1ffdfffffffffff7ff s (execDomainWakeAnswer domain s) := by
  unfold execDomainWakeAnswer
  exact Kept.ite (Kept.refl _) (Kept.foldl (fun _ _ => (State.deliverHeld_kept ..).up) ((State.awaken_kept ..).up))

theorem State.eject_kept (s : State) (stop : Nat) (o : StopOwner) (p : RingPacket) : Kept 0x1ffdfffffffffff7ff s (State.eject s stop o p) := by
  unfold State.eject
  exact Kept.ite (Kept.ite (Kept.trans (by exact (State.poweredOff_kept ..).up) ((State.sendAnswer_kept ..).up)) ((State.poweredOff_kept ..).up)) (by (try dsimp only); split; exact (Kept.ite ((State.holdFor_kept ..).up) ((State.deliver_kept ..).up)); exact ((State.deliver_kept ..).up))

theorem State.passStop_kept (s : State) (n : Nat) (o : StopOwner) (x : Transit) (flips : Nat) : Kept 0x1ffdfffffffffff7ff s (State.passStop s n o x flips) := by
  unfold State.passStop
  exact Kept.ite (Kept.refl _) (Kept.ite ((State.discardPacket_kept ..).up) (Kept.ite (Kept.trans (by exact Kept.trans (by exact Kept.ite ((State.bump_kept ..).up) (Kept.refl _)) ((State.leaveStop_kept ..).up)) ((State.eject_kept ..).up)) (Kept.ite (Kept.trans (by exact Kept.trans (by exact Kept.ite ((State.bump_kept ..).up) (Kept.refl _)) ((State.carry_kept ..).up)) ((State.countEvent_kept ..).up)) (Kept.refl _))))

theorem execRingPacket_kept (ring stop : Nat) (arrival : RingArrival) (s : State) :
    OutKept 0x1ffdfffffffffff7ff s (execRingPacket ring stop arrival s) := by
  have h := State.present_kept s ring stop (packetSent arrival.packet)
  unfold execRingPacket
  dsimp only
  split
  · exact Kept.refl _
  · split
    · exact Kept.refl _
    · split
      · rename_i e; rw [e] at h; exact h.up.trans ((State.passStop_kept ..).up)
      · rename_i e; rw [e] at h; exact h.up

end Sys2Proof.Machine
end

