-- ==== Sys2Proof/Laws/KeptIdle.lean ====
section
/-! SUPPORT. What the operations of Machine/Idle.lean keep. -/

set_option Elab.async false

namespace Sys2Proof.Machine

theorem State.endCoreRecovery_kept (s : State) : Kept 0x240 s (State.endCoreRecovery s) := by
  unfold State.endCoreRecovery
  exact Kept.ite (Kept.trans (by exact (State.withRst_kept (m := 0x200) ..).up) ((State.endFaults_kept ..).up)) (Kept.refl _)

theorem State.tickClocks_kept (s : State) : Kept 0x1001000 s (State.tickClocks s) := by
  unfold State.tickClocks
  exact Kept.ite (Kept.refl _) (Kept.up (Kept.upd (m := 0x1001000) id id))

theorem State.tickWatchdog_kept (s : State) : Kept 0x1fffd7fffffffffffe s (State.tickWatchdog s) := by
  unfold State.tickWatchdog
  exact Kept.ite (Kept.refl _) (Kept.ite ((State.withRst_kept (m := 0x200) ..).up) (Kept.trans (by exact (State.withRst_kept (m := 0x200) ..).up) (after_kept (ho := fun _ => (execWatchdogExpiry_kept ..).up) ..)))

theorem State.tickIo_kept (s : State) : Kept 0x20010100700291142 s (State.tickIo s) := by
  unfold State.tickIo
  exact Kept.ite (Kept.trans (by exact Kept.trans (by exact Kept.trans (by exact (State.withTime_kept ..).up) ((State.countEvent_kept ..).up)) ((State.ioEdge_kept ..).up)) ((State.fixerEdge_kept ..).up)) (Kept.refl _)

theorem State.tick_kept (s : State) : Kept 0x1fffd7ffffffffffff s (State.tick s) := by
  unfold State.tick
  exact Kept.ite (Kept.refl _) (Kept.trans (by exact Kept.trans (by exact Kept.trans (by exact Kept.trans (by exact Kept.trans (by exact Kept.trans (by exact Kept.trans (by exact Kept.up (Kept.upd (m := 0x4) id id)) ((State.tickClocks_kept ..).up)) ((State.guestTick_kept ..).up)) ((State.funnel_kept ..).up)) ((State.tickWatchdog_kept ..).up)) ((State.tickIo_kept ..).up)) ((State.endCoreRecovery_kept ..).up)) ((State.escalateCommit_kept ..).up))

end Sys2Proof.Machine
end

