-- ==== Sys2Proof/Laws/State.lean ====
section
/-! SUPPORT. What the shared updates of the state leave alone, one lemma per field and update; and the settings that a write of one
changes. -/

set_option Elab.async false

namespace Sys2Proof.Machine

@[simp] theorem State.withLog_pending (s : State) (f : Log → Log) : (s.withLog f).pending = s.pending := rfl
@[simp] theorem State.withLog_answer (s : State) (f : Log → Log) : (s.withLog f).answer = s.answer := rfl
@[simp] theorem State.withLog_part (s : State) (f : Log → Log) : (s.withLog f).part = s.part := rfl
@[simp] theorem State.withLog_dict (s : State) (f : Log → Log) : (s.withLog f).dict = s.dict := rfl
@[simp] theorem State.withLog_mgmt (s : State) (f : Log → Log) : (s.withLog f).mgmt = s.mgmt := rfl
@[simp] theorem State.withLog_can (s : State) (f : Log → Log) : (s.withLog f).can = s.can := rfl
@[simp] theorem State.withLog_boot (s : State) (f : Log → Log) : (s.withLog f).boot = s.boot := rfl
@[simp] theorem State.withLog_arr (s : State) (f : Log → Log) : (s.withLog f).arr = s.arr := rfl
@[simp] theorem State.withLog_run (s : State) (f : Log → Log) : (s.withLog f).run = s.run := rfl
@[simp] theorem State.withLog_mem (s : State) (f : Log → Log) : (s.withLog f).mem = s.mem := rfl
@[simp] theorem State.withLog_rst (s : State) (f : Log → Log) : (s.withLog f).rst = s.rst := rfl
@[simp] theorem State.withLog_therm (s : State) (f : Log → Log) : (s.withLog f).therm = s.therm := rfl
@[simp] theorem State.withLog_time (s : State) (f : Log → Log) : (s.withLog f).time = s.time := rfl
@[simp] theorem State.withLog_pulses (s : State) (f : Log → Log) : (s.withLog f).pulses = s.pulses := rfl
@[simp] theorem State.withLog_image (s : State) (f : Log → Log) : (s.withLog f).image = s.image := rfl
@[simp] theorem State.withLog_tokens (s : State) (f : Log → Log) : (s.withLog f).tokens = s.tokens := rfl
@[simp] theorem State.withLog_fixer (s : State) (f : Log → Log) : (s.withLog f).fixer = s.fixer := rfl
@[simp] theorem State.withLog_bundles (s : State) (f : Log → Log) : (s.withLog f).bundles = s.bundles := rfl
@[simp] theorem State.withLog_queueCounts (s : State) (f : Log → Log) : (s.withLog f).queueCounts = s.queueCounts := rfl
@[simp] theorem State.withLog_notices (s : State) (f : Log → Log) : (s.withLog f).notices = s.notices := rfl
@[simp] theorem State.withLog_laneOut (s : State) (f : Log → Log) : (s.withLog f).laneOut = s.laneOut := rfl
@[simp] theorem State.withLog_cores (s : State) (f : Log → Log) : (s.withLog f).cores = s.cores := rfl
@[simp] theorem State.withLog_sched (s : State) (f : Log → Log) : (s.withLog f).sched = s.sched := rfl
@[simp] theorem State.withLog_chan (s : State) (f : Log → Log) : (s.withLog f).chan = s.chan := rfl
@[simp] theorem State.withLog_fabric (s : State) (f : Log → Log) : (s.withLog f).fabric = s.fabric := rfl
@[simp] theorem State.withLog_trace (s : State) (f : Log → Log) : (s.withLog f).trace = s.trace := rfl
@[simp] theorem State.withLog_sec (s : State) (f : Log → Log) : (s.withLog f).sec = s.sec := rfl
@[simp] theorem State.withLog_loader (s : State) (f : Log → Log) : (s.withLog f).loader = s.loader := rfl
@[simp] theorem State.withLog_rings (s : State) (f : Log → Log) : (s.withLog f).rings = s.rings := rfl
@[simp] theorem State.withLog_guest (s : State) (f : Log → Log) : (s.withLog f).guest = s.guest := rfl
@[simp] theorem State.withLog_sheets (s : State) (f : Log → Log) : (s.withLog f).sheets = s.sheets := rfl
@[simp] theorem State.withLog_lanes (s : State) (f : Log → Log) : (s.withLog f).lanes = s.lanes := rfl
@[simp] theorem State.withLog_pins (s : State) (f : Log → Log) : (s.withLog f).pins = s.pins := rfl
@[simp] theorem State.withLog_trig (s : State) (f : Log → Log) : (s.withLog f).trig = s.trig := rfl
@[simp] theorem State.withLog_host (s : State) (f : Log → Log) : (s.withLog f).host = s.host := rfl
@[simp] theorem State.withLog_free (s : State) (f : Log → Log) : (s.withLog f).free = s.free := rfl

@[simp] theorem State.withCan_pending (s : State) (f : Can → Can) : (s.withCan f).pending = s.pending := rfl
@[simp] theorem State.withCan_answer (s : State) (f : Can → Can) : (s.withCan f).answer = s.answer := rfl
@[simp] theorem State.withCan_part (s : State) (f : Can → Can) : (s.withCan f).part = s.part := rfl
@[simp] theorem State.withCan_dict (s : State) (f : Can → Can) : (s.withCan f).dict = s.dict := rfl
@[simp] theorem State.withCan_mgmt (s : State) (f : Can → Can) : (s.withCan f).mgmt = s.mgmt := rfl
@[simp] theorem State.withCan_boot (s : State) (f : Can → Can) : (s.withCan f).boot = s.boot := rfl
@[simp] theorem State.withCan_log (s : State) (f : Can → Can) : (s.withCan f).log = s.log := rfl
@[simp] theorem State.withCan_arr (s : State) (f : Can → Can) : (s.withCan f).arr = s.arr := rfl
@[simp] theorem State.withCan_run (s : State) (f : Can → Can) : (s.withCan f).run = s.run := rfl
@[simp] theorem State.withCan_mem (s : State) (f : Can → Can) : (s.withCan f).mem = s.mem := rfl
@[simp] theorem State.withCan_rst (s : State) (f : Can → Can) : (s.withCan f).rst = s.rst := rfl
@[simp] theorem State.withCan_therm (s : State) (f : Can → Can) : (s.withCan f).therm = s.therm := rfl
@[simp] theorem State.withCan_time (s : State) (f : Can → Can) : (s.withCan f).time = s.time := rfl
@[simp] theorem State.withCan_pulses (s : State) (f : Can → Can) : (s.withCan f).pulses = s.pulses := rfl
@[simp] theorem State.withCan_image (s : State) (f : Can → Can) : (s.withCan f).image = s.image := rfl
@[simp] theorem State.withCan_tokens (s : State) (f : Can → Can) : (s.withCan f).tokens = s.tokens := rfl
@[simp] theorem State.withCan_fixer (s : State) (f : Can → Can) : (s.withCan f).fixer = s.fixer := rfl
@[simp] theorem State.withCan_bundles (s : State) (f : Can → Can) : (s.withCan f).bundles = s.bundles := rfl
@[simp] theorem State.withCan_queueCounts (s : State) (f : Can → Can) : (s.withCan f).queueCounts = s.queueCounts := rfl
@[simp] theorem State.withCan_notices (s : State) (f : Can → Can) : (s.withCan f).notices = s.notices := rfl
@[simp] theorem State.withCan_laneOut (s : State) (f : Can → Can) : (s.withCan f).laneOut = s.laneOut := rfl
@[simp] theorem State.withCan_cores (s : State) (f : Can → Can) : (s.withCan f).cores = s.cores := rfl
@[simp] theorem State.withCan_sched (s : State) (f : Can → Can) : (s.withCan f).sched = s.sched := rfl
@[simp] theorem State.withCan_chan (s : State) (f : Can → Can) : (s.withCan f).chan = s.chan := rfl
@[simp] theorem State.withCan_fabric (s : State) (f : Can → Can) : (s.withCan f).fabric = s.fabric := rfl
@[simp] theorem State.withCan_trace (s : State) (f : Can → Can) : (s.withCan f).trace = s.trace := rfl
@[simp] theorem State.withCan_sec (s : State) (f : Can → Can) : (s.withCan f).sec = s.sec := rfl
@[simp] theorem State.withCan_loader (s : State) (f : Can → Can) : (s.withCan f).loader = s.loader := rfl
@[simp] theorem State.withCan_rings (s : State) (f : Can → Can) : (s.withCan f).rings = s.rings := rfl
@[simp] theorem State.withCan_guest (s : State) (f : Can → Can) : (s.withCan f).guest = s.guest := rfl
@[simp] theorem State.withCan_sheets (s : State) (f : Can → Can) : (s.withCan f).sheets = s.sheets := rfl
@[simp] theorem State.withCan_lanes (s : State) (f : Can → Can) : (s.withCan f).lanes = s.lanes := rfl
@[simp] theorem State.withCan_pins (s : State) (f : Can → Can) : (s.withCan f).pins = s.pins := rfl
@[simp] theorem State.withCan_trig (s : State) (f : Can → Can) : (s.withCan f).trig = s.trig := rfl
@[simp] theorem State.withCan_host (s : State) (f : Can → Can) : (s.withCan f).host = s.host := rfl
@[simp] theorem State.withCan_free (s : State) (f : Can → Can) : (s.withCan f).free = s.free := rfl

@[simp] theorem State.withFabric_pending (s : State) (g : Fabric → Fabric) : (s.withFabric g).pending = s.pending := rfl
@[simp] theorem State.withFabric_answer (s : State) (g : Fabric → Fabric) : (s.withFabric g).answer = s.answer := rfl
@[simp] theorem State.withFabric_part (s : State) (g : Fabric → Fabric) : (s.withFabric g).part = s.part := rfl
@[simp] theorem State.withFabric_dict (s : State) (g : Fabric → Fabric) : (s.withFabric g).dict = s.dict := rfl
@[simp] theorem State.withFabric_mgmt (s : State) (g : Fabric → Fabric) : (s.withFabric g).mgmt = s.mgmt := rfl
@[simp] theorem State.withFabric_can (s : State) (g : Fabric → Fabric) : (s.withFabric g).can = s.can := rfl
@[simp] theorem State.withFabric_boot (s : State) (g : Fabric → Fabric) : (s.withFabric g).boot = s.boot := rfl
@[simp] theorem State.withFabric_log (s : State) (g : Fabric → Fabric) : (s.withFabric g).log = s.log := rfl
@[simp] theorem State.withFabric_arr (s : State) (g : Fabric → Fabric) : (s.withFabric g).arr = s.arr := rfl
@[simp] theorem State.withFabric_run (s : State) (g : Fabric → Fabric) : (s.withFabric g).run = s.run := rfl
@[simp] theorem State.withFabric_mem (s : State) (g : Fabric → Fabric) : (s.withFabric g).mem = s.mem := rfl
@[simp] theorem State.withFabric_rst (s : State) (g : Fabric → Fabric) : (s.withFabric g).rst = s.rst := rfl
@[simp] theorem State.withFabric_therm (s : State) (g : Fabric → Fabric) : (s.withFabric g).therm = s.therm := rfl
@[simp] theorem State.withFabric_time (s : State) (g : Fabric → Fabric) : (s.withFabric g).time = s.time := rfl
@[simp] theorem State.withFabric_pulses (s : State) (g : Fabric → Fabric) : (s.withFabric g).pulses = s.pulses := rfl
@[simp] theorem State.withFabric_image (s : State) (g : Fabric → Fabric) : (s.withFabric g).image = s.image := rfl
@[simp] theorem State.withFabric_tokens (s : State) (g : Fabric → Fabric) : (s.withFabric g).tokens = s.tokens := rfl
@[simp] theorem State.withFabric_fixer (s : State) (g : Fabric → Fabric) : (s.withFabric g).fixer = s.fixer := rfl
@[simp] theorem State.withFabric_bundles (s : State) (g : Fabric → Fabric) : (s.withFabric g).bundles = s.bundles := rfl
@[simp] theorem State.withFabric_queueCounts (s : State) (g : Fabric → Fabric) : (s.withFabric g).queueCounts = s.queueCounts := rfl
@[simp] theorem State.withFabric_notices (s : State) (g : Fabric → Fabric) : (s.withFabric g).notices = s.notices := rfl
@[simp] theorem State.withFabric_laneOut (s : State) (g : Fabric → Fabric) : (s.withFabric g).laneOut = s.laneOut := rfl
@[simp] theorem State.withFabric_cores (s : State) (g : Fabric → Fabric) : (s.withFabric g).cores = s.cores := rfl
@[simp] theorem State.withFabric_sched (s : State) (g : Fabric → Fabric) : (s.withFabric g).sched = s.sched := rfl
@[simp] theorem State.withFabric_chan (s : State) (g : Fabric → Fabric) : (s.withFabric g).chan = s.chan := rfl
@[simp] theorem State.withFabric_trace (s : State) (g : Fabric → Fabric) : (s.withFabric g).trace = s.trace := rfl
@[simp] theorem State.withFabric_sec (s : State) (g : Fabric → Fabric) : (s.withFabric g).sec = s.sec := rfl
@[simp] theorem State.withFabric_loader (s : State) (g : Fabric → Fabric) : (s.withFabric g).loader = s.loader := rfl
@[simp] theorem State.withFabric_rings (s : State) (g : Fabric → Fabric) : (s.withFabric g).rings = s.rings := rfl
@[simp] theorem State.withFabric_guest (s : State) (g : Fabric → Fabric) : (s.withFabric g).guest = s.guest := rfl
@[simp] theorem State.withFabric_sheets (s : State) (g : Fabric → Fabric) : (s.withFabric g).sheets = s.sheets := rfl
@[simp] theorem State.withFabric_lanes (s : State) (g : Fabric → Fabric) : (s.withFabric g).lanes = s.lanes := rfl
@[simp] theorem State.withFabric_pins (s : State) (g : Fabric → Fabric) : (s.withFabric g).pins = s.pins := rfl
@[simp] theorem State.withFabric_trig (s : State) (g : Fabric → Fabric) : (s.withFabric g).trig = s.trig := rfl
@[simp] theorem State.withFabric_host (s : State) (g : Fabric → Fabric) : (s.withFabric g).host = s.host := rfl
@[simp] theorem State.withFabric_free (s : State) (g : Fabric → Fabric) : (s.withFabric g).free = s.free := rfl

@[simp] theorem State.withGuest_pending (s : State) (f : Guest → Guest) : (s.withGuest f).pending = s.pending := rfl
@[simp] theorem State.withGuest_answer (s : State) (f : Guest → Guest) : (s.withGuest f).answer = s.answer := rfl
@[simp] theorem State.withGuest_part (s : State) (f : Guest → Guest) : (s.withGuest f).part = s.part := rfl
@[simp] theorem State.withGuest_dict (s : State) (f : Guest → Guest) : (s.withGuest f).dict = s.dict := rfl
@[simp] theorem State.withGuest_mgmt (s : State) (f : Guest → Guest) : (s.withGuest f).mgmt = s.mgmt := rfl
@[simp] theorem State.withGuest_can (s : State) (f : Guest → Guest) : (s.withGuest f).can = s.can := rfl
@[simp] theorem State.withGuest_boot (s : State) (f : Guest → Guest) : (s.withGuest f).boot = s.boot := rfl
@[simp] theorem State.withGuest_log (s : State) (f : Guest → Guest) : (s.withGuest f).log = s.log := rfl
@[simp] theorem State.withGuest_arr (s : State) (f : Guest → Guest) : (s.withGuest f).arr = s.arr := rfl
@[simp] theorem State.withGuest_run (s : State) (f : Guest → Guest) : (s.withGuest f).run = s.run := rfl
@[simp] theorem State.withGuest_mem (s : State) (f : Guest → Guest) : (s.withGuest f).mem = s.mem := rfl
@[simp] theorem State.withGuest_rst (s : State) (f : Guest → Guest) : (s.withGuest f).rst = s.rst := rfl
@[simp] theorem State.withGuest_therm (s : State) (f : Guest → Guest) : (s.withGuest f).therm = s.therm := rfl
@[simp] theorem State.withGuest_time (s : State) (f : Guest → Guest) : (s.withGuest f).time = s.time := rfl
@[simp] theorem State.withGuest_pulses (s : State) (f : Guest → Guest) : (s.withGuest f).pulses = s.pulses := rfl
@[simp] theorem State.withGuest_image (s : State) (f : Guest → Guest) : (s.withGuest f).image = s.image := rfl
@[simp] theorem State.withGuest_tokens (s : State) (f : Guest → Guest) : (s.withGuest f).tokens = s.tokens := rfl
@[simp] theorem State.withGuest_fixer (s : State) (f : Guest → Guest) : (s.withGuest f).fixer = s.fixer := rfl
@[simp] theorem State.withGuest_bundles (s : State) (f : Guest → Guest) : (s.withGuest f).bundles = s.bundles := rfl
@[simp] theorem State.withGuest_queueCounts (s : State) (f : Guest → Guest) : (s.withGuest f).queueCounts = s.queueCounts := rfl
@[simp] theorem State.withGuest_notices (s : State) (f : Guest → Guest) : (s.withGuest f).notices = s.notices := rfl
@[simp] theorem State.withGuest_laneOut (s : State) (f : Guest → Guest) : (s.withGuest f).laneOut = s.laneOut := rfl
@[simp] theorem State.withGuest_cores (s : State) (f : Guest → Guest) : (s.withGuest f).cores = s.cores := rfl
@[simp] theorem State.withGuest_sched (s : State) (f : Guest → Guest) : (s.withGuest f).sched = s.sched := rfl
@[simp] theorem State.withGuest_chan (s : State) (f : Guest → Guest) : (s.withGuest f).chan = s.chan := rfl
@[simp] theorem State.withGuest_fabric (s : State) (f : Guest → Guest) : (s.withGuest f).fabric = s.fabric := rfl
@[simp] theorem State.withGuest_trace (s : State) (f : Guest → Guest) : (s.withGuest f).trace = s.trace := rfl
@[simp] theorem State.withGuest_sec (s : State) (f : Guest → Guest) : (s.withGuest f).sec = s.sec := rfl
@[simp] theorem State.withGuest_loader (s : State) (f : Guest → Guest) : (s.withGuest f).loader = s.loader := rfl
@[simp] theorem State.withGuest_rings (s : State) (f : Guest → Guest) : (s.withGuest f).rings = s.rings := rfl
@[simp] theorem State.withGuest_sheets (s : State) (f : Guest → Guest) : (s.withGuest f).sheets = s.sheets := rfl
@[simp] theorem State.withGuest_lanes (s : State) (f : Guest → Guest) : (s.withGuest f).lanes = s.lanes := rfl
@[simp] theorem State.withGuest_pins (s : State) (f : Guest → Guest) : (s.withGuest f).pins = s.pins := rfl
@[simp] theorem State.withGuest_trig (s : State) (f : Guest → Guest) : (s.withGuest f).trig = s.trig := rfl
@[simp] theorem State.withGuest_host (s : State) (f : Guest → Guest) : (s.withGuest f).host = s.host := rfl
@[simp] theorem State.withGuest_free (s : State) (f : Guest → Guest) : (s.withGuest f).free = s.free := rfl

@[simp] theorem State.withLoader_pending (s : State) (g : Loader → Loader) : (s.withLoader g).pending = s.pending := rfl
@[simp] theorem State.withLoader_answer (s : State) (g : Loader → Loader) : (s.withLoader g).answer = s.answer := rfl
@[simp] theorem State.withLoader_part (s : State) (g : Loader → Loader) : (s.withLoader g).part = s.part := rfl
@[simp] theorem State.withLoader_dict (s : State) (g : Loader → Loader) : (s.withLoader g).dict = s.dict := rfl
@[simp] theorem State.withLoader_mgmt (s : State) (g : Loader → Loader) : (s.withLoader g).mgmt = s.mgmt := rfl
@[simp] theorem State.withLoader_can (s : State) (g : Loader → Loader) : (s.withLoader g).can = s.can := rfl
@[simp] theorem State.withLoader_boot (s : State) (g : Loader → Loader) : (s.withLoader g).boot = s.boot := rfl
@[simp] theorem State.withLoader_log (s : State) (g : Loader → Loader) : (s.withLoader g).log = s.log := rfl
@[simp] theorem State.withLoader_arr (s : State) (g : Loader → Loader) : (s.withLoader g).arr = s.arr := rfl
@[simp] theorem State.withLoader_run (s : State) (g : Loader → Loader) : (s.withLoader g).run = s.run := rfl
@[simp] theorem State.withLoader_mem (s : State) (g : Loader → Loader) : (s.withLoader g).mem = s.mem := rfl
@[simp] theorem State.withLoader_rst (s : State) (g : Loader → Loader) : (s.withLoader g).rst = s.rst := rfl
@[simp] theorem State.withLoader_therm (s : State) (g : Loader → Loader) : (s.withLoader g).therm = s.therm := rfl
@[simp] theorem State.withLoader_time (s : State) (g : Loader → Loader) : (s.withLoader g).time = s.time := rfl
@[simp] theorem State.withLoader_pulses (s : State) (g : Loader → Loader) : (s.withLoader g).pulses = s.pulses := rfl
@[simp] theorem State.withLoader_image (s : State) (g : Loader → Loader) : (s.withLoader g).image = s.image := rfl
@[simp] theorem State.withLoader_tokens (s : State) (g : Loader → Loader) : (s.withLoader g).tokens = s.tokens := rfl
@[simp] theorem State.withLoader_fixer (s : State) (g : Loader → Loader) : (s.withLoader g).fixer = s.fixer := rfl
@[simp] theorem State.withLoader_bundles (s : State) (g : Loader → Loader) : (s.withLoader g).bundles = s.bundles := rfl
@[simp] theorem State.withLoader_queueCounts (s : State) (g : Loader → Loader) : (s.withLoader g).queueCounts = s.queueCounts := rfl
@[simp] theorem State.withLoader_notices (s : State) (g : Loader → Loader) : (s.withLoader g).notices = s.notices := rfl
@[simp] theorem State.withLoader_laneOut (s : State) (g : Loader → Loader) : (s.withLoader g).laneOut = s.laneOut := rfl
@[simp] theorem State.withLoader_cores (s : State) (g : Loader → Loader) : (s.withLoader g).cores = s.cores := rfl
@[simp] theorem State.withLoader_sched (s : State) (g : Loader → Loader) : (s.withLoader g).sched = s.sched := rfl
@[simp] theorem State.withLoader_chan (s : State) (g : Loader → Loader) : (s.withLoader g).chan = s.chan := rfl
@[simp] theorem State.withLoader_fabric (s : State) (g : Loader → Loader) : (s.withLoader g).fabric = s.fabric := rfl
@[simp] theorem State.withLoader_trace (s : State) (g : Loader → Loader) : (s.withLoader g).trace = s.trace := rfl
@[simp] theorem State.withLoader_sec (s : State) (g : Loader → Loader) : (s.withLoader g).sec = s.sec := rfl
@[simp] theorem State.withLoader_rings (s : State) (g : Loader → Loader) : (s.withLoader g).rings = s.rings := rfl
@[simp] theorem State.withLoader_guest (s : State) (g : Loader → Loader) : (s.withLoader g).guest = s.guest := rfl
@[simp] theorem State.withLoader_sheets (s : State) (g : Loader → Loader) : (s.withLoader g).sheets = s.sheets := rfl
@[simp] theorem State.withLoader_lanes (s : State) (g : Loader → Loader) : (s.withLoader g).lanes = s.lanes := rfl
@[simp] theorem State.withLoader_pins (s : State) (g : Loader → Loader) : (s.withLoader g).pins = s.pins := rfl
@[simp] theorem State.withLoader_trig (s : State) (g : Loader → Loader) : (s.withLoader g).trig = s.trig := rfl
@[simp] theorem State.withLoader_host (s : State) (g : Loader → Loader) : (s.withLoader g).host = s.host := rfl
@[simp] theorem State.withLoader_free (s : State) (g : Loader → Loader) : (s.withLoader g).free = s.free := rfl

@[simp] theorem State.withArr_pending (s : State) (f : NibArray → NibArray) : (s.withArr f).pending = s.pending := rfl
@[simp] theorem State.withArr_answer (s : State) (f : NibArray → NibArray) : (s.withArr f).answer = s.answer := rfl
@[simp] theorem State.withArr_part (s : State) (f : NibArray → NibArray) : (s.withArr f).part = s.part := rfl
@[simp] theorem State.withArr_dict (s : State) (f : NibArray → NibArray) : (s.withArr f).dict = s.dict := rfl
@[simp] theorem State.withArr_mgmt (s : State) (f : NibArray → NibArray) : (s.withArr f).mgmt = s.mgmt := rfl
@[simp] theorem State.withArr_can (s : State) (f : NibArray → NibArray) : (s.withArr f).can = s.can := rfl
@[simp] theorem State.withArr_boot (s : State) (f : NibArray → NibArray) : (s.withArr f).boot = s.boot := rfl
@[simp] theorem State.withArr_log (s : State) (f : NibArray → NibArray) : (s.withArr f).log = s.log := rfl
@[simp] theorem State.withArr_run (s : State) (f : NibArray → NibArray) : (s.withArr f).run = s.run := rfl
@[simp] theorem State.withArr_mem (s : State) (f : NibArray → NibArray) : (s.withArr f).mem = s.mem := rfl
@[simp] theorem State.withArr_rst (s : State) (f : NibArray → NibArray) : (s.withArr f).rst = s.rst := rfl
@[simp] theorem State.withArr_therm (s : State) (f : NibArray → NibArray) : (s.withArr f).therm = s.therm := rfl
@[simp] theorem State.withArr_time (s : State) (f : NibArray → NibArray) : (s.withArr f).time = s.time := rfl
@[simp] theorem State.withArr_pulses (s : State) (f : NibArray → NibArray) : (s.withArr f).pulses = s.pulses := rfl
@[simp] theorem State.withArr_image (s : State) (f : NibArray → NibArray) : (s.withArr f).image = s.image := rfl
@[simp] theorem State.withArr_tokens (s : State) (f : NibArray → NibArray) : (s.withArr f).tokens = s.tokens := rfl
@[simp] theorem State.withArr_fixer (s : State) (f : NibArray → NibArray) : (s.withArr f).fixer = s.fixer := rfl
@[simp] theorem State.withArr_bundles (s : State) (f : NibArray → NibArray) : (s.withArr f).bundles = s.bundles := rfl
@[simp] theorem State.withArr_queueCounts (s : State) (f : NibArray → NibArray) : (s.withArr f).queueCounts = s.queueCounts := rfl
@[simp] theorem State.withArr_notices (s : State) (f : NibArray → NibArray) : (s.withArr f).notices = s.notices := rfl
@[simp] theorem State.withArr_laneOut (s : State) (f : NibArray → NibArray) : (s.withArr f).laneOut = s.laneOut := rfl
@[simp] theorem State.withArr_cores (s : State) (f : NibArray → NibArray) : (s.withArr f).cores = s.cores := rfl
@[simp] theorem State.withArr_sched (s : State) (f : NibArray → NibArray) : (s.withArr f).sched = s.sched := rfl
@[simp] theorem State.withArr_chan (s : State) (f : NibArray → NibArray) : (s.withArr f).chan = s.chan := rfl
@[simp] theorem State.withArr_fabric (s : State) (f : NibArray → NibArray) : (s.withArr f).fabric = s.fabric := rfl
@[simp] theorem State.withArr_trace (s : State) (f : NibArray → NibArray) : (s.withArr f).trace = s.trace := rfl
@[simp] theorem State.withArr_sec (s : State) (f : NibArray → NibArray) : (s.withArr f).sec = s.sec := rfl
@[simp] theorem State.withArr_loader (s : State) (f : NibArray → NibArray) : (s.withArr f).loader = s.loader := rfl
@[simp] theorem State.withArr_rings (s : State) (f : NibArray → NibArray) : (s.withArr f).rings = s.rings := rfl
@[simp] theorem State.withArr_guest (s : State) (f : NibArray → NibArray) : (s.withArr f).guest = s.guest := rfl
@[simp] theorem State.withArr_sheets (s : State) (f : NibArray → NibArray) : (s.withArr f).sheets = s.sheets := rfl
@[simp] theorem State.withArr_lanes (s : State) (f : NibArray → NibArray) : (s.withArr f).lanes = s.lanes := rfl
@[simp] theorem State.withArr_pins (s : State) (f : NibArray → NibArray) : (s.withArr f).pins = s.pins := rfl
@[simp] theorem State.withArr_trig (s : State) (f : NibArray → NibArray) : (s.withArr f).trig = s.trig := rfl
@[simp] theorem State.withArr_host (s : State) (f : NibArray → NibArray) : (s.withArr f).host = s.host := rfl
@[simp] theorem State.withArr_free (s : State) (f : NibArray → NibArray) : (s.withArr f).free = s.free := rfl

@[simp] theorem State.withSched_pending (s : State) (f : Sched → Sched) : (s.withSched f).pending = s.pending := rfl
@[simp] theorem State.withSched_answer (s : State) (f : Sched → Sched) : (s.withSched f).answer = s.answer := rfl
@[simp] theorem State.withSched_part (s : State) (f : Sched → Sched) : (s.withSched f).part = s.part := rfl
@[simp] theorem State.withSched_dict (s : State) (f : Sched → Sched) : (s.withSched f).dict = s.dict := rfl
@[simp] theorem State.withSched_mgmt (s : State) (f : Sched → Sched) : (s.withSched f).mgmt = s.mgmt := rfl
@[simp] theorem State.withSched_can (s : State) (f : Sched → Sched) : (s.withSched f).can = s.can := rfl
@[simp] theorem State.withSched_boot (s : State) (f : Sched → Sched) : (s.withSched f).boot = s.boot := rfl
@[simp] theorem State.withSched_log (s : State) (f : Sched → Sched) : (s.withSched f).log = s.log := rfl
@[simp] theorem State.withSched_run (s : State) (f : Sched → Sched) : (s.withSched f).run = s.run := rfl
@[simp] theorem State.withSched_mem (s : State) (f : Sched → Sched) : (s.withSched f).mem = s.mem := rfl
@[simp] theorem State.withSched_rst (s : State) (f : Sched → Sched) : (s.withSched f).rst = s.rst := rfl
@[simp] theorem State.withSched_therm (s : State) (f : Sched → Sched) : (s.withSched f).therm = s.therm := rfl
@[simp] theorem State.withSched_time (s : State) (f : Sched → Sched) : (s.withSched f).time = s.time := rfl
@[simp] theorem State.withSched_pulses (s : State) (f : Sched → Sched) : (s.withSched f).pulses = s.pulses := rfl
@[simp] theorem State.withSched_image (s : State) (f : Sched → Sched) : (s.withSched f).image = s.image := rfl
@[simp] theorem State.withSched_tokens (s : State) (f : Sched → Sched) : (s.withSched f).tokens = s.tokens := rfl
@[simp] theorem State.withSched_fixer (s : State) (f : Sched → Sched) : (s.withSched f).fixer = s.fixer := rfl
@[simp] theorem State.withSched_bundles (s : State) (f : Sched → Sched) : (s.withSched f).bundles = s.bundles := rfl
@[simp] theorem State.withSched_queueCounts (s : State) (f : Sched → Sched) : (s.withSched f).queueCounts = s.queueCounts := rfl
@[simp] theorem State.withSched_notices (s : State) (f : Sched → Sched) : (s.withSched f).notices = s.notices := rfl
@[simp] theorem State.withSched_laneOut (s : State) (f : Sched → Sched) : (s.withSched f).laneOut = s.laneOut := rfl
@[simp] theorem State.withSched_cores (s : State) (f : Sched → Sched) : (s.withSched f).cores = s.cores := rfl
@[simp] theorem State.withSched_sched (s : State) (f : Sched → Sched) : (s.withSched f).sched = s.sched := rfl
@[simp] theorem State.withSched_chan (s : State) (f : Sched → Sched) : (s.withSched f).chan = s.chan := rfl
@[simp] theorem State.withSched_fabric (s : State) (f : Sched → Sched) : (s.withSched f).fabric = s.fabric := rfl
@[simp] theorem State.withSched_trace (s : State) (f : Sched → Sched) : (s.withSched f).trace = s.trace := rfl
@[simp] theorem State.withSched_sec (s : State) (f : Sched → Sched) : (s.withSched f).sec = s.sec := rfl
@[simp] theorem State.withSched_loader (s : State) (f : Sched → Sched) : (s.withSched f).loader = s.loader := rfl
@[simp] theorem State.withSched_rings (s : State) (f : Sched → Sched) : (s.withSched f).rings = s.rings := rfl
@[simp] theorem State.withSched_guest (s : State) (f : Sched → Sched) : (s.withSched f).guest = s.guest := rfl
@[simp] theorem State.withSched_sheets (s : State) (f : Sched → Sched) : (s.withSched f).sheets = s.sheets := rfl
@[simp] theorem State.withSched_lanes (s : State) (f : Sched → Sched) : (s.withSched f).lanes = s.lanes := rfl
@[simp] theorem State.withSched_pins (s : State) (f : Sched → Sched) : (s.withSched f).pins = s.pins := rfl
@[simp] theorem State.withSched_trig (s : State) (f : Sched → Sched) : (s.withSched f).trig = s.trig := rfl
@[simp] theorem State.withSched_host (s : State) (f : Sched → Sched) : (s.withSched f).host = s.host := rfl
@[simp] theorem State.withSched_free (s : State) (f : Sched → Sched) : (s.withSched f).free = s.free := rfl

@[simp] theorem State.withPins_pending (s : State) (f : Pins → Pins) : (s.withPins f).pending = s.pending := rfl
@[simp] theorem State.withPins_answer (s : State) (f : Pins → Pins) : (s.withPins f).answer = s.answer := rfl
@[simp] theorem State.withPins_part (s : State) (f : Pins → Pins) : (s.withPins f).part = s.part := rfl
@[simp] theorem State.withPins_dict (s : State) (f : Pins → Pins) : (s.withPins f).dict = s.dict := rfl
@[simp] theorem State.withPins_mgmt (s : State) (f : Pins → Pins) : (s.withPins f).mgmt = s.mgmt := rfl
@[simp] theorem State.withPins_can (s : State) (f : Pins → Pins) : (s.withPins f).can = s.can := rfl
@[simp] theorem State.withPins_boot (s : State) (f : Pins → Pins) : (s.withPins f).boot = s.boot := rfl
@[simp] theorem State.withPins_log (s : State) (f : Pins → Pins) : (s.withPins f).log = s.log := rfl
@[simp] theorem State.withPins_arr (s : State) (f : Pins → Pins) : (s.withPins f).arr = s.arr := rfl
@[simp] theorem State.withPins_run (s : State) (f : Pins → Pins) : (s.withPins f).run = s.run := rfl
@[simp] theorem State.withPins_mem (s : State) (f : Pins → Pins) : (s.withPins f).mem = s.mem := rfl
@[simp] theorem State.withPins_rst (s : State) (f : Pins → Pins) : (s.withPins f).rst = s.rst := rfl
@[simp] theorem State.withPins_therm (s : State) (f : Pins → Pins) : (s.withPins f).therm = s.therm := rfl
@[simp] theorem State.withPins_time (s : State) (f : Pins → Pins) : (s.withPins f).time = s.time := rfl
@[simp] theorem State.withPins_pulses (s : State) (f : Pins → Pins) : (s.withPins f).pulses = s.pulses := rfl
@[simp] theorem State.withPins_image (s : State) (f : Pins → Pins) : (s.withPins f).image = s.image := rfl
@[simp] theorem State.withPins_tokens (s : State) (f : Pins → Pins) : (s.withPins f).tokens = s.tokens := rfl
@[simp] theorem State.withPins_fixer (s : State) (f : Pins → Pins) : (s.withPins f).fixer = s.fixer := rfl
@[simp] theorem State.withPins_bundles (s : State) (f : Pins → Pins) : (s.withPins f).bundles = s.bundles := rfl
@[simp] theorem State.withPins_queueCounts (s : State) (f : Pins → Pins) : (s.withPins f).queueCounts = s.queueCounts := rfl
@[simp] theorem State.withPins_notices (s : State) (f : Pins → Pins) : (s.withPins f).notices = s.notices := rfl
@[simp] theorem State.withPins_laneOut (s : State) (f : Pins → Pins) : (s.withPins f).laneOut = s.laneOut := rfl
@[simp] theorem State.withPins_cores (s : State) (f : Pins → Pins) : (s.withPins f).cores = s.cores := rfl
@[simp] theorem State.withPins_sched (s : State) (f : Pins → Pins) : (s.withPins f).sched = s.sched := rfl
@[simp] theorem State.withPins_chan (s : State) (f : Pins → Pins) : (s.withPins f).chan = s.chan := rfl
@[simp] theorem State.withPins_fabric (s : State) (f : Pins → Pins) : (s.withPins f).fabric = s.fabric := rfl
@[simp] theorem State.withPins_trace (s : State) (f : Pins → Pins) : (s.withPins f).trace = s.trace := rfl
@[simp] theorem State.withPins_sec (s : State) (f : Pins → Pins) : (s.withPins f).sec = s.sec := rfl
@[simp] theorem State.withPins_loader (s : State) (f : Pins → Pins) : (s.withPins f).loader = s.loader := rfl
@[simp] theorem State.withPins_rings (s : State) (f : Pins → Pins) : (s.withPins f).rings = s.rings := rfl
@[simp] theorem State.withPins_guest (s : State) (f : Pins → Pins) : (s.withPins f).guest = s.guest := rfl
@[simp] theorem State.withPins_sheets (s : State) (f : Pins → Pins) : (s.withPins f).sheets = s.sheets := rfl
@[simp] theorem State.withPins_lanes (s : State) (f : Pins → Pins) : (s.withPins f).lanes = s.lanes := rfl
@[simp] theorem State.withPins_trig (s : State) (f : Pins → Pins) : (s.withPins f).trig = s.trig := rfl
@[simp] theorem State.withPins_host (s : State) (f : Pins → Pins) : (s.withPins f).host = s.host := rfl
@[simp] theorem State.withPins_free (s : State) (f : Pins → Pins) : (s.withPins f).free = s.free := rfl

@[simp] theorem State.withRst_pending (s : State) (f : ResetCtl → ResetCtl) : (s.withRst f).pending = s.pending := rfl
@[simp] theorem State.withRst_answer (s : State) (f : ResetCtl → ResetCtl) : (s.withRst f).answer = s.answer := rfl
@[simp] theorem State.withRst_part (s : State) (f : ResetCtl → ResetCtl) : (s.withRst f).part = s.part := rfl
@[simp] theorem State.withRst_dict (s : State) (f : ResetCtl → ResetCtl) : (s.withRst f).dict = s.dict := rfl
@[simp] theorem State.withRst_mgmt (s : State) (f : ResetCtl → ResetCtl) : (s.withRst f).mgmt = s.mgmt := rfl
@[simp] theorem State.withRst_can (s : State) (f : ResetCtl → ResetCtl) : (s.withRst f).can = s.can := rfl
@[simp] theorem State.withRst_boot (s : State) (f : ResetCtl → ResetCtl) : (s.withRst f).boot = s.boot := rfl
@[simp] theorem State.withRst_log (s : State) (f : ResetCtl → ResetCtl) : (s.withRst f).log = s.log := rfl
@[simp] theorem State.withRst_arr (s : State) (f : ResetCtl → ResetCtl) : (s.withRst f).arr = s.arr := rfl
@[simp] theorem State.withRst_run (s : State) (f : ResetCtl → ResetCtl) : (s.withRst f).run = s.run := rfl
@[simp] theorem State.withRst_mem (s : State) (f : ResetCtl → ResetCtl) : (s.withRst f).mem = s.mem := rfl
@[simp] theorem State.withRst_therm (s : State) (f : ResetCtl → ResetCtl) : (s.withRst f).therm = s.therm := rfl
@[simp] theorem State.withRst_time (s : State) (f : ResetCtl → ResetCtl) : (s.withRst f).time = s.time := rfl
@[simp] theorem State.withRst_pulses (s : State) (f : ResetCtl → ResetCtl) : (s.withRst f).pulses = s.pulses := rfl
@[simp] theorem State.withRst_image (s : State) (f : ResetCtl → ResetCtl) : (s.withRst f).image = s.image := rfl
@[simp] theorem State.withRst_tokens (s : State) (f : ResetCtl → ResetCtl) : (s.withRst f).tokens = s.tokens := rfl
@[simp] theorem State.withRst_fixer (s : State) (f : ResetCtl → ResetCtl) : (s.withRst f).fixer = s.fixer := rfl
@[simp] theorem State.withRst_bundles (s : State) (f : ResetCtl → ResetCtl) : (s.withRst f).bundles = s.bundles := rfl
@[simp] theorem State.withRst_queueCounts (s : State) (f : ResetCtl → ResetCtl) : (s.withRst f).queueCounts = s.queueCounts := rfl
@[simp] theorem State.withRst_notices (s : State) (f : ResetCtl → ResetCtl) : (s.withRst f).notices = s.notices := rfl
@[simp] theorem State.withRst_laneOut (s : State) (f : ResetCtl → ResetCtl) : (s.withRst f).laneOut = s.laneOut := rfl
@[simp] theorem State.withRst_cores (s : State) (f : ResetCtl → ResetCtl) : (s.withRst f).cores = s.cores := rfl
@[simp] theorem State.withRst_sched (s : State) (f : ResetCtl → ResetCtl) : (s.withRst f).sched = s.sched := rfl
@[simp] theorem State.withRst_chan (s : State) (f : ResetCtl → ResetCtl) : (s.withRst f).chan = s.chan := rfl
@[simp] theorem State.withRst_fabric (s : State) (f : ResetCtl → ResetCtl) : (s.withRst f).fabric = s.fabric := rfl
@[simp] theorem State.withRst_trace (s : State) (f : ResetCtl → ResetCtl) : (s.withRst f).trace = s.trace := rfl
@[simp] theorem State.withRst_sec (s : State) (f : ResetCtl → ResetCtl) : (s.withRst f).sec = s.sec := rfl
@[simp] theorem State.withRst_loader (s : State) (f : ResetCtl → ResetCtl) : (s.withRst f).loader = s.loader := rfl
@[simp] theorem State.withRst_rings (s : State) (f : ResetCtl → ResetCtl) : (s.withRst f).rings = s.rings := rfl
@[simp] theorem State.withRst_guest (s : State) (f : ResetCtl → ResetCtl) : (s.withRst f).guest = s.guest := rfl
@[simp] theorem State.withRst_sheets (s : State) (f : ResetCtl → ResetCtl) : (s.withRst f).sheets = s.sheets := rfl
@[simp] theorem State.withRst_lanes (s : State) (f : ResetCtl → ResetCtl) : (s.withRst f).lanes = s.lanes := rfl
@[simp] theorem State.withRst_pins (s : State) (f : ResetCtl → ResetCtl) : (s.withRst f).pins = s.pins := rfl
@[simp] theorem State.withRst_trig (s : State) (f : ResetCtl → ResetCtl) : (s.withRst f).trig = s.trig := rfl
@[simp] theorem State.withRst_host (s : State) (f : ResetCtl → ResetCtl) : (s.withRst f).host = s.host := rfl
@[simp] theorem State.withRst_free (s : State) (f : ResetCtl → ResetCtl) : (s.withRst f).free = s.free := rfl

@[simp] theorem State.withBoot_pending (s : State) (f : Boot → Boot) : (s.withBoot f).pending = s.pending := rfl
@[simp] theorem State.withBoot_answer (s : State) (f : Boot → Boot) : (s.withBoot f).answer = s.answer := rfl
@[simp] theorem State.withBoot_part (s : State) (f : Boot → Boot) : (s.withBoot f).part = s.part := rfl
@[simp] theorem State.withBoot_dict (s : State) (f : Boot → Boot) : (s.withBoot f).dict = s.dict := rfl
@[simp] theorem State.withBoot_mgmt (s : State) (f : Boot → Boot) : (s.withBoot f).mgmt = s.mgmt := rfl
@[simp] theorem State.withBoot_can (s : State) (f : Boot → Boot) : (s.withBoot f).can = s.can := rfl
@[simp] theorem State.withBoot_log (s : State) (f : Boot → Boot) : (s.withBoot f).log = s.log := rfl
@[simp] theorem State.withBoot_arr (s : State) (f : Boot → Boot) : (s.withBoot f).arr = s.arr := rfl
@[simp] theorem State.withBoot_run (s : State) (f : Boot → Boot) : (s.withBoot f).run = s.run := rfl
@[simp] theorem State.withBoot_mem (s : State) (f : Boot → Boot) : (s.withBoot f).mem = s.mem := rfl
@[simp] theorem State.withBoot_rst (s : State) (f : Boot → Boot) : (s.withBoot f).rst = s.rst := rfl
@[simp] theorem State.withBoot_therm (s : State) (f : Boot → Boot) : (s.withBoot f).therm = s.therm := rfl
@[simp] theorem State.withBoot_time (s : State) (f : Boot → Boot) : (s.withBoot f).time = s.time := rfl
@[simp] theorem State.withBoot_pulses (s : State) (f : Boot → Boot) : (s.withBoot f).pulses = s.pulses := rfl
@[simp] theorem State.withBoot_image (s : State) (f : Boot → Boot) : (s.withBoot f).image = s.image := rfl
@[simp] theorem State.withBoot_tokens (s : State) (f : Boot → Boot) : (s.withBoot f).tokens = s.tokens := rfl
@[simp] theorem State.withBoot_fixer (s : State) (f : Boot → Boot) : (s.withBoot f).fixer = s.fixer := rfl
@[simp] theorem State.withBoot_bundles (s : State) (f : Boot → Boot) : (s.withBoot f).bundles = s.bundles := rfl
@[simp] theorem State.withBoot_queueCounts (s : State) (f : Boot → Boot) : (s.withBoot f).queueCounts = s.queueCounts := rfl
@[simp] theorem State.withBoot_notices (s : State) (f : Boot → Boot) : (s.withBoot f).notices = s.notices := rfl
@[simp] theorem State.withBoot_laneOut (s : State) (f : Boot → Boot) : (s.withBoot f).laneOut = s.laneOut := rfl
@[simp] theorem State.withBoot_cores (s : State) (f : Boot → Boot) : (s.withBoot f).cores = s.cores := rfl
@[simp] theorem State.withBoot_sched (s : State) (f : Boot → Boot) : (s.withBoot f).sched = s.sched := rfl
@[simp] theorem State.withBoot_chan (s : State) (f : Boot → Boot) : (s.withBoot f).chan = s.chan := rfl
@[simp] theorem State.withBoot_fabric (s : State) (f : Boot → Boot) : (s.withBoot f).fabric = s.fabric := rfl
@[simp] theorem State.withBoot_trace (s : State) (f : Boot → Boot) : (s.withBoot f).trace = s.trace := rfl
@[simp] theorem State.withBoot_sec (s : State) (f : Boot → Boot) : (s.withBoot f).sec = s.sec := rfl
@[simp] theorem State.withBoot_loader (s : State) (f : Boot → Boot) : (s.withBoot f).loader = s.loader := rfl
@[simp] theorem State.withBoot_rings (s : State) (f : Boot → Boot) : (s.withBoot f).rings = s.rings := rfl
@[simp] theorem State.withBoot_guest (s : State) (f : Boot → Boot) : (s.withBoot f).guest = s.guest := rfl
@[simp] theorem State.withBoot_sheets (s : State) (f : Boot → Boot) : (s.withBoot f).sheets = s.sheets := rfl
@[simp] theorem State.withBoot_lanes (s : State) (f : Boot → Boot) : (s.withBoot f).lanes = s.lanes := rfl
@[simp] theorem State.withBoot_pins (s : State) (f : Boot → Boot) : (s.withBoot f).pins = s.pins := rfl
@[simp] theorem State.withBoot_trig (s : State) (f : Boot → Boot) : (s.withBoot f).trig = s.trig := rfl
@[simp] theorem State.withBoot_host (s : State) (f : Boot → Boot) : (s.withBoot f).host = s.host := rfl
@[simp] theorem State.withBoot_free (s : State) (f : Boot → Boot) : (s.withBoot f).free = s.free := rfl

@[simp] theorem State.withRings_pending (s : State) (f : Rings → Rings) : (s.withRings f).pending = s.pending := rfl
@[simp] theorem State.withRings_answer (s : State) (f : Rings → Rings) : (s.withRings f).answer = s.answer := rfl
@[simp] theorem State.withRings_part (s : State) (f : Rings → Rings) : (s.withRings f).part = s.part := rfl
@[simp] theorem State.withRings_dict (s : State) (f : Rings → Rings) : (s.withRings f).dict = s.dict := rfl
@[simp] theorem State.withRings_mgmt (s : State) (f : Rings → Rings) : (s.withRings f).mgmt = s.mgmt := rfl
@[simp] theorem State.withRings_can (s : State) (f : Rings → Rings) : (s.withRings f).can = s.can := rfl
@[simp] theorem State.withRings_boot (s : State) (f : Rings → Rings) : (s.withRings f).boot = s.boot := rfl
@[simp] theorem State.withRings_log (s : State) (f : Rings → Rings) : (s.withRings f).log = s.log := rfl
@[simp] theorem State.withRings_arr (s : State) (f : Rings → Rings) : (s.withRings f).arr = s.arr := rfl
@[simp] theorem State.withRings_run (s : State) (f : Rings → Rings) : (s.withRings f).run = s.run := rfl
@[simp] theorem State.withRings_mem (s : State) (f : Rings → Rings) : (s.withRings f).mem = s.mem := rfl
@[simp] theorem State.withRings_rst (s : State) (f : Rings → Rings) : (s.withRings f).rst = s.rst := rfl
@[simp] theorem State.withRings_therm (s : State) (f : Rings → Rings) : (s.withRings f).therm = s.therm := rfl
@[simp] theorem State.withRings_time (s : State) (f : Rings → Rings) : (s.withRings f).time = s.time := rfl
@[simp] theorem State.withRings_pulses (s : State) (f : Rings → Rings) : (s.withRings f).pulses = s.pulses := rfl
@[simp] theorem State.withRings_image (s : State) (f : Rings → Rings) : (s.withRings f).image = s.image := rfl
@[simp] theorem State.withRings_tokens (s : State) (f : Rings → Rings) : (s.withRings f).tokens = s.tokens := rfl
@[simp] theorem State.withRings_fixer (s : State) (f : Rings → Rings) : (s.withRings f).fixer = s.fixer := rfl
@[simp] theorem State.withRings_bundles (s : State) (f : Rings → Rings) : (s.withRings f).bundles = s.bundles := rfl
@[simp] theorem State.withRings_queueCounts (s : State) (f : Rings → Rings) : (s.withRings f).queueCounts = s.queueCounts := rfl
@[simp] theorem State.withRings_notices (s : State) (f : Rings → Rings) : (s.withRings f).notices = s.notices := rfl
@[simp] theorem State.withRings_laneOut (s : State) (f : Rings → Rings) : (s.withRings f).laneOut = s.laneOut := rfl
@[simp] theorem State.withRings_cores (s : State) (f : Rings → Rings) : (s.withRings f).cores = s.cores := rfl
@[simp] theorem State.withRings_sched (s : State) (f : Rings → Rings) : (s.withRings f).sched = s.sched := rfl
@[simp] theorem State.withRings_chan (s : State) (f : Rings → Rings) : (s.withRings f).chan = s.chan := rfl
@[simp] theorem State.withRings_fabric (s : State) (f : Rings → Rings) : (s.withRings f).fabric = s.fabric := rfl
@[simp] theorem State.withRings_trace (s : State) (f : Rings → Rings) : (s.withRings f).trace = s.trace := rfl
@[simp] theorem State.withRings_sec (s : State) (f : Rings → Rings) : (s.withRings f).sec = s.sec := rfl
@[simp] theorem State.withRings_loader (s : State) (f : Rings → Rings) : (s.withRings f).loader = s.loader := rfl
@[simp] theorem State.withRings_guest (s : State) (f : Rings → Rings) : (s.withRings f).guest = s.guest := rfl
@[simp] theorem State.withRings_sheets (s : State) (f : Rings → Rings) : (s.withRings f).sheets = s.sheets := rfl
@[simp] theorem State.withRings_lanes (s : State) (f : Rings → Rings) : (s.withRings f).lanes = s.lanes := rfl
@[simp] theorem State.withRings_pins (s : State) (f : Rings → Rings) : (s.withRings f).pins = s.pins := rfl
@[simp] theorem State.withRings_trig (s : State) (f : Rings → Rings) : (s.withRings f).trig = s.trig := rfl
@[simp] theorem State.withRings_host (s : State) (f : Rings → Rings) : (s.withRings f).host = s.host := rfl
@[simp] theorem State.withRings_free (s : State) (f : Rings → Rings) : (s.withRings f).free = s.free := rfl

@[simp] theorem State.withRun_pending (s : State) (f : RunCtl → RunCtl) : (s.withRun f).pending = s.pending := rfl
@[simp] theorem State.withRun_answer (s : State) (f : RunCtl → RunCtl) : (s.withRun f).answer = s.answer := rfl
@[simp] theorem State.withRun_part (s : State) (f : RunCtl → RunCtl) : (s.withRun f).part = s.part := rfl
@[simp] theorem State.withRun_dict (s : State) (f : RunCtl → RunCtl) : (s.withRun f).dict = s.dict := rfl
@[simp] theorem State.withRun_mgmt (s : State) (f : RunCtl → RunCtl) : (s.withRun f).mgmt = s.mgmt := rfl
@[simp] theorem State.withRun_can (s : State) (f : RunCtl → RunCtl) : (s.withRun f).can = s.can := rfl
@[simp] theorem State.withRun_boot (s : State) (f : RunCtl → RunCtl) : (s.withRun f).boot = s.boot := rfl
@[simp] theorem State.withRun_log (s : State) (f : RunCtl → RunCtl) : (s.withRun f).log = s.log := rfl
@[simp] theorem State.withRun_arr (s : State) (f : RunCtl → RunCtl) : (s.withRun f).arr = s.arr := rfl
@[simp] theorem State.withRun_mem (s : State) (f : RunCtl → RunCtl) : (s.withRun f).mem = s.mem := rfl
@[simp] theorem State.withRun_rst (s : State) (f : RunCtl → RunCtl) : (s.withRun f).rst = s.rst := rfl
@[simp] theorem State.withRun_therm (s : State) (f : RunCtl → RunCtl) : (s.withRun f).therm = s.therm := rfl
@[simp] theorem State.withRun_time (s : State) (f : RunCtl → RunCtl) : (s.withRun f).time = s.time := rfl
@[simp] theorem State.withRun_pulses (s : State) (f : RunCtl → RunCtl) : (s.withRun f).pulses = s.pulses := rfl
@[simp] theorem State.withRun_image (s : State) (f : RunCtl → RunCtl) : (s.withRun f).image = s.image := rfl
@[simp] theorem State.withRun_tokens (s : State) (f : RunCtl → RunCtl) : (s.withRun f).tokens = s.tokens := rfl
@[simp] theorem State.withRun_fixer (s : State) (f : RunCtl → RunCtl) : (s.withRun f).fixer = s.fixer := rfl
@[simp] theorem State.withRun_bundles (s : State) (f : RunCtl → RunCtl) : (s.withRun f).bundles = s.bundles := rfl
@[simp] theorem State.withRun_queueCounts (s : State) (f : RunCtl → RunCtl) : (s.withRun f).queueCounts = s.queueCounts := rfl
@[simp] theorem State.withRun_notices (s : State) (f : RunCtl → RunCtl) : (s.withRun f).notices = s.notices := rfl
@[simp] theorem State.withRun_laneOut (s : State) (f : RunCtl → RunCtl) : (s.withRun f).laneOut = s.laneOut := rfl
@[simp] theorem State.withRun_cores (s : State) (f : RunCtl → RunCtl) : (s.withRun f).cores = s.cores := rfl
@[simp] theorem State.withRun_sched (s : State) (f : RunCtl → RunCtl) : (s.withRun f).sched = s.sched := rfl
@[simp] theorem State.withRun_chan (s : State) (f : RunCtl → RunCtl) : (s.withRun f).chan = s.chan := rfl
@[simp] theorem State.withRun_fabric (s : State) (f : RunCtl → RunCtl) : (s.withRun f).fabric = s.fabric := rfl
@[simp] theorem State.withRun_trace (s : State) (f : RunCtl → RunCtl) : (s.withRun f).trace = s.trace := rfl
@[simp] theorem State.withRun_sec (s : State) (f : RunCtl → RunCtl) : (s.withRun f).sec = s.sec := rfl
@[simp] theorem State.withRun_loader (s : State) (f : RunCtl → RunCtl) : (s.withRun f).loader = s.loader := rfl
@[simp] theorem State.withRun_rings (s : State) (f : RunCtl → RunCtl) : (s.withRun f).rings = s.rings := rfl
@[simp] theorem State.withRun_guest (s : State) (f : RunCtl → RunCtl) : (s.withRun f).guest = s.guest := rfl
@[simp] theorem State.withRun_sheets (s : State) (f : RunCtl → RunCtl) : (s.withRun f).sheets = s.sheets := rfl
@[simp] theorem State.withRun_lanes (s : State) (f : RunCtl → RunCtl) : (s.withRun f).lanes = s.lanes := rfl
@[simp] theorem State.withRun_pins (s : State) (f : RunCtl → RunCtl) : (s.withRun f).pins = s.pins := rfl
@[simp] theorem State.withRun_trig (s : State) (f : RunCtl → RunCtl) : (s.withRun f).trig = s.trig := rfl
@[simp] theorem State.withRun_host (s : State) (f : RunCtl → RunCtl) : (s.withRun f).host = s.host := rfl
@[simp] theorem State.withRun_free (s : State) (f : RunCtl → RunCtl) : (s.withRun f).free = s.free := rfl

@[simp] theorem State.withScheduler_pending (s : State) (f : Scheduler → Scheduler) : (s.withScheduler f).pending = s.pending := rfl
@[simp] theorem State.withScheduler_answer (s : State) (f : Scheduler → Scheduler) : (s.withScheduler f).answer = s.answer := rfl
@[simp] theorem State.withScheduler_part (s : State) (f : Scheduler → Scheduler) : (s.withScheduler f).part = s.part := rfl
@[simp] theorem State.withScheduler_dict (s : State) (f : Scheduler → Scheduler) : (s.withScheduler f).dict = s.dict := rfl
@[simp] theorem State.withScheduler_mgmt (s : State) (f : Scheduler → Scheduler) : (s.withScheduler f).mgmt = s.mgmt := rfl
@[simp] theorem State.withScheduler_can (s : State) (f : Scheduler → Scheduler) : (s.withScheduler f).can = s.can := rfl
@[simp] theorem State.withScheduler_boot (s : State) (f : Scheduler → Scheduler) : (s.withScheduler f).boot = s.boot := rfl
@[simp] theorem State.withScheduler_log (s : State) (f : Scheduler → Scheduler) : (s.withScheduler f).log = s.log := rfl
@[simp] theorem State.withScheduler_arr (s : State) (f : Scheduler → Scheduler) : (s.withScheduler f).arr = s.arr := rfl
@[simp] theorem State.withScheduler_run (s : State) (f : Scheduler → Scheduler) : (s.withScheduler f).run = s.run := rfl
@[simp] theorem State.withScheduler_mem (s : State) (f : Scheduler → Scheduler) : (s.withScheduler f).mem = s.mem := rfl
@[simp] theorem State.withScheduler_rst (s : State) (f : Scheduler → Scheduler) : (s.withScheduler f).rst = s.rst := rfl
@[simp] theorem State.withScheduler_therm (s : State) (f : Scheduler → Scheduler) : (s.withScheduler f).therm = s.therm := rfl
@[simp] theorem State.withScheduler_time (s : State) (f : Scheduler → Scheduler) : (s.withScheduler f).time = s.time := rfl
@[simp] theorem State.withScheduler_pulses (s : State) (f : Scheduler → Scheduler) : (s.withScheduler f).pulses = s.pulses := rfl
@[simp] theorem State.withScheduler_image (s : State) (f : Scheduler → Scheduler) : (s.withScheduler f).image = s.image := rfl
@[simp] theorem State.withScheduler_tokens (s : State) (f : Scheduler → Scheduler) : (s.withScheduler f).tokens = s.tokens := rfl
@[simp] theorem State.withScheduler_fixer (s : State) (f : Scheduler → Scheduler) : (s.withScheduler f).fixer = s.fixer := rfl
@[simp] theorem State.withScheduler_bundles (s : State) (f : Scheduler → Scheduler) : (s.withScheduler f).bundles = s.bundles := rfl
@[simp] theorem State.withScheduler_queueCounts (s : State) (f : Scheduler → Scheduler) : (s.withScheduler f).queueCounts = s.queueCounts := rfl
@[simp] theorem State.withScheduler_notices (s : State) (f : Scheduler → Scheduler) : (s.withScheduler f).notices = s.notices := rfl
@[simp] theorem State.withScheduler_laneOut (s : State) (f : Scheduler → Scheduler) : (s.withScheduler f).laneOut = s.laneOut := rfl
@[simp] theorem State.withScheduler_cores (s : State) (f : Scheduler → Scheduler) : (s.withScheduler f).cores = s.cores := rfl
@[simp] theorem State.withScheduler_chan (s : State) (f : Scheduler → Scheduler) : (s.withScheduler f).chan = s.chan := rfl
@[simp] theorem State.withScheduler_fabric (s : State) (f : Scheduler → Scheduler) : (s.withScheduler f).fabric = s.fabric := rfl
@[simp] theorem State.withScheduler_trace (s : State) (f : Scheduler → Scheduler) : (s.withScheduler f).trace = s.trace := rfl
@[simp] theorem State.withScheduler_sec (s : State) (f : Scheduler → Scheduler) : (s.withScheduler f).sec = s.sec := rfl
@[simp] theorem State.withScheduler_loader (s : State) (f : Scheduler → Scheduler) : (s.withScheduler f).loader = s.loader := rfl
@[simp] theorem State.withScheduler_rings (s : State) (f : Scheduler → Scheduler) : (s.withScheduler f).rings = s.rings := rfl
@[simp] theorem State.withScheduler_guest (s : State) (f : Scheduler → Scheduler) : (s.withScheduler f).guest = s.guest := rfl
@[simp] theorem State.withScheduler_sheets (s : State) (f : Scheduler → Scheduler) : (s.withScheduler f).sheets = s.sheets := rfl
@[simp] theorem State.withScheduler_lanes (s : State) (f : Scheduler → Scheduler) : (s.withScheduler f).lanes = s.lanes := rfl
@[simp] theorem State.withScheduler_pins (s : State) (f : Scheduler → Scheduler) : (s.withScheduler f).pins = s.pins := rfl
@[simp] theorem State.withScheduler_trig (s : State) (f : Scheduler → Scheduler) : (s.withScheduler f).trig = s.trig := rfl
@[simp] theorem State.withScheduler_host (s : State) (f : Scheduler → Scheduler) : (s.withScheduler f).host = s.host := rfl
@[simp] theorem State.withScheduler_free (s : State) (f : Scheduler → Scheduler) : (s.withScheduler f).free = s.free := rfl

@[simp] theorem State.withSec_pending (s : State) (f : Security → Security) : (s.withSec f).pending = s.pending := rfl
@[simp] theorem State.withSec_answer (s : State) (f : Security → Security) : (s.withSec f).answer = s.answer := rfl
@[simp] theorem State.withSec_part (s : State) (f : Security → Security) : (s.withSec f).part = s.part := rfl
@[simp] theorem State.withSec_dict (s : State) (f : Security → Security) : (s.withSec f).dict = s.dict := rfl
@[simp] theorem State.withSec_mgmt (s : State) (f : Security → Security) : (s.withSec f).mgmt = s.mgmt := rfl
@[simp] theorem State.withSec_can (s : State) (f : Security → Security) : (s.withSec f).can = s.can := rfl
@[simp] theorem State.withSec_boot (s : State) (f : Security → Security) : (s.withSec f).boot = s.boot := rfl
@[simp] theorem State.withSec_log (s : State) (f : Security → Security) : (s.withSec f).log = s.log := rfl
@[simp] theorem State.withSec_arr (s : State) (f : Security → Security) : (s.withSec f).arr = s.arr := rfl
@[simp] theorem State.withSec_run (s : State) (f : Security → Security) : (s.withSec f).run = s.run := rfl
@[simp] theorem State.withSec_mem (s : State) (f : Security → Security) : (s.withSec f).mem = s.mem := rfl
@[simp] theorem State.withSec_rst (s : State) (f : Security → Security) : (s.withSec f).rst = s.rst := rfl
@[simp] theorem State.withSec_therm (s : State) (f : Security → Security) : (s.withSec f).therm = s.therm := rfl
@[simp] theorem State.withSec_time (s : State) (f : Security → Security) : (s.withSec f).time = s.time := rfl
@[simp] theorem State.withSec_pulses (s : State) (f : Security → Security) : (s.withSec f).pulses = s.pulses := rfl
@[simp] theorem State.withSec_image (s : State) (f : Security → Security) : (s.withSec f).image = s.image := rfl
@[simp] theorem State.withSec_tokens (s : State) (f : Security → Security) : (s.withSec f).tokens = s.tokens := rfl
@[simp] theorem State.withSec_fixer (s : State) (f : Security → Security) : (s.withSec f).fixer = s.fixer := rfl
@[simp] theorem State.withSec_bundles (s : State) (f : Security → Security) : (s.withSec f).bundles = s.bundles := rfl
@[simp] theorem State.withSec_queueCounts (s : State) (f : Security → Security) : (s.withSec f).queueCounts = s.queueCounts := rfl
@[simp] theorem State.withSec_notices (s : State) (f : Security → Security) : (s.withSec f).notices = s.notices := rfl
@[simp] theorem State.withSec_laneOut (s : State) (f : Security → Security) : (s.withSec f).laneOut = s.laneOut := rfl
@[simp] theorem State.withSec_cores (s : State) (f : Security → Security) : (s.withSec f).cores = s.cores := rfl
@[simp] theorem State.withSec_sched (s : State) (f : Security → Security) : (s.withSec f).sched = s.sched := rfl
@[simp] theorem State.withSec_chan (s : State) (f : Security → Security) : (s.withSec f).chan = s.chan := rfl
@[simp] theorem State.withSec_fabric (s : State) (f : Security → Security) : (s.withSec f).fabric = s.fabric := rfl
@[simp] theorem State.withSec_trace (s : State) (f : Security → Security) : (s.withSec f).trace = s.trace := rfl
@[simp] theorem State.withSec_loader (s : State) (f : Security → Security) : (s.withSec f).loader = s.loader := rfl
@[simp] theorem State.withSec_rings (s : State) (f : Security → Security) : (s.withSec f).rings = s.rings := rfl
@[simp] theorem State.withSec_guest (s : State) (f : Security → Security) : (s.withSec f).guest = s.guest := rfl
@[simp] theorem State.withSec_sheets (s : State) (f : Security → Security) : (s.withSec f).sheets = s.sheets := rfl
@[simp] theorem State.withSec_lanes (s : State) (f : Security → Security) : (s.withSec f).lanes = s.lanes := rfl
@[simp] theorem State.withSec_pins (s : State) (f : Security → Security) : (s.withSec f).pins = s.pins := rfl
@[simp] theorem State.withSec_trig (s : State) (f : Security → Security) : (s.withSec f).trig = s.trig := rfl
@[simp] theorem State.withSec_host (s : State) (f : Security → Security) : (s.withSec f).host = s.host := rfl
@[simp] theorem State.withSec_free (s : State) (f : Security → Security) : (s.withSec f).free = s.free := rfl

@[simp] theorem State.withTherm_pending (s : State) (f : Thermal → Thermal) : (s.withTherm f).pending = s.pending := rfl
@[simp] theorem State.withTherm_answer (s : State) (f : Thermal → Thermal) : (s.withTherm f).answer = s.answer := rfl
@[simp] theorem State.withTherm_part (s : State) (f : Thermal → Thermal) : (s.withTherm f).part = s.part := rfl
@[simp] theorem State.withTherm_dict (s : State) (f : Thermal → Thermal) : (s.withTherm f).dict = s.dict := rfl
@[simp] theorem State.withTherm_mgmt (s : State) (f : Thermal → Thermal) : (s.withTherm f).mgmt = s.mgmt := rfl
@[simp] theorem State.withTherm_can (s : State) (f : Thermal → Thermal) : (s.withTherm f).can = s.can := rfl
@[simp] theorem State.withTherm_boot (s : State) (f : Thermal → Thermal) : (s.withTherm f).boot = s.boot := rfl
@[simp] theorem State.withTherm_log (s : State) (f : Thermal → Thermal) : (s.withTherm f).log = s.log := rfl
@[simp] theorem State.withTherm_arr (s : State) (f : Thermal → Thermal) : (s.withTherm f).arr = s.arr := rfl
@[simp] theorem State.withTherm_run (s : State) (f : Thermal → Thermal) : (s.withTherm f).run = s.run := rfl
@[simp] theorem State.withTherm_mem (s : State) (f : Thermal → Thermal) : (s.withTherm f).mem = s.mem := rfl
@[simp] theorem State.withTherm_rst (s : State) (f : Thermal → Thermal) : (s.withTherm f).rst = s.rst := rfl
@[simp] theorem State.withTherm_time (s : State) (f : Thermal → Thermal) : (s.withTherm f).time = s.time := rfl
@[simp] theorem State.withTherm_pulses (s : State) (f : Thermal → Thermal) : (s.withTherm f).pulses = s.pulses := rfl
@[simp] theorem State.withTherm_image (s : State) (f : Thermal → Thermal) : (s.withTherm f).image = s.image := rfl
@[simp] theorem State.withTherm_tokens (s : State) (f : Thermal → Thermal) : (s.withTherm f).tokens = s.tokens := rfl
@[simp] theorem State.withTherm_fixer (s : State) (f : Thermal → Thermal) : (s.withTherm f).fixer = s.fixer := rfl
@[simp] theorem State.withTherm_bundles (s : State) (f : Thermal → Thermal) : (s.withTherm f).bundles = s.bundles := rfl
@[simp] theorem State.withTherm_queueCounts (s : State) (f : Thermal → Thermal) : (s.withTherm f).queueCounts = s.queueCounts := rfl
@[simp] theorem State.withTherm_notices (s : State) (f : Thermal → Thermal) : (s.withTherm f).notices = s.notices := rfl
@[simp] theorem State.withTherm_laneOut (s : State) (f : Thermal → Thermal) : (s.withTherm f).laneOut = s.laneOut := rfl
@[simp] theorem State.withTherm_cores (s : State) (f : Thermal → Thermal) : (s.withTherm f).cores = s.cores := rfl
@[simp] theorem State.withTherm_sched (s : State) (f : Thermal → Thermal) : (s.withTherm f).sched = s.sched := rfl
@[simp] theorem State.withTherm_chan (s : State) (f : Thermal → Thermal) : (s.withTherm f).chan = s.chan := rfl
@[simp] theorem State.withTherm_fabric (s : State) (f : Thermal → Thermal) : (s.withTherm f).fabric = s.fabric := rfl
@[simp] theorem State.withTherm_trace (s : State) (f : Thermal → Thermal) : (s.withTherm f).trace = s.trace := rfl
@[simp] theorem State.withTherm_sec (s : State) (f : Thermal → Thermal) : (s.withTherm f).sec = s.sec := rfl
@[simp] theorem State.withTherm_loader (s : State) (f : Thermal → Thermal) : (s.withTherm f).loader = s.loader := rfl
@[simp] theorem State.withTherm_rings (s : State) (f : Thermal → Thermal) : (s.withTherm f).rings = s.rings := rfl
@[simp] theorem State.withTherm_guest (s : State) (f : Thermal → Thermal) : (s.withTherm f).guest = s.guest := rfl
@[simp] theorem State.withTherm_sheets (s : State) (f : Thermal → Thermal) : (s.withTherm f).sheets = s.sheets := rfl
@[simp] theorem State.withTherm_lanes (s : State) (f : Thermal → Thermal) : (s.withTherm f).lanes = s.lanes := rfl
@[simp] theorem State.withTherm_pins (s : State) (f : Thermal → Thermal) : (s.withTherm f).pins = s.pins := rfl
@[simp] theorem State.withTherm_trig (s : State) (f : Thermal → Thermal) : (s.withTherm f).trig = s.trig := rfl
@[simp] theorem State.withTherm_host (s : State) (f : Thermal → Thermal) : (s.withTherm f).host = s.host := rfl
@[simp] theorem State.withTherm_free (s : State) (f : Thermal → Thermal) : (s.withTherm f).free = s.free := rfl

@[simp] theorem State.withTime_pending (s : State) (f : TimeBase → TimeBase) : (s.withTime f).pending = s.pending := rfl
@[simp] theorem State.withTime_answer (s : State) (f : TimeBase → TimeBase) : (s.withTime f).answer = s.answer := rfl
@[simp] theorem State.withTime_part (s : State) (f : TimeBase → TimeBase) : (s.withTime f).part = s.part := rfl
@[simp] theorem State.withTime_dict (s : State) (f : TimeBase → TimeBase) : (s.withTime f).dict = s.dict := rfl
@[simp] theorem State.withTime_mgmt (s : State) (f : TimeBase → TimeBase) : (s.withTime f).mgmt = s.mgmt := rfl
@[simp] theorem State.withTime_can (s : State) (f : TimeBase → TimeBase) : (s.withTime f).can = s.can := rfl
@[simp] theorem State.withTime_boot (s : State) (f : TimeBase → TimeBase) : (s.withTime f).boot = s.boot := rfl
@[simp] theorem State.withTime_log (s : State) (f : TimeBase → TimeBase) : (s.withTime f).log = s.log := rfl
@[simp] theorem State.withTime_arr (s : State) (f : TimeBase → TimeBase) : (s.withTime f).arr = s.arr := rfl
@[simp] theorem State.withTime_run (s : State) (f : TimeBase → TimeBase) : (s.withTime f).run = s.run := rfl
@[simp] theorem State.withTime_mem (s : State) (f : TimeBase → TimeBase) : (s.withTime f).mem = s.mem := rfl
@[simp] theorem State.withTime_rst (s : State) (f : TimeBase → TimeBase) : (s.withTime f).rst = s.rst := rfl
@[simp] theorem State.withTime_therm (s : State) (f : TimeBase → TimeBase) : (s.withTime f).therm = s.therm := rfl
@[simp] theorem State.withTime_pulses (s : State) (f : TimeBase → TimeBase) : (s.withTime f).pulses = s.pulses := rfl
@[simp] theorem State.withTime_image (s : State) (f : TimeBase → TimeBase) : (s.withTime f).image = s.image := rfl
@[simp] theorem State.withTime_tokens (s : State) (f : TimeBase → TimeBase) : (s.withTime f).tokens = s.tokens := rfl
@[simp] theorem State.withTime_fixer (s : State) (f : TimeBase → TimeBase) : (s.withTime f).fixer = s.fixer := rfl
@[simp] theorem State.withTime_bundles (s : State) (f : TimeBase → TimeBase) : (s.withTime f).bundles = s.bundles := rfl
@[simp] theorem State.withTime_queueCounts (s : State) (f : TimeBase → TimeBase) : (s.withTime f).queueCounts = s.queueCounts := rfl
@[simp] theorem State.withTime_notices (s : State) (f : TimeBase → TimeBase) : (s.withTime f).notices = s.notices := rfl
@[simp] theorem State.withTime_laneOut (s : State) (f : TimeBase → TimeBase) : (s.withTime f).laneOut = s.laneOut := rfl
@[simp] theorem State.withTime_cores (s : State) (f : TimeBase → TimeBase) : (s.withTime f).cores = s.cores := rfl
@[simp] theorem State.withTime_sched (s : State) (f : TimeBase → TimeBase) : (s.withTime f).sched = s.sched := rfl
@[simp] theorem State.withTime_chan (s : State) (f : TimeBase → TimeBase) : (s.withTime f).chan = s.chan := rfl
@[simp] theorem State.withTime_fabric (s : State) (f : TimeBase → TimeBase) : (s.withTime f).fabric = s.fabric := rfl
@[simp] theorem State.withTime_trace (s : State) (f : TimeBase → TimeBase) : (s.withTime f).trace = s.trace := rfl
@[simp] theorem State.withTime_sec (s : State) (f : TimeBase → TimeBase) : (s.withTime f).sec = s.sec := rfl
@[simp] theorem State.withTime_loader (s : State) (f : TimeBase → TimeBase) : (s.withTime f).loader = s.loader := rfl
@[simp] theorem State.withTime_rings (s : State) (f : TimeBase → TimeBase) : (s.withTime f).rings = s.rings := rfl
@[simp] theorem State.withTime_guest (s : State) (f : TimeBase → TimeBase) : (s.withTime f).guest = s.guest := rfl
@[simp] theorem State.withTime_sheets (s : State) (f : TimeBase → TimeBase) : (s.withTime f).sheets = s.sheets := rfl
@[simp] theorem State.withTime_lanes (s : State) (f : TimeBase → TimeBase) : (s.withTime f).lanes = s.lanes := rfl
@[simp] theorem State.withTime_pins (s : State) (f : TimeBase → TimeBase) : (s.withTime f).pins = s.pins := rfl
@[simp] theorem State.withTime_trig (s : State) (f : TimeBase → TimeBase) : (s.withTime f).trig = s.trig := rfl
@[simp] theorem State.withTime_host (s : State) (f : TimeBase → TimeBase) : (s.withTime f).host = s.host := rfl
@[simp] theorem State.withTime_free (s : State) (f : TimeBase → TimeBase) : (s.withTime f).free = s.free := rfl

@[simp] theorem State.withCore_pending (s : State) (c : Nat) (f : Core → Core) : (s.withCore c f).pending = s.pending := by
  unfold State.withCore; first | rfl | (split <;> rfl)
@[simp] theorem State.withCore_answer (s : State) (c : Nat) (f : Core → Core) : (s.withCore c f).answer = s.answer := by
  unfold State.withCore; first | rfl | (split <;> rfl)
@[simp] theorem State.withCore_part (s : State) (c : Nat) (f : Core → Core) : (s.withCore c f).part = s.part := by
  unfold State.withCore; first | rfl | (split <;> rfl)
@[simp] theorem State.withCore_dict (s : State) (c : Nat) (f : Core → Core) : (s.withCore c f).dict = s.dict := by
  unfold State.withCore; first | rfl | (split <;> rfl)
@[simp] theorem State.withCore_mgmt (s : State) (c : Nat) (f : Core → Core) : (s.withCore c f).mgmt = s.mgmt := by
  unfold State.withCore; first | rfl | (split <;> rfl)
@[simp] theorem State.withCore_can (s : State) (c : Nat) (f : Core → Core) : (s.withCore c f).can = s.can := by
  unfold State.withCore; first | rfl | (split <;> rfl)
@[simp] theorem State.withCore_boot (s : State) (c : Nat) (f : Core → Core) : (s.withCore c f).boot = s.boot := by
  unfold State.withCore; first | rfl | (split <;> rfl)
@[simp] theorem State.withCore_log (s : State) (c : Nat) (f : Core → Core) : (s.withCore c f).log = s.log := by
  unfold State.withCore; first | rfl | (split <;> rfl)
@[simp] theorem State.withCore_arr (s : State) (c : Nat) (f : Core → Core) : (s.withCore c f).arr = s.arr := by
  unfold State.withCore; first | rfl | (split <;> rfl)
@[simp] theorem State.withCore_run (s : State) (c : Nat) (f : Core → Core) : (s.withCore c f).run = s.run := by
  unfold State.withCore; first | rfl | (split <;> rfl)
@[simp] theorem State.withCore_mem (s : State) (c : Nat) (f : Core → Core) : (s.withCore c f).mem = s.mem := by
  unfold State.withCore; first | rfl | (split <;> rfl)
@[simp] theorem State.withCore_rst (s : State) (c : Nat) (f : Core → Core) : (s.withCore c f).rst = s.rst := by
  unfold State.withCore; first | rfl | (split <;> rfl)
@[simp] theorem State.withCore_therm (s : State) (c : Nat) (f : Core → Core) : (s.withCore c f).therm = s.therm := by
  unfold State.withCore; first | rfl | (split <;> rfl)
@[simp] theorem State.withCore_time (s : State) (c : Nat) (f : Core → Core) : (s.withCore c f).time = s.time := by
  unfold State.withCore; first | rfl | (split <;> rfl)
@[simp] theorem State.withCore_pulses (s : State) (c : Nat) (f : Core → Core) : (s.withCore c f).pulses = s.pulses := by
  unfold State.withCore; first | rfl | (split <;> rfl)
@[simp] theorem State.withCore_image (s : State) (c : Nat) (f : Core → Core) : (s.withCore c f).image = s.image := by
  unfold State.withCore; first | rfl | (split <;> rfl)
@[simp] theorem State.withCore_tokens (s : State) (c : Nat) (f : Core → Core) : (s.withCore c f).tokens = s.tokens := by
  unfold State.withCore; first | rfl | (split <;> rfl)
@[simp] theorem State.withCore_fixer (s : State) (c : Nat) (f : Core → Core) : (s.withCore c f).fixer = s.fixer := by
  unfold State.withCore; first | rfl | (split <;> rfl)
@[simp] theorem State.withCore_bundles (s : State) (c : Nat) (f : Core → Core) : (s.withCore c f).bundles = s.bundles := by
  unfold State.withCore; first | rfl | (split <;> rfl)
@[simp] theorem State.withCore_queueCounts (s : State) (c : Nat) (f : Core → Core) : (s.withCore c f).queueCounts = s.queueCounts := by
  unfold State.withCore; first | rfl | (split <;> rfl)
@[simp] theorem State.withCore_notices (s : State) (c : Nat) (f : Core → Core) : (s.withCore c f).notices = s.notices := by
  unfold State.withCore; first | rfl | (split <;> rfl)
@[simp] theorem State.withCore_laneOut (s : State) (c : Nat) (f : Core → Core) : (s.withCore c f).laneOut = s.laneOut := by
  unfold State.withCore; first | rfl | (split <;> rfl)
@[simp] theorem State.withCore_sched (s : State) (c : Nat) (f : Core → Core) : (s.withCore c f).sched = s.sched := by
  unfold State.withCore; first | rfl | (split <;> rfl)
@[simp] theorem State.withCore_chan (s : State) (c : Nat) (f : Core → Core) : (s.withCore c f).chan = s.chan := by
  unfold State.withCore; first | rfl | (split <;> rfl)
@[simp] theorem State.withCore_fabric (s : State) (c : Nat) (f : Core → Core) : (s.withCore c f).fabric = s.fabric := by
  unfold State.withCore; first | rfl | (split <;> rfl)
@[simp] theorem State.withCore_trace (s : State) (c : Nat) (f : Core → Core) : (s.withCore c f).trace = s.trace := by
  unfold State.withCore; first | rfl | (split <;> rfl)
@[simp] theorem State.withCore_sec (s : State) (c : Nat) (f : Core → Core) : (s.withCore c f).sec = s.sec := by
  unfold State.withCore; first | rfl | (split <;> rfl)
@[simp] theorem State.withCore_loader (s : State) (c : Nat) (f : Core → Core) : (s.withCore c f).loader = s.loader := by
  unfold State.withCore; first | rfl | (split <;> rfl)
@[simp] theorem State.withCore_rings (s : State) (c : Nat) (f : Core → Core) : (s.withCore c f).rings = s.rings := by
  unfold State.withCore; first | rfl | (split <;> rfl)
@[simp] theorem State.withCore_guest (s : State) (c : Nat) (f : Core → Core) : (s.withCore c f).guest = s.guest := by
  unfold State.withCore; first | rfl | (split <;> rfl)
@[simp] theorem State.withCore_sheets (s : State) (c : Nat) (f : Core → Core) : (s.withCore c f).sheets = s.sheets := by
  unfold State.withCore; first | rfl | (split <;> rfl)
@[simp] theorem State.withCore_lanes (s : State) (c : Nat) (f : Core → Core) : (s.withCore c f).lanes = s.lanes := by
  unfold State.withCore; first | rfl | (split <;> rfl)
@[simp] theorem State.withCore_pins (s : State) (c : Nat) (f : Core → Core) : (s.withCore c f).pins = s.pins := by
  unfold State.withCore; first | rfl | (split <;> rfl)
@[simp] theorem State.withCore_trig (s : State) (c : Nat) (f : Core → Core) : (s.withCore c f).trig = s.trig := by
  unfold State.withCore; first | rfl | (split <;> rfl)
@[simp] theorem State.withCore_host (s : State) (c : Nat) (f : Core → Core) : (s.withCore c f).host = s.host := by
  unfold State.withCore; first | rfl | (split <;> rfl)
@[simp] theorem State.withCore_free (s : State) (c : Nat) (f : Core → Core) : (s.withCore c f).free = s.free := by
  unfold State.withCore; first | rfl | (split <;> rfl)

@[simp] theorem State.putEntry_pending (s : State) (key : Nat) (v : Nat) : (s.putEntry key v).pending = s.pending := rfl
@[simp] theorem State.putEntry_answer (s : State) (key : Nat) (v : Nat) : (s.putEntry key v).answer = s.answer := rfl
@[simp] theorem State.putEntry_part (s : State) (key : Nat) (v : Nat) : (s.putEntry key v).part = s.part := rfl
@[simp] theorem State.putEntry_mgmt (s : State) (key : Nat) (v : Nat) : (s.putEntry key v).mgmt = s.mgmt := rfl
@[simp] theorem State.putEntry_can (s : State) (key : Nat) (v : Nat) : (s.putEntry key v).can = s.can := rfl
@[simp] theorem State.putEntry_boot (s : State) (key : Nat) (v : Nat) : (s.putEntry key v).boot = s.boot := rfl
@[simp] theorem State.putEntry_log (s : State) (key : Nat) (v : Nat) : (s.putEntry key v).log = s.log := rfl
@[simp] theorem State.putEntry_arr (s : State) (key : Nat) (v : Nat) : (s.putEntry key v).arr = s.arr := rfl
@[simp] theorem State.putEntry_run (s : State) (key : Nat) (v : Nat) : (s.putEntry key v).run = s.run := rfl
@[simp] theorem State.putEntry_mem (s : State) (key : Nat) (v : Nat) : (s.putEntry key v).mem = s.mem := rfl
@[simp] theorem State.putEntry_rst (s : State) (key : Nat) (v : Nat) : (s.putEntry key v).rst = s.rst := rfl
@[simp] theorem State.putEntry_therm (s : State) (key : Nat) (v : Nat) : (s.putEntry key v).therm = s.therm := rfl
@[simp] theorem State.putEntry_time (s : State) (key : Nat) (v : Nat) : (s.putEntry key v).time = s.time := rfl
@[simp] theorem State.putEntry_pulses (s : State) (key : Nat) (v : Nat) : (s.putEntry key v).pulses = s.pulses := rfl
@[simp] theorem State.putEntry_image (s : State) (key : Nat) (v : Nat) : (s.putEntry key v).image = s.image := rfl
@[simp] theorem State.putEntry_tokens (s : State) (key : Nat) (v : Nat) : (s.putEntry key v).tokens = s.tokens := rfl
@[simp] theorem State.putEntry_fixer (s : State) (key : Nat) (v : Nat) : (s.putEntry key v).fixer = s.fixer := rfl
@[simp] theorem State.putEntry_bundles (s : State) (key : Nat) (v : Nat) : (s.putEntry key v).bundles = s.bundles := rfl
@[simp] theorem State.putEntry_queueCounts (s : State) (key : Nat) (v : Nat) : (s.putEntry key v).queueCounts = s.queueCounts := rfl
@[simp] theorem State.putEntry_notices (s : State) (key : Nat) (v : Nat) : (s.putEntry key v).notices = s.notices := rfl
@[simp] theorem State.putEntry_laneOut (s : State) (key : Nat) (v : Nat) : (s.putEntry key v).laneOut = s.laneOut := rfl
@[simp] theorem State.putEntry_cores (s : State) (key : Nat) (v : Nat) : (s.putEntry key v).cores = s.cores := rfl
@[simp] theorem State.putEntry_sched (s : State) (key : Nat) (v : Nat) : (s.putEntry key v).sched = s.sched := rfl
@[simp] theorem State.putEntry_chan (s : State) (key : Nat) (v : Nat) : (s.putEntry key v).chan = s.chan := rfl
@[simp] theorem State.putEntry_fabric (s : State) (key : Nat) (v : Nat) : (s.putEntry key v).fabric = s.fabric := rfl
@[simp] theorem State.putEntry_trace (s : State) (key : Nat) (v : Nat) : (s.putEntry key v).trace = s.trace := rfl
@[simp] theorem State.putEntry_sec (s : State) (key : Nat) (v : Nat) : (s.putEntry key v).sec = s.sec := rfl
@[simp] theorem State.putEntry_loader (s : State) (key : Nat) (v : Nat) : (s.putEntry key v).loader = s.loader := rfl
@[simp] theorem State.putEntry_rings (s : State) (key : Nat) (v : Nat) : (s.putEntry key v).rings = s.rings := rfl
@[simp] theorem State.putEntry_guest (s : State) (key : Nat) (v : Nat) : (s.putEntry key v).guest = s.guest := rfl
@[simp] theorem State.putEntry_sheets (s : State) (key : Nat) (v : Nat) : (s.putEntry key v).sheets = s.sheets := rfl
@[simp] theorem State.putEntry_lanes (s : State) (key : Nat) (v : Nat) : (s.putEntry key v).lanes = s.lanes := rfl
@[simp] theorem State.putEntry_pins (s : State) (key : Nat) (v : Nat) : (s.putEntry key v).pins = s.pins := rfl
@[simp] theorem State.putEntry_trig (s : State) (key : Nat) (v : Nat) : (s.putEntry key v).trig = s.trig := rfl
@[simp] theorem State.putEntry_host (s : State) (key : Nat) (v : Nat) : (s.putEntry key v).host = s.host := rfl
@[simp] theorem State.putEntry_free (s : State) (key : Nat) (v : Nat) : (s.putEntry key v).free = s.free := rfl

@[simp] theorem State.bump_pending (s : State) (key : Nat) : (s.bump key).pending = s.pending := rfl
@[simp] theorem State.bump_answer (s : State) (key : Nat) : (s.bump key).answer = s.answer := rfl
@[simp] theorem State.bump_part (s : State) (key : Nat) : (s.bump key).part = s.part := rfl
@[simp] theorem State.bump_mgmt (s : State) (key : Nat) : (s.bump key).mgmt = s.mgmt := rfl
@[simp] theorem State.bump_can (s : State) (key : Nat) : (s.bump key).can = s.can := rfl
@[simp] theorem State.bump_boot (s : State) (key : Nat) : (s.bump key).boot = s.boot := rfl
@[simp] theorem State.bump_log (s : State) (key : Nat) : (s.bump key).log = s.log := rfl
@[simp] theorem State.bump_arr (s : State) (key : Nat) : (s.bump key).arr = s.arr := rfl
@[simp] theorem State.bump_run (s : State) (key : Nat) : (s.bump key).run = s.run := rfl
@[simp] theorem State.bump_mem (s : State) (key : Nat) : (s.bump key).mem = s.mem := rfl
@[simp] theorem State.bump_rst (s : State) (key : Nat) : (s.bump key).rst = s.rst := rfl
@[simp] theorem State.bump_therm (s : State) (key : Nat) : (s.bump key).therm = s.therm := rfl
@[simp] theorem State.bump_time (s : State) (key : Nat) : (s.bump key).time = s.time := rfl
@[simp] theorem State.bump_pulses (s : State) (key : Nat) : (s.bump key).pulses = s.pulses := rfl
@[simp] theorem State.bump_image (s : State) (key : Nat) : (s.bump key).image = s.image := rfl
@[simp] theorem State.bump_tokens (s : State) (key : Nat) : (s.bump key).tokens = s.tokens := rfl
@[simp] theorem State.bump_fixer (s : State) (key : Nat) : (s.bump key).fixer = s.fixer := rfl
@[simp] theorem State.bump_bundles (s : State) (key : Nat) : (s.bump key).bundles = s.bundles := rfl
@[simp] theorem State.bump_queueCounts (s : State) (key : Nat) : (s.bump key).queueCounts = s.queueCounts := rfl
@[simp] theorem State.bump_notices (s : State) (key : Nat) : (s.bump key).notices = s.notices := rfl
@[simp] theorem State.bump_laneOut (s : State) (key : Nat) : (s.bump key).laneOut = s.laneOut := rfl
@[simp] theorem State.bump_cores (s : State) (key : Nat) : (s.bump key).cores = s.cores := rfl
@[simp] theorem State.bump_sched (s : State) (key : Nat) : (s.bump key).sched = s.sched := rfl
@[simp] theorem State.bump_chan (s : State) (key : Nat) : (s.bump key).chan = s.chan := rfl
@[simp] theorem State.bump_fabric (s : State) (key : Nat) : (s.bump key).fabric = s.fabric := rfl
@[simp] theorem State.bump_trace (s : State) (key : Nat) : (s.bump key).trace = s.trace := rfl
@[simp] theorem State.bump_sec (s : State) (key : Nat) : (s.bump key).sec = s.sec := rfl
@[simp] theorem State.bump_loader (s : State) (key : Nat) : (s.bump key).loader = s.loader := rfl
@[simp] theorem State.bump_rings (s : State) (key : Nat) : (s.bump key).rings = s.rings := rfl
@[simp] theorem State.bump_guest (s : State) (key : Nat) : (s.bump key).guest = s.guest := rfl
@[simp] theorem State.bump_sheets (s : State) (key : Nat) : (s.bump key).sheets = s.sheets := rfl
@[simp] theorem State.bump_lanes (s : State) (key : Nat) : (s.bump key).lanes = s.lanes := rfl
@[simp] theorem State.bump_pins (s : State) (key : Nat) : (s.bump key).pins = s.pins := rfl
@[simp] theorem State.bump_trig (s : State) (key : Nat) : (s.bump key).trig = s.trig := rfl
@[simp] theorem State.bump_host (s : State) (key : Nat) : (s.bump key).host = s.host := rfl
@[simp] theorem State.bump_free (s : State) (key : Nat) : (s.bump key).free = s.free := rfl

@[simp] theorem State.raiseLine_pending (s : State) (line : Nat) : (s.raiseLine line).pending = s.pending := rfl
@[simp] theorem State.raiseLine_answer (s : State) (line : Nat) : (s.raiseLine line).answer = s.answer := rfl
@[simp] theorem State.raiseLine_part (s : State) (line : Nat) : (s.raiseLine line).part = s.part := rfl
@[simp] theorem State.raiseLine_dict (s : State) (line : Nat) : (s.raiseLine line).dict = s.dict := rfl
@[simp] theorem State.raiseLine_mgmt (s : State) (line : Nat) : (s.raiseLine line).mgmt = s.mgmt := rfl
@[simp] theorem State.raiseLine_can (s : State) (line : Nat) : (s.raiseLine line).can = s.can := rfl
@[simp] theorem State.raiseLine_boot (s : State) (line : Nat) : (s.raiseLine line).boot = s.boot := rfl
@[simp] theorem State.raiseLine_log (s : State) (line : Nat) : (s.raiseLine line).log = s.log := rfl
@[simp] theorem State.raiseLine_arr (s : State) (line : Nat) : (s.raiseLine line).arr = s.arr := rfl
@[simp] theorem State.raiseLine_run (s : State) (line : Nat) : (s.raiseLine line).run = s.run := rfl
@[simp] theorem State.raiseLine_mem (s : State) (line : Nat) : (s.raiseLine line).mem = s.mem := rfl
@[simp] theorem State.raiseLine_rst (s : State) (line : Nat) : (s.raiseLine line).rst = s.rst := rfl
@[simp] theorem State.raiseLine_therm (s : State) (line : Nat) : (s.raiseLine line).therm = s.therm := rfl
@[simp] theorem State.raiseLine_time (s : State) (line : Nat) : (s.raiseLine line).time = s.time := rfl
@[simp] theorem State.raiseLine_pulses (s : State) (line : Nat) : (s.raiseLine line).pulses = s.pulses := rfl
@[simp] theorem State.raiseLine_image (s : State) (line : Nat) : (s.raiseLine line).image = s.image := rfl
@[simp] theorem State.raiseLine_tokens (s : State) (line : Nat) : (s.raiseLine line).tokens = s.tokens := rfl
@[simp] theorem State.raiseLine_fixer (s : State) (line : Nat) : (s.raiseLine line).fixer = s.fixer := rfl
@[simp] theorem State.raiseLine_bundles (s : State) (line : Nat) : (s.raiseLine line).bundles = s.bundles := rfl
@[simp] theorem State.raiseLine_queueCounts (s : State) (line : Nat) : (s.raiseLine line).queueCounts = s.queueCounts := rfl
@[simp] theorem State.raiseLine_notices (s : State) (line : Nat) : (s.raiseLine line).notices = s.notices := rfl
@[simp] theorem State.raiseLine_laneOut (s : State) (line : Nat) : (s.raiseLine line).laneOut = s.laneOut := rfl
@[simp] theorem State.raiseLine_sched (s : State) (line : Nat) : (s.raiseLine line).sched = s.sched := rfl
@[simp] theorem State.raiseLine_chan (s : State) (line : Nat) : (s.raiseLine line).chan = s.chan := rfl
@[simp] theorem State.raiseLine_fabric (s : State) (line : Nat) : (s.raiseLine line).fabric = s.fabric := rfl
@[simp] theorem State.raiseLine_trace (s : State) (line : Nat) : (s.raiseLine line).trace = s.trace := rfl
@[simp] theorem State.raiseLine_sec (s : State) (line : Nat) : (s.raiseLine line).sec = s.sec := rfl
@[simp] theorem State.raiseLine_loader (s : State) (line : Nat) : (s.raiseLine line).loader = s.loader := rfl
@[simp] theorem State.raiseLine_rings (s : State) (line : Nat) : (s.raiseLine line).rings = s.rings := rfl
@[simp] theorem State.raiseLine_guest (s : State) (line : Nat) : (s.raiseLine line).guest = s.guest := rfl
@[simp] theorem State.raiseLine_sheets (s : State) (line : Nat) : (s.raiseLine line).sheets = s.sheets := rfl
@[simp] theorem State.raiseLine_lanes (s : State) (line : Nat) : (s.raiseLine line).lanes = s.lanes := rfl
@[simp] theorem State.raiseLine_pins (s : State) (line : Nat) : (s.raiseLine line).pins = s.pins := rfl
@[simp] theorem State.raiseLine_trig (s : State) (line : Nat) : (s.raiseLine line).trig = s.trig := rfl
@[simp] theorem State.raiseLine_free (s : State) (line : Nat) : (s.raiseLine line).free = s.free := rfl

@[simp] theorem State.logEvent_pending (s : State) (code : Nat) (source : Nat) (arg : Nat) (sev : Severity) : (s.logEvent code source arg sev).pending = s.pending := rfl
@[simp] theorem State.logEvent_answer (s : State) (code : Nat) (source : Nat) (arg : Nat) (sev : Severity) : (s.logEvent code source arg sev).answer = s.answer := rfl
@[simp] theorem State.logEvent_part (s : State) (code : Nat) (source : Nat) (arg : Nat) (sev : Severity) : (s.logEvent code source arg sev).part = s.part := rfl
@[simp] theorem State.logEvent_dict (s : State) (code : Nat) (source : Nat) (arg : Nat) (sev : Severity) : (s.logEvent code source arg sev).dict = s.dict := rfl
@[simp] theorem State.logEvent_mgmt (s : State) (code : Nat) (source : Nat) (arg : Nat) (sev : Severity) : (s.logEvent code source arg sev).mgmt = s.mgmt := rfl
@[simp] theorem State.logEvent_can (s : State) (code : Nat) (source : Nat) (arg : Nat) (sev : Severity) : (s.logEvent code source arg sev).can = s.can := rfl
@[simp] theorem State.logEvent_boot (s : State) (code : Nat) (source : Nat) (arg : Nat) (sev : Severity) : (s.logEvent code source arg sev).boot = s.boot := rfl
@[simp] theorem State.logEvent_arr (s : State) (code : Nat) (source : Nat) (arg : Nat) (sev : Severity) : (s.logEvent code source arg sev).arr = s.arr := rfl
@[simp] theorem State.logEvent_run (s : State) (code : Nat) (source : Nat) (arg : Nat) (sev : Severity) : (s.logEvent code source arg sev).run = s.run := rfl
@[simp] theorem State.logEvent_mem (s : State) (code : Nat) (source : Nat) (arg : Nat) (sev : Severity) : (s.logEvent code source arg sev).mem = s.mem := rfl
@[simp] theorem State.logEvent_rst (s : State) (code : Nat) (source : Nat) (arg : Nat) (sev : Severity) : (s.logEvent code source arg sev).rst = s.rst := rfl
@[simp] theorem State.logEvent_therm (s : State) (code : Nat) (source : Nat) (arg : Nat) (sev : Severity) : (s.logEvent code source arg sev).therm = s.therm := rfl
@[simp] theorem State.logEvent_time (s : State) (code : Nat) (source : Nat) (arg : Nat) (sev : Severity) : (s.logEvent code source arg sev).time = s.time := rfl
@[simp] theorem State.logEvent_pulses (s : State) (code : Nat) (source : Nat) (arg : Nat) (sev : Severity) : (s.logEvent code source arg sev).pulses = s.pulses := rfl
@[simp] theorem State.logEvent_image (s : State) (code : Nat) (source : Nat) (arg : Nat) (sev : Severity) : (s.logEvent code source arg sev).image = s.image := rfl
@[simp] theorem State.logEvent_tokens (s : State) (code : Nat) (source : Nat) (arg : Nat) (sev : Severity) : (s.logEvent code source arg sev).tokens = s.tokens := rfl
@[simp] theorem State.logEvent_fixer (s : State) (code : Nat) (source : Nat) (arg : Nat) (sev : Severity) : (s.logEvent code source arg sev).fixer = s.fixer := rfl
@[simp] theorem State.logEvent_bundles (s : State) (code : Nat) (source : Nat) (arg : Nat) (sev : Severity) : (s.logEvent code source arg sev).bundles = s.bundles := rfl
@[simp] theorem State.logEvent_queueCounts (s : State) (code : Nat) (source : Nat) (arg : Nat) (sev : Severity) : (s.logEvent code source arg sev).queueCounts = s.queueCounts := rfl
@[simp] theorem State.logEvent_notices (s : State) (code : Nat) (source : Nat) (arg : Nat) (sev : Severity) : (s.logEvent code source arg sev).notices = s.notices := rfl
@[simp] theorem State.logEvent_laneOut (s : State) (code : Nat) (source : Nat) (arg : Nat) (sev : Severity) : (s.logEvent code source arg sev).laneOut = s.laneOut := rfl
@[simp] theorem State.logEvent_cores (s : State) (code : Nat) (source : Nat) (arg : Nat) (sev : Severity) : (s.logEvent code source arg sev).cores = s.cores := rfl
@[simp] theorem State.logEvent_sched (s : State) (code : Nat) (source : Nat) (arg : Nat) (sev : Severity) : (s.logEvent code source arg sev).sched = s.sched := rfl
@[simp] theorem State.logEvent_chan (s : State) (code : Nat) (source : Nat) (arg : Nat) (sev : Severity) : (s.logEvent code source arg sev).chan = s.chan := rfl
@[simp] theorem State.logEvent_fabric (s : State) (code : Nat) (source : Nat) (arg : Nat) (sev : Severity) : (s.logEvent code source arg sev).fabric = s.fabric := rfl
@[simp] theorem State.logEvent_trace (s : State) (code : Nat) (source : Nat) (arg : Nat) (sev : Severity) : (s.logEvent code source arg sev).trace = s.trace := rfl
@[simp] theorem State.logEvent_sec (s : State) (code : Nat) (source : Nat) (arg : Nat) (sev : Severity) : (s.logEvent code source arg sev).sec = s.sec := rfl
@[simp] theorem State.logEvent_loader (s : State) (code : Nat) (source : Nat) (arg : Nat) (sev : Severity) : (s.logEvent code source arg sev).loader = s.loader := rfl
@[simp] theorem State.logEvent_rings (s : State) (code : Nat) (source : Nat) (arg : Nat) (sev : Severity) : (s.logEvent code source arg sev).rings = s.rings := rfl
@[simp] theorem State.logEvent_guest (s : State) (code : Nat) (source : Nat) (arg : Nat) (sev : Severity) : (s.logEvent code source arg sev).guest = s.guest := rfl
@[simp] theorem State.logEvent_sheets (s : State) (code : Nat) (source : Nat) (arg : Nat) (sev : Severity) : (s.logEvent code source arg sev).sheets = s.sheets := rfl
@[simp] theorem State.logEvent_lanes (s : State) (code : Nat) (source : Nat) (arg : Nat) (sev : Severity) : (s.logEvent code source arg sev).lanes = s.lanes := rfl
@[simp] theorem State.logEvent_pins (s : State) (code : Nat) (source : Nat) (arg : Nat) (sev : Severity) : (s.logEvent code source arg sev).pins = s.pins := rfl
@[simp] theorem State.logEvent_trig (s : State) (code : Nat) (source : Nat) (arg : Nat) (sev : Severity) : (s.logEvent code source arg sev).trig = s.trig := rfl
@[simp] theorem State.logEvent_host (s : State) (code : Nat) (source : Nat) (arg : Nat) (sev : Severity) : (s.logEvent code source arg sev).host = s.host := rfl
@[simp] theorem State.logEvent_free (s : State) (code : Nat) (source : Nat) (arg : Nat) (sev : Severity) : (s.logEvent code source arg sev).free = s.free := rfl

@[simp] theorem State.writeBytes_pending (s : State) (addr : Nat) (bs : List Byte) : (s.writeBytes addr bs).pending = s.pending := rfl
@[simp] theorem State.writeBytes_answer (s : State) (addr : Nat) (bs : List Byte) : (s.writeBytes addr bs).answer = s.answer := rfl
@[simp] theorem State.writeBytes_part (s : State) (addr : Nat) (bs : List Byte) : (s.writeBytes addr bs).part = s.part := rfl
@[simp] theorem State.writeBytes_dict (s : State) (addr : Nat) (bs : List Byte) : (s.writeBytes addr bs).dict = s.dict := rfl
@[simp] theorem State.writeBytes_mgmt (s : State) (addr : Nat) (bs : List Byte) : (s.writeBytes addr bs).mgmt = s.mgmt := rfl
@[simp] theorem State.writeBytes_can (s : State) (addr : Nat) (bs : List Byte) : (s.writeBytes addr bs).can = s.can := rfl
@[simp] theorem State.writeBytes_boot (s : State) (addr : Nat) (bs : List Byte) : (s.writeBytes addr bs).boot = s.boot := rfl
@[simp] theorem State.writeBytes_log (s : State) (addr : Nat) (bs : List Byte) : (s.writeBytes addr bs).log = s.log := rfl
@[simp] theorem State.writeBytes_arr (s : State) (addr : Nat) (bs : List Byte) : (s.writeBytes addr bs).arr = s.arr := rfl
@[simp] theorem State.writeBytes_run (s : State) (addr : Nat) (bs : List Byte) : (s.writeBytes addr bs).run = s.run := rfl
@[simp] theorem State.writeBytes_rst (s : State) (addr : Nat) (bs : List Byte) : (s.writeBytes addr bs).rst = s.rst := rfl
@[simp] theorem State.writeBytes_therm (s : State) (addr : Nat) (bs : List Byte) : (s.writeBytes addr bs).therm = s.therm := rfl
@[simp] theorem State.writeBytes_time (s : State) (addr : Nat) (bs : List Byte) : (s.writeBytes addr bs).time = s.time := rfl
@[simp] theorem State.writeBytes_pulses (s : State) (addr : Nat) (bs : List Byte) : (s.writeBytes addr bs).pulses = s.pulses := rfl
@[simp] theorem State.writeBytes_image (s : State) (addr : Nat) (bs : List Byte) : (s.writeBytes addr bs).image = s.image := rfl
@[simp] theorem State.writeBytes_tokens (s : State) (addr : Nat) (bs : List Byte) : (s.writeBytes addr bs).tokens = s.tokens := rfl
@[simp] theorem State.writeBytes_fixer (s : State) (addr : Nat) (bs : List Byte) : (s.writeBytes addr bs).fixer = s.fixer := rfl
@[simp] theorem State.writeBytes_bundles (s : State) (addr : Nat) (bs : List Byte) : (s.writeBytes addr bs).bundles = s.bundles := rfl
@[simp] theorem State.writeBytes_queueCounts (s : State) (addr : Nat) (bs : List Byte) : (s.writeBytes addr bs).queueCounts = s.queueCounts := rfl
@[simp] theorem State.writeBytes_notices (s : State) (addr : Nat) (bs : List Byte) : (s.writeBytes addr bs).notices = s.notices := rfl
@[simp] theorem State.writeBytes_laneOut (s : State) (addr : Nat) (bs : List Byte) : (s.writeBytes addr bs).laneOut = s.laneOut := rfl
@[simp] theorem State.writeBytes_cores (s : State) (addr : Nat) (bs : List Byte) : (s.writeBytes addr bs).cores = s.cores := rfl
@[simp] theorem State.writeBytes_sched (s : State) (addr : Nat) (bs : List Byte) : (s.writeBytes addr bs).sched = s.sched := rfl
@[simp] theorem State.writeBytes_chan (s : State) (addr : Nat) (bs : List Byte) : (s.writeBytes addr bs).chan = s.chan := rfl
@[simp] theorem State.writeBytes_fabric (s : State) (addr : Nat) (bs : List Byte) : (s.writeBytes addr bs).fabric = s.fabric := rfl
@[simp] theorem State.writeBytes_trace (s : State) (addr : Nat) (bs : List Byte) : (s.writeBytes addr bs).trace = s.trace := rfl
@[simp] theorem State.writeBytes_sec (s : State) (addr : Nat) (bs : List Byte) : (s.writeBytes addr bs).sec = s.sec := rfl
@[simp] theorem State.writeBytes_loader (s : State) (addr : Nat) (bs : List Byte) : (s.writeBytes addr bs).loader = s.loader := rfl
@[simp] theorem State.writeBytes_rings (s : State) (addr : Nat) (bs : List Byte) : (s.writeBytes addr bs).rings = s.rings := rfl
@[simp] theorem State.writeBytes_guest (s : State) (addr : Nat) (bs : List Byte) : (s.writeBytes addr bs).guest = s.guest := rfl
@[simp] theorem State.writeBytes_sheets (s : State) (addr : Nat) (bs : List Byte) : (s.writeBytes addr bs).sheets = s.sheets := rfl
@[simp] theorem State.writeBytes_lanes (s : State) (addr : Nat) (bs : List Byte) : (s.writeBytes addr bs).lanes = s.lanes := rfl
@[simp] theorem State.writeBytes_pins (s : State) (addr : Nat) (bs : List Byte) : (s.writeBytes addr bs).pins = s.pins := rfl
@[simp] theorem State.writeBytes_trig (s : State) (addr : Nat) (bs : List Byte) : (s.writeBytes addr bs).trig = s.trig := rfl
@[simp] theorem State.writeBytes_host (s : State) (addr : Nat) (bs : List Byte) : (s.writeBytes addr bs).host = s.host := rfl
@[simp] theorem State.writeBytes_free (s : State) (addr : Nat) (bs : List Byte) : (s.writeBytes addr bs).free = s.free := rfl

@[simp] theorem State.writeOnDie_pending (s : State) (die : Nat) (off : Nat) (bs : List Byte) : (s.writeOnDie die off bs).pending = s.pending := rfl
@[simp] theorem State.writeOnDie_answer (s : State) (die : Nat) (off : Nat) (bs : List Byte) : (s.writeOnDie die off bs).answer = s.answer := rfl
@[simp] theorem State.writeOnDie_part (s : State) (die : Nat) (off : Nat) (bs : List Byte) : (s.writeOnDie die off bs).part = s.part := rfl
@[simp] theorem State.writeOnDie_dict (s : State) (die : Nat) (off : Nat) (bs : List Byte) : (s.writeOnDie die off bs).dict = s.dict := rfl
@[simp] theorem State.writeOnDie_mgmt (s : State) (die : Nat) (off : Nat) (bs : List Byte) : (s.writeOnDie die off bs).mgmt = s.mgmt := rfl
@[simp] theorem State.writeOnDie_can (s : State) (die : Nat) (off : Nat) (bs : List Byte) : (s.writeOnDie die off bs).can = s.can := rfl
@[simp] theorem State.writeOnDie_boot (s : State) (die : Nat) (off : Nat) (bs : List Byte) : (s.writeOnDie die off bs).boot = s.boot := rfl
@[simp] theorem State.writeOnDie_log (s : State) (die : Nat) (off : Nat) (bs : List Byte) : (s.writeOnDie die off bs).log = s.log := rfl
@[simp] theorem State.writeOnDie_arr (s : State) (die : Nat) (off : Nat) (bs : List Byte) : (s.writeOnDie die off bs).arr = s.arr := rfl
@[simp] theorem State.writeOnDie_run (s : State) (die : Nat) (off : Nat) (bs : List Byte) : (s.writeOnDie die off bs).run = s.run := rfl
@[simp] theorem State.writeOnDie_rst (s : State) (die : Nat) (off : Nat) (bs : List Byte) : (s.writeOnDie die off bs).rst = s.rst := rfl
@[simp] theorem State.writeOnDie_therm (s : State) (die : Nat) (off : Nat) (bs : List Byte) : (s.writeOnDie die off bs).therm = s.therm := rfl
@[simp] theorem State.writeOnDie_time (s : State) (die : Nat) (off : Nat) (bs : List Byte) : (s.writeOnDie die off bs).time = s.time := rfl
@[simp] theorem State.writeOnDie_pulses (s : State) (die : Nat) (off : Nat) (bs : List Byte) : (s.writeOnDie die off bs).pulses = s.pulses := rfl
@[simp] theorem State.writeOnDie_image (s : State) (die : Nat) (off : Nat) (bs : List Byte) : (s.writeOnDie die off bs).image = s.image := rfl
@[simp] theorem State.writeOnDie_tokens (s : State) (die : Nat) (off : Nat) (bs : List Byte) : (s.writeOnDie die off bs).tokens = s.tokens := rfl
@[simp] theorem State.writeOnDie_fixer (s : State) (die : Nat) (off : Nat) (bs : List Byte) : (s.writeOnDie die off bs).fixer = s.fixer := rfl
@[simp] theorem State.writeOnDie_bundles (s : State) (die : Nat) (off : Nat) (bs : List Byte) : (s.writeOnDie die off bs).bundles = s.bundles := rfl
@[simp] theorem State.writeOnDie_queueCounts (s : State) (die : Nat) (off : Nat) (bs : List Byte) : (s.writeOnDie die off bs).queueCounts = s.queueCounts := rfl
@[simp] theorem State.writeOnDie_notices (s : State) (die : Nat) (off : Nat) (bs : List Byte) : (s.writeOnDie die off bs).notices = s.notices := rfl
@[simp] theorem State.writeOnDie_laneOut (s : State) (die : Nat) (off : Nat) (bs : List Byte) : (s.writeOnDie die off bs).laneOut = s.laneOut := rfl
@[simp] theorem State.writeOnDie_cores (s : State) (die : Nat) (off : Nat) (bs : List Byte) : (s.writeOnDie die off bs).cores = s.cores := rfl
@[simp] theorem State.writeOnDie_sched (s : State) (die : Nat) (off : Nat) (bs : List Byte) : (s.writeOnDie die off bs).sched = s.sched := rfl
@[simp] theorem State.writeOnDie_chan (s : State) (die : Nat) (off : Nat) (bs : List Byte) : (s.writeOnDie die off bs).chan = s.chan := rfl
@[simp] theorem State.writeOnDie_fabric (s : State) (die : Nat) (off : Nat) (bs : List Byte) : (s.writeOnDie die off bs).fabric = s.fabric := rfl
@[simp] theorem State.writeOnDie_trace (s : State) (die : Nat) (off : Nat) (bs : List Byte) : (s.writeOnDie die off bs).trace = s.trace := rfl
@[simp] theorem State.writeOnDie_sec (s : State) (die : Nat) (off : Nat) (bs : List Byte) : (s.writeOnDie die off bs).sec = s.sec := rfl
@[simp] theorem State.writeOnDie_loader (s : State) (die : Nat) (off : Nat) (bs : List Byte) : (s.writeOnDie die off bs).loader = s.loader := rfl
@[simp] theorem State.writeOnDie_rings (s : State) (die : Nat) (off : Nat) (bs : List Byte) : (s.writeOnDie die off bs).rings = s.rings := rfl
@[simp] theorem State.writeOnDie_guest (s : State) (die : Nat) (off : Nat) (bs : List Byte) : (s.writeOnDie die off bs).guest = s.guest := rfl
@[simp] theorem State.writeOnDie_sheets (s : State) (die : Nat) (off : Nat) (bs : List Byte) : (s.writeOnDie die off bs).sheets = s.sheets := rfl
@[simp] theorem State.writeOnDie_lanes (s : State) (die : Nat) (off : Nat) (bs : List Byte) : (s.writeOnDie die off bs).lanes = s.lanes := rfl
@[simp] theorem State.writeOnDie_pins (s : State) (die : Nat) (off : Nat) (bs : List Byte) : (s.writeOnDie die off bs).pins = s.pins := rfl
@[simp] theorem State.writeOnDie_trig (s : State) (die : Nat) (off : Nat) (bs : List Byte) : (s.writeOnDie die off bs).trig = s.trig := rfl
@[simp] theorem State.writeOnDie_host (s : State) (die : Nat) (off : Nat) (bs : List Byte) : (s.writeOnDie die off bs).host = s.host := rfl
@[simp] theorem State.writeOnDie_free (s : State) (die : Nat) (off : Nat) (bs : List Byte) : (s.writeOnDie die off bs).free = s.free := rfl

@[simp] theorem State.reply_pending (s : State) (a : Answer) : (s.reply a).pending = s.pending := rfl
@[simp] theorem State.reply_part (s : State) (a : Answer) : (s.reply a).part = s.part := rfl
@[simp] theorem State.reply_dict (s : State) (a : Answer) : (s.reply a).dict = s.dict := rfl
@[simp] theorem State.reply_can (s : State) (a : Answer) : (s.reply a).can = s.can := rfl
@[simp] theorem State.reply_boot (s : State) (a : Answer) : (s.reply a).boot = s.boot := rfl
@[simp] theorem State.reply_log (s : State) (a : Answer) : (s.reply a).log = s.log := rfl
@[simp] theorem State.reply_arr (s : State) (a : Answer) : (s.reply a).arr = s.arr := rfl
@[simp] theorem State.reply_run (s : State) (a : Answer) : (s.reply a).run = s.run := rfl
@[simp] theorem State.reply_mem (s : State) (a : Answer) : (s.reply a).mem = s.mem := rfl
@[simp] theorem State.reply_rst (s : State) (a : Answer) : (s.reply a).rst = s.rst := rfl
@[simp] theorem State.reply_therm (s : State) (a : Answer) : (s.reply a).therm = s.therm := rfl
@[simp] theorem State.reply_time (s : State) (a : Answer) : (s.reply a).time = s.time := rfl
@[simp] theorem State.reply_pulses (s : State) (a : Answer) : (s.reply a).pulses = s.pulses := rfl
@[simp] theorem State.reply_image (s : State) (a : Answer) : (s.reply a).image = s.image := rfl
@[simp] theorem State.reply_tokens (s : State) (a : Answer) : (s.reply a).tokens = s.tokens := rfl
@[simp] theorem State.reply_fixer (s : State) (a : Answer) : (s.reply a).fixer = s.fixer := rfl
@[simp] theorem State.reply_bundles (s : State) (a : Answer) : (s.reply a).bundles = s.bundles := rfl
@[simp] theorem State.reply_queueCounts (s : State) (a : Answer) : (s.reply a).queueCounts = s.queueCounts := rfl
@[simp] theorem State.reply_notices (s : State) (a : Answer) : (s.reply a).notices = s.notices := rfl
@[simp] theorem State.reply_laneOut (s : State) (a : Answer) : (s.reply a).laneOut = s.laneOut := rfl
@[simp] theorem State.reply_cores (s : State) (a : Answer) : (s.reply a).cores = s.cores := rfl
@[simp] theorem State.reply_sched (s : State) (a : Answer) : (s.reply a).sched = s.sched := rfl
@[simp] theorem State.reply_chan (s : State) (a : Answer) : (s.reply a).chan = s.chan := rfl
@[simp] theorem State.reply_fabric (s : State) (a : Answer) : (s.reply a).fabric = s.fabric := rfl
@[simp] theorem State.reply_trace (s : State) (a : Answer) : (s.reply a).trace = s.trace := rfl
@[simp] theorem State.reply_sec (s : State) (a : Answer) : (s.reply a).sec = s.sec := rfl
@[simp] theorem State.reply_loader (s : State) (a : Answer) : (s.reply a).loader = s.loader := rfl
@[simp] theorem State.reply_rings (s : State) (a : Answer) : (s.reply a).rings = s.rings := rfl
@[simp] theorem State.reply_guest (s : State) (a : Answer) : (s.reply a).guest = s.guest := rfl
@[simp] theorem State.reply_sheets (s : State) (a : Answer) : (s.reply a).sheets = s.sheets := rfl
@[simp] theorem State.reply_lanes (s : State) (a : Answer) : (s.reply a).lanes = s.lanes := rfl
@[simp] theorem State.reply_pins (s : State) (a : Answer) : (s.reply a).pins = s.pins := rfl
@[simp] theorem State.reply_trig (s : State) (a : Answer) : (s.reply a).trig = s.trig := rfl
@[simp] theorem State.reply_host (s : State) (a : Answer) : (s.reply a).host = s.host := rfl
@[simp] theorem State.reply_free (s : State) (a : Answer) : (s.reply a).free = s.free := rfl

@[simp] theorem State.accept_pending (s : State) : (s.accept).pending = s.pending := rfl
@[simp] theorem State.accept_part (s : State) : (s.accept).part = s.part := rfl
@[simp] theorem State.accept_dict (s : State) : (s.accept).dict = s.dict := rfl
@[simp] theorem State.accept_can (s : State) : (s.accept).can = s.can := rfl
@[simp] theorem State.accept_boot (s : State) : (s.accept).boot = s.boot := rfl
@[simp] theorem State.accept_log (s : State) : (s.accept).log = s.log := rfl
@[simp] theorem State.accept_arr (s : State) : (s.accept).arr = s.arr := rfl
@[simp] theorem State.accept_run (s : State) : (s.accept).run = s.run := rfl
@[simp] theorem State.accept_mem (s : State) : (s.accept).mem = s.mem := rfl
@[simp] theorem State.accept_rst (s : State) : (s.accept).rst = s.rst := rfl
@[simp] theorem State.accept_therm (s : State) : (s.accept).therm = s.therm := rfl
@[simp] theorem State.accept_time (s : State) : (s.accept).time = s.time := rfl
@[simp] theorem State.accept_pulses (s : State) : (s.accept).pulses = s.pulses := rfl
@[simp] theorem State.accept_image (s : State) : (s.accept).image = s.image := rfl
@[simp] theorem State.accept_tokens (s : State) : (s.accept).tokens = s.tokens := rfl
@[simp] theorem State.accept_fixer (s : State) : (s.accept).fixer = s.fixer := rfl
@[simp] theorem State.accept_bundles (s : State) : (s.accept).bundles = s.bundles := rfl
@[simp] theorem State.accept_queueCounts (s : State) : (s.accept).queueCounts = s.queueCounts := rfl
@[simp] theorem State.accept_notices (s : State) : (s.accept).notices = s.notices := rfl
@[simp] theorem State.accept_laneOut (s : State) : (s.accept).laneOut = s.laneOut := rfl
@[simp] theorem State.accept_cores (s : State) : (s.accept).cores = s.cores := rfl
@[simp] theorem State.accept_sched (s : State) : (s.accept).sched = s.sched := rfl
@[simp] theorem State.accept_chan (s : State) : (s.accept).chan = s.chan := rfl
@[simp] theorem State.accept_fabric (s : State) : (s.accept).fabric = s.fabric := rfl
@[simp] theorem State.accept_trace (s : State) : (s.accept).trace = s.trace := rfl
@[simp] theorem State.accept_sec (s : State) : (s.accept).sec = s.sec := rfl
@[simp] theorem State.accept_loader (s : State) : (s.accept).loader = s.loader := rfl
@[simp] theorem State.accept_rings (s : State) : (s.accept).rings = s.rings := rfl
@[simp] theorem State.accept_guest (s : State) : (s.accept).guest = s.guest := rfl
@[simp] theorem State.accept_sheets (s : State) : (s.accept).sheets = s.sheets := rfl
@[simp] theorem State.accept_lanes (s : State) : (s.accept).lanes = s.lanes := rfl
@[simp] theorem State.accept_pins (s : State) : (s.accept).pins = s.pins := rfl
@[simp] theorem State.accept_trig (s : State) : (s.accept).trig = s.trig := rfl
@[simp] theorem State.accept_host (s : State) : (s.accept).host = s.host := rfl
@[simp] theorem State.accept_free (s : State) : (s.accept).free = s.free := rfl

@[simp] theorem State.endFaults_pending (s : State) (p : ActiveFault → Bool) : (s.endFaults p).pending = s.pending := rfl
@[simp] theorem State.endFaults_answer (s : State) (p : ActiveFault → Bool) : (s.endFaults p).answer = s.answer := rfl
@[simp] theorem State.endFaults_part (s : State) (p : ActiveFault → Bool) : (s.endFaults p).part = s.part := rfl
@[simp] theorem State.endFaults_dict (s : State) (p : ActiveFault → Bool) : (s.endFaults p).dict = s.dict := rfl
@[simp] theorem State.endFaults_mgmt (s : State) (p : ActiveFault → Bool) : (s.endFaults p).mgmt = s.mgmt := rfl
@[simp] theorem State.endFaults_can (s : State) (p : ActiveFault → Bool) : (s.endFaults p).can = s.can := rfl
@[simp] theorem State.endFaults_boot (s : State) (p : ActiveFault → Bool) : (s.endFaults p).boot = s.boot := rfl
@[simp] theorem State.endFaults_arr (s : State) (p : ActiveFault → Bool) : (s.endFaults p).arr = s.arr := rfl
@[simp] theorem State.endFaults_run (s : State) (p : ActiveFault → Bool) : (s.endFaults p).run = s.run := rfl
@[simp] theorem State.endFaults_mem (s : State) (p : ActiveFault → Bool) : (s.endFaults p).mem = s.mem := rfl
@[simp] theorem State.endFaults_rst (s : State) (p : ActiveFault → Bool) : (s.endFaults p).rst = s.rst := rfl
@[simp] theorem State.endFaults_therm (s : State) (p : ActiveFault → Bool) : (s.endFaults p).therm = s.therm := rfl
@[simp] theorem State.endFaults_time (s : State) (p : ActiveFault → Bool) : (s.endFaults p).time = s.time := rfl
@[simp] theorem State.endFaults_pulses (s : State) (p : ActiveFault → Bool) : (s.endFaults p).pulses = s.pulses := rfl
@[simp] theorem State.endFaults_image (s : State) (p : ActiveFault → Bool) : (s.endFaults p).image = s.image := rfl
@[simp] theorem State.endFaults_tokens (s : State) (p : ActiveFault → Bool) : (s.endFaults p).tokens = s.tokens := rfl
@[simp] theorem State.endFaults_fixer (s : State) (p : ActiveFault → Bool) : (s.endFaults p).fixer = s.fixer := rfl
@[simp] theorem State.endFaults_bundles (s : State) (p : ActiveFault → Bool) : (s.endFaults p).bundles = s.bundles := rfl
@[simp] theorem State.endFaults_queueCounts (s : State) (p : ActiveFault → Bool) : (s.endFaults p).queueCounts = s.queueCounts := rfl
@[simp] theorem State.endFaults_notices (s : State) (p : ActiveFault → Bool) : (s.endFaults p).notices = s.notices := rfl
@[simp] theorem State.endFaults_laneOut (s : State) (p : ActiveFault → Bool) : (s.endFaults p).laneOut = s.laneOut := rfl
@[simp] theorem State.endFaults_cores (s : State) (p : ActiveFault → Bool) : (s.endFaults p).cores = s.cores := rfl
@[simp] theorem State.endFaults_sched (s : State) (p : ActiveFault → Bool) : (s.endFaults p).sched = s.sched := rfl
@[simp] theorem State.endFaults_chan (s : State) (p : ActiveFault → Bool) : (s.endFaults p).chan = s.chan := rfl
@[simp] theorem State.endFaults_fabric (s : State) (p : ActiveFault → Bool) : (s.endFaults p).fabric = s.fabric := rfl
@[simp] theorem State.endFaults_trace (s : State) (p : ActiveFault → Bool) : (s.endFaults p).trace = s.trace := rfl
@[simp] theorem State.endFaults_sec (s : State) (p : ActiveFault → Bool) : (s.endFaults p).sec = s.sec := rfl
@[simp] theorem State.endFaults_loader (s : State) (p : ActiveFault → Bool) : (s.endFaults p).loader = s.loader := rfl
@[simp] theorem State.endFaults_rings (s : State) (p : ActiveFault → Bool) : (s.endFaults p).rings = s.rings := rfl
@[simp] theorem State.endFaults_guest (s : State) (p : ActiveFault → Bool) : (s.endFaults p).guest = s.guest := rfl
@[simp] theorem State.endFaults_sheets (s : State) (p : ActiveFault → Bool) : (s.endFaults p).sheets = s.sheets := rfl
@[simp] theorem State.endFaults_lanes (s : State) (p : ActiveFault → Bool) : (s.endFaults p).lanes = s.lanes := rfl
@[simp] theorem State.endFaults_pins (s : State) (p : ActiveFault → Bool) : (s.endFaults p).pins = s.pins := rfl
@[simp] theorem State.endFaults_trig (s : State) (p : ActiveFault → Bool) : (s.endFaults p).trig = s.trig := rfl
@[simp] theorem State.endFaults_host (s : State) (p : ActiveFault → Bool) : (s.endFaults p).host = s.host := rfl
@[simp] theorem State.endFaults_free (s : State) (p : ActiveFault → Bool) : (s.endFaults p).free = s.free := rfl

@[simp] theorem State.send_pending (s : State) (f : CanFrame) : (s.send f).pending = s.pending := by
  unfold State.send; first | rfl | (split <;> simp; done) | (dsimp only; (repeat' split) <;> simp; done) | simp
@[simp] theorem State.send_answer (s : State) (f : CanFrame) : (s.send f).answer = s.answer := by
  unfold State.send; first | rfl | (split <;> simp; done) | (dsimp only; (repeat' split) <;> simp; done) | simp
@[simp] theorem State.send_part (s : State) (f : CanFrame) : (s.send f).part = s.part := by
  unfold State.send; first | rfl | (split <;> simp; done) | (dsimp only; (repeat' split) <;> simp; done) | simp
@[simp] theorem State.send_dict (s : State) (f : CanFrame) : (s.send f).dict = s.dict := by
  unfold State.send; first | rfl | (split <;> simp; done) | (dsimp only; (repeat' split) <;> simp; done) | simp
@[simp] theorem State.send_mgmt (s : State) (f : CanFrame) : (s.send f).mgmt = s.mgmt := by
  unfold State.send; first | rfl | (split <;> simp; done) | (dsimp only; (repeat' split) <;> simp; done) | simp
@[simp] theorem State.send_boot (s : State) (f : CanFrame) : (s.send f).boot = s.boot := by
  unfold State.send; first | rfl | (split <;> simp; done) | (dsimp only; (repeat' split) <;> simp; done) | simp
@[simp] theorem State.send_log (s : State) (f : CanFrame) : (s.send f).log = s.log := by
  unfold State.send; first | rfl | (split <;> simp; done) | (dsimp only; (repeat' split) <;> simp; done) | simp
@[simp] theorem State.send_arr (s : State) (f : CanFrame) : (s.send f).arr = s.arr := by
  unfold State.send; first | rfl | (split <;> simp; done) | (dsimp only; (repeat' split) <;> simp; done) | simp
@[simp] theorem State.send_run (s : State) (f : CanFrame) : (s.send f).run = s.run := by
  unfold State.send; first | rfl | (split <;> simp; done) | (dsimp only; (repeat' split) <;> simp; done) | simp
@[simp] theorem State.send_mem (s : State) (f : CanFrame) : (s.send f).mem = s.mem := by
  unfold State.send; first | rfl | (split <;> simp; done) | (dsimp only; (repeat' split) <;> simp; done) | simp
@[simp] theorem State.send_rst (s : State) (f : CanFrame) : (s.send f).rst = s.rst := by
  unfold State.send; first | rfl | (split <;> simp; done) | (dsimp only; (repeat' split) <;> simp; done) | simp
@[simp] theorem State.send_therm (s : State) (f : CanFrame) : (s.send f).therm = s.therm := by
  unfold State.send; first | rfl | (split <;> simp; done) | (dsimp only; (repeat' split) <;> simp; done) | simp
@[simp] theorem State.send_time (s : State) (f : CanFrame) : (s.send f).time = s.time := by
  unfold State.send; first | rfl | (split <;> simp; done) | (dsimp only; (repeat' split) <;> simp; done) | simp
@[simp] theorem State.send_pulses (s : State) (f : CanFrame) : (s.send f).pulses = s.pulses := by
  unfold State.send; first | rfl | (split <;> simp; done) | (dsimp only; (repeat' split) <;> simp; done) | simp
@[simp] theorem State.send_image (s : State) (f : CanFrame) : (s.send f).image = s.image := by
  unfold State.send; first | rfl | (split <;> simp; done) | (dsimp only; (repeat' split) <;> simp; done) | simp
@[simp] theorem State.send_tokens (s : State) (f : CanFrame) : (s.send f).tokens = s.tokens := by
  unfold State.send; first | rfl | (split <;> simp; done) | (dsimp only; (repeat' split) <;> simp; done) | simp
@[simp] theorem State.send_fixer (s : State) (f : CanFrame) : (s.send f).fixer = s.fixer := by
  unfold State.send; first | rfl | (split <;> simp; done) | (dsimp only; (repeat' split) <;> simp; done) | simp
@[simp] theorem State.send_bundles (s : State) (f : CanFrame) : (s.send f).bundles = s.bundles := by
  unfold State.send; first | rfl | (split <;> simp; done) | (dsimp only; (repeat' split) <;> simp; done) | simp
@[simp] theorem State.send_queueCounts (s : State) (f : CanFrame) : (s.send f).queueCounts = s.queueCounts := by
  unfold State.send; first | rfl | (split <;> simp; done) | (dsimp only; (repeat' split) <;> simp; done) | simp
@[simp] theorem State.send_notices (s : State) (f : CanFrame) : (s.send f).notices = s.notices := by
  unfold State.send; first | rfl | (split <;> simp; done) | (dsimp only; (repeat' split) <;> simp; done) | simp
@[simp] theorem State.send_laneOut (s : State) (f : CanFrame) : (s.send f).laneOut = s.laneOut := by
  unfold State.send; first | rfl | (split <;> simp; done) | (dsimp only; (repeat' split) <;> simp; done) | simp
@[simp] theorem State.send_cores (s : State) (f : CanFrame) : (s.send f).cores = s.cores := by
  unfold State.send; first | rfl | (split <;> simp; done) | (dsimp only; (repeat' split) <;> simp; done) | simp
@[simp] theorem State.send_sched (s : State) (f : CanFrame) : (s.send f).sched = s.sched := by
  unfold State.send; first | rfl | (split <;> simp; done) | (dsimp only; (repeat' split) <;> simp; done) | simp
@[simp] theorem State.send_chan (s : State) (f : CanFrame) : (s.send f).chan = s.chan := by
  unfold State.send; first | rfl | (split <;> simp; done) | (dsimp only; (repeat' split) <;> simp; done) | simp
@[simp] theorem State.send_fabric (s : State) (f : CanFrame) : (s.send f).fabric = s.fabric := by
  unfold State.send; first | rfl | (split <;> simp; done) | (dsimp only; (repeat' split) <;> simp; done) | simp
@[simp] theorem State.send_trace (s : State) (f : CanFrame) : (s.send f).trace = s.trace := by
  unfold State.send; first | rfl | (split <;> simp; done) | (dsimp only; (repeat' split) <;> simp; done) | simp
@[simp] theorem State.send_sec (s : State) (f : CanFrame) : (s.send f).sec = s.sec := by
  unfold State.send; first | rfl | (split <;> simp; done) | (dsimp only; (repeat' split) <;> simp; done) | simp
@[simp] theorem State.send_loader (s : State) (f : CanFrame) : (s.send f).loader = s.loader := by
  unfold State.send; first | rfl | (split <;> simp; done) | (dsimp only; (repeat' split) <;> simp; done) | simp
@[simp] theorem State.send_rings (s : State) (f : CanFrame) : (s.send f).rings = s.rings := by
  unfold State.send; first | rfl | (split <;> simp; done) | (dsimp only; (repeat' split) <;> simp; done) | simp
@[simp] theorem State.send_guest (s : State) (f : CanFrame) : (s.send f).guest = s.guest := by
  unfold State.send; first | rfl | (split <;> simp; done) | (dsimp only; (repeat' split) <;> simp; done) | simp
@[simp] theorem State.send_sheets (s : State) (f : CanFrame) : (s.send f).sheets = s.sheets := by
  unfold State.send; first | rfl | (split <;> simp; done) | (dsimp only; (repeat' split) <;> simp; done) | simp
@[simp] theorem State.send_lanes (s : State) (f : CanFrame) : (s.send f).lanes = s.lanes := by
  unfold State.send; first | rfl | (split <;> simp; done) | (dsimp only; (repeat' split) <;> simp; done) | simp
@[simp] theorem State.send_pins (s : State) (f : CanFrame) : (s.send f).pins = s.pins := by
  unfold State.send; first | rfl | (split <;> simp; done) | (dsimp only; (repeat' split) <;> simp; done) | simp
@[simp] theorem State.send_trig (s : State) (f : CanFrame) : (s.send f).trig = s.trig := by
  unfold State.send; first | rfl | (split <;> simp; done) | (dsimp only; (repeat' split) <;> simp; done) | simp
@[simp] theorem State.send_host (s : State) (f : CanFrame) : (s.send f).host = s.host := by
  unfold State.send; first | rfl | (split <;> simp; done) | (dsimp only; (repeat' split) <;> simp; done) | simp
@[simp] theorem State.send_free (s : State) (f : CanFrame) : (s.send f).free = s.free := by
  unfold State.send; first | rfl | (split <;> simp; done) | (dsimp only; (repeat' split) <;> simp; done) | simp

@[simp] theorem State.logSerious_pending (s : State) (code : Nat) (source : Nat) (arg : Nat) (row : FaultRow) : (s.logSerious code source arg row).pending = s.pending := by
  unfold State.logSerious; first | rfl | (split <;> simp; done) | (dsimp only; (repeat' split) <;> simp; done) | simp
@[simp] theorem State.logSerious_answer (s : State) (code : Nat) (source : Nat) (arg : Nat) (row : FaultRow) : (s.logSerious code source arg row).answer = s.answer := by
  unfold State.logSerious; first | rfl | (split <;> simp; done) | (dsimp only; (repeat' split) <;> simp; done) | simp
@[simp] theorem State.logSerious_part (s : State) (code : Nat) (source : Nat) (arg : Nat) (row : FaultRow) : (s.logSerious code source arg row).part = s.part := by
  unfold State.logSerious; first | rfl | (split <;> simp; done) | (dsimp only; (repeat' split) <;> simp; done) | simp
@[simp] theorem State.logSerious_dict (s : State) (code : Nat) (source : Nat) (arg : Nat) (row : FaultRow) : (s.logSerious code source arg row).dict = s.dict := by
  unfold State.logSerious; first | rfl | (split <;> simp; done) | (dsimp only; (repeat' split) <;> simp; done) | simp
@[simp] theorem State.logSerious_mgmt (s : State) (code : Nat) (source : Nat) (arg : Nat) (row : FaultRow) : (s.logSerious code source arg row).mgmt = s.mgmt := by
  unfold State.logSerious; first | rfl | (split <;> simp; done) | (dsimp only; (repeat' split) <;> simp; done) | simp
@[simp] theorem State.logSerious_boot (s : State) (code : Nat) (source : Nat) (arg : Nat) (row : FaultRow) : (s.logSerious code source arg row).boot = s.boot := by
  unfold State.logSerious; first | rfl | (split <;> simp; done) | (dsimp only; (repeat' split) <;> simp; done) | simp
@[simp] theorem State.logSerious_arr (s : State) (code : Nat) (source : Nat) (arg : Nat) (row : FaultRow) : (s.logSerious code source arg row).arr = s.arr := by
  unfold State.logSerious; first | rfl | (split <;> simp; done) | (dsimp only; (repeat' split) <;> simp; done) | simp
@[simp] theorem State.logSerious_run (s : State) (code : Nat) (source : Nat) (arg : Nat) (row : FaultRow) : (s.logSerious code source arg row).run = s.run := by
  unfold State.logSerious; first | rfl | (split <;> simp; done) | (dsimp only; (repeat' split) <;> simp; done) | simp
@[simp] theorem State.logSerious_mem (s : State) (code : Nat) (source : Nat) (arg : Nat) (row : FaultRow) : (s.logSerious code source arg row).mem = s.mem := by
  unfold State.logSerious; first | rfl | (split <;> simp; done) | (dsimp only; (repeat' split) <;> simp; done) | simp
@[simp] theorem State.logSerious_therm (s : State) (code : Nat) (source : Nat) (arg : Nat) (row : FaultRow) : (s.logSerious code source arg row).therm = s.therm := by
  unfold State.logSerious; first | rfl | (split <;> simp; done) | (dsimp only; (repeat' split) <;> simp; done) | simp
@[simp] theorem State.logSerious_time (s : State) (code : Nat) (source : Nat) (arg : Nat) (row : FaultRow) : (s.logSerious code source arg row).time = s.time := by
  unfold State.logSerious; first | rfl | (split <;> simp; done) | (dsimp only; (repeat' split) <;> simp; done) | simp
@[simp] theorem State.logSerious_pulses (s : State) (code : Nat) (source : Nat) (arg : Nat) (row : FaultRow) : (s.logSerious code source arg row).pulses = s.pulses := by
  unfold State.logSerious; first | rfl | (split <;> simp; done) | (dsimp only; (repeat' split) <;> simp; done) | simp
@[simp] theorem State.logSerious_image (s : State) (code : Nat) (source : Nat) (arg : Nat) (row : FaultRow) : (s.logSerious code source arg row).image = s.image := by
  unfold State.logSerious; first | rfl | (split <;> simp; done) | (dsimp only; (repeat' split) <;> simp; done) | simp
@[simp] theorem State.logSerious_tokens (s : State) (code : Nat) (source : Nat) (arg : Nat) (row : FaultRow) : (s.logSerious code source arg row).tokens = s.tokens := by
  unfold State.logSerious; first | rfl | (split <;> simp; done) | (dsimp only; (repeat' split) <;> simp; done) | simp
@[simp] theorem State.logSerious_fixer (s : State) (code : Nat) (source : Nat) (arg : Nat) (row : FaultRow) : (s.logSerious code source arg row).fixer = s.fixer := by
  unfold State.logSerious; first | rfl | (split <;> simp; done) | (dsimp only; (repeat' split) <;> simp; done) | simp
@[simp] theorem State.logSerious_bundles (s : State) (code : Nat) (source : Nat) (arg : Nat) (row : FaultRow) : (s.logSerious code source arg row).bundles = s.bundles := by
  unfold State.logSerious; first | rfl | (split <;> simp; done) | (dsimp only; (repeat' split) <;> simp; done) | simp
@[simp] theorem State.logSerious_queueCounts (s : State) (code : Nat) (source : Nat) (arg : Nat) (row : FaultRow) : (s.logSerious code source arg row).queueCounts = s.queueCounts := by
  unfold State.logSerious; first | rfl | (split <;> simp; done) | (dsimp only; (repeat' split) <;> simp; done) | simp
@[simp] theorem State.logSerious_notices (s : State) (code : Nat) (source : Nat) (arg : Nat) (row : FaultRow) : (s.logSerious code source arg row).notices = s.notices := by
  unfold State.logSerious; first | rfl | (split <;> simp; done) | (dsimp only; (repeat' split) <;> simp; done) | simp
@[simp] theorem State.logSerious_laneOut (s : State) (code : Nat) (source : Nat) (arg : Nat) (row : FaultRow) : (s.logSerious code source arg row).laneOut = s.laneOut := by
  unfold State.logSerious; first | rfl | (split <;> simp; done) | (dsimp only; (repeat' split) <;> simp; done) | simp
@[simp] theorem State.logSerious_sched (s : State) (code : Nat) (source : Nat) (arg : Nat) (row : FaultRow) : (s.logSerious code source arg row).sched = s.sched := by
  unfold State.logSerious; first | rfl | (split <;> simp; done) | (dsimp only; (repeat' split) <;> simp; done) | simp
@[simp] theorem State.logSerious_chan (s : State) (code : Nat) (source : Nat) (arg : Nat) (row : FaultRow) : (s.logSerious code source arg row).chan = s.chan := by
  unfold State.logSerious; first | rfl | (split <;> simp; done) | (dsimp only; (repeat' split) <;> simp; done) | simp
@[simp] theorem State.logSerious_fabric (s : State) (code : Nat) (source : Nat) (arg : Nat) (row : FaultRow) : (s.logSerious code source arg row).fabric = s.fabric := by
  unfold State.logSerious; first | rfl | (split <;> simp; done) | (dsimp only; (repeat' split) <;> simp; done) | simp
@[simp] theorem State.logSerious_trace (s : State) (code : Nat) (source : Nat) (arg : Nat) (row : FaultRow) : (s.logSerious code source arg row).trace = s.trace := by
  unfold State.logSerious; first | rfl | (split <;> simp; done) | (dsimp only; (repeat' split) <;> simp; done) | simp
@[simp] theorem State.logSerious_sec (s : State) (code : Nat) (source : Nat) (arg : Nat) (row : FaultRow) : (s.logSerious code source arg row).sec = s.sec := by
  unfold State.logSerious; first | rfl | (split <;> simp; done) | (dsimp only; (repeat' split) <;> simp; done) | simp
@[simp] theorem State.logSerious_loader (s : State) (code : Nat) (source : Nat) (arg : Nat) (row : FaultRow) : (s.logSerious code source arg row).loader = s.loader := by
  unfold State.logSerious; first | rfl | (split <;> simp; done) | (dsimp only; (repeat' split) <;> simp; done) | simp
@[simp] theorem State.logSerious_rings (s : State) (code : Nat) (source : Nat) (arg : Nat) (row : FaultRow) : (s.logSerious code source arg row).rings = s.rings := by
  unfold State.logSerious; first | rfl | (split <;> simp; done) | (dsimp only; (repeat' split) <;> simp; done) | simp
@[simp] theorem State.logSerious_guest (s : State) (code : Nat) (source : Nat) (arg : Nat) (row : FaultRow) : (s.logSerious code source arg row).guest = s.guest := by
  unfold State.logSerious; first | rfl | (split <;> simp; done) | (dsimp only; (repeat' split) <;> simp; done) | simp
@[simp] theorem State.logSerious_sheets (s : State) (code : Nat) (source : Nat) (arg : Nat) (row : FaultRow) : (s.logSerious code source arg row).sheets = s.sheets := by
  unfold State.logSerious; first | rfl | (split <;> simp; done) | (dsimp only; (repeat' split) <;> simp; done) | simp
@[simp] theorem State.logSerious_lanes (s : State) (code : Nat) (source : Nat) (arg : Nat) (row : FaultRow) : (s.logSerious code source arg row).lanes = s.lanes := by
  unfold State.logSerious; first | rfl | (split <;> simp; done) | (dsimp only; (repeat' split) <;> simp; done) | simp
@[simp] theorem State.logSerious_pins (s : State) (code : Nat) (source : Nat) (arg : Nat) (row : FaultRow) : (s.logSerious code source arg row).pins = s.pins := by
  unfold State.logSerious; first | rfl | (split <;> simp; done) | (dsimp only; (repeat' split) <;> simp; done) | simp
@[simp] theorem State.logSerious_trig (s : State) (code : Nat) (source : Nat) (arg : Nat) (row : FaultRow) : (s.logSerious code source arg row).trig = s.trig := by
  unfold State.logSerious; first | rfl | (split <;> simp; done) | (dsimp only; (repeat' split) <;> simp; done) | simp
@[simp] theorem State.logSerious_free (s : State) (code : Nat) (source : Nat) (arg : Nat) (row : FaultRow) : (s.logSerious code source arg row).free = s.free := by
  unfold State.logSerious; first | rfl | (split <;> simp; done) | (dsimp only; (repeat' split) <;> simp; done) | simp

@[simp] theorem State.logRow_pending (s : State) (row : FaultRow) (source : Nat) (arg : Nat) (x4 : Nat) (x5 : Nat) : (s.logRow row source arg x4 x5).pending = s.pending := by
  unfold State.logRow; first | rfl | (split <;> simp; done) | (dsimp only; (repeat' split) <;> simp; done) | simp
@[simp] theorem State.logRow_answer (s : State) (row : FaultRow) (source : Nat) (arg : Nat) (x4 : Nat) (x5 : Nat) : (s.logRow row source arg x4 x5).answer = s.answer := by
  unfold State.logRow; first | rfl | (split <;> simp; done) | (dsimp only; (repeat' split) <;> simp; done) | simp
@[simp] theorem State.logRow_part (s : State) (row : FaultRow) (source : Nat) (arg : Nat) (x4 : Nat) (x5 : Nat) : (s.logRow row source arg x4 x5).part = s.part := by
  unfold State.logRow; first | rfl | (split <;> simp; done) | (dsimp only; (repeat' split) <;> simp; done) | simp
@[simp] theorem State.logRow_dict (s : State) (row : FaultRow) (source : Nat) (arg : Nat) (x4 : Nat) (x5 : Nat) : (s.logRow row source arg x4 x5).dict = s.dict := by
  unfold State.logRow; first | rfl | (split <;> simp; done) | (dsimp only; (repeat' split) <;> simp; done) | simp
@[simp] theorem State.logRow_mgmt (s : State) (row : FaultRow) (source : Nat) (arg : Nat) (x4 : Nat) (x5 : Nat) : (s.logRow row source arg x4 x5).mgmt = s.mgmt := by
  unfold State.logRow; first | rfl | (split <;> simp; done) | (dsimp only; (repeat' split) <;> simp; done) | simp
@[simp] theorem State.logRow_boot (s : State) (row : FaultRow) (source : Nat) (arg : Nat) (x4 : Nat) (x5 : Nat) : (s.logRow row source arg x4 x5).boot = s.boot := by
  unfold State.logRow; first | rfl | (split <;> simp; done) | (dsimp only; (repeat' split) <;> simp; done) | simp
@[simp] theorem State.logRow_arr (s : State) (row : FaultRow) (source : Nat) (arg : Nat) (x4 : Nat) (x5 : Nat) : (s.logRow row source arg x4 x5).arr = s.arr := by
  unfold State.logRow; first | rfl | (split <;> simp; done) | (dsimp only; (repeat' split) <;> simp; done) | simp
@[simp] theorem State.logRow_run (s : State) (row : FaultRow) (source : Nat) (arg : Nat) (x4 : Nat) (x5 : Nat) : (s.logRow row source arg x4 x5).run = s.run := by
  unfold State.logRow; first | rfl | (split <;> simp; done) | (dsimp only; (repeat' split) <;> simp; done) | simp
@[simp] theorem State.logRow_mem (s : State) (row : FaultRow) (source : Nat) (arg : Nat) (x4 : Nat) (x5 : Nat) : (s.logRow row source arg x4 x5).mem = s.mem := by
  unfold State.logRow; first | rfl | (split <;> simp; done) | (dsimp only; (repeat' split) <;> simp; done) | simp
@[simp] theorem State.logRow_therm (s : State) (row : FaultRow) (source : Nat) (arg : Nat) (x4 : Nat) (x5 : Nat) : (s.logRow row source arg x4 x5).therm = s.therm := by
  unfold State.logRow; first | rfl | (split <;> simp; done) | (dsimp only; (repeat' split) <;> simp; done) | simp
@[simp] theorem State.logRow_time (s : State) (row : FaultRow) (source : Nat) (arg : Nat) (x4 : Nat) (x5 : Nat) : (s.logRow row source arg x4 x5).time = s.time := by
  unfold State.logRow; first | rfl | (split <;> simp; done) | (dsimp only; (repeat' split) <;> simp; done) | simp
@[simp] theorem State.logRow_pulses (s : State) (row : FaultRow) (source : Nat) (arg : Nat) (x4 : Nat) (x5 : Nat) : (s.logRow row source arg x4 x5).pulses = s.pulses := by
  unfold State.logRow; first | rfl | (split <;> simp; done) | (dsimp only; (repeat' split) <;> simp; done) | simp
@[simp] theorem State.logRow_image (s : State) (row : FaultRow) (source : Nat) (arg : Nat) (x4 : Nat) (x5 : Nat) : (s.logRow row source arg x4 x5).image = s.image := by
  unfold State.logRow; first | rfl | (split <;> simp; done) | (dsimp only; (repeat' split) <;> simp; done) | simp
@[simp] theorem State.logRow_tokens (s : State) (row : FaultRow) (source : Nat) (arg : Nat) (x4 : Nat) (x5 : Nat) : (s.logRow row source arg x4 x5).tokens = s.tokens := by
  unfold State.logRow; first | rfl | (split <;> simp; done) | (dsimp only; (repeat' split) <;> simp; done) | simp
@[simp] theorem State.logRow_fixer (s : State) (row : FaultRow) (source : Nat) (arg : Nat) (x4 : Nat) (x5 : Nat) : (s.logRow row source arg x4 x5).fixer = s.fixer := by
  unfold State.logRow; first | rfl | (split <;> simp; done) | (dsimp only; (repeat' split) <;> simp; done) | simp
@[simp] theorem State.logRow_bundles (s : State) (row : FaultRow) (source : Nat) (arg : Nat) (x4 : Nat) (x5 : Nat) : (s.logRow row source arg x4 x5).bundles = s.bundles := by
  unfold State.logRow; first | rfl | (split <;> simp; done) | (dsimp only; (repeat' split) <;> simp; done) | simp
@[simp] theorem State.logRow_queueCounts (s : State) (row : FaultRow) (source : Nat) (arg : Nat) (x4 : Nat) (x5 : Nat) : (s.logRow row source arg x4 x5).queueCounts = s.queueCounts := by
  unfold State.logRow; first | rfl | (split <;> simp; done) | (dsimp only; (repeat' split) <;> simp; done) | simp
@[simp] theorem State.logRow_notices (s : State) (row : FaultRow) (source : Nat) (arg : Nat) (x4 : Nat) (x5 : Nat) : (s.logRow row source arg x4 x5).notices = s.notices := by
  unfold State.logRow; first | rfl | (split <;> simp; done) | (dsimp only; (repeat' split) <;> simp; done) | simp
@[simp] theorem State.logRow_laneOut (s : State) (row : FaultRow) (source : Nat) (arg : Nat) (x4 : Nat) (x5 : Nat) : (s.logRow row source arg x4 x5).laneOut = s.laneOut := by
  unfold State.logRow; first | rfl | (split <;> simp; done) | (dsimp only; (repeat' split) <;> simp; done) | simp
@[simp] theorem State.logRow_sched (s : State) (row : FaultRow) (source : Nat) (arg : Nat) (x4 : Nat) (x5 : Nat) : (s.logRow row source arg x4 x5).sched = s.sched := by
  unfold State.logRow; first | rfl | (split <;> simp; done) | (dsimp only; (repeat' split) <;> simp; done) | simp
@[simp] theorem State.logRow_chan (s : State) (row : FaultRow) (source : Nat) (arg : Nat) (x4 : Nat) (x5 : Nat) : (s.logRow row source arg x4 x5).chan = s.chan := by
  unfold State.logRow; first | rfl | (split <;> simp; done) | (dsimp only; (repeat' split) <;> simp; done) | simp
@[simp] theorem State.logRow_fabric (s : State) (row : FaultRow) (source : Nat) (arg : Nat) (x4 : Nat) (x5 : Nat) : (s.logRow row source arg x4 x5).fabric = s.fabric := by
  unfold State.logRow; first | rfl | (split <;> simp; done) | (dsimp only; (repeat' split) <;> simp; done) | simp
@[simp] theorem State.logRow_trace (s : State) (row : FaultRow) (source : Nat) (arg : Nat) (x4 : Nat) (x5 : Nat) : (s.logRow row source arg x4 x5).trace = s.trace := by
  unfold State.logRow; first | rfl | (split <;> simp; done) | (dsimp only; (repeat' split) <;> simp; done) | simp
@[simp] theorem State.logRow_sec (s : State) (row : FaultRow) (source : Nat) (arg : Nat) (x4 : Nat) (x5 : Nat) : (s.logRow row source arg x4 x5).sec = s.sec := by
  unfold State.logRow; first | rfl | (split <;> simp; done) | (dsimp only; (repeat' split) <;> simp; done) | simp
@[simp] theorem State.logRow_loader (s : State) (row : FaultRow) (source : Nat) (arg : Nat) (x4 : Nat) (x5 : Nat) : (s.logRow row source arg x4 x5).loader = s.loader := by
  unfold State.logRow; first | rfl | (split <;> simp; done) | (dsimp only; (repeat' split) <;> simp; done) | simp
@[simp] theorem State.logRow_rings (s : State) (row : FaultRow) (source : Nat) (arg : Nat) (x4 : Nat) (x5 : Nat) : (s.logRow row source arg x4 x5).rings = s.rings := by
  unfold State.logRow; first | rfl | (split <;> simp; done) | (dsimp only; (repeat' split) <;> simp; done) | simp
@[simp] theorem State.logRow_guest (s : State) (row : FaultRow) (source : Nat) (arg : Nat) (x4 : Nat) (x5 : Nat) : (s.logRow row source arg x4 x5).guest = s.guest := by
  unfold State.logRow; first | rfl | (split <;> simp; done) | (dsimp only; (repeat' split) <;> simp; done) | simp
@[simp] theorem State.logRow_sheets (s : State) (row : FaultRow) (source : Nat) (arg : Nat) (x4 : Nat) (x5 : Nat) : (s.logRow row source arg x4 x5).sheets = s.sheets := by
  unfold State.logRow; first | rfl | (split <;> simp; done) | (dsimp only; (repeat' split) <;> simp; done) | simp
@[simp] theorem State.logRow_lanes (s : State) (row : FaultRow) (source : Nat) (arg : Nat) (x4 : Nat) (x5 : Nat) : (s.logRow row source arg x4 x5).lanes = s.lanes := by
  unfold State.logRow; first | rfl | (split <;> simp; done) | (dsimp only; (repeat' split) <;> simp; done) | simp
@[simp] theorem State.logRow_pins (s : State) (row : FaultRow) (source : Nat) (arg : Nat) (x4 : Nat) (x5 : Nat) : (s.logRow row source arg x4 x5).pins = s.pins := by
  unfold State.logRow; first | rfl | (split <;> simp; done) | (dsimp only; (repeat' split) <;> simp; done) | simp
@[simp] theorem State.logRow_trig (s : State) (row : FaultRow) (source : Nat) (arg : Nat) (x4 : Nat) (x5 : Nat) : (s.logRow row source arg x4 x5).trig = s.trig := by
  unfold State.logRow; first | rfl | (split <;> simp; done) | (dsimp only; (repeat' split) <;> simp; done) | simp
@[simp] theorem State.logRow_free (s : State) (row : FaultRow) (source : Nat) (arg : Nat) (x4 : Nat) (x5 : Nat) : (s.logRow row source arg x4 x5).free = s.free := by
  unfold State.logRow; first | rfl | (split <;> simp; done) | (dsimp only; (repeat' split) <;> simp; done) | simp

@[simp] theorem State.logAs_pending (s : State) (code : Nat) (cls : FaultClass) (source : Nat) (arg : Nat) : (s.logAs code cls source arg).pending = s.pending := by
  unfold State.logAs; first | rfl | (split <;> simp; done) | (dsimp only; (repeat' split) <;> simp; done) | simp
@[simp] theorem State.logAs_answer (s : State) (code : Nat) (cls : FaultClass) (source : Nat) (arg : Nat) : (s.logAs code cls source arg).answer = s.answer := by
  unfold State.logAs; first | rfl | (split <;> simp; done) | (dsimp only; (repeat' split) <;> simp; done) | simp
@[simp] theorem State.logAs_part (s : State) (code : Nat) (cls : FaultClass) (source : Nat) (arg : Nat) : (s.logAs code cls source arg).part = s.part := by
  unfold State.logAs; first | rfl | (split <;> simp; done) | (dsimp only; (repeat' split) <;> simp; done) | simp
@[simp] theorem State.logAs_dict (s : State) (code : Nat) (cls : FaultClass) (source : Nat) (arg : Nat) : (s.logAs code cls source arg).dict = s.dict := by
  unfold State.logAs; first | rfl | (split <;> simp; done) | (dsimp only; (repeat' split) <;> simp; done) | simp
@[simp] theorem State.logAs_mgmt (s : State) (code : Nat) (cls : FaultClass) (source : Nat) (arg : Nat) : (s.logAs code cls source arg).mgmt = s.mgmt := by
  unfold State.logAs; first | rfl | (split <;> simp; done) | (dsimp only; (repeat' split) <;> simp; done) | simp
@[simp] theorem State.logAs_boot (s : State) (code : Nat) (cls : FaultClass) (source : Nat) (arg : Nat) : (s.logAs code cls source arg).boot = s.boot := by
  unfold State.logAs; first | rfl | (split <;> simp; done) | (dsimp only; (repeat' split) <;> simp; done) | simp
@[simp] theorem State.logAs_arr (s : State) (code : Nat) (cls : FaultClass) (source : Nat) (arg : Nat) : (s.logAs code cls source arg).arr = s.arr := by
  unfold State.logAs; first | rfl | (split <;> simp; done) | (dsimp only; (repeat' split) <;> simp; done) | simp
@[simp] theorem State.logAs_run (s : State) (code : Nat) (cls : FaultClass) (source : Nat) (arg : Nat) : (s.logAs code cls source arg).run = s.run := by
  unfold State.logAs; first | rfl | (split <;> simp; done) | (dsimp only; (repeat' split) <;> simp; done) | simp
@[simp] theorem State.logAs_mem (s : State) (code : Nat) (cls : FaultClass) (source : Nat) (arg : Nat) : (s.logAs code cls source arg).mem = s.mem := by
  unfold State.logAs; first | rfl | (split <;> simp; done) | (dsimp only; (repeat' split) <;> simp; done) | simp
@[simp] theorem State.logAs_therm (s : State) (code : Nat) (cls : FaultClass) (source : Nat) (arg : Nat) : (s.logAs code cls source arg).therm = s.therm := by
  unfold State.logAs; first | rfl | (split <;> simp; done) | (dsimp only; (repeat' split) <;> simp; done) | simp
@[simp] theorem State.logAs_time (s : State) (code : Nat) (cls : FaultClass) (source : Nat) (arg : Nat) : (s.logAs code cls source arg).time = s.time := by
  unfold State.logAs; first | rfl | (split <;> simp; done) | (dsimp only; (repeat' split) <;> simp; done) | simp
@[simp] theorem State.logAs_pulses (s : State) (code : Nat) (cls : FaultClass) (source : Nat) (arg : Nat) : (s.logAs code cls source arg).pulses = s.pulses := by
  unfold State.logAs; first | rfl | (split <;> simp; done) | (dsimp only; (repeat' split) <;> simp; done) | simp
@[simp] theorem State.logAs_image (s : State) (code : Nat) (cls : FaultClass) (source : Nat) (arg : Nat) : (s.logAs code cls source arg).image = s.image := by
  unfold State.logAs; first | rfl | (split <;> simp; done) | (dsimp only; (repeat' split) <;> simp; done) | simp
@[simp] theorem State.logAs_tokens (s : State) (code : Nat) (cls : FaultClass) (source : Nat) (arg : Nat) : (s.logAs code cls source arg).tokens = s.tokens := by
  unfold State.logAs; first | rfl | (split <;> simp; done) | (dsimp only; (repeat' split) <;> simp; done) | simp
@[simp] theorem State.logAs_fixer (s : State) (code : Nat) (cls : FaultClass) (source : Nat) (arg : Nat) : (s.logAs code cls source arg).fixer = s.fixer := by
  unfold State.logAs; first | rfl | (split <;> simp; done) | (dsimp only; (repeat' split) <;> simp; done) | simp
@[simp] theorem State.logAs_bundles (s : State) (code : Nat) (cls : FaultClass) (source : Nat) (arg : Nat) : (s.logAs code cls source arg).bundles = s.bundles := by
  unfold State.logAs; first | rfl | (split <;> simp; done) | (dsimp only; (repeat' split) <;> simp; done) | simp
@[simp] theorem State.logAs_queueCounts (s : State) (code : Nat) (cls : FaultClass) (source : Nat) (arg : Nat) : (s.logAs code cls source arg).queueCounts = s.queueCounts := by
  unfold State.logAs; first | rfl | (split <;> simp; done) | (dsimp only; (repeat' split) <;> simp; done) | simp
@[simp] theorem State.logAs_notices (s : State) (code : Nat) (cls : FaultClass) (source : Nat) (arg : Nat) : (s.logAs code cls source arg).notices = s.notices := by
  unfold State.logAs; first | rfl | (split <;> simp; done) | (dsimp only; (repeat' split) <;> simp; done) | simp
@[simp] theorem State.logAs_laneOut (s : State) (code : Nat) (cls : FaultClass) (source : Nat) (arg : Nat) : (s.logAs code cls source arg).laneOut = s.laneOut := by
  unfold State.logAs; first | rfl | (split <;> simp; done) | (dsimp only; (repeat' split) <;> simp; done) | simp
@[simp] theorem State.logAs_sched (s : State) (code : Nat) (cls : FaultClass) (source : Nat) (arg : Nat) : (s.logAs code cls source arg).sched = s.sched := by
  unfold State.logAs; first | rfl | (split <;> simp; done) | (dsimp only; (repeat' split) <;> simp; done) | simp
@[simp] theorem State.logAs_chan (s : State) (code : Nat) (cls : FaultClass) (source : Nat) (arg : Nat) : (s.logAs code cls source arg).chan = s.chan := by
  unfold State.logAs; first | rfl | (split <;> simp; done) | (dsimp only; (repeat' split) <;> simp; done) | simp
@[simp] theorem State.logAs_fabric (s : State) (code : Nat) (cls : FaultClass) (source : Nat) (arg : Nat) : (s.logAs code cls source arg).fabric = s.fabric := by
  unfold State.logAs; first | rfl | (split <;> simp; done) | (dsimp only; (repeat' split) <;> simp; done) | simp
@[simp] theorem State.logAs_trace (s : State) (code : Nat) (cls : FaultClass) (source : Nat) (arg : Nat) : (s.logAs code cls source arg).trace = s.trace := by
  unfold State.logAs; first | rfl | (split <;> simp; done) | (dsimp only; (repeat' split) <;> simp; done) | simp
@[simp] theorem State.logAs_sec (s : State) (code : Nat) (cls : FaultClass) (source : Nat) (arg : Nat) : (s.logAs code cls source arg).sec = s.sec := by
  unfold State.logAs; first | rfl | (split <;> simp; done) | (dsimp only; (repeat' split) <;> simp; done) | simp
@[simp] theorem State.logAs_loader (s : State) (code : Nat) (cls : FaultClass) (source : Nat) (arg : Nat) : (s.logAs code cls source arg).loader = s.loader := by
  unfold State.logAs; first | rfl | (split <;> simp; done) | (dsimp only; (repeat' split) <;> simp; done) | simp
@[simp] theorem State.logAs_rings (s : State) (code : Nat) (cls : FaultClass) (source : Nat) (arg : Nat) : (s.logAs code cls source arg).rings = s.rings := by
  unfold State.logAs; first | rfl | (split <;> simp; done) | (dsimp only; (repeat' split) <;> simp; done) | simp
@[simp] theorem State.logAs_guest (s : State) (code : Nat) (cls : FaultClass) (source : Nat) (arg : Nat) : (s.logAs code cls source arg).guest = s.guest := by
  unfold State.logAs; first | rfl | (split <;> simp; done) | (dsimp only; (repeat' split) <;> simp; done) | simp
@[simp] theorem State.logAs_sheets (s : State) (code : Nat) (cls : FaultClass) (source : Nat) (arg : Nat) : (s.logAs code cls source arg).sheets = s.sheets := by
  unfold State.logAs; first | rfl | (split <;> simp; done) | (dsimp only; (repeat' split) <;> simp; done) | simp
@[simp] theorem State.logAs_lanes (s : State) (code : Nat) (cls : FaultClass) (source : Nat) (arg : Nat) : (s.logAs code cls source arg).lanes = s.lanes := by
  unfold State.logAs; first | rfl | (split <;> simp; done) | (dsimp only; (repeat' split) <;> simp; done) | simp
@[simp] theorem State.logAs_pins (s : State) (code : Nat) (cls : FaultClass) (source : Nat) (arg : Nat) : (s.logAs code cls source arg).pins = s.pins := by
  unfold State.logAs; first | rfl | (split <;> simp; done) | (dsimp only; (repeat' split) <;> simp; done) | simp
@[simp] theorem State.logAs_trig (s : State) (code : Nat) (cls : FaultClass) (source : Nat) (arg : Nat) : (s.logAs code cls source arg).trig = s.trig := by
  unfold State.logAs; first | rfl | (split <;> simp; done) | (dsimp only; (repeat' split) <;> simp; done) | simp
@[simp] theorem State.logAs_free (s : State) (code : Nat) (cls : FaultClass) (source : Nat) (arg : Nat) : (s.logAs code cls source arg).free = s.free := by
  unfold State.logAs; first | rfl | (split <;> simp; done) | (dsimp only; (repeat' split) <;> simp; done) | simp

@[simp] theorem State.log1_pending (s : State) (code : Nat) (source : Nat) (arg : Nat) : (s.log1 code source arg).pending = s.pending := by
  unfold State.log1; first | rfl | (split <;> simp; done) | (dsimp only; (repeat' split) <;> simp; done) | simp
@[simp] theorem State.log1_answer (s : State) (code : Nat) (source : Nat) (arg : Nat) : (s.log1 code source arg).answer = s.answer := by
  unfold State.log1; first | rfl | (split <;> simp; done) | (dsimp only; (repeat' split) <;> simp; done) | simp
@[simp] theorem State.log1_part (s : State) (code : Nat) (source : Nat) (arg : Nat) : (s.log1 code source arg).part = s.part := by
  unfold State.log1; first | rfl | (split <;> simp; done) | (dsimp only; (repeat' split) <;> simp; done) | simp
@[simp] theorem State.log1_dict (s : State) (code : Nat) (source : Nat) (arg : Nat) : (s.log1 code source arg).dict = s.dict := by
  unfold State.log1; first | rfl | (split <;> simp; done) | (dsimp only; (repeat' split) <;> simp; done) | simp
@[simp] theorem State.log1_mgmt (s : State) (code : Nat) (source : Nat) (arg : Nat) : (s.log1 code source arg).mgmt = s.mgmt := by
  unfold State.log1; first | rfl | (split <;> simp; done) | (dsimp only; (repeat' split) <;> simp; done) | simp
@[simp] theorem State.log1_boot (s : State) (code : Nat) (source : Nat) (arg : Nat) : (s.log1 code source arg).boot = s.boot := by
  unfold State.log1; first | rfl | (split <;> simp; done) | (dsimp only; (repeat' split) <;> simp; done) | simp
@[simp] theorem State.log1_arr (s : State) (code : Nat) (source : Nat) (arg : Nat) : (s.log1 code source arg).arr = s.arr := by
  unfold State.log1; first | rfl | (split <;> simp; done) | (dsimp only; (repeat' split) <;> simp; done) | simp
@[simp] theorem State.log1_run (s : State) (code : Nat) (source : Nat) (arg : Nat) : (s.log1 code source arg).run = s.run := by
  unfold State.log1; first | rfl | (split <;> simp; done) | (dsimp only; (repeat' split) <;> simp; done) | simp
@[simp] theorem State.log1_mem (s : State) (code : Nat) (source : Nat) (arg : Nat) : (s.log1 code source arg).mem = s.mem := by
  unfold State.log1; first | rfl | (split <;> simp; done) | (dsimp only; (repeat' split) <;> simp; done) | simp
@[simp] theorem State.log1_therm (s : State) (code : Nat) (source : Nat) (arg : Nat) : (s.log1 code source arg).therm = s.therm := by
  unfold State.log1; first | rfl | (split <;> simp; done) | (dsimp only; (repeat' split) <;> simp; done) | simp
@[simp] theorem State.log1_time (s : State) (code : Nat) (source : Nat) (arg : Nat) : (s.log1 code source arg).time = s.time := by
  unfold State.log1; first | rfl | (split <;> simp; done) | (dsimp only; (repeat' split) <;> simp; done) | simp
@[simp] theorem State.log1_pulses (s : State) (code : Nat) (source : Nat) (arg : Nat) : (s.log1 code source arg).pulses = s.pulses := by
  unfold State.log1; first | rfl | (split <;> simp; done) | (dsimp only; (repeat' split) <;> simp; done) | simp
@[simp] theorem State.log1_image (s : State) (code : Nat) (source : Nat) (arg : Nat) : (s.log1 code source arg).image = s.image := by
  unfold State.log1; first | rfl | (split <;> simp; done) | (dsimp only; (repeat' split) <;> simp; done) | simp
@[simp] theorem State.log1_tokens (s : State) (code : Nat) (source : Nat) (arg : Nat) : (s.log1 code source arg).tokens = s.tokens := by
  unfold State.log1; first | rfl | (split <;> simp; done) | (dsimp only; (repeat' split) <;> simp; done) | simp
@[simp] theorem State.log1_fixer (s : State) (code : Nat) (source : Nat) (arg : Nat) : (s.log1 code source arg).fixer = s.fixer := by
  unfold State.log1; first | rfl | (split <;> simp; done) | (dsimp only; (repeat' split) <;> simp; done) | simp
@[simp] theorem State.log1_bundles (s : State) (code : Nat) (source : Nat) (arg : Nat) : (s.log1 code source arg).bundles = s.bundles := by
  unfold State.log1; first | rfl | (split <;> simp; done) | (dsimp only; (repeat' split) <;> simp; done) | simp
@[simp] theorem State.log1_queueCounts (s : State) (code : Nat) (source : Nat) (arg : Nat) : (s.log1 code source arg).queueCounts = s.queueCounts := by
  unfold State.log1; first | rfl | (split <;> simp; done) | (dsimp only; (repeat' split) <;> simp; done) | simp
@[simp] theorem State.log1_notices (s : State) (code : Nat) (source : Nat) (arg : Nat) : (s.log1 code source arg).notices = s.notices := by
  unfold State.log1; first | rfl | (split <;> simp; done) | (dsimp only; (repeat' split) <;> simp; done) | simp
@[simp] theorem State.log1_laneOut (s : State) (code : Nat) (source : Nat) (arg : Nat) : (s.log1 code source arg).laneOut = s.laneOut := by
  unfold State.log1; first | rfl | (split <;> simp; done) | (dsimp only; (repeat' split) <;> simp; done) | simp
@[simp] theorem State.log1_sched (s : State) (code : Nat) (source : Nat) (arg : Nat) : (s.log1 code source arg).sched = s.sched := by
  unfold State.log1; first | rfl | (split <;> simp; done) | (dsimp only; (repeat' split) <;> simp; done) | simp
@[simp] theorem State.log1_chan (s : State) (code : Nat) (source : Nat) (arg : Nat) : (s.log1 code source arg).chan = s.chan := by
  unfold State.log1; first | rfl | (split <;> simp; done) | (dsimp only; (repeat' split) <;> simp; done) | simp
@[simp] theorem State.log1_fabric (s : State) (code : Nat) (source : Nat) (arg : Nat) : (s.log1 code source arg).fabric = s.fabric := by
  unfold State.log1; first | rfl | (split <;> simp; done) | (dsimp only; (repeat' split) <;> simp; done) | simp
@[simp] theorem State.log1_trace (s : State) (code : Nat) (source : Nat) (arg : Nat) : (s.log1 code source arg).trace = s.trace := by
  unfold State.log1; first | rfl | (split <;> simp; done) | (dsimp only; (repeat' split) <;> simp; done) | simp
@[simp] theorem State.log1_sec (s : State) (code : Nat) (source : Nat) (arg : Nat) : (s.log1 code source arg).sec = s.sec := by
  unfold State.log1; first | rfl | (split <;> simp; done) | (dsimp only; (repeat' split) <;> simp; done) | simp
@[simp] theorem State.log1_loader (s : State) (code : Nat) (source : Nat) (arg : Nat) : (s.log1 code source arg).loader = s.loader := by
  unfold State.log1; first | rfl | (split <;> simp; done) | (dsimp only; (repeat' split) <;> simp; done) | simp
@[simp] theorem State.log1_rings (s : State) (code : Nat) (source : Nat) (arg : Nat) : (s.log1 code source arg).rings = s.rings := by
  unfold State.log1; first | rfl | (split <;> simp; done) | (dsimp only; (repeat' split) <;> simp; done) | simp
@[simp] theorem State.log1_guest (s : State) (code : Nat) (source : Nat) (arg : Nat) : (s.log1 code source arg).guest = s.guest := by
  unfold State.log1; first | rfl | (split <;> simp; done) | (dsimp only; (repeat' split) <;> simp; done) | simp
@[simp] theorem State.log1_sheets (s : State) (code : Nat) (source : Nat) (arg : Nat) : (s.log1 code source arg).sheets = s.sheets := by
  unfold State.log1; first | rfl | (split <;> simp; done) | (dsimp only; (repeat' split) <;> simp; done) | simp
@[simp] theorem State.log1_lanes (s : State) (code : Nat) (source : Nat) (arg : Nat) : (s.log1 code source arg).lanes = s.lanes := by
  unfold State.log1; first | rfl | (split <;> simp; done) | (dsimp only; (repeat' split) <;> simp; done) | simp
@[simp] theorem State.log1_pins (s : State) (code : Nat) (source : Nat) (arg : Nat) : (s.log1 code source arg).pins = s.pins := by
  unfold State.log1; first | rfl | (split <;> simp; done) | (dsimp only; (repeat' split) <;> simp; done) | simp
@[simp] theorem State.log1_trig (s : State) (code : Nat) (source : Nat) (arg : Nat) : (s.log1 code source arg).trig = s.trig := by
  unfold State.log1; first | rfl | (split <;> simp; done) | (dsimp only; (repeat' split) <;> simp; done) | simp
@[simp] theorem State.log1_free (s : State) (code : Nat) (source : Nat) (arg : Nat) : (s.log1 code source arg).free = s.free := by
  unfold State.log1; first | rfl | (split <;> simp; done) | (dsimp only; (repeat' split) <;> simp; done) | simp

@[simp] theorem State.logDetail_pending (s : State) (code : Nat) (cls : FaultClass) (source : Nat) (arg : Nat) (x5 : Nat) (x6 : Nat) : (s.logDetail code cls source arg x5 x6).pending = s.pending := by
  unfold State.logDetail; first | rfl | (split <;> simp; done) | (dsimp only; (repeat' split) <;> simp; done) | simp
@[simp] theorem State.logDetail_answer (s : State) (code : Nat) (cls : FaultClass) (source : Nat) (arg : Nat) (x5 : Nat) (x6 : Nat) : (s.logDetail code cls source arg x5 x6).answer = s.answer := by
  unfold State.logDetail; first | rfl | (split <;> simp; done) | (dsimp only; (repeat' split) <;> simp; done) | simp
@[simp] theorem State.logDetail_part (s : State) (code : Nat) (cls : FaultClass) (source : Nat) (arg : Nat) (x5 : Nat) (x6 : Nat) : (s.logDetail code cls source arg x5 x6).part = s.part := by
  unfold State.logDetail; first | rfl | (split <;> simp; done) | (dsimp only; (repeat' split) <;> simp; done) | simp
@[simp] theorem State.logDetail_dict (s : State) (code : Nat) (cls : FaultClass) (source : Nat) (arg : Nat) (x5 : Nat) (x6 : Nat) : (s.logDetail code cls source arg x5 x6).dict = s.dict := by
  unfold State.logDetail; first | rfl | (split <;> simp; done) | (dsimp only; (repeat' split) <;> simp; done) | simp
@[simp] theorem State.logDetail_mgmt (s : State) (code : Nat) (cls : FaultClass) (source : Nat) (arg : Nat) (x5 : Nat) (x6 : Nat) : (s.logDetail code cls source arg x5 x6).mgmt = s.mgmt := by
  unfold State.logDetail; first | rfl | (split <;> simp; done) | (dsimp only; (repeat' split) <;> simp; done) | simp
@[simp] theorem State.logDetail_boot (s : State) (code : Nat) (cls : FaultClass) (source : Nat) (arg : Nat) (x5 : Nat) (x6 : Nat) : (s.logDetail code cls source arg x5 x6).boot = s.boot := by
  unfold State.logDetail; first | rfl | (split <;> simp; done) | (dsimp only; (repeat' split) <;> simp; done) | simp
@[simp] theorem State.logDetail_arr (s : State) (code : Nat) (cls : FaultClass) (source : Nat) (arg : Nat) (x5 : Nat) (x6 : Nat) : (s.logDetail code cls source arg x5 x6).arr = s.arr := by
  unfold State.logDetail; first | rfl | (split <;> simp; done) | (dsimp only; (repeat' split) <;> simp; done) | simp
@[simp] theorem State.logDetail_run (s : State) (code : Nat) (cls : FaultClass) (source : Nat) (arg : Nat) (x5 : Nat) (x6 : Nat) : (s.logDetail code cls source arg x5 x6).run = s.run := by
  unfold State.logDetail; first | rfl | (split <;> simp; done) | (dsimp only; (repeat' split) <;> simp; done) | simp
@[simp] theorem State.logDetail_mem (s : State) (code : Nat) (cls : FaultClass) (source : Nat) (arg : Nat) (x5 : Nat) (x6 : Nat) : (s.logDetail code cls source arg x5 x6).mem = s.mem := by
  unfold State.logDetail; first | rfl | (split <;> simp; done) | (dsimp only; (repeat' split) <;> simp; done) | simp
@[simp] theorem State.logDetail_therm (s : State) (code : Nat) (cls : FaultClass) (source : Nat) (arg : Nat) (x5 : Nat) (x6 : Nat) : (s.logDetail code cls source arg x5 x6).therm = s.therm := by
  unfold State.logDetail; first | rfl | (split <;> simp; done) | (dsimp only; (repeat' split) <;> simp; done) | simp
@[simp] theorem State.logDetail_time (s : State) (code : Nat) (cls : FaultClass) (source : Nat) (arg : Nat) (x5 : Nat) (x6 : Nat) : (s.logDetail code cls source arg x5 x6).time = s.time := by
  unfold State.logDetail; first | rfl | (split <;> simp; done) | (dsimp only; (repeat' split) <;> simp; done) | simp
@[simp] theorem State.logDetail_pulses (s : State) (code : Nat) (cls : FaultClass) (source : Nat) (arg : Nat) (x5 : Nat) (x6 : Nat) : (s.logDetail code cls source arg x5 x6).pulses = s.pulses := by
  unfold State.logDetail; first | rfl | (split <;> simp; done) | (dsimp only; (repeat' split) <;> simp; done) | simp
@[simp] theorem State.logDetail_image (s : State) (code : Nat) (cls : FaultClass) (source : Nat) (arg : Nat) (x5 : Nat) (x6 : Nat) : (s.logDetail code cls source arg x5 x6).image = s.image := by
  unfold State.logDetail; first | rfl | (split <;> simp; done) | (dsimp only; (repeat' split) <;> simp; done) | simp
@[simp] theorem State.logDetail_tokens (s : State) (code : Nat) (cls : FaultClass) (source : Nat) (arg : Nat) (x5 : Nat) (x6 : Nat) : (s.logDetail code cls source arg x5 x6).tokens = s.tokens := by
  unfold State.logDetail; first | rfl | (split <;> simp; done) | (dsimp only; (repeat' split) <;> simp; done) | simp
@[simp] theorem State.logDetail_fixer (s : State) (code : Nat) (cls : FaultClass) (source : Nat) (arg : Nat) (x5 : Nat) (x6 : Nat) : (s.logDetail code cls source arg x5 x6).fixer = s.fixer := by
  unfold State.logDetail; first | rfl | (split <;> simp; done) | (dsimp only; (repeat' split) <;> simp; done) | simp
@[simp] theorem State.logDetail_bundles (s : State) (code : Nat) (cls : FaultClass) (source : Nat) (arg : Nat) (x5 : Nat) (x6 : Nat) : (s.logDetail code cls source arg x5 x6).bundles = s.bundles := by
  unfold State.logDetail; first | rfl | (split <;> simp; done) | (dsimp only; (repeat' split) <;> simp; done) | simp
@[simp] theorem State.logDetail_queueCounts (s : State) (code : Nat) (cls : FaultClass) (source : Nat) (arg : Nat) (x5 : Nat) (x6 : Nat) : (s.logDetail code cls source arg x5 x6).queueCounts = s.queueCounts := by
  unfold State.logDetail; first | rfl | (split <;> simp; done) | (dsimp only; (repeat' split) <;> simp; done) | simp
@[simp] theorem State.logDetail_notices (s : State) (code : Nat) (cls : FaultClass) (source : Nat) (arg : Nat) (x5 : Nat) (x6 : Nat) : (s.logDetail code cls source arg x5 x6).notices = s.notices := by
  unfold State.logDetail; first | rfl | (split <;> simp; done) | (dsimp only; (repeat' split) <;> simp; done) | simp
@[simp] theorem State.logDetail_laneOut (s : State) (code : Nat) (cls : FaultClass) (source : Nat) (arg : Nat) (x5 : Nat) (x6 : Nat) : (s.logDetail code cls source arg x5 x6).laneOut = s.laneOut := by
  unfold State.logDetail; first | rfl | (split <;> simp; done) | (dsimp only; (repeat' split) <;> simp; done) | simp
@[simp] theorem State.logDetail_sched (s : State) (code : Nat) (cls : FaultClass) (source : Nat) (arg : Nat) (x5 : Nat) (x6 : Nat) : (s.logDetail code cls source arg x5 x6).sched = s.sched := by
  unfold State.logDetail; first | rfl | (split <;> simp; done) | (dsimp only; (repeat' split) <;> simp; done) | simp
@[simp] theorem State.logDetail_chan (s : State) (code : Nat) (cls : FaultClass) (source : Nat) (arg : Nat) (x5 : Nat) (x6 : Nat) : (s.logDetail code cls source arg x5 x6).chan = s.chan := by
  unfold State.logDetail; first | rfl | (split <;> simp; done) | (dsimp only; (repeat' split) <;> simp; done) | simp
@[simp] theorem State.logDetail_fabric (s : State) (code : Nat) (cls : FaultClass) (source : Nat) (arg : Nat) (x5 : Nat) (x6 : Nat) : (s.logDetail code cls source arg x5 x6).fabric = s.fabric := by
  unfold State.logDetail; first | rfl | (split <;> simp; done) | (dsimp only; (repeat' split) <;> simp; done) | simp
@[simp] theorem State.logDetail_trace (s : State) (code : Nat) (cls : FaultClass) (source : Nat) (arg : Nat) (x5 : Nat) (x6 : Nat) : (s.logDetail code cls source arg x5 x6).trace = s.trace := by
  unfold State.logDetail; first | rfl | (split <;> simp; done) | (dsimp only; (repeat' split) <;> simp; done) | simp
@[simp] theorem State.logDetail_sec (s : State) (code : Nat) (cls : FaultClass) (source : Nat) (arg : Nat) (x5 : Nat) (x6 : Nat) : (s.logDetail code cls source arg x5 x6).sec = s.sec := by
  unfold State.logDetail; first | rfl | (split <;> simp; done) | (dsimp only; (repeat' split) <;> simp; done) | simp
@[simp] theorem State.logDetail_loader (s : State) (code : Nat) (cls : FaultClass) (source : Nat) (arg : Nat) (x5 : Nat) (x6 : Nat) : (s.logDetail code cls source arg x5 x6).loader = s.loader := by
  unfold State.logDetail; first | rfl | (split <;> simp; done) | (dsimp only; (repeat' split) <;> simp; done) | simp
@[simp] theorem State.logDetail_rings (s : State) (code : Nat) (cls : FaultClass) (source : Nat) (arg : Nat) (x5 : Nat) (x6 : Nat) : (s.logDetail code cls source arg x5 x6).rings = s.rings := by
  unfold State.logDetail; first | rfl | (split <;> simp; done) | (dsimp only; (repeat' split) <;> simp; done) | simp
@[simp] theorem State.logDetail_guest (s : State) (code : Nat) (cls : FaultClass) (source : Nat) (arg : Nat) (x5 : Nat) (x6 : Nat) : (s.logDetail code cls source arg x5 x6).guest = s.guest := by
  unfold State.logDetail; first | rfl | (split <;> simp; done) | (dsimp only; (repeat' split) <;> simp; done) | simp
@[simp] theorem State.logDetail_sheets (s : State) (code : Nat) (cls : FaultClass) (source : Nat) (arg : Nat) (x5 : Nat) (x6 : Nat) : (s.logDetail code cls source arg x5 x6).sheets = s.sheets := by
  unfold State.logDetail; first | rfl | (split <;> simp; done) | (dsimp only; (repeat' split) <;> simp; done) | simp
@[simp] theorem State.logDetail_lanes (s : State) (code : Nat) (cls : FaultClass) (source : Nat) (arg : Nat) (x5 : Nat) (x6 : Nat) : (s.logDetail code cls source arg x5 x6).lanes = s.lanes := by
  unfold State.logDetail; first | rfl | (split <;> simp; done) | (dsimp only; (repeat' split) <;> simp; done) | simp
@[simp] theorem State.logDetail_pins (s : State) (code : Nat) (cls : FaultClass) (source : Nat) (arg : Nat) (x5 : Nat) (x6 : Nat) : (s.logDetail code cls source arg x5 x6).pins = s.pins := by
  unfold State.logDetail; first | rfl | (split <;> simp; done) | (dsimp only; (repeat' split) <;> simp; done) | simp
@[simp] theorem State.logDetail_trig (s : State) (code : Nat) (cls : FaultClass) (source : Nat) (arg : Nat) (x5 : Nat) (x6 : Nat) : (s.logDetail code cls source arg x5 x6).trig = s.trig := by
  unfold State.logDetail; first | rfl | (split <;> simp; done) | (dsimp only; (repeat' split) <;> simp; done) | simp
@[simp] theorem State.logDetail_free (s : State) (code : Nat) (cls : FaultClass) (source : Nat) (arg : Nat) (x5 : Nat) (x6 : Nat) : (s.logDetail code cls source arg x5 x6).free = s.free := by
  unfold State.logDetail; first | rfl | (split <;> simp; done) | (dsimp only; (repeat' split) <;> simp; done) | simp

@[simp] theorem State.refuseArg_pending (s : State) (req : Nat) (code : Nat) (arg : Nat) : (s.refuseArg req code arg).pending = s.pending := by
  unfold State.refuseArg; first | rfl | (split <;> simp; done) | (dsimp only; (repeat' split) <;> simp; done) | simp
@[simp] theorem State.refuseArg_part (s : State) (req : Nat) (code : Nat) (arg : Nat) : (s.refuseArg req code arg).part = s.part := by
  unfold State.refuseArg; first | rfl | (split <;> simp; done) | (dsimp only; (repeat' split) <;> simp; done) | simp
@[simp] theorem State.refuseArg_dict (s : State) (req : Nat) (code : Nat) (arg : Nat) : (s.refuseArg req code arg).dict = s.dict := by
  unfold State.refuseArg; first | rfl | (split <;> simp; done) | (dsimp only; (repeat' split) <;> simp; done) | simp
@[simp] theorem State.refuseArg_boot (s : State) (req : Nat) (code : Nat) (arg : Nat) : (s.refuseArg req code arg).boot = s.boot := by
  unfold State.refuseArg; first | rfl | (split <;> simp; done) | (dsimp only; (repeat' split) <;> simp; done) | simp
@[simp] theorem State.refuseArg_arr (s : State) (req : Nat) (code : Nat) (arg : Nat) : (s.refuseArg req code arg).arr = s.arr := by
  unfold State.refuseArg; first | rfl | (split <;> simp; done) | (dsimp only; (repeat' split) <;> simp; done) | simp
@[simp] theorem State.refuseArg_run (s : State) (req : Nat) (code : Nat) (arg : Nat) : (s.refuseArg req code arg).run = s.run := by
  unfold State.refuseArg; first | rfl | (split <;> simp; done) | (dsimp only; (repeat' split) <;> simp; done) | simp
@[simp] theorem State.refuseArg_mem (s : State) (req : Nat) (code : Nat) (arg : Nat) : (s.refuseArg req code arg).mem = s.mem := by
  unfold State.refuseArg; first | rfl | (split <;> simp; done) | (dsimp only; (repeat' split) <;> simp; done) | simp
@[simp] theorem State.refuseArg_therm (s : State) (req : Nat) (code : Nat) (arg : Nat) : (s.refuseArg req code arg).therm = s.therm := by
  unfold State.refuseArg; first | rfl | (split <;> simp; done) | (dsimp only; (repeat' split) <;> simp; done) | simp
@[simp] theorem State.refuseArg_time (s : State) (req : Nat) (code : Nat) (arg : Nat) : (s.refuseArg req code arg).time = s.time := by
  unfold State.refuseArg; first | rfl | (split <;> simp; done) | (dsimp only; (repeat' split) <;> simp; done) | simp
@[simp] theorem State.refuseArg_pulses (s : State) (req : Nat) (code : Nat) (arg : Nat) : (s.refuseArg req code arg).pulses = s.pulses := by
  unfold State.refuseArg; first | rfl | (split <;> simp; done) | (dsimp only; (repeat' split) <;> simp; done) | simp
@[simp] theorem State.refuseArg_image (s : State) (req : Nat) (code : Nat) (arg : Nat) : (s.refuseArg req code arg).image = s.image := by
  unfold State.refuseArg; first | rfl | (split <;> simp; done) | (dsimp only; (repeat' split) <;> simp; done) | simp
@[simp] theorem State.refuseArg_tokens (s : State) (req : Nat) (code : Nat) (arg : Nat) : (s.refuseArg req code arg).tokens = s.tokens := by
  unfold State.refuseArg; first | rfl | (split <;> simp; done) | (dsimp only; (repeat' split) <;> simp; done) | simp
@[simp] theorem State.refuseArg_fixer (s : State) (req : Nat) (code : Nat) (arg : Nat) : (s.refuseArg req code arg).fixer = s.fixer := by
  unfold State.refuseArg; first | rfl | (split <;> simp; done) | (dsimp only; (repeat' split) <;> simp; done) | simp
@[simp] theorem State.refuseArg_bundles (s : State) (req : Nat) (code : Nat) (arg : Nat) : (s.refuseArg req code arg).bundles = s.bundles := by
  unfold State.refuseArg; first | rfl | (split <;> simp; done) | (dsimp only; (repeat' split) <;> simp; done) | simp
@[simp] theorem State.refuseArg_queueCounts (s : State) (req : Nat) (code : Nat) (arg : Nat) : (s.refuseArg req code arg).queueCounts = s.queueCounts := by
  unfold State.refuseArg; first | rfl | (split <;> simp; done) | (dsimp only; (repeat' split) <;> simp; done) | simp
@[simp] theorem State.refuseArg_notices (s : State) (req : Nat) (code : Nat) (arg : Nat) : (s.refuseArg req code arg).notices = s.notices := by
  unfold State.refuseArg; first | rfl | (split <;> simp; done) | (dsimp only; (repeat' split) <;> simp; done) | simp
@[simp] theorem State.refuseArg_laneOut (s : State) (req : Nat) (code : Nat) (arg : Nat) : (s.refuseArg req code arg).laneOut = s.laneOut := by
  unfold State.refuseArg; first | rfl | (split <;> simp; done) | (dsimp only; (repeat' split) <;> simp; done) | simp
@[simp] theorem State.refuseArg_sched (s : State) (req : Nat) (code : Nat) (arg : Nat) : (s.refuseArg req code arg).sched = s.sched := by
  unfold State.refuseArg; first | rfl | (split <;> simp; done) | (dsimp only; (repeat' split) <;> simp; done) | simp
@[simp] theorem State.refuseArg_chan (s : State) (req : Nat) (code : Nat) (arg : Nat) : (s.refuseArg req code arg).chan = s.chan := by
  unfold State.refuseArg; first | rfl | (split <;> simp; done) | (dsimp only; (repeat' split) <;> simp; done) | simp
@[simp] theorem State.refuseArg_fabric (s : State) (req : Nat) (code : Nat) (arg : Nat) : (s.refuseArg req code arg).fabric = s.fabric := by
  unfold State.refuseArg; first | rfl | (split <;> simp; done) | (dsimp only; (repeat' split) <;> simp; done) | simp
@[simp] theorem State.refuseArg_trace (s : State) (req : Nat) (code : Nat) (arg : Nat) : (s.refuseArg req code arg).trace = s.trace := by
  unfold State.refuseArg; first | rfl | (split <;> simp; done) | (dsimp only; (repeat' split) <;> simp; done) | simp
@[simp] theorem State.refuseArg_sec (s : State) (req : Nat) (code : Nat) (arg : Nat) : (s.refuseArg req code arg).sec = s.sec := by
  unfold State.refuseArg; first | rfl | (split <;> simp; done) | (dsimp only; (repeat' split) <;> simp; done) | simp
@[simp] theorem State.refuseArg_loader (s : State) (req : Nat) (code : Nat) (arg : Nat) : (s.refuseArg req code arg).loader = s.loader := by
  unfold State.refuseArg; first | rfl | (split <;> simp; done) | (dsimp only; (repeat' split) <;> simp; done) | simp
@[simp] theorem State.refuseArg_rings (s : State) (req : Nat) (code : Nat) (arg : Nat) : (s.refuseArg req code arg).rings = s.rings := by
  unfold State.refuseArg; first | rfl | (split <;> simp; done) | (dsimp only; (repeat' split) <;> simp; done) | simp
@[simp] theorem State.refuseArg_guest (s : State) (req : Nat) (code : Nat) (arg : Nat) : (s.refuseArg req code arg).guest = s.guest := by
  unfold State.refuseArg; first | rfl | (split <;> simp; done) | (dsimp only; (repeat' split) <;> simp; done) | simp
@[simp] theorem State.refuseArg_sheets (s : State) (req : Nat) (code : Nat) (arg : Nat) : (s.refuseArg req code arg).sheets = s.sheets := by
  unfold State.refuseArg; first | rfl | (split <;> simp; done) | (dsimp only; (repeat' split) <;> simp; done) | simp
@[simp] theorem State.refuseArg_lanes (s : State) (req : Nat) (code : Nat) (arg : Nat) : (s.refuseArg req code arg).lanes = s.lanes := by
  unfold State.refuseArg; first | rfl | (split <;> simp; done) | (dsimp only; (repeat' split) <;> simp; done) | simp
@[simp] theorem State.refuseArg_pins (s : State) (req : Nat) (code : Nat) (arg : Nat) : (s.refuseArg req code arg).pins = s.pins := by
  unfold State.refuseArg; first | rfl | (split <;> simp; done) | (dsimp only; (repeat' split) <;> simp; done) | simp
@[simp] theorem State.refuseArg_trig (s : State) (req : Nat) (code : Nat) (arg : Nat) : (s.refuseArg req code arg).trig = s.trig := by
  unfold State.refuseArg; first | rfl | (split <;> simp; done) | (dsimp only; (repeat' split) <;> simp; done) | simp
@[simp] theorem State.refuseArg_free (s : State) (req : Nat) (code : Nat) (arg : Nat) : (s.refuseArg req code arg).free = s.free := by
  unfold State.refuseArg; first | rfl | (split <;> simp; done) | (dsimp only; (repeat' split) <;> simp; done) | simp

@[simp] theorem State.refuse_pending (s : State) (req : Nat) (key : Nat) (code : Nat) : (s.refuse req key code).pending = s.pending := by
  unfold State.refuse; first | rfl | (split <;> simp; done) | (dsimp only; (repeat' split) <;> simp; done) | simp
@[simp] theorem State.refuse_part (s : State) (req : Nat) (key : Nat) (code : Nat) : (s.refuse req key code).part = s.part := by
  unfold State.refuse; first | rfl | (split <;> simp; done) | (dsimp only; (repeat' split) <;> simp; done) | simp
@[simp] theorem State.refuse_dict (s : State) (req : Nat) (key : Nat) (code : Nat) : (s.refuse req key code).dict = s.dict := by
  unfold State.refuse; first | rfl | (split <;> simp; done) | (dsimp only; (repeat' split) <;> simp; done) | simp
@[simp] theorem State.refuse_boot (s : State) (req : Nat) (key : Nat) (code : Nat) : (s.refuse req key code).boot = s.boot := by
  unfold State.refuse; first | rfl | (split <;> simp; done) | (dsimp only; (repeat' split) <;> simp; done) | simp
@[simp] theorem State.refuse_arr (s : State) (req : Nat) (key : Nat) (code : Nat) : (s.refuse req key code).arr = s.arr := by
  unfold State.refuse; first | rfl | (split <;> simp; done) | (dsimp only; (repeat' split) <;> simp; done) | simp
@[simp] theorem State.refuse_run (s : State) (req : Nat) (key : Nat) (code : Nat) : (s.refuse req key code).run = s.run := by
  unfold State.refuse; first | rfl | (split <;> simp; done) | (dsimp only; (repeat' split) <;> simp; done) | simp
@[simp] theorem State.refuse_mem (s : State) (req : Nat) (key : Nat) (code : Nat) : (s.refuse req key code).mem = s.mem := by
  unfold State.refuse; first | rfl | (split <;> simp; done) | (dsimp only; (repeat' split) <;> simp; done) | simp
@[simp] theorem State.refuse_therm (s : State) (req : Nat) (key : Nat) (code : Nat) : (s.refuse req key code).therm = s.therm := by
  unfold State.refuse; first | rfl | (split <;> simp; done) | (dsimp only; (repeat' split) <;> simp; done) | simp
@[simp] theorem State.refuse_time (s : State) (req : Nat) (key : Nat) (code : Nat) : (s.refuse req key code).time = s.time := by
  unfold State.refuse; first | rfl | (split <;> simp; done) | (dsimp only; (repeat' split) <;> simp; done) | simp
@[simp] theorem State.refuse_pulses (s : State) (req : Nat) (key : Nat) (code : Nat) : (s.refuse req key code).pulses = s.pulses := by
  unfold State.refuse; first | rfl | (split <;> simp; done) | (dsimp only; (repeat' split) <;> simp; done) | simp
@[simp] theorem State.refuse_image (s : State) (req : Nat) (key : Nat) (code : Nat) : (s.refuse req key code).image = s.image := by
  unfold State.refuse; first | rfl | (split <;> simp; done) | (dsimp only; (repeat' split) <;> simp; done) | simp
@[simp] theorem State.refuse_tokens (s : State) (req : Nat) (key : Nat) (code : Nat) : (s.refuse req key code).tokens = s.tokens := by
  unfold State.refuse; first | rfl | (split <;> simp; done) | (dsimp only; (repeat' split) <;> simp; done) | simp
@[simp] theorem State.refuse_fixer (s : State) (req : Nat) (key : Nat) (code : Nat) : (s.refuse req key code).fixer = s.fixer := by
  unfold State.refuse; first | rfl | (split <;> simp; done) | (dsimp only; (repeat' split) <;> simp; done) | simp
@[simp] theorem State.refuse_bundles (s : State) (req : Nat) (key : Nat) (code : Nat) : (s.refuse req key code).bundles = s.bundles := by
  unfold State.refuse; first | rfl | (split <;> simp; done) | (dsimp only; (repeat' split) <;> simp; done) | simp
@[simp] theorem State.refuse_queueCounts (s : State) (req : Nat) (key : Nat) (code : Nat) : (s.refuse req key code).queueCounts = s.queueCounts := by
  unfold State.refuse; first | rfl | (split <;> simp; done) | (dsimp only; (repeat' split) <;> simp; done) | simp
@[simp] theorem State.refuse_notices (s : State) (req : Nat) (key : Nat) (code : Nat) : (s.refuse req key code).notices = s.notices := by
  unfold State.refuse; first | rfl | (split <;> simp; done) | (dsimp only; (repeat' split) <;> simp; done) | simp
@[simp] theorem State.refuse_laneOut (s : State) (req : Nat) (key : Nat) (code : Nat) : (s.refuse req key code).laneOut = s.laneOut := by
  unfold State.refuse; first | rfl | (split <;> simp; done) | (dsimp only; (repeat' split) <;> simp; done) | simp
@[simp] theorem State.refuse_sched (s : State) (req : Nat) (key : Nat) (code : Nat) : (s.refuse req key code).sched = s.sched := by
  unfold State.refuse; first | rfl | (split <;> simp; done) | (dsimp only; (repeat' split) <;> simp; done) | simp
@[simp] theorem State.refuse_chan (s : State) (req : Nat) (key : Nat) (code : Nat) : (s.refuse req key code).chan = s.chan := by
  unfold State.refuse; first | rfl | (split <;> simp; done) | (dsimp only; (repeat' split) <;> simp; done) | simp
@[simp] theorem State.refuse_fabric (s : State) (req : Nat) (key : Nat) (code : Nat) : (s.refuse req key code).fabric = s.fabric := by
  unfold State.refuse; first | rfl | (split <;> simp; done) | (dsimp only; (repeat' split) <;> simp; done) | simp
@[simp] theorem State.refuse_trace (s : State) (req : Nat) (key : Nat) (code : Nat) : (s.refuse req key code).trace = s.trace := by
  unfold State.refuse; first | rfl | (split <;> simp; done) | (dsimp only; (repeat' split) <;> simp; done) | simp
@[simp] theorem State.refuse_sec (s : State) (req : Nat) (key : Nat) (code : Nat) : (s.refuse req key code).sec = s.sec := by
  unfold State.refuse; first | rfl | (split <;> simp; done) | (dsimp only; (repeat' split) <;> simp; done) | simp
@[simp] theorem State.refuse_loader (s : State) (req : Nat) (key : Nat) (code : Nat) : (s.refuse req key code).loader = s.loader := by
  unfold State.refuse; first | rfl | (split <;> simp; done) | (dsimp only; (repeat' split) <;> simp; done) | simp
@[simp] theorem State.refuse_rings (s : State) (req : Nat) (key : Nat) (code : Nat) : (s.refuse req key code).rings = s.rings := by
  unfold State.refuse; first | rfl | (split <;> simp; done) | (dsimp only; (repeat' split) <;> simp; done) | simp
@[simp] theorem State.refuse_guest (s : State) (req : Nat) (key : Nat) (code : Nat) : (s.refuse req key code).guest = s.guest := by
  unfold State.refuse; first | rfl | (split <;> simp; done) | (dsimp only; (repeat' split) <;> simp; done) | simp
@[simp] theorem State.refuse_sheets (s : State) (req : Nat) (key : Nat) (code : Nat) : (s.refuse req key code).sheets = s.sheets := by
  unfold State.refuse; first | rfl | (split <;> simp; done) | (dsimp only; (repeat' split) <;> simp; done) | simp
@[simp] theorem State.refuse_lanes (s : State) (req : Nat) (key : Nat) (code : Nat) : (s.refuse req key code).lanes = s.lanes := by
  unfold State.refuse; first | rfl | (split <;> simp; done) | (dsimp only; (repeat' split) <;> simp; done) | simp
@[simp] theorem State.refuse_pins (s : State) (req : Nat) (key : Nat) (code : Nat) : (s.refuse req key code).pins = s.pins := by
  unfold State.refuse; first | rfl | (split <;> simp; done) | (dsimp only; (repeat' split) <;> simp; done) | simp
@[simp] theorem State.refuse_trig (s : State) (req : Nat) (key : Nat) (code : Nat) : (s.refuse req key code).trig = s.trig := by
  unfold State.refuse; first | rfl | (split <;> simp; done) | (dsimp only; (repeat' split) <;> simp; done) | simp
@[simp] theorem State.refuse_free (s : State) (req : Nat) (key : Nat) (code : Nat) : (s.refuse req key code).free = s.free := by
  unfold State.refuse; first | rfl | (split <;> simp; done) | (dsimp only; (repeat' split) <;> simp; done) | simp

@[simp] theorem State.countDenied_pending (s : State) (req : Nat) : (s.countDenied req).pending = s.pending := by
  unfold State.countDenied; first | rfl | (split <;> simp; done) | (dsimp only; (repeat' split) <;> simp; done) | simp
@[simp] theorem State.countDenied_answer (s : State) (req : Nat) : (s.countDenied req).answer = s.answer := by
  unfold State.countDenied; first | rfl | (split <;> simp; done) | (dsimp only; (repeat' split) <;> simp; done) | simp
@[simp] theorem State.countDenied_part (s : State) (req : Nat) : (s.countDenied req).part = s.part := by
  unfold State.countDenied; first | rfl | (split <;> simp; done) | (dsimp only; (repeat' split) <;> simp; done) | simp
@[simp] theorem State.countDenied_mgmt (s : State) (req : Nat) : (s.countDenied req).mgmt = s.mgmt := by
  unfold State.countDenied; first | rfl | (split <;> simp; done) | (dsimp only; (repeat' split) <;> simp; done) | simp
@[simp] theorem State.countDenied_can (s : State) (req : Nat) : (s.countDenied req).can = s.can := by
  unfold State.countDenied; first | rfl | (split <;> simp; done) | (dsimp only; (repeat' split) <;> simp; done) | simp
@[simp] theorem State.countDenied_boot (s : State) (req : Nat) : (s.countDenied req).boot = s.boot := by
  unfold State.countDenied; first | rfl | (split <;> simp; done) | (dsimp only; (repeat' split) <;> simp; done) | simp
@[simp] theorem State.countDenied_log (s : State) (req : Nat) : (s.countDenied req).log = s.log := by
  unfold State.countDenied; first | rfl | (split <;> simp; done) | (dsimp only; (repeat' split) <;> simp; done) | simp
@[simp] theorem State.countDenied_arr (s : State) (req : Nat) : (s.countDenied req).arr = s.arr := by
  unfold State.countDenied; first | rfl | (split <;> simp; done) | (dsimp only; (repeat' split) <;> simp; done) | simp
@[simp] theorem State.countDenied_run (s : State) (req : Nat) : (s.countDenied req).run = s.run := by
  unfold State.countDenied; first | rfl | (split <;> simp; done) | (dsimp only; (repeat' split) <;> simp; done) | simp
@[simp] theorem State.countDenied_mem (s : State) (req : Nat) : (s.countDenied req).mem = s.mem := by
  unfold State.countDenied; first | rfl | (split <;> simp; done) | (dsimp only; (repeat' split) <;> simp; done) | simp
@[simp] theorem State.countDenied_rst (s : State) (req : Nat) : (s.countDenied req).rst = s.rst := by
  unfold State.countDenied; first | rfl | (split <;> simp; done) | (dsimp only; (repeat' split) <;> simp; done) | simp
@[simp] theorem State.countDenied_therm (s : State) (req : Nat) : (s.countDenied req).therm = s.therm := by
  unfold State.countDenied; first | rfl | (split <;> simp; done) | (dsimp only; (repeat' split) <;> simp; done) | simp
@[simp] theorem State.countDenied_time (s : State) (req : Nat) : (s.countDenied req).time = s.time := by
  unfold State.countDenied; first | rfl | (split <;> simp; done) | (dsimp only; (repeat' split) <;> simp; done) | simp
@[simp] theorem State.countDenied_pulses (s : State) (req : Nat) : (s.countDenied req).pulses = s.pulses := by
  unfold State.countDenied; first | rfl | (split <;> simp; done) | (dsimp only; (repeat' split) <;> simp; done) | simp
@[simp] theorem State.countDenied_image (s : State) (req : Nat) : (s.countDenied req).image = s.image := by
  unfold State.countDenied; first | rfl | (split <;> simp; done) | (dsimp only; (repeat' split) <;> simp; done) | simp
@[simp] theorem State.countDenied_tokens (s : State) (req : Nat) : (s.countDenied req).tokens = s.tokens := by
  unfold State.countDenied; first | rfl | (split <;> simp; done) | (dsimp only; (repeat' split) <;> simp; done) | simp
@[simp] theorem State.countDenied_fixer (s : State) (req : Nat) : (s.countDenied req).fixer = s.fixer := by
  unfold State.countDenied; first | rfl | (split <;> simp; done) | (dsimp only; (repeat' split) <;> simp; done) | simp
@[simp] theorem State.countDenied_bundles (s : State) (req : Nat) : (s.countDenied req).bundles = s.bundles := by
  unfold State.countDenied; first | rfl | (split <;> simp; done) | (dsimp only; (repeat' split) <;> simp; done) | simp
@[simp] theorem State.countDenied_queueCounts (s : State) (req : Nat) : (s.countDenied req).queueCounts = s.queueCounts := by
  unfold State.countDenied; first | rfl | (split <;> simp; done) | (dsimp only; (repeat' split) <;> simp; done) | simp
@[simp] theorem State.countDenied_notices (s : State) (req : Nat) : (s.countDenied req).notices = s.notices := by
  unfold State.countDenied; first | rfl | (split <;> simp; done) | (dsimp only; (repeat' split) <;> simp; done) | simp
@[simp] theorem State.countDenied_laneOut (s : State) (req : Nat) : (s.countDenied req).laneOut = s.laneOut := by
  unfold State.countDenied; first | rfl | (split <;> simp; done) | (dsimp only; (repeat' split) <;> simp; done) | simp
@[simp] theorem State.countDenied_cores (s : State) (req : Nat) : (s.countDenied req).cores = s.cores := by
  unfold State.countDenied; first | rfl | (split <;> simp; done) | (dsimp only; (repeat' split) <;> simp; done) | simp
@[simp] theorem State.countDenied_sched (s : State) (req : Nat) : (s.countDenied req).sched = s.sched := by
  unfold State.countDenied; first | rfl | (split <;> simp; done) | (dsimp only; (repeat' split) <;> simp; done) | simp
@[simp] theorem State.countDenied_chan (s : State) (req : Nat) : (s.countDenied req).chan = s.chan := by
  unfold State.countDenied; first | rfl | (split <;> simp; done) | (dsimp only; (repeat' split) <;> simp; done) | simp
@[simp] theorem State.countDenied_fabric (s : State) (req : Nat) : (s.countDenied req).fabric = s.fabric := by
  unfold State.countDenied; first | rfl | (split <;> simp; done) | (dsimp only; (repeat' split) <;> simp; done) | simp
@[simp] theorem State.countDenied_trace (s : State) (req : Nat) : (s.countDenied req).trace = s.trace := by
  unfold State.countDenied; first | rfl | (split <;> simp; done) | (dsimp only; (repeat' split) <;> simp; done) | simp
@[simp] theorem State.countDenied_sec (s : State) (req : Nat) : (s.countDenied req).sec = s.sec := by
  unfold State.countDenied; first | rfl | (split <;> simp; done) | (dsimp only; (repeat' split) <;> simp; done) | simp
@[simp] theorem State.countDenied_loader (s : State) (req : Nat) : (s.countDenied req).loader = s.loader := by
  unfold State.countDenied; first | rfl | (split <;> simp; done) | (dsimp only; (repeat' split) <;> simp; done) | simp
@[simp] theorem State.countDenied_rings (s : State) (req : Nat) : (s.countDenied req).rings = s.rings := by
  unfold State.countDenied; first | rfl | (split <;> simp; done) | (dsimp only; (repeat' split) <;> simp; done) | simp
@[simp] theorem State.countDenied_guest (s : State) (req : Nat) : (s.countDenied req).guest = s.guest := by
  unfold State.countDenied; first | rfl | (split <;> simp; done) | (dsimp only; (repeat' split) <;> simp; done) | simp
@[simp] theorem State.countDenied_sheets (s : State) (req : Nat) : (s.countDenied req).sheets = s.sheets := by
  unfold State.countDenied; first | rfl | (split <;> simp; done) | (dsimp only; (repeat' split) <;> simp; done) | simp
@[simp] theorem State.countDenied_lanes (s : State) (req : Nat) : (s.countDenied req).lanes = s.lanes := by
  unfold State.countDenied; first | rfl | (split <;> simp; done) | (dsimp only; (repeat' split) <;> simp; done) | simp
@[simp] theorem State.countDenied_pins (s : State) (req : Nat) : (s.countDenied req).pins = s.pins := by
  unfold State.countDenied; first | rfl | (split <;> simp; done) | (dsimp only; (repeat' split) <;> simp; done) | simp
@[simp] theorem State.countDenied_trig (s : State) (req : Nat) : (s.countDenied req).trig = s.trig := by
  unfold State.countDenied; first | rfl | (split <;> simp; done) | (dsimp only; (repeat' split) <;> simp; done) | simp
@[simp] theorem State.countDenied_host (s : State) (req : Nat) : (s.countDenied req).host = s.host := by
  unfold State.countDenied; first | rfl | (split <;> simp; done) | (dsimp only; (repeat' split) <;> simp; done) | simp
@[simp] theorem State.countDenied_free (s : State) (req : Nat) : (s.countDenied req).free = s.free := by
  unfold State.countDenied; first | rfl | (split <;> simp; done) | (dsimp only; (repeat' split) <;> simp; done) | simp

@[simp] theorem State.setMode_answer (s : State) (m : Mode) : (s.setMode m).answer = s.answer := ((State.setMode_kept ..).same .answer).resolve_left (by decide)
@[simp] theorem State.setMode_can (s : State) (m : Mode) : (s.setMode m).can = s.can := ((State.setMode_kept ..).same .can).resolve_left (by decide)
@[simp] theorem State.setMode_boot (s : State) (m : Mode) : (s.setMode m).boot = s.boot := ((State.setMode_kept ..).same .boot).resolve_left (by decide)
@[simp] theorem State.setMode_rstCommit (s : State) (m : Mode) : (s.setMode m).rst.commitFaults = s.rst.commitFaults := ((State.setMode_kept ..).same .rstCommit).resolve_left (by decide)
@[simp] theorem State.setMode_therm (s : State) (m : Mode) : (s.setMode m).therm = s.therm := ((State.setMode_kept ..).same .therm).resolve_left (by decide)
@[simp] theorem State.setMode_time (s : State) (m : Mode) : (s.setMode m).time = s.time := ((State.setMode_kept ..).same .time).resolve_left (by decide)
@[simp] theorem State.setMode_pulses (s : State) (m : Mode) : (s.setMode m).pulses = s.pulses := ((State.setMode_kept ..).same .pulses).resolve_left (by decide)
@[simp] theorem State.setMode_image (s : State) (m : Mode) : (s.setMode m).image = s.image := ((State.setMode_kept ..).same .image).resolve_left (by decide)
@[simp] theorem State.setMode_tokens (s : State) (m : Mode) : (s.setMode m).tokens = s.tokens := ((State.setMode_kept ..).same .tokens).resolve_left (by decide)
@[simp] theorem State.setMode_fixer (s : State) (m : Mode) : (s.setMode m).fixer = s.fixer := ((State.setMode_kept ..).same .fixer).resolve_left (by decide)
@[simp] theorem State.setMode_bundles (s : State) (m : Mode) : (s.setMode m).bundles = s.bundles := ((State.setMode_kept ..).same .bundles).resolve_left (by decide)
@[simp] theorem State.setMode_queueCounts (s : State) (m : Mode) : (s.setMode m).queueCounts = s.queueCounts := ((State.setMode_kept ..).same .queueCounts).resolve_left (by decide)
@[simp] theorem State.setMode_notices (s : State) (m : Mode) : (s.setMode m).notices = s.notices := ((State.setMode_kept ..).same .notices).resolve_left (by decide)
@[simp] theorem State.setMode_laneOut (s : State) (m : Mode) : (s.setMode m).laneOut = s.laneOut := ((State.setMode_kept ..).same .laneOut).resolve_left (by decide)
@[simp] theorem State.setMode_sched (s : State) (m : Mode) : (s.setMode m).sched = s.sched := ((State.setMode_kept ..).same .sched).resolve_left (by decide)
@[simp] theorem State.setMode_chan (s : State) (m : Mode) : (s.setMode m).chan = s.chan := ((State.setMode_kept ..).same .chan).resolve_left (by decide)
@[simp] theorem State.setMode_loader (s : State) (m : Mode) : (s.setMode m).loader = s.loader := ((State.setMode_kept ..).same .loader).resolve_left (by decide)
@[simp] theorem State.setMode_guest (s : State) (m : Mode) : (s.setMode m).guest = s.guest := ((State.setMode_kept ..).same .guest).resolve_left (by decide)
@[simp] theorem State.setMode_sheets (s : State) (m : Mode) : (s.setMode m).sheets = s.sheets := ((State.setMode_kept ..).same .sheets).resolve_left (by decide)
@[simp] theorem State.setMode_lanes (s : State) (m : Mode) : (s.setMode m).lanes = s.lanes := ((State.setMode_kept ..).same .lanes).resolve_left (by decide)
@[simp] theorem State.setMode_pins (s : State) (m : Mode) : (s.setMode m).pins = s.pins := ((State.setMode_kept ..).same .pins).resolve_left (by decide)
@[simp] theorem State.setMode_trig (s : State) (m : Mode) : (s.setMode m).trig = s.trig := ((State.setMode_kept ..).same .trig).resolve_left (by decide)
@[simp] theorem State.setMode_free (s : State) (m : Mode) : (s.setMode m).free = s.free := ((State.setMode_kept ..).same .free).resolve_left (by decide)
@[simp] theorem State.setMode_arrNibs (s : State) (m : Mode) : (s.setMode m).arr.nibs = s.arr.nibs := ((State.setMode_kept ..).same .arrNibs).resolve_left (by decide)
@[simp] theorem State.setMode_arrWords (s : State) (m : Mode) : (s.setMode m).arr.words = s.arr.words := ((State.setMode_kept ..).same .arrWords).resolve_left (by decide)
@[simp] theorem State.setMode_arrRouteWords (s : State) (m : Mode) : (s.setMode m).arr.routeWords = s.arr.routeWords := ((State.setMode_kept ..).same .arrRouteWords).resolve_left (by decide)
@[simp] theorem State.setMode_arrClusters (s : State) (m : Mode) : (s.setMode m).arr.clusters = s.arr.clusters := ((State.setMode_kept ..).same .arrClusters).resolve_left (by decide)
@[simp] theorem State.setMode_arrTiles (s : State) (m : Mode) : (s.setMode m).arr.tiles = s.arr.tiles := ((State.setMode_kept ..).same .arrTiles).resolve_left (by decide)
@[simp] theorem State.setMode_arrFlights (s : State) (m : Mode) : (s.setMode m).arr.flights = s.arr.flights := ((State.setMode_kept ..).same .arrFlights).resolve_left (by decide)
@[simp] theorem State.setMode_arrClaims (s : State) (m : Mode) : (s.setMode m).arr.claims = s.arr.claims := ((State.setMode_kept ..).same .arrClaims).resolve_left (by decide)
@[simp] theorem State.setMode_arrRoutes (s : State) (m : Mode) : (s.setMode m).arr.routes = s.arr.routes := ((State.setMode_kept ..).same .arrRoutes).resolve_left (by decide)
@[simp] theorem State.setMode_arrSched (s : State) (m : Mode) : (s.setMode m).arr.sched = s.arr.sched := ((State.setMode_kept ..).same .arrSched).resolve_left (by decide)
@[simp] theorem State.setMode_arrCyclog (s : State) (m : Mode) : (s.setMode m).arr.cyclog = s.arr.cyclog := ((State.setMode_kept ..).same .arrCyclog).resolve_left (by decide)
@[simp] theorem State.setMode_arrQueues (s : State) (m : Mode) : (s.setMode m).arr.queues = s.arr.queues := ((State.setMode_kept ..).same .arrQueues).resolve_left (by decide)
@[simp] theorem State.setMode_arrRequests (s : State) (m : Mode) : (s.setMode m).arr.requests = s.arr.requests := ((State.setMode_kept ..).same .arrRequests).resolve_left (by decide)
@[simp] theorem State.setMode_arrSyncMask (s : State) (m : Mode) : (s.setMode m).arr.syncMask = s.arr.syncMask := ((State.setMode_kept ..).same .arrSyncMask).resolve_left (by decide)
@[simp] theorem State.setMode_arrVotes (s : State) (m : Mode) : (s.setMode m).arr.votes = s.arr.votes := ((State.setMode_kept ..).same .arrVotes).resolve_left (by decide)
@[simp] theorem State.setMode_arrUpperPowered (s : State) (m : Mode) : (s.setMode m).arr.upperPowered = s.arr.upperPowered := ((State.setMode_kept ..).same .arrUpperPowered).resolve_left (by decide)
@[simp] theorem State.setMode_arrFlightCount (s : State) (m : Mode) : (s.setMode m).arr.flightCount = s.arr.flightCount := ((State.setMode_kept ..).same .arrFlightCount).resolve_left (by decide)
@[simp] theorem State.setMode_memOnDie (s : State) (m : Mode) : (s.setMode m).mem.onDie = s.mem.onDie := ((State.setMode_kept ..).same .memOnDie).resolve_left (by decide)
@[simp] theorem State.setMode_memCache (s : State) (m : Mode) : (s.setMode m).mem.cache = s.mem.cache := ((State.setMode_kept ..).same .memCache).resolve_left (by decide)
@[simp] theorem State.setMode_memMarch (s : State) (m : Mode) : (s.setMode m).mem.march = s.mem.march := ((State.setMode_kept ..).same .memMarch).resolve_left (by decide)
@[simp] theorem State.setMode_memOwned (s : State) (m : Mode) : (s.setMode m).mem.owned = s.mem.owned := ((State.setMode_kept ..).same .memOwned).resolve_left (by decide)
@[simp] theorem State.setMode_memRetrained (s : State) (m : Mode) : (s.setMode m).mem.retrained = s.mem.retrained := ((State.setMode_kept ..).same .memRetrained).resolve_left (by decide)
@[simp] theorem State.setMode_fabClusterFrames (s : State) (m : Mode) : (s.setMode m).fabric.clusterFrames = s.fabric.clusterFrames := ((State.setMode_kept ..).same .fabClusterFrames).resolve_left (by decide)
@[simp] theorem State.setMode_fabTileFrames (s : State) (m : Mode) : (s.setMode m).fabric.tileFrames = s.fabric.tileFrames := ((State.setMode_kept ..).same .fabTileFrames).resolve_left (by decide)
@[simp] theorem State.setMode_fabFclk (s : State) (m : Mode) : (s.setMode m).fabric.fclk = s.fabric.fclk := ((State.setMode_kept ..).same .fabFclk).resolve_left (by decide)
@[simp] theorem State.setMode_fabCells (s : State) (m : Mode) : (s.setMode m).fabric.cells = s.fabric.cells := ((State.setMode_kept ..).same .fabCells).resolve_left (by decide)
@[simp] theorem State.setMode_fabRelease (s : State) (m : Mode) : (s.setMode m).fabric.release = s.fabric.release := ((State.setMode_kept ..).same .fabRelease).resolve_left (by decide)
@[simp] theorem State.setMode_fabParked (s : State) (m : Mode) : (s.setMode m).fabric.parked = s.fabric.parked := ((State.setMode_kept ..).same .fabParked).resolve_left (by decide)
@[simp] theorem State.setMode_fabTrackEdges (s : State) (m : Mode) : (s.setMode m).fabric.trackEdges = s.fabric.trackEdges := ((State.setMode_kept ..).same .fabTrackEdges).resolve_left (by decide)
@[simp] theorem State.setMode_fabProbes (s : State) (m : Mode) : (s.setMode m).fabric.probes = s.fabric.probes := ((State.setMode_kept ..).same .fabProbes).resolve_left (by decide)
@[simp] theorem State.setMode_fabEngines (s : State) (m : Mode) : (s.setMode m).fabric.engines = s.fabric.engines := ((State.setMode_kept ..).same .fabEngines).resolve_left (by decide)
@[simp] theorem State.setMode_fabPorts (s : State) (m : Mode) : (s.setMode m).fabric.ports = s.fabric.ports := ((State.setMode_kept ..).same .fabPorts).resolve_left (by decide)
@[simp] theorem State.setMode_fabDelays (s : State) (m : Mode) : (s.setMode m).fabric.delays = s.fabric.delays := ((State.setMode_kept ..).same .fabDelays).resolve_left (by decide)
@[simp] theorem State.setMode_pending (s : State) (m : Mode) : (s.setMode m).pending = s.pending := (State.setMode_kept ..).queue
@[simp] theorem State.setMode_part (s : State) (m : Mode) : (s.setMode m).part = s.part := (State.setMode_kept ..).part

end Sys2Proof.Machine
end

