-- ==== Sys2Proof/Laws/Access.lean ====
section
/-! SUPPORT. What the shared wrappers of accesses and of fault logging do, once their conditions are known. -/

namespace Sys2Proof.Machine

theorem State.reaching_eq {s : State} {req key : Nat} {w : Bool} (h : s.reaches req key w = true) (k : State → State) :
    s.reaching req key w k = k s := by
  simp only [State.reaches, Bool.and_eq_true, Bool.or_eq_true, Bool.not_eq_true', decide_eq_true_eq, bne_iff_ne] at h
  obtain ⟨⟨⟨⟨h1, h2⟩, h3⟩, -⟩, -⟩ := h
  unfold State.reaching
  rw [if_neg (fun c => h1.elim (· c.1) fun h => by simp [h] at c), h2, h3]
  rfl

/-- A read that passes its checks is the entry's own read. -/
theorem State.reading_eq {s : State} {req key : Nat} (h : s.reaches req key false = true) (k : State → State) :
    s.reading req key k = k s := by
  have h' := h
  simp [State.reaches] at h'
  simp [State.reading, State.reaching_eq h, State.atLevel, Nat.not_lt.mpr h'.1.2]
  intro a b
  simp_all

/-- A write that passes its checks is the entry's own rule. -/
theorem State.writing_eq {s : State} {req key v : Nat} (h : s.mayWrite req key = true) (k : State → State) :
    s.writing req key v k = k s := by
  have hr : s.reaches req key true = true := by
    simp [State.mayWrite] at h
    exact h.1.1
  have hw : s.mustWait req key = false := by
    simp [State.mayWrite] at h
    exact h.1.2
  have h' := hr
  simp [State.reaches] at h'
  simp only [State.mayWrite, hr, hw, Bool.true_and, Bool.not_false] at h
  simp only [State.writing, State.reaching_eq hr, hw, Bool.false_eq_true, State.atLevel, Nat.not_lt.mpr h'.1.2, if_false, State.inModes]
  rw [if_pos (by simpa using h'.2)]
  split at h
  · cases h
  · rename_i e he
    simp [he] at h ⊢
    simp [h]

theorem State.writingValue_eq {s : State} {req key v : Nat} {e : Entry} (h : s.mayWrite req key = true) (he : entryOf key = some e)
    (hv : e.rule.accepts (v % 2 ^ e.type.width) = true) (k : Nat → State → State) :
    s.writingValue req key v k = k (v % 2 ^ e.type.width) s := by
  simp [State.writingValue, State.writing_eq h, he, hv]

/-! ### Entries -/

theorem State.entry_putEntry_same {s : State} (key v : Nat) (h : Sparse.wf (defaultOf s.part.grade) s.dict = true) :
    (s.putEntry key v).entry key = v := Sparse.get_set_same _ _ _ _ h

theorem State.entry_putEntry_ne {s : State} (key v : Nat) {k : Nat} (h : Sparse.wf (defaultOf s.part.grade) s.dict = true) (hk : k ≠ key) :
    (s.putEntry key v).entry k = s.entry k := Sparse.get_set_ne _ _ _ _ _ h hk

/-- A frame goes out while the node speaks (R35). -/
theorem State.send_eq {s : State} (h : s.canSpeaks = true) (f : CanFrame) :
    s.send f = { s with can := { s.can with sent := s.can.sent ++ [f] } } := if_pos h

/-! ### What a logging leaves in the working log -/

theorem appendCapped_last {α : Type} (cap : Nat) (l : List α) (x : α) : (appendCapped cap l x).1.getLast? = some x := by
  unfold appendCapped
  split <;> simp

theorem Log.append_last (g : Log) (e : LogEntry) : (g.append e).entries.getLast? = some e ∧ (g.append e).newest = g.newest + 1 :=
  ⟨appendCapped_last .., rfl⟩

theorem State.logSerious_working (s : State) (code source arg : Nat) (row : FaultRow) :
    (s.logSerious code source arg row).log.entries = s.log.entries ∧ (s.logSerious code source arg row).log.newest = s.log.newest := by
  unfold State.logSerious
  dsimp only
  split
  · exact ⟨rfl, rfl⟩
  · unfold State.send
    split <;> exact ⟨rfl, rfl⟩

theorem State.logRow_logged (s : State) (row : FaultRow) (source arg d1 d2 : Nat) :
    s.logged (s.logRow row source arg d1 d2) row.code source arg := by
  have h := Log.append_last s.log ⟨s.logTime.1, s.logTime.2, row.code, source, row.severity, arg % 2 ^ 32⟩
  have h1 := congrArg (Option.map fun e : LogEntry => (e.code, e.source, e.arg)) h.1
  unfold State.logRow
  dsimp only
  split
  · refine ⟨(logSerious_working ..).2.trans ?_, (congrArg (fun l => Option.map _ (List.getLast? l)) (logSerious_working ..).1).trans ?_⟩
    · split <;> exact h.2
    · split <;> exact h1
  · refine ⟨?_, ?_⟩
    · split <;> exact h.2
    · split <;> exact h1

theorem faultRow_code {code : Nat} {cls : FaultClass} {r : FaultRow} (h : faultRow code cls = some r) : r.code = code := by
  have := List.find?_some h
  simp at this
  exact this.1

theorem faultRowOf_code {code : Nat} {r : FaultRow} (h : faultRowOf code = some r) : r.code = code := by
  have := List.find?_some h
  simpa using this

theorem State.logAs_logged (s : State) (code : Nat) (cls : FaultClass) (source arg : Nat)
    (h : (faultRow code cls).isSome = true := by decide) : s.logged (s.logAs code cls source arg) code source arg := by
  obtain ⟨r, h⟩ := Option.isSome_iff_exists.mp h
  simp only [State.logAs, h]
  rw [← faultRow_code h]
  exact State.logRow_logged ..

theorem State.log1_logged (s : State) (code source arg : Nat) (h : (faultRowOf code).isSome = true := by decide) :
    s.logged (s.log1 code source arg) code source arg := by
  obtain ⟨r, h⟩ := Option.isSome_iff_exists.mp h
  simp only [State.log1, h]
  rw [← faultRowOf_code h]
  exact State.logRow_logged ..

theorem State.logDetail_logged (s : State) (code : Nat) (cls : FaultClass) (source arg d1 d2 : Nat)
    (h : (faultRow code cls).isSome = true := by decide) : s.logged (s.logDetail code cls source arg d1 d2) code source arg := by
  obtain ⟨r, h⟩ := Option.isSome_iff_exists.mp h
  simp only [State.logDetail, h]
  rw [← faultRow_code h]
  exact State.logRow_logged ..

/-- What comes after a logging and before it leaves it the last one, where the log stays. -/
theorem State.logged.of {s s' t u : State} {code source arg : Nat} (h : s'.logged t code source arg) (hs : s'.log = s.log)
    (hu : u.log = t.log) : s.logged u code source arg := by
  unfold State.logged at h ⊢
  rw [hu, ← hs]
  exact h

end Sys2Proof.Machine
end

