-- ==== Sys2Proof/WellFormed.lean ====
section
/-! DEFINITION. Well-formed commands: every numbered operand lies in the range that the spec gives it. A command outside these ranges
names something that no module has; the meanings are total all the same. -/

namespace Sys2Proof

/-- What a numbered operand names. -/
inductive Operand where
  /-- Requester index in a ring header (Table 13-2). -/
  | requester
  /-- Offset in the dictionary window (Table 1-6). -/
  | mirror
  /-- A value of 32 bits. -/
  | word
  /-- A value of 64 bits. -/
  | long
  /-- CAN node address, 0 for all. -/
  | node
  /-- RPDO number. -/
  | pdo
  /-- Step of a cycle (R105). -/
  | step
  /-- Nib of the module: die × 131,072 + die-local number. -/
  | nib
  /-- Receive address (Table 3-1). -/
  | receive
  /-- Queue port: die × 256 + tile × 4 + port. -/
  | port
  /-- Descriptor of a port (R139). -/
  | descriptor
  /-- Segment of 16 steps (R173). -/
  | segment
  /-- Channel slot (R311). -/
  | channelSlot
  /-- DDR5 channel. -/
  | ddr
  /-- E-die, or 8 for the hub. -/
  | die
  /-- Offset in an E-die window (R22). -/
  | window
  /-- Word cell: die × 16,384 + cell. -/
  | cell
  /-- Probe select of 0x2750. -/
  | probe
  /-- Bridge engine. -/
  | engine
  /-- Slave port of the loader (R251). -/
  | slave
  /-- Transactor core. -/
  | core
  /-- Ring (R323). -/
  | ring
  /-- Ring stop (Table 13-1). -/
  | stop
  /-- Sleeping domain (Table 13-4): HBM 0 to 3, DDR5 4 to 7, guest 8. -/
  | domain
  /-- Tag of a ring request. -/
  | tag
  /-- Loop of a die (Table 13-5). -/
  | loop
  /-- Die-link bundle. -/
  | bundle
  /-- Physical lane of a bundle (R335). -/
  | wire
  /-- Physical address (Table 1-6). -/
  | address
  /-- Guest address. -/
  | guestAddress
  /-- Window of the firewall (R346). -/
  | guestWindow
  /-- Sub-index. -/
  | sub
  /-- Sampler (R358). -/
  | sampler
  /-- Trigger unit (R354). -/
  | unit
  /-- Trigger or star output (R369). -/
  | output
  /-- Trace source (Table 15-1). -/
  | source
  /-- Core counter 3 to 10 (R389). -/
  | hpm
  /-- Module counter, or edge counter. -/
  | counter
  /-- Ethernet port. -/
  | ethernet
  /-- Offset of a register of BAR4 (R445). -/
  | barOffset
  /-- Domain number of IEEE 1588-2019. -/
  | ptpDomain
  /-- Ethernet transport (Table 16-2). -/
  | transport
  /-- Pulse generator (R406). -/
  | generator
  /-- Universal pin (R411). -/
  | pin
  /-- Pin bank. -/
  | bank
  /-- Zulon lane (Table 18-7). -/
  | lane
  /-- Rights table (R461). -/
  | table
  /-- TRIG0 to TRIG7 and STAR_IN. -/
  | line
deriving DecidableEq, Repr

/-- Values of an operand lie below its limit. -/
def Operand.limit : Operand → Nat
  | .requester => 256
  | .mirror => 2 ^ 24
  | .word => 2 ^ 32
  | .long => 2 ^ 64
  | .node => 128
  | .pdo => 5
  | .step => 4096
  | .nib => 2 ^ 20
  | .receive => 256
  | .port => 2048
  | .descriptor => 64
  | .segment => 256
  | .channelSlot => 2 ^ 16
  | .ddr => 4
  | .die => 9
  | .window => 2 ^ 25
  | .cell => 2 ^ 17
  | .probe => 16
  | .engine => 8
  | .slave => 4
  | .core => 32
  | .ring => 4
  | .stop => 29
  | .domain => 9
  | .tag => 4096
  | .loop => 5
  | .bundle => 16
  | .wire => 544
  | .address => 2 ^ 44
  | .guestAddress => 2 ^ 64
  | .guestWindow => 8
  | .sub => 64
  | .sampler => 4
  | .unit => 16
  | .output => 10
  | .source => 128
  | .hpm => 11
  | .counter => 16
  | .ethernet => 2
  | .barOffset => 8
  | .ptpDomain => 256
  | .transport => 2
  | .generator => 8
  | .pin => 96
  | .bank => 6
  | .lane => 32
  | .table => 48
  | .line => 10

/-- The numbered operands of a command. -/
def Instr.operands : Instr → List (Operand × Nat)
  | .dictionaryWrite req offset _ value => [(.requester, req), (.mirror, offset), (.word, value)]
  | .sdoTransfer _ => []
  | .rpdoReceived n data => [(.pdo, n), (.long, data)]
  | .nmtStop node => [(.node, node)]
  | .nmtStart node => [(.node, node)]
  | .nmtEnterPreoperational node => [(.node, node)]
  | .nmtResetCommunication node => [(.node, node)]
  | .nmtResetNode node => [(.node, node)]
  | .heartbeat => []
  | .fastClockStop => []
  | .sensorUpdate _ => []
  | .storeParameters req => [(.requester, req)]
  | .restoreDefaults req => [(.requester, req)]
  | .logReadSelect req seq => [(.requester, req), (.word, seq)]
  | .firmwareCheckAndWrite req _ _ => [(.requester, req)]
  | .firmwareWriteComplete _ => []
  | .firmwareActivate req => [(.requester, req)]
  | .startAttempt _ => []
  | .startRetryWaitExpiry => []
  | .firmwareStartComplete => []
  | .firmwareStartTimeout => []
  | .mgmtWatchdogExpiry => []
  | .nop atStep nib => [(.step, atStep), (.nib, nib)]
  | .eval atStep nib => [(.step, atStep), (.nib, nib)]
  | .send atStep nib => [(.step, atStep), (.nib, nib)]
  | .store atStep nib => [(.step, atStep), (.nib, nib)]
  | .probe atStep nib => [(.step, atStep), (.nib, nib)]
  | .sync atStep nib => [(.step, atStep), (.nib, nib)]
  | .enq atStep port desc => [(.step, atStep), (.port, port), (.descriptor, desc)]
  | .wait atStep port desc => [(.step, atStep), (.port, port), (.descriptor, desc)]
  | .interconnectArrival atStep nib rx _ => [(.step, atStep), (.nib, nib), (.receive, rx)]
  | .stagingSample => []
  | .segmentTokenCheck segment => [(.segment, segment)]
  | .wordCellTokenInterval => []
  | .cycleBoundary => []
  | .cycleLimitReached => []
  | .crossingLatchLoad => []
  | .waitDecisionPoint slot => [(.step, slot)]
  | .designAnswerArrival port desc _ => [(.port, port), (.descriptor, desc)]
  | .writeAckArrival port desc _ => [(.port, port), (.descriptor, desc)]
  | .stallResume _ => []
  | .stallTimeout => []
  | .writeStallTimeout => []
  | .memoryRequestReceived port => [(.port, port)]
  | .ddr5Retraining channel => [(.ddr, channel)]
  | .run req => [(.requester, req)]
  | .runAt req => [(.requester, req)]
  | .runAtFire => []
  | .domainStartEdge => []
  | .step req => [(.requester, req)]
  | .hold req atStep => [(.requester, req), (.step, atStep)]
  | .holdReport => []
  | .park req => [(.requester, req)]
  | .service req => [(.requester, req)]
  | .leave req => [(.requester, req)]
  | .standby req => [(.requester, req)]
  | .dormant req => [(.requester, req)]
  | .wake req => [(.requester, req)]
  | .cancel req => [(.requester, req)]
  | .roomResume => []
  | .save req => [(.requester, req)]
  | .saveComplete => []
  | .restore req _ => [(.requester, req)]
  | .restoreComplete => []
  | .discard req => [(.requester, req)]
  | .adopt req => [(.requester, req)]
  | .sheetHeaderWrite req _ => [(.requester, req)]
  | .markControlWrite req value => [(.requester, req), (.word, value)]
  | .boundaryRecordRead req => [(.requester, req)]
  | .cycleCountRead req => [(.requester, req)]
  | .systemClassAccess _ => []
  | .apertureWrite req die offset _ => [(.requester, req), (.die, die), (.window, offset)]
  | .wordCellRecordWrite req die offset _ => [(.requester, req), (.die, die), (.window, offset)]
  | .designMemoryWindowAccess req die offset _ => [(.requester, req), (.die, die), (.window, offset)]
  | .remoteCacheFlush req die => [(.requester, req), (.die, die)]
  | .marchDestructiveOnDie req => [(.requester, req)]
  | .marchDestructiveAll req => [(.requester, req)]
  | .marchPreservingOnDie req => [(.requester, req)]
  | .marchPreservingAll req => [(.requester, req)]
  | .marchComplete _ => []
  | .wcPass cell => [(.cell, cell)]
  | .wcAdd cell => [(.cell, cell)]
  | .wcSub cell => [(.cell, cell)]
  | .wcAnd cell => [(.cell, cell)]
  | .wcOr cell => [(.cell, cell)]
  | .wcXor cell => [(.cell, cell)]
  | .wcNot cell => [(.cell, cell)]
  | .wcShl cell => [(.cell, cell)]
  | .wcShr cell => [(.cell, cell)]
  | .wcSar cell => [(.cell, cell)]
  | .wcRol cell => [(.cell, cell)]
  | .wcMullo cell => [(.cell, cell)]
  | .wcMulhu cell => [(.cell, cell)]
  | .wcMulhs cell => [(.cell, cell)]
  | .wcEq cell => [(.cell, cell)]
  | .wcLtu cell => [(.cell, cell)]
  | .wcLts cell => [(.cell, cell)]
  | .wcMinu cell => [(.cell, cell)]
  | .wcMaxu cell => [(.cell, cell)]
  | .wcSel cell => [(.cell, cell)]
  | .wcBit cell => [(.cell, cell)]
  | .wcPop cell => [(.cell, cell)]
  | .wcInc cell => [(.cell, cell)]
  | .wcNop cell => [(.cell, cell)]
  | .wcResultLand cell => [(.cell, cell)]
  | .crossingStrobeSet cell => [(.cell, cell)]
  | .stagingByteWrite cell => [(.cell, cell)]
  | .releaseWriteEnable => []
  | .releaseClockStart => []
  | .probeSelectWrite req mux value => [(.requester, req), (.probe, mux), (.word, value)]
  | .bridgeBeatReceived engine _ => [(.engine, engine)]
  | .bridgeBeatDelivered engine => [(.engine, engine)]
  | .bridgeBeatTransmitted engine => [(.engine, engine)]
  | .pauseReceived wire => [(.lane, wire.lane)]
  | .resumeReceived wire => [(.lane, wire.lane)]
  | .creditReturnArrival slot => [(.channelSlot, slot)]
  | .dmaCommand req value => [(.requester, req), (.word, value)]
  | .streamHeaderFrame port _ => [(.slave, port)]
  | .dataFrame port _ _ => [(.slave, port)]
  | .trailerFrame port _ _ => [(.slave, port)]
  | .loadChecksComplete _ => []
  | .commitComplete => []
  | .loadAbort req => [(.requester, req)]
  | .streamTimeout => []
  | .fixerGroupCheck _ _ => []
  | .protectedSetCheck _ => []
  | .fixerEnableWrite req value => [(.requester, req), (.word, value)]
  | .coreReleaseWrite req value => [(.requester, req), (.word, value)]
  | .hostEvent req value => [(.requester, req), (.word, value)]
  | .chrecv core _ => [(.core, core)]
  | .chrelease core _ => [(.core, core)]
  | .chreserve core _ => [(.core, core)]
  | .chpost core _ => [(.core, core)]
  | .chcount core _ => [(.core, core)]
  | .schask core _ => [(.core, core)]
  | .schwait core _ => [(.core, core)]
  | .schdelay core _ => [(.core, core)]
  | .schcreate core _ => [(.core, core)]
  | .schsetReady core _ => [(.core, core)]
  | .schsetSuspend core _ => [(.core, core)]
  | .schsetPriority core _ => [(.core, core)]
  | .schsetAffinity core _ => [(.core, core)]
  | .schsetFree core _ => [(.core, core)]
  | .schsetState core _ => [(.core, core)]
  | .chcreate core _ => [(.core, core)]
  | .chdestroy core _ => [(.core, core)]
  | .schipi core _ => [(.core, core)]
  | .schcur core _ => [(.core, core)]
  | .channelDestroy req => [(.requester, req)]
  | .tick => []
  | .coreLockup core mepc mcause => [(.core, core), (.long, mepc), (.long, mcause)]
  | .ringPacket ring stop _ => [(.ring, ring), (.stop, stop)]
  | .domainWakeAnswer domain => [(.domain, domain)]
  | .domainWakeTimeout domain => [(.domain, domain)]
  | .domainSleep domain => [(.domain, domain)]
  | .requestTimeout tag => [(.tag, tag)]
  | .diePllUnlock die loop => [(.die, die), (.loop, loop)]
  | .laneMarginLow bundle lane => [(.bundle, bundle), (.wire, lane)]
  | .dieLaneLost bundle lane atStep => [(.bundle, bundle), (.wire, lane), (.step, atStep)]
  | .bundleRetrain req => [(.requester, req)]
  | .guestAccess _ => []
  | .guestApertureRead address => [(.guestAddress, address)]
  | .guestWindowWrite req window sub value => [(.requester, req), (.guestWindow, window), (.sub, sub), (.word, value)]
  | .guestDescriptorReceived _ => []
  | .guestPowerReport _ _ => []
  | .guestPowerEnableWrite req value => [(.requester, req), (.word, value)]
  | .guestSleepRequest => []
  | .guestLinkLost => []
  | .samplerArm req sampler => [(.requester, req), (.sampler, sampler)]
  | .samplerDisarm req sampler => [(.requester, req), (.sampler, sampler)]
  | .samplerForceTrigger req sampler => [(.requester, req), (.sampler, sampler)]
  | .triggerUnitFire => []
  | .holdoffExpiry unit => [(.unit, unit)]
  | .streamReadPointerWrite req sampler value => [(.requester, req), (.sampler, sampler), (.word, value)]
  | .streamDrain sampler => [(.sampler, sampler)]
  | .triggerOutputPulseEnd output => [(.output, output)]
  | .traceEnableWrite req value => [(.requester, req), (.word, value)]
  | .traceRecordOffer source _ => [(.source, source)]
  | .syncRecordPeriod => []
  | .blotterReadPointerWrite req value => [(.requester, req), (.word, value)]
  | .coreSleep core => [(.core, core)]
  | .coreWake core => [(.core, core)]
  | .coreCounterOverflow core counter _ => [(.core, core), (.hpm, counter)]
  | .moduleCounterWrap counter => [(.counter, counter)]
  | .timeRead req => [(.requester, req)]
  | .ptpSyncReceived port _ _ _ => [(.ethernet, port)]
  | .ptpMasterLost port => [(.ethernet, port)]
  | .holdoverExpiry => []
  | .offsetUnlockExpiry => []
  | .setTimeCommand req => [(.requester, req)]
  | .referenceLost => []
  | .pulseArm req generator value => [(.requester, req), (.generator, generator), (.word, value)]
  | .pulseStop req generator value => [(.requester, req), (.generator, generator), (.word, value)]
  | .pulseLeadingEdge generator => [(.generator, generator)]
  | .pulseTrailingEdge generator => [(.generator, generator)]
  | .pinConfigWrite req pin value => [(.requester, req), (.pin, pin), (.word, value)]
  | .pinRelease req bank value => [(.requester, req), (.bank, bank), (.word, value)]
  | .safeCommand req => [(.requester, req)]
  | .safeReq _ => []
  | .pinInputChange pin _ => [(.pin, pin)]
  | .wakePinEdge pin => [(.pin, pin)]
  | .edgeCountClear req counter => [(.requester, req), (.counter, counter)]
  | .laneBringUp req lane => [(.requester, req), (.lane, lane)]
  | .laneBringUpDone lane _ => [(.lane, lane)]
  | .laneTrainRetry lane => [(.lane, lane)]
  | .laneBitSlip req lane _ => [(.requester, req), (.lane, lane)]
  | .laneLost lane => [(.lane, lane)]
  | .domainLinkLost lane find => [(.lane, lane), (.step, find.atStep)]
  | .laneNoticeReceived lane _ => [(.lane, lane)]
  | .laneDarkCommand req lane => [(.requester, req), (.lane, lane)]
  | .darkBlockReceived wire => [(.lane, wire.lane)]
  | .darkIdleTimeout lane => [(.lane, lane)]
  | .laneSignalDetect lane _ => [(.lane, lane)]
  | .windowBaseWrite write => [(.barOffset, write.offset), (.word, write.value)]
  | .lifeCycleChange req _ => [(.requester, req)]
  | .debugLevelRaise req _ => [(.requester, req)]
  | .revokeDigest req _ => [(.requester, req)]
  | .provision req _ _ => [(.requester, req)]
  | .keyLoad req _ _ => [(.requester, req)]
  | .keyErase req _ => [(.requester, req)]
  | .debugLevelLower req value => [(.requester, req), (.word, value)]
  | .dbgaccRead address => [(.address, address)]
  | .dbgaccWrite address data => [(.address, address), (.word, data)]
  | .dbgaccResetRequest data => [(.word, data)]
  | .tapInstruction _ => []
  | .dbgReq => []
  | .rightsTableWrite req table _ => [(.requester, req), (.table, table)]
  | .rightsLockWrite req => [(.requester, req)]
  | .tamperEvent => []
  | .attestRequest req _ => [(.requester, req)]
  | .powerOn _ _ => []
  | .brownOut => []
  | .alwaysOnLoss => []
  | .pinReset => []
  | .watchdogExpiry => []
  | .watchdogRefresh req => [(.requester, req)]
  | .resetRequestCore req => [(.requester, req)]
  | .resetRequestSys req => [(.requester, req)]
  | .requestedResetTaken => []
  | .clockFailure _ => []
  | .escalationWaitExpiry => []
  | .blockResetCore req core => [(.requester, req), (.core, core)]
  | .blockResetBridgeEngine req engine => [(.requester, req), (.engine, engine)]
  | .blockResetTriggerEngine req => [(.requester, req)]
  | .blockResetEthernetPort req port => [(.requester, req), (.ethernet, port)]
  | .blockResetRelease _ => []
  | .powerAverageInterval _ => []
  | .faultAcknowledge req => [(.requester, req)]
  | .auditCommand req => [(.requester, req)]
  | .auditComplete => []
  | .guestLinkUp _ => []
  | .canopenSyncReceived => []
  | .trigLineChange line _ => [(.line, line)]
  | .machineTimerInterrupt core => [(.core, core)]
  | .batterySlotLost => []
  | .brownOutRecovery => []
  | .lifeCycleSysReset => []
  | .bundleRetrainComplete _ => []
  | .secureWipeComplete => []
  | .ptpAnnounceReceived port announce => [(.ethernet, port), (.ptpDomain, announce.domain), (.transport, announce.transport)]
  | .loopLockedAgain _ => []
  | .sampleClockEdge sampler => [(.sampler, sampler)]

/-- Every operand lies in its range. -/
def Instr.wf (i : Instr) : Bool := i.operands.all fun o => decide (o.2 < o.1.limit)

end Sys2Proof
end

