-- ==== Sys2Proof/Tests/Slice0.lean ====
section
/-! SUPPORT. Tests of the model: ill-formed commands are refused by WellFormed, small single steps, and for every statement with
hypotheses a state that meets them. -/

set_option Elab.async false

open Sys2Proof Sys2Proof.Machine

/-! ### States that the tests use -/

/-- A module past its start, under FULL, with its debug level open and requests pending. -/
def fullState : State := { (State.reset.putEntry 0x220301 1000) with
  rst := { State.reset.rst with profile := .full, recovery := none, request := some (1, 4) }, boot := { State.reset.boot with phase := .ready }
  sec := { State.reset.sec with level := 2, resetDue := true, tap := .dbgacc }, can := { State.reset.can with nmt := .operational } }
def recovering : State := { fullState with rst := { fullState.rst with recovery := some 1 } }
def minimalState : State := { fullState with rst := { fullState.rst with profile := .minimal } }
/-- A module in RUN with a committed image of 64 steps, at step 1 of cycle 0. -/
def smallImage : Image := ⟨0, 0, 0, [], 134283264, [], false, 0, 64, 1, 0, [], 0, 0, 0, 0, 0, [], [], 0, 0, 0, 0⟩
def runningState : State := { fullState with
  image := some smallImage, run := { fullState.run with mode := .run, valid := true }
  arr := { fullState.arr with sched := { fullState.arr.sched with run := .running, cycle := 0, step := 1, opened := false, begun := true } } }
def reschedule (s : State) (f : Sched → Sched) : State := s.withArr fun a => { a with sched := f a.sched }
/-- A module in LOADED with a committed image whose design state is valid, the array gated. -/
def loaded : State := { fullState with
  image := some smallImage, run := { fullState.run with mode := .loaded, valid := true, status := 0 }, loader := { fullState.loader with state := 0 } }
/-- Member 0 of a domain of two, its lane up. -/
def inDomainState : State := { loaded with
  image := some { smallImage with domainSize := 2, domainLanes := [⟨0, 40⟩] }
  lanes := loaded.lanes.map fun x => { x with state := 4, rate := 3 }, time := { loaded.time with refInUse := 1 } }
/-- RunAt armed far ahead on a locked time base. -/
def armed : State := { (loaded.putEntry 0x210402 100000) with time := { loaded.time with state := 3 } }
def holding : State := { loaded with run := { loaded.run with mode := .hold, runAt := some (1, 2, 3) } }
/-- A module in HOLD with DDR5 behind a session key. -/
def sheetState : State := { holding with sec := { holding.sec with sessionKey := true }, rst := { holding.rst with ddrRefused := false } }
/-- A module of two dies whose fabric has been released, with a restore in progress. -/
def releasedState : State := { sheetState.putEntry sheetStatusKey 1 with
  part := { sheetState.part with grade := .e2 }
  fabric := { holding.fabric with release := (List.range 128).map fun k => (k, 3) } }
/-- Slot 1 holds a save of the small image, of length 0; its header is a hand-made one, with the digest of the image and of no bytes. -/
def savedState : State := sheetState.setSlot 1
  ⟨true, false, List.replicate 6 0 ++ [BitVec.ofNat 8 sheetState.part.grade.code] ++ List.replicate 121 0 ++ toBytes 64 (Config.sha3 [])
    ++ List.replicate 64 0, some (sheetState.designState 1), 0, 0⟩
def reservedState : State := sheetState.setSlot 1
  ⟨false, true, List.replicate 0x78 0 ++ toBytes 8 (8 * 220 * 2 ^ 20) ++ List.replicate 128 0, none, 0, 0⟩
def pinned : State := { inDomainState with run := { inDomainState.run with mode := .run, peersRunning := [1, 2] } }.withArr fun a =>
  { a with sched := { a.sched with run := .running } }
def sleeping : State := { loaded with run := { loaded.run with mode := .standby, wakeMode := .hold, valid := false } }
/-- A flight due at step 2, and clusters and tiles that hold something. -/
def flying : State := runningState.withArr fun a => { a with
  flights := [⟨0, 5, 7, 0, 0, 2, true, none, none⟩], clusters := [(3, { Cluster.zero with staging := 9, outLatch := 5 })]
  tiles := [(1, { Tile.zero with latch := 3, tokens := 4, wcTokens := 2 }), (4, { Tile.zero with wcTokens := 0, lanes := 1 })] }
/-- Cores 0 to 2 run: thread 2 on core 0, none on the others. Thread 3 is READY for core 1, thread 4 SUSPENDED; channel 4 is internal and empty. -/
def threads : State := { fullState.addChannel 0 4 (Channel.fresh 3 false 4 64 0x1000 none) with
  cores := (List.range 32).zip fullState.cores |>.map fun x => if x.1 < 3 then { x.2 with state := .running, asleep := false, thread := if x.1 = 0 then some 2 else none } else x.2
  sched := { fullState.sched with ready := [3], threads := [(2, ⟨.running, 3, 1, 0, 0, none, 0⟩), (3, ⟨.ready, 5, 2, 5, 0, none, 0⟩), (4, ⟨.suspended, 5, 1, 0, 0, none, 0⟩)] } }
def wakingState : State := { loaded with rings := { loaded.rings with
  sleeping := [0], held := [(0, .access ⟨0, .read, hbmStart, [0, 0], true⟩)] } }
/-- The next state of a command, where it completes. -/
def nextOf (c : Instr) (s : State) : Option State := match exec c s with
  | .next t => some t
  | _ => none
/-- A module without VIN whose fuses and flash are those of the reset state. -/
def unpowered : State := { State.reset with
  boot := { State.reset.boot with phase := .off }, rst := { State.reset.rst with vin := false }
  log := Log.fresh, can := Can.fresh, mem := Memories.fresh }
/-- From power-on to stage 10: the start of the firmware, the march at start without a failure, the wipe; without the nonce drawn. -/
def started : Option State := do
  let a ← nextOf (.powerOn ⟨1, 0, 0, false⟩ ⟨none, true, []⟩) unpowered
  let b ← nextOf (.startAttempt true) a
  let c ← nextOf .firmwareStartComplete b
  let d ← nextOf (.marchComplete ⟨[], [], [], 0⟩) c
  let e ← nextOf .secureWipeComplete d
  return { e with free := 0, sec := { e.sec with nonce := 0 } }
theorem test_reset_is_a_finished_start : started = some State.reset := by decide +kernel

/-! ### Well-formed commands: for each kind of operand the greatest value, and the first that is refused -/

theorem test_well_formed : ∀ i ∈ [
    Instr.storeParameters 255, .dictionaryWrite 0 0xffffff 0 0, .dbgaccResetRequest 0xffffffff, .windowBaseWrite ⟨7, 0⟩,
    .windowBaseWrite ⟨0, 0xffffffff⟩, .nmtStop 127, .rpdoReceived 4 0, .rpdoReceived 1 0xffffffffffffffff, .waitDecisionPoint 4095,
    .nop 0 0xfffff, .interconnectArrival 0 0 255 none, .memoryRequestReceived 2047, .enq 0 0 63, .segmentTokenCheck 255,
    .creditReturnArrival 0xffff, .ddr5Retraining 3, .remoteCacheFlush 0 8, .apertureWrite 0 0 0x1ffffff [], .wcPass 0x1ffff,
    .probeSelectWrite 0 15 0, .bridgeBeatDelivered 7, .streamHeaderFrame 3 [], .coreSleep 31, .ringPacket 3 0 ⟨⟨0, .read, 0, 0, 0⟩, 0⟩,
    .ringPacket 0 28 ⟨⟨0, .read, 0, 0, 0⟩, 0⟩, .domainWakeAnswer 8, .requestTimeout 4095, .diePllUnlock 0 4, .laneMarginLow 15 0,
    .laneMarginLow 0 543, .dbgaccRead 0xfffffffffff, .guestApertureRead 0xffffffffffffffff, .guestWindowWrite 0 7 0 0,
    .guestWindowWrite 0 0 63 0, .streamDrain 3, .holdoffExpiry 15, .triggerOutputPulseEnd 9, .traceRecordOffer 127 (.indirect 0 0 0),
    .coreCounterOverflow 0 10 ⟨0, 0, 0, 0, false⟩, .moduleCounterWrap 15, .ptpMasterLost 1, .ptpAnnounceReceived 0 ⟨255, 0, 0⟩,
    .ptpAnnounceReceived 0 ⟨0, 1, 0⟩, .pulseLeadingEdge 7, .wakePinEdge 95, .pinRelease 0 5 0, .laneTrainRetry 31, .rightsTableWrite 0 47 [],
    .trigLineChange 9 false], i.wf = true := by decide +kernel
theorem test_ill_formed : ∀ i ∈ [
    Instr.storeParameters 256, .dictionaryWrite 0 0x1000000 0 0, .dbgaccResetRequest 0x100000000, .windowBaseWrite ⟨8, 0⟩,
    .windowBaseWrite ⟨0, 0x100000000⟩, .nmtStop 128, .rpdoReceived 5 0, .rpdoReceived 1 0x10000000000000000, .waitDecisionPoint 4096,
    .nop 0 0x100000, .interconnectArrival 0 0 256 none, .memoryRequestReceived 2048, .enq 0 0 64, .segmentTokenCheck 256,
    .creditReturnArrival 0x10000, .ddr5Retraining 4, .remoteCacheFlush 0 9, .apertureWrite 0 0 0x2000000 [], .wcPass 0x20000,
    .probeSelectWrite 0 16 0, .bridgeBeatDelivered 8, .streamHeaderFrame 4 [], .coreSleep 32, .ringPacket 4 0 ⟨⟨0, .read, 0, 0, 0⟩, 0⟩,
    .ringPacket 0 29 ⟨⟨0, .read, 0, 0, 0⟩, 0⟩, .domainWakeAnswer 9, .requestTimeout 4096, .diePllUnlock 0 5, .laneMarginLow 16 0,
    .laneMarginLow 0 544, .dbgaccRead 0x100000000000, .guestApertureRead 0x10000000000000000, .guestWindowWrite 0 8 0 0,
    .guestWindowWrite 0 0 64 0, .streamDrain 4, .holdoffExpiry 16, .triggerOutputPulseEnd 10, .traceRecordOffer 128 (.indirect 0 0 0),
    .coreCounterOverflow 0 11 ⟨0, 0, 0, 0, false⟩, .moduleCounterWrap 16, .ptpMasterLost 2, .ptpAnnounceReceived 0 ⟨256, 0, 0⟩,
    .ptpAnnounceReceived 0 ⟨0, 2, 0⟩, .pulseLeadingEdge 8, .wakePinEdge 96, .pinRelease 0 6 0, .laneTrainRetry 32, .rightsTableWrite 0 48 [],
    .trigLineChange 10 false], i.wf = false := by decide +kernel

/-- A step from reset that answers next, so that EveryStepKeepsTheInvariant speaks of something. -/
theorem test_step_next : ∃ t, step State.reset = .next t := ⟨_, rfl⟩

theorem test_dictionary_write : State.reset.mayWrite 0 0x213005 = true ∧ State.reset.transferring 0x213005 = false ∧ inRange 0x213005 7 = true ∧
    Sparse.wf (defaultOf State.reset.part.grade) State.reset.dict = true := by decide +kernel
/-- SDO and RPDO forms: node operational, RPDO 1 mapped to StallLimit. -/
def canState : State := (((State.reset.putEntry 0x140001 0).putEntry 0x160000 1).putEntry 0x160001 (0x213005 * 256 + 32)).withCan
  fun c => { c with nmt := .operational }
theorem test_dictionary_can : canState.mayWrite 1 0x213005 = true ∧ canState.sdoOn = true ∧ canState.can.sdo = none ∧ canState.can.held = [] ∧
    canState.pdoOn = true ∧ bit (canState.entry 0x140001) 31 = false ∧ canState.entry 0x160000 = 1 ∧
    canState.entry 0x160001 = 0x213005 * 256 + 32 ∧ Sparse.wf (defaultOf canState.part.grade) canState.dict = true := by decide +kernel

/-- TPDO 1 sends StallLimit on every SYNC; the others are invalid. -/
def syncState : State := [(0x180001, 0), (0x180002, 1), (0x1A0000, 1), (0x1A0001, 0x213005 * 256 + 32), (0x180101, 2 ^ 31), (0x180201, 2 ^ 31),
  (0x180301, 2 ^ 31)].foldl (fun s e => s.putEntry e.1 e.2) canState
theorem test_can_commands : canState.nmtFor 1 = true ∧ canState.can.held = [] ∧ canState.canSpeaks = true ∧ canState.entry 0x101700 ≠ 0 ∧
    { canState with run := { canState.run with mode := .standby } }.asleep = true := by decide +kernel
theorem test_can_sync : syncState.pdoOn = true ∧ syncState.entry 0x180001 = 0 ∧ syncState.entry 0x180002 = 1 ∧ syncState.entry 0x1A0000 = 1 ∧
    syncState.entry 0x1A0001 = 0x213005 * 256 + 32 ∧ bit (syncState.entry 0x180101) 31 = true ∧ bit (syncState.entry 0x180201) 31 = true ∧
    bit (syncState.entry 0x180301) 31 = true := by decide +kernel

theorem test_management : State.reset.mayWrite 0 storeKey = true ∧ State.reset.mayWrite 0 restoreKey = true ∧
    State.reset.mayWrite 0 logSelectKey = true ∧ State.reset.mayWrite 0 firmwareKey = true ∧ State.reset.modeIn quietModes = true ∧
    State.reset.boot.status ≠ 1 ∧ State.reset.boot.rollback ≤ (⟨1, 0, 4, 9⟩ : FirmwareImage).security ∧
    (⟨1, 0, 4, 9⟩ : FirmwareImage).security < (State.reset.withBoot fun b => { b with rollback := 3 }).boot.rollback ∧
    (State.reset.withBoot fun b => { b with writing := some ⟨1, 0, 4, 9⟩ }).boot.writing = some ⟨1, 0, 4, 9⟩ := by decide +kernel

theorem test_reset_sources : fullState.powered = true ∧ fullState.sec.halted = false ∧ fullState.rst.recovery = none ∧
    fullState.asleep = false ∧ fullState.entry 0x220301 ≠ 0 ∧ fullState.rst.profile = .full ∧ (fullState.entry 0x220303 = 1 ∨ fullState.entry 0x220303 = 2) := by decide +kernel
theorem test_reset_requests : fullState.nmtFor 1 = true ∧ fullState.sec.level = 2 ∧ fullState.sec.tap = .dbgacc ∧
    fullState.rst.request = some (1, 4) ∧ fullState.sec.resetDue = true ∧ fullState.mayWrite 0 0x220201 = true ∧
    fullState.mayWrite 0 0x220302 = true := by decide +kernel
theorem test_reset_minimal : recovering.powered = true ∧ recovering.sec.halted = false ∧ recovering.rst.recovery = some 1 ∧
    minimalState.asleep = false ∧ minimalState.entry 0x220301 ≠ 0 ∧ minimalState.rst.profile = .minimal ∧
    minimalState.mayWrite 0 0x220201 = true := by decide +kernel

def dipped (s : State) : State := { s with rst := { s.rst with brownOut := true } }
theorem test_supply : (⟨5, 0, 0, true⟩ : Straps).nodeId % 2 ^ 7 ≠ 0 ∧ (⟨0, 0, 0, true⟩ : Straps).nodeId % 2 ^ 7 = 0 ∧ fullState.rst.brownOut = false ∧
    minimalState.powered = true ∧ minimalState.rst.brownOut = false ∧ fullState.rst.vin = true ∧
    { fullState with boot := { fullState.boot with phase := .escalationWait } }.boot.phase = .escalationWait := by decide +kernel
theorem test_brown_out_recovery : (dipped fullState).powered = true ∧ (dipped fullState).rst.brownOut = true ∧
    (dipped fullState).sec.halted = false ∧ (dipped fullState).rst.recovery = none ∧ (dipped fullState).can.nodeId ≠ 0 ∧
    (dipped { fullState with rst := { fullState.rst with recovery := some 3 } }).rst.recovery = some 3 ∧
    (dipped minimalState).rst.profile = .minimal := by decide +kernel

def starting : State := { fullState with boot := { fullState.boot with phase := .attempt } }
def inPhase (p : BootPhase) : State := { fullState with boot := { fullState.boot with phase := p } }
def recoveringBy (l : Nat) : State := { inPhase .entered with rst := { fullState.rst with recovery := some l } }
def marching : State := fullState.withMarch fun m => { m with status := 1 }
theorem test_start_attempt : starting.boot.phase = .attempt ∧ starting.boot.image = some ⟨0, 0, 0, 0⟩ ∧ starting.boot.rollback ≤ 0 ∧
    0 < { starting with boot := { starting.boot with rollback := 3 } }.boot.rollback ∧
    (inPhase .retryWait).boot.phase = .retryWait := by decide +kernel
theorem test_start_complete : (inPhase .entered).boot.phase = .entered ∧ (inPhase .entered).mgmt.uptime ≤
    (inPhase .entered).boot.enteredAt + 10000000000 ∧ (inPhase .entered).boot.image = some ⟨0, 0, 0, 0⟩ ∧
    (inPhase .entered).rst.recovery = none ∧ (recoveringBy 3).rst.recovery = some 3 ∧
    ((recoveringBy 3).putEntry 0x2E4001 1).entry 0x2E4001 = 1 ∧ (recoveringBy 3).mgmt.saved = none ∧
    (recoveringBy 2).rst.recovery = some 2 ∧ marching.mem.march.status = 1 ∧ marching.mem.march.atStart = false := by decide +kernel

def chassisState : State := { fullState with time := { fullState.time with refInUse := 1 } }
def loopFailed : State := { minimalState with rst := { minimalState.rst with failedLoops := [.loop 0 2], blockWaiting := [0x100] } }
theorem test_clocks : fullState.clockRuns (.loop 0 2) = true ∧ fullState.clockRuns (.loop 8 1) = true ∧ chassisState.clockRuns .reference = true ∧
    chassisState.time.refInUse = 1 ∧ minimalState.clockRuns (.loop 0 4) = true ∧ .loop 0 4 ∉ minimalState.rst.failedLoops ∧
    minimalState.clockRuns (.loop 0 1) = true ∧ minimalState.clockRuns .oscillator = true ∧ .loop 0 2 ∈ loopFailed.rst.failedLoops := by decide +kernel

def withRunning (s : State) : State := s.withCore 3 fun x => { x with state := .running }
def coreWaits : State := fullState.withCore 3 fun x => { x with state := .wfi }
def blockHeld : State := { fullState with rst := { fullState.rst with blockHeld := [0x101, 0x200], blockStatus := 1 } }
theorem test_lockup : (withRunning fullState).cores[3]?.any (fun x => x.state == .running) = true ∧ (withRunning fullState).rst.profile = .full ∧
    (withRunning minimalState).cores[3]?.any (fun x => x.state == .running) = true ∧ (withRunning minimalState).rst.profile = .minimal := by decide +kernel
theorem test_block_resets : fullState.mayWrite 0 blockKey = true ∧ fullState.rst.blockStatus ≠ 1 ∧ coreWaits.mayWrite 0 blockKey = true ∧
    coreWaits.coreIdle 3 = true ∧ (withRunning fullState).coreIdle 3 = false ∧ fullState.run.mode ≠ .run ∧
    fullState.fabric.engines[2]? = some BridgeEngine.idle ∧ fullState.triggerIdle = true ∧ fullState.entry (portModeKey 1) = 0 ∧
    fullState.time.ports[1]?.isSome = true ∧ blockHeld.rst.blockHeld = [0x101, 0x200] := by decide +kernel

/-- Nib 5 of die 0 has the word `w` at step 2. -/
def arrayWith (w : BitVec 64) : State := runningState.withArr fun a => { a with words := [(wordKey 0 2 5, TierWord.of w)] }
theorem test_nib_ready : (arrayWith 0).nibReady 2 5 = true ∧ ((arrayWith 0).openStep 2).arr.fetched 5 = .word .nop 0 ∧
    ((arrayWith 0x10FFFE0000000000).openStep 2).arr.fetched 5 = .word .eval 0x10FFFE0000000000 ∧
    ((arrayWith 0x20FFFE0000000000).openStep 2).arr.fetched 5 = .word .send 0x20FFFE0000000000 ∧
    ((arrayWith 0x3000FF0000000009).openStep 2).arr.fetched 5 = .word .store 0x3000FF0000000009 ∧
    ((arrayWith 0x4000FF0000000007).openStep 2).arr.fetched 5 = .word .probe 0x4000FF0000000007 ∧
    ((arrayWith 0x5021FF0000000001).openStep 2).arr.fetched 5 = .word .sync 0x5021FF0000000001 ∧
    ((arrayWith 0xFF21FF0000000001).openStep 2).arr.fetched 5 = .upset true := by decide +kernel
theorem test_nib_lists : Sparse.wf (fun _ => Nib.zero) ((arrayWith 0x5021FF0000000001).openStep 2).arr.nibs = true ∧
    Sparse.wf (fun _ => Tile.zero) ((arrayWith 0x5021FF0000000001).openStep 2).arr.tiles = true := by decide +kernel

/-- A domain of two modules over lane 0, which is pinned; the value of another module for nib 5 is awaited. -/
def lanePinned : State := { (runningState.withArr fun a => { a with
    flights := [⟨0, 5, 7, 0, 0, 9, false, none, some 0⟩], claims := [⟨0, 3, 0, false, 0, 3, 0⟩] }) with
  image := some { smallImage with domainSize := 2, domainLanes := [⟨0, 40⟩] }
  lanes := runningState.lanes.map fun x => { x with state := 4 } }
/-- The load of the word-cell side falls due in a step; and the same array gated in HOLD. -/
def latching (t : Nat) : State := reschedule flying fun c => { c with latchDue := some t }
def held (s : State) : State := { reschedule s fun c => { c with run := .gated } with run := { s.run with mode := .hold } }
theorem test_arrivals : lanePinned.canReach 2 = true ∧ nibDie 5 < lanePinned.dies ∧
    ((lanePinned.openStep 2).arr.flights.find? fun g => g.goesTo 5 7 && g.laneIn.isSome && (lanePinned.openStep 2).crossed g &&
      ((lanePinned.openStep 2).arr.claims.any fun c => c.flight == g.id)) = some ⟨0, 5, 7, 0, 0, 9, false, none, some 0⟩ ∧
    flying.canReach 2 = true ∧ ((flying.openStep 2).resolveClaims.arr.flights.find? fun g => g.goesTo 5 7 &&
      (flying.openStep 2).resolveClaims.arr.sched.lands g && (flying.openStep 2).resolveClaims.crossed g) =
      some ⟨0, 5, 7, 0, 0, 2, true, none, none⟩ := by decide +kernel
theorem test_sample : flying.canReach (flying.L - 4) = true ∧ 4 ≤ flying.L ∧ (flying.runTo (flying.L - 4)).arr.sched.opened = false ∧
    (flying.runTo (flying.L - 4)).arr.sched.sampled = false ∧ (flying.runTo (flying.L - 4)).arr.sched.latchDue = none ∧
    (flying.runTo (flying.L - 4)).decideDue.fabric.cellKeys = [] ∧
    Sparse.wf (fun _ => Cluster.zero) (flying.runTo (flying.L - 4)).decideDue.arr.clusters = true := by decide +kernel
theorem test_crossing : (held (latching 4)).arrayRuns = false ∧ (held (latching 4)).arr.sched.latchDue = some 4 ∧
    Sparse.wf (fun _ => Cluster.zero) (held (latching 4)).arr.clusters = true ∧ Sparse.wf (fun _ => Tile.zero) (held (latching 4)).arr.tiles = true ∧
    (latching 4).canReach 4 = true ∧ (latching 4).arr.sched.frozenHere = false ∧ ((latching 4).runTo 4).arr.sched.opened = false ∧
    ((latching 4).runTo 4).arr.sched.latchDue = some 4 ∧ Sparse.wf (fun _ => Cluster.zero) ((latching 4).runTo 4).arr.clusters = true ∧
    Sparse.wf (fun _ => Tile.zero) ((latching 4).runTo 4).arr.tiles = true := by decide +kernel
theorem test_segments : flying.canReach 15 = true ∧ 16 ≤ flying.L ∧ flying.tokens.overdraws ≤ max32 ∧
    Sparse.wf (fun _ => Tile.zero) (flying.openStep 15).settleStep.arr.tiles = true ∧
    (flying.openStep 15).settleStep.overdrawn 0 0 = [1] := by decide +kernel

/-- A descriptor of class `cls`: 10 words of 8 bits at address 64, with 4 address bits. -/
def dsc (cls : Nat) (write : Bool) : BitVec 128 :=
  BitVec.ofNat 128 (64 * 2 ^ 84 + 10 * 2 ^ 44 + 2 ^ 43 + 4 * 2 ^ 34 + 8 * 2 ^ 27 + cls * 2 ^ 25 + b2n write * 2 ^ 24 + 4 * 2 ^ 16)
/-- Nibs 0 to 3 of port 0 of die 0 send the bits of `v` (each word yields a constant) as ENQ of descriptor 3 at step 2. -/
def queued (d : BitVec 128) (enq : List (Nat × Bool)) (v : Nat) : State := runningState.withArr fun a => { a with
  words := (List.range 4).map fun k => (wordKey 0 2 k, TierWord.of (BitVec.ofNat 64
    (0x60 * 2 ^ 56 + 3 * 2 ^ 48 + (if bit v k then 0xFF else 0) * 2 ^ 40 + k)))
  queues := [(3, { Queue.empty with desc := d, calendar := ⟨enq, []⟩, p := 4, m := 4 })] }
/-- Nib 1 of port 0 waits for descriptor 3 at step 2, which the calendar names or does not. -/
def waiting (entries : List QEntry) (waits : List Nat) : State := runningState.withArr fun a => { a with
  words := [(wordKey 0 2 1, TierWord.of (BitVec.ofNat 64 (0x70 * 2 ^ 56 + 3 * 2 ^ 48 + 2)))]
  queues := [(3, { Queue.empty with desc := dsc 0 false, calendar := ⟨[], waits⟩, entries := entries })] }
def grouped (s : State) : State × Nat :=
  ((s.openStep 2).arr.members .enq 0 3).foldl State.enqMember ((s.openStep 2).markGroup (enqMark (queueKey 0 3)), 0)
theorem test_groups : (queued 0 [] 0).groupReady 2 0 3 (enqMark 3) = true ∧ ((queued 0 [] 0).openStep 2).arr.members .enq 0 3 ≠ [] ∧
    Sparse.wf (fun _ => Queue.empty) (grouped (queued (dsc 1 true) [(2, false)] 4)).1.arr.queues = true ∧
    (grouped (queued (dsc 1 true) [(2, false)] 4)).2 = 4 := by decide +kernel
def waitsWith (e : List QEntry) : State := (waiting e [2]).openStep 2
theorem test_wait : (waiting [] []).groupReady 2 0 3 (waitMark 3) = true ∧ ((waiting [] []).openStep 2).arr.members .wait 0 3 ≠ [] ∧
    (waiting [⟨false, 0, 0, true, true, 5, 0, 0, 0, false⟩] [2]).groupReady 2 0 3 (waitMark 3) = true ∧
    (waitsWith [⟨false, 0, 0, true, true, 5, 0, 0, 0, false⟩]).arr.members .wait 0 3 ≠ [] ∧
    (waiting [⟨false, 0, 0, true, false, 5, 0, 0, 0, false⟩] [2]).groupReady 2 0 3 (waitMark 3) = true ∧
    (waiting [] [2]).groupReady 2 0 3 (waitMark 3) = true ∧ (waitsWith []).arr.members .wait 0 3 ≠ [] ∧
    Sparse.wf (fun _ => Nib.zero) (waitsWith []).arr.nibs = true ∧ Sparse.wf (fun _ => Queue.empty) (waitsWith []).arr.queues = true := by
  decide +kernel

def withQueue3 (q : Queue) (f : NibArray → NibArray) : State := runningState.withArr fun a => f { a with queues := [(3, q)] }
def requesting (write : Bool) : State := withQueue3 { Queue.empty with desc := dsc 1 write, entries := [⟨false, 2, 77, false, false, 0, 0, 0, 0, false⟩] }
  fun a => { a with requests := [(0, [⟨3, 2, 77, 0, 0⟩])] }
def answering (write : Bool) (discard : Nat) : State := withQueue3 { Queue.empty with
  desc := dsc 1 write, entries := [⟨false, 2, 77, true, false, 0, 0, 0, 0, false⟩], discard := discard } id
def stalled (present : Bool) : State := withQueue3 { Queue.empty with desc := dsc 1 false, entries := [⟨false, 2, 77, true, present, 0, 0, 0, 0, false⟩] }
  fun a => { a with sched := { a.sched with stalls := [⟨0, 16, [3], [], 0⟩] } }
def writeStalled : State := withQueue3 { Queue.empty with
  desc := dsc 1 true, stalled := true, entries := [⟨false, 2, 77, true, false, 0, 0, 0, 0, false⟩] }
  fun a => { a with sched := { a.sched with stalls := [⟨0, 16, [], [3], 0⟩] } }
theorem test_memory_requests : (requesting true).requestHeld 0 ⟨3, 2, 77, 0, 0⟩ = false ∧ (requesting false).requestHeld 0 ⟨3, 2, 77, 0, 0⟩ = false ∧ Sparse.get (fun _ => []) (requesting true).arr.requests 0 = [⟨3, 2, 77, 0, 0⟩] ∧ (requesting true).sec.halted = false ∧
    ((requesting true).arr.queue 3).isWrite = true ∧ ((requesting false).arr.queue 3).isWrite = false ∧
    Sparse.wf (fun _ => []) (requesting false).arr.requests = true ∧ Sparse.wf (fun _ => Queue.empty) (requesting false).arr.queues = true ∧
    0 < (answering false 1).discardable 0 3 ∧ (answering false 0).discardable 0 3 = 0 ∧
    ((answering true 0).arr.queue 3).entries.length = 1 := by decide +kernel
theorem test_stalls : (stalled false).toStall.stallNow = some ⟨0, 16, [3], [], 0⟩ ∧ (stalled true).toStall.stallNow = some ⟨0, 16, [3], [], 0⟩ ∧ (stalled true).toStall.stallOver ⟨0, 16, [3], [], 0⟩ = true ∧
    (stalled false).toStall.headPresent 3 = false ∧ writeStalled.toStall.stallNow = some ⟨0, 16, [], [3], 0⟩ ∧
    (writeStalled.toStall.arr.queue 3).stalled = true ∧ (writeStalled.toStall.arr.queue 3).timedOut = false ∧
    2 < fullState.part.ddrChannels := by decide +kernel
def deciding : State := waiting [] [16]
def decisionAt (s : State) : Nat := (s.nextDecision 16 - s.lead) % s.L
theorem test_decision : deciding.canReach (decisionAt deciding) = true ∧
    (deciding.nextDecision 16 - 12) / deciding.L = 0 ∧ (deciding.runTo (decisionAt deciding)).arr.sched.decided = [] ∧ (deciding.runTo (decisionAt deciding)).arr.sched.opened = false ∧
    deciding.L % 16 = 0 ∧ (deciding.runTo (decisionAt deciding)).absentAt (deciding.nextDecision 16) = [3] ∧
    deciding.arr.sched.cycle = 0 := by decide +kernel

theorem test_reaches : (runningState.runTo 9).arr.sched.standsAt 9 = true ∧ (stalled false).arr.sched.stalls = [⟨0, 16, [3], [], 0⟩] ∧
    ((stalled false).runTo 20).arr.sched.step = 16 ∧ ((stalled false).runTo 20).arr.sched.frozenHere = true := by decide +kernel

def stopping : State := reschedule runningState fun c => { c with stops := [⟨7, 0, 0, 1, 0, 0x4105⟩] }
def limited : State := reschedule runningState fun c => { c with target := some 0 }
def closed (s : State) : State := ((s.runTo s.L).closeCycle.countEvent 8 0 1).passBundles
theorem test_boundary : runningState.canReach (runningState.L - 1) = true ∧ 0 < runningState.L ∧ 
    Sparse.wf (fun _ => Nib.zero) (runningState.runTo runningState.L).arr.nibs = true := by decide +kernel
theorem test_boundary_stops : (closed runningState).arr.sched.stops = [] ∧ (closed runningState).arr.sched.target = none ∧
    (closed stopping).arr.sched.stops = [⟨7, 0, 0, 1, 0, 0x4105⟩] ∧ isRoomBit 7 = false ∧
    limited.arr.sched.target = some limited.arr.sched.cycle ∧ (closed limited).arr.sched.target = limited.arr.sched.target := by decide +kernel

theorem test_run : loaded.mayWrite 0 runKey = true ∧ loaded.commonRefusal loaded.run.status true [.loaded, .hold] = none ∧
    loaded.runRefusal = none ∧ loaded.inDomain = false ∧ loaded.arr.sched.rooms = [] ∧
    (loaded.putEntry cycleLimitKey 5).entry cycleLimitKey ≠ 0 ∧ (loaded.putEntry cycleLimitKey 5).runRefusal = none := by decide +kernel
theorem test_run_domain : inDomainState.mayWrite 0 runKey = true ∧ inDomainState.runRefusal = none ∧ inDomainState.inDomain = true ∧
    (reschedule loaded fun c => { c with rooms := [(4, 0)] }).arr.sched.rooms ≠ [] ∧ loaded.takesRuns = true := by decide +kernel
theorem test_run_at : armed.mayWrite 0 runKey = true ∧ armed.runRefusal = none ∧ armed.time.locked = true ∧
    armed.time.units + armed.runAtLead * 2 ^ 32 ≤ armed.runAtTarget * 2 ^ 32 ∧
    ({ loaded with run := { loaded.run with runAt := some (9, 8, 4) } }.withRun fun r => { r with runAt := none }).fireRefusal = none := by
  decide +kernel
theorem test_edges : (reschedule runningState fun c => { c with run := .awaitingEdge }).arr.sched.run = .awaitingEdge ∧
    (reschedule runningState fun c => { c with run := .stoppedForRoom }).arr.sched.run = .stoppedForRoom ∧
    runningState.run.mode = .run ∧ runningState.arr.sched.rooms = [] ∧ runningState.run.startEdge ≤ runningState.time.edges ∧
    runningState.inDomain = false ∧ pinned.inDomain = true ∧ pinned.takesRuns = true ∧ (inDomainState.putEntry cycleLimitKey 5).runRefusal = none := by decide +kernel

theorem test_modes : loaded.commonRefusal loaded.run.status true [.loaded, .run] = none ∧ runningState.mayWrite 0 runKey = true ∧
    runningState.commonRefusal runningState.run.status true [.loaded, .run] = none ∧ runningState.arr.sched.run = .running ∧
    (reschedule runningState fun c => { c with run := .enteringHold }).requestsDone = true ∧
    holding.commonRefusal holding.run.status true [.hold] = none ∧ holding.peerRuns = false ∧
    holding.commonRefusal holding.run.status true [.loaded, .hold] = none ∧
    { loaded with run := { loaded.run with mode := .service } }.commonRefusal 0 true [.service] = none := by decide +kernel
theorem test_peer_runs : { holding with image := some { smallImage with domainSize := 2 }, run := { holding.run with peersRunning := [1] } }.peerRuns =
    true := by decide +kernel

/-- Member 1 of the domain, in LOADED. -/
def memberOne : State := { inDomainState with image := inDomainState.image.map fun i => { i with domainIndex := 1 } }
theorem test_peer_start : memberOne.takesRuns = false ∧ memberOne.modeIn [.loaded, .hold] = true ∧ memberOne.peerRefusal = none ∧
    (memberOne.domainLane 0).isSome = true ∧ (memberOne.lane 0).up = true ∧ pinned.slotAhead 2 32 = true := by decide +kernel
theorem test_records : loaded.mayWrite 0 0x214103 = true ∧ inRange 0x214103 5 = true ∧ Sparse.wf (defaultOf loaded.part.grade) loaded.dict = true ∧
    loaded.reaches 0 0x214001 false = true ∧ loaded.reaches 0 0x213001 false = true ∧ pinned.noticeLane 0 = true := by decide +kernel

/-- DDR5 of 1 GiB holds no body. -/
def noRoom : State := { sheetState with part := { sheetState.part with ddrGiB := 1 } }
theorem test_sheets_busy : releasedState.run.waking = false ∧ releasedState.restoreEnds = true ∧ releasedState.modeIn [.hold, .service] = true ∧
    Sparse.wf (defaultOf releasedState.part.grade) releasedState.dict = true ∧ (sheetState.slot 1).full = false ∧ (sheetState.putEntry sheetStatusKey 1).sheetBusy = true ∧ releasedState.sheetBusy = true ∧
    releasedState.released = true := by decide +kernel
theorem test_sheets : sheetState.mayWrite 0 sheetKey = true ∧ sheetState.ddrPresent = true ∧ sheetState.sheetSlot = 1 ∧
    sheetState.sheets.length = 16 ∧ sheetState.commonRefusal (sheetState.entry sheetStatusKey) false [.hold] = none ∧
    sheetState.commonRefusal (sheetState.entry sheetStatusKey) false [.hold, .service] = none ∧
    sheetState.commonRefusal (sheetState.entry sheetStatusKey) false quietModes = none ∧
    sheetState.sheetSlot < 16 := by decide +kernel
theorem test_save_fits : ∀ n ∈ [0, bodyLengthOf sheetState.part.grade sheetState.sheetScope 0 0], ∃ a, sheetState.placeBody 1 n = some a := by
  intro n hn
  rw [← Option.isSome_iff_exists, State.placeBody, List.find?_isSome]
  refine ⟨sheetState.deepEnd, by simp, ?_⟩
  revert n
  decide +kernel
theorem test_save_no_room : noRoom.placeBody 1 (bodyLengthOf noRoom.part.grade noRoom.sheetScope 0 0) = none ∧ noRoom.ddrPresent = true := by
  refine ⟨?_, by decide +kernel⟩
  have h : noRoom.ddrEnd < noRoom.deepEnd + bodyLengthOf noRoom.part.grade noRoom.sheetScope 0 0 := by decide +kernel
  rw [State.placeBody, List.find?_eq_none]
  intro a _
  simp
  omega
theorem test_sheet_header : sheetState.mayWrite 0 0x212100 = true ∧ (sheetState.slot 1).full = false := by decide +kernel
theorem toBytes_length (n x : Nat) : (toBytes n x).length = n := by
  induction n generalizing x with
  | zero => rfl
  | succ n ih => simp [toBytes, ih]
theorem ofBytes_toBytes (n x : Nat) : ofBytes (toBytes n x) = x % 256 ^ n := by
  induction n generalizing x with
  | zero => simp [toBytes, ofBytes, Nat.mod_one]
  | succ n ih =>
    rw [toBytes, ofBytes, ih, Nat.pow_succ', Nat.mod_mul]
    simp
theorem two_pow_bytes (k n : Nat) (h : k = 8 * n) : 2 ^ k = 256 ^ n := by
  subst h
  exact Nat.pow_mul 2 8 n
theorem saved_intact : savedState.bodyIntact (savedState.slot 1) = true := by
  have hx : savedState.slot 1 = ⟨true, false, (List.replicate 6 0 ++ [BitVec.ofNat 8 sheetState.part.grade.code] ++ List.replicate 121 0 ++
      toBytes 64 (Config.sha3 [])) ++ List.replicate 64 0, some (sheetState.designState 1), 0, 0⟩ := rfl
  have hn : (savedState.slot 1).num 0x080 64 = Config.sha3 [] := by
    rw [hx, Sheet.num, List.drop_append_of_le_length (by simp [toBytes_length]),
      List.drop_left' (by simp), List.take_left' (toBytes_length ..), ofBytes_toBytes]
    exact Nat.mod_eq_of_lt (Nat.lt_of_lt_of_le (Config.sha3Bits _).isLt (Nat.le_of_eq (two_pow_bytes 512 64 rfl)))
  have hb : savedState.readBytes (savedState.slot 1).address (savedState.slot 1).length = [] := rfl
  rw [State.bodyIntact, hn, hb]
  exact beq_self_eq_true _
theorem test_restore : savedState.restoreFault (savedState.slot 1) = none := by
  have hi : savedState.bodyIntact (savedState.slot 1) = true := saved_intact
  have hf : (savedState.slot 1).full = true := by decide +kernel
  have hg : (savedState.slot 1).num 0x006 1 = savedState.part.grade.code := by decide +kernel
  have hd : (savedState.slot 1).num 0x018 64 = smallImage.digest := by decide +kernel
  have hm : savedState.image = some smallImage := by decide +kernel
  simp [State.restoreFault, hi, hf, hg, hd, hm]
theorem test_adopt : (reservedState.slot 1).reserved = true ∧
    (reservedState.slot 1).num 0x078 8 = bodyLengthOf .e8 0 0 0 := by decide +kernel

/-- A Wake that restores slot 0, its fabric released. -/
def waking : State := { sleeping with
  run := { sleeping.run with waking := true, status := 1, savedSlot0 := false }
  fabric := { sleeping.fabric with release := sleeping.allTiles.map fun k => (k, 3) } }
theorem test_waking : waking.run.waking = true ∧ waking.released = true ∧ waking.mayWrite 0 runKey = true := by decide +kernel
theorem test_sleep : loaded.peerRuns = false ∧ loaded.oscillatorFailed = false ∧ loaded.commonRefusal 0 true quietModes = none ∧
    loaded.commonRefusal 0 true (quietModes ++ [.standby]) = none ∧ sleeping.mayWrite 0 runKey = true ∧
    sleeping.commonRefusal 0 true [.standby, .dormant] = none ∧ (sleeping.slot 0).full = false := by decide +kernel

/-- DDR5 with its control regions placed; HBM stack 0 asleep; no guest fitted. -/
def controlled : State := { loaded with sec := { loaded.sec with sessionKey := true } }.putEntry stagingKey 64
def controllerSleeps : State := { loaded with rings := { loaded.rings with sleeping := [0] } }
/-- The reference has failed, so that the ring stops of every die are held. -/
def wayHeld : State := { loaded with rst := { loaded.rst with failedLoops := [.reference] } }
def noGuest : State := { loaded with part := { loaded.part with guest := false } }
theorem test_access_scratch : loaded.permits 0x10 0x100 3 .amo = true ∧ inRow ⟨0x10, .amo, 0x100, [1, 2, 3], true⟩ scratchBase secureEnd = true ∧
    (loaded.sec.wiping && touchesSecure 0x100 3) = false ∧ loaded.tagged 0x100 3 = false ∧
    Sparse.wf zeroByte loaded.mem.bytes = true := by decide +kernel
theorem test_access_memory : controlled.permits 5 (ddrStart + 64) 3 .read = true ∧ inRow ⟨5, .read, ddrStart + 64, [1, 2, 3], false⟩ ddrStart controlled.ddrBytes = true ∧
    controlled.asleep = false ∧ controlled.tagged (ddrStart + 64) 3 = true ∧
    controllerSleeps.permits 5 hbmStart 3 .read = true ∧ controllerSleeps.controllers hbmStart 3 = [0] ∧
    controllerSleeps.domainAsleep 0 = true := by decide +kernel
theorem test_access_others : loaded.permits 0 (mirrorAddr 0x213005) 4 .write = true ∧
    inRow ⟨0, .write, mirrorAddr 0x213005, [1, 0, 0, 0], true⟩ dictBase dictBytes = true ∧ noGuest.permits 5 guestStart 4 .write = true ∧ noGuest.mapped ⟨5, .write, guestStart, [1, 0, 0, 0], true⟩ = false ∧
    loaded.permits 0x20 ddrStart 4 .write = false := by
  decide +kernel
theorem test_access_ways : loaded.targetOwner ⟨0x10, .amo, 0x100, [1, 2, 3], true⟩ = none ∧
    wayHeld.targetOwner ⟨5, .read, hbmStart, [1, 2, 3], true⟩ = some (.hbm 0) ∧ wayHeld.pathHeld .hub (.hbm 0) = true ∧
    wayHeld.mapped ⟨5, .read, hbmStart, [1, 2, 3], true⟩ = true ∧ wayHeld.permits 5 hbmStart 3 .read = true ∧
    loaded.mapped ⟨0x10, .lr, blotterBase, [1, 2, 3, 4], true⟩ = true ∧ loaded.permits 0x10 blotterBase 4 .lr = true ∧
    loaded.cacheable ⟨0x10, .lr, blotterBase, [1, 2, 3, 4], true⟩ = false := by decide +kernel
theorem test_access_free (o : StopOwner) : controlled.pathHeld .hub o = false := by
  have h : controlled.rst.failedLoops = [] := by decide +kernel
  have r (d : Nat) : controlled.ringHeld d = false := by simp [State.ringHeld, State.loopHeld, State.referenceHeld, h]
  unfold State.pathHeld
  split
  · rfl
  · rw [List.any_eq_false]
    intro k _
    split <;> simp [r]
theorem test_access_awake : (controlled.controllers (ddrStart + 64) 3).find? controlled.domainAsleep = none := by
  have h : controlled.rings.sleeping = [] := by decide +kernel
  rw [List.find?_eq_none]
  intro d _
  simp [State.domainAsleep, h]

/-- A module in HOLD; cell 3 of die 1 is clocked in bursts (its cluster frame names a burst spine). -/
def openHold : State := { holding with fabric := { holding.fabric with
  clusterFrames := [(2048, 2 ^ (704 * 3 + 684))], tileFrames := [(64, 2 ^ 81)], release := [(64, 3)] } }
theorem test_windows : openHold.asleep = false ∧ openHold.sec.level = 2 ∧ openHold.allowed 0 (windowAddr 1 0x400065) 1 true false = true ∧
    openHold.run.mode = .hold ∧ openHold.fabric.isBurst (16384 + 3) = true ∧ 2 ≤ openHold.fabric.stage ((16384 + 3) / 256) ∧ openHold.bankPowered (bankOf 1 0x33) = true ∧
    openHold.mem.cache = [] ∧ openHold.fabric.isBurst (16384 + 4) = false ∧
    openHold.memoryPage 1 = 0 ∧ openHold.marchBusy = false ∧ openHold.bankMissing 1 0x33 4 = false ∧
    openHold.mayWrite 0 (keyOf 0x3123 1) = true := by decide +kernel

theorem test_marches : sheetState.mayWrite 0 marchKey = true ∧ sheetState.marchBusy = false ∧ sheetState.loading = false ∧
    { sheetState with run := { sheetState.run with mode := .service } }.mayWrite 0 marchKey = true ∧ sheetState.run.mode ≠ .service ∧
    (loaded.withMarch fun m => { m with status := 1, kind := 2 }).mem.march.atStart = false := by decide +kernel
theorem test_debug_access : loaded.sec.tap = .dbgacc ∧ loaded.powered = true ∧ loaded.sec.wiping = false ∧ loaded.permits 2 0x40 4 .read = true ∧
    loaded.permits 2 0x40 4 .write = true ∧ wakingState.domainAsleep 0 = true ∧ wakingState.sec.halted = false := by decide +kernel

/-- Cell 2 of die 0 runs entry `e`, with C0 = 0xFFFFFFFF and C1 = 0x80000005; its cluster is bound to bridge engine 0, whose transmit FIFO is
full. -/
def cellState (e : Nat) : State := { runningState with fabric := { runningState.fabric with
  clusterFrames := [(0, (e + 0xFFFFFFFF * 2 ^ 384 + 0x80000005 * 2 ^ 416 + 2 ^ 684) * (2 ^ 1408 + 1))], tileFrames := [(0, 2 ^ 16)], release := [(0, 3)]
  engines := runningState.fabric.engines.set 0 { BridgeEngine.idle with
    binding := some ⟨0, 0, 1 + 2 ^ 6 + 2 ^ 14 + 4 * 2 ^ 29 + 4 * 2 ^ 41 + 2 ^ 53 + 2 * 2 ^ 61⟩, tx := [[1], [2], [3], [4]] } } }
/-- Entry with SrcA C0, SrcB C1, Sh 4, Next 3, Alt 5, Cond 0, FW and XW set. -/
def cellEntry (op dst low : Nat) : Nat := op * 2 ^ 43 + dst * 2 ^ 40 + 8 * 2 ^ 36 + 9 * 2 ^ 32 + 4 * 2 ^ 27 + 3 * 2 ^ 24 + 5 * 2 ^ 21 + 3 * 2 ^ 16 + low
theorem test_cell_runs : (cellState (cellEntry 1 2 0)).cellRuns 2 = true ∧ (cellState (cellEntry 1 2 0)).fabric.edgeDue 2 = true ∧
    (cellState 0).fabric.edgeDue 0 = true ∧ wcOp ((cellState (cellEntry 1 2 0)).fabric.entry 2 0) = 1 ∧
    Sparse.wf (fun _ => WordCell.zero) (cellState 0).fabric.cells = true ∧ Sparse.wf (fun _ => Tile.zero) (cellState 0).arr.tiles = true := by decide +kernel
/-- Every operation of Table 9-3 on A = 0xFFFFFFFF, B = 0x80000005 and Sh = 4, worked out by hand. -/
theorem test_cell_results : (List.range 23).map (fun op => let r := wcResult op 0xFFFFFFFF 0x80000005 4 true
      (r.toNat, wcFlag op 0xFFFFFFFF 0x80000005 r 4 true)) =
    [(0xFFFFFFFF, true), (0x80000004, true), (0x7FFFFFFA, false), (0x80000005, true), (0xFFFFFFFF, true), (0x7FFFFFFA, true), (0, false),
      (0xFFFFFFF0, true), (0x0FFFFFFF, true), (0xFFFFFFFF, true), (0xFFFFFFFF, true), (0x7FFFFFFB, true), (0x80000004, true), (0, false),
      (0xFFFFFFFF, false), (0xFFFFFFFF, false), (0xFFFFFFFF, false), (0x80000005, false), (0xFFFFFFFF, false), (0x80000005, true), (1, true), (32, true),
      (0, true)] := by decide +kernel
theorem test_cell_held : let s := cellState (cellEntry 13 2 0xA000)
    s.cellRuns 0 = true ∧ ((wcPW (s.fabric.entry 0 0) || wcPR (s.fabric.entry 0 0)) && wcHW (s.fabric.entry 0 0) && !s.portReady 0 (s.fabric.entry 0 0)) = true := by
  decide +kernel

theorem test_port_skipped : let s := cellState (cellEntry 13 2 0x8000)
    s.cellRuns 0 = true ∧ wcPW (s.fabric.entry 0 0) = true ∧ wcHW (s.fabric.entry 0 0) = false ∧ s.canPush 0 = false := by decide +kernel

/-- Two results of cell 2 are due for T1, one for OUT later; a load was two edges ago, and a crossing byte is due. -/
def landingCell : State := { cellState 0 with fabric := (cellState 0).fabric.setCell 2 { WordCell.zero with
  landings := [⟨1, 5, some true, 0⟩, ⟨1, 6, none, 0⟩, ⟨4, 9, some false, 2⟩], sinceLoad := [2, 0], stagings := [(77, 0), (8, 1)] } }
def releasing : State := { fullState with fabric := { fullState.fabric with release := [(0, 1), (3, 2), (7, 3)] } }
def creditState : State := fullState.addChannel 0 4 { Channel.fresh 1 false 4 64 0x1000 none with inFlight := 2, credits := 0, port := some 3 }
theorem test_cell_events : landingCell.cellLive 2 = true ∧ landingCell.fabric.dueStagings 2 = [(77, 0)] ∧
    Sparse.wf (fun _ => WordCell.zero) landingCell.fabric.cells = true ∧ Sparse.wf (fun _ => Cluster.zero) landingCell.arr.clusters = true ∧
    Sparse.wf (fun _ => 0) releasing.fabric.release = true ∧ loaded.mayWrite 0 (keyOf 0x2750 16) = true ∧
    releasedState.mayWrite 0 (keyOf 0x2750 16) = true ∧ releasedState.dies ≤ 3 := by decide +kernel
theorem test_credit : (creditState.channel 4).map (fun c => (c.type, c.inFlight, c.port)) = some (1, 2, some 3) := by decide +kernel

/-- Its lanes are up at rate 3. -/
def bridgeUp : State := { cellState 0 with lanes := (cellState 0).lanes.map fun x => { x with state := 3, rate := 3 } }
theorem test_bridge : let s := cellState 0
    let b : BridgeBinding := ⟨0, 0, 1 + 2 ^ 6 + 2 ^ 14 + 4 * 2 ^ 29 + 4 * 2 ^ 41 + 2 ^ 53 + 2 * 2 ^ 61⟩
    s.boundEngine 0 = some b ∧ s.engineLanesUp b = true ∧ s.fabric.engines.length = 8 ∧ b.rxDepth = 4 ∧ b.highWater = 2 ∧
    Sparse.wf (defaultOf s.part.grade) s.dict = true := by decide +kernel
theorem test_bridge_blocks : (bridgeUp.receive 3 ((LaneBlock.pause 0).onWire 9)).2 = some (.pause 0) ∧
    (bridgeUp.receive 3 ((LaneBlock.resume 0).onWire 9)).2 = some (.resume 0) ∧ bridgeUp.fabric.engines.length = 8 := by decide +kernel

def mkFrame (type seq id off : Nat) (payload : List Byte) : StreamFrame :=
  let h := toBytes 2 (type + 0xFF00) ++ toBytes 2 0 ++ toBytes 4 seq ++ toBytes 4 payload.length ++ toBytes 4 id ++ toBytes 8 off ++ toBytes 4 0
  ⟨h ++ toBytes 4 (crc32 h), payload, List.replicate 32 0⟩
/-- Words of the parallel port, four bytes each, low byte first. -/
def wordEdges : List Byte → List PortEdge
  | a :: b :: c :: d :: bs => ⟨true, ofBytes [a, b, c, d], false, 8⟩ :: wordEdges bs
  | _ => []
def edgesOf (f : StreamFrame) : List PortEdge := wordEdges f.bytes
def seenFrame (s : State) (f : StreamFrame) : StreamFrame := StreamFrame.ofWire (s.portBytes 2 (edgesOf f))
def seenState (s : State) (f : StreamFrame) : State := (s.afterEdges 2 (edgesOf f)).seeFrame 2 (seenFrame s f)
/-- The header of a plain stream of 3 frames for a full image of 128 bytes of a grade, then frames and states of such a stream. -/
def streamHeader (grade : Nat) : StreamFrame := mkFrame 1 0 77 0 (toBytes 4 0x53545856 ++ toBytes 5 1 ++ toBytes 7 grade ++ toBytes 8 9 ++
  toBytes 8 128 ++ toBytes 4 4 ++ List.replicate 92 0 ++ toBytes 64 6)
def dataOf77 : StreamFrame := mkFrame 2 1 77 64 (List.replicate 64 5)
def streamTrailer : StreamFrame := mkFrame 3 3 77 0 (List.replicate 7232 0)
def portsOpen : State := { loaded.putEntry 0x240101 7 with
  sec := { loaded.sec with sessionKey := true, digests := [some (Config.sha3 (List.replicate 2592 0)), none, none, none] } }
def theStream : Stream := ⟨2, 77, false, false, 0, 9, 4, 1, Config.sha3 (List.replicate 2592 0), ⟨[], 128⟩, [], [], 0, ⟨none, [], none⟩⟩
def wholeStream : Stream := { theStream with taken := 3, pieces := [(64, 64), (0, 64)] }
def streaming : State := { portsOpen with loader := { portsOpen.loader with state := 1, stream := some theStream, tracks := [(2, ⟨77, 1, 256, true⟩)] } }
def staged : State := { portsOpen with loader := { portsOpen.loader with state := 1, stream := some wholeStream, tracks := [(2, ⟨77, 3, 512, true⟩)] } }
def committing : State := { portsOpen with loader := { portsOpen.loader with state := 3, stream := some theStream } }
def ignoring : State := { portsOpen with loader := { portsOpen.loader with ignored := [77] } }
/-- The edges of the parallel port spell the frame. -/
theorem test_stream_edges : seenFrame portsOpen (streamHeader 8) = streamHeader 8 ∧ seenFrame streaming dataOf77 = dataOf77 ∧
    streaming.portBytes 2 (edgesOf dataOf77) ≠ [] ∧ portsOpen.sec.halted = false := by decide +kernel
theorem test_stream_header : let f := streamHeader 8
    let o := (portsOpen.afterEdges 2 (edgesOf f)).seeFrame 2 f
    o.selected 2 f = true ∧ o.current 2 f = none ∧ f.id ∉ o.loader.ignored ∧ o.portOpen 2 = true ∧ (o.giveWay 2).headerFault 2 f = none := by
  decide +kernel
theorem test_stream_grade : let f := streamHeader 4
    ((portsOpen.afterEdges 2 (edgesOf f)).seeFrame 2 f).giveWay 2 |>.headerFault 2 f = some ⟨0x4A10, 0x0804, 0x29⟩ := by decide +kernel
theorem test_stream_data : let o := (streaming.afterEdges 2 (edgesOf dataOf77)).seeFrame 2 dataOf77
    o.selected 2 dataOf77 = true ∧ o.current 2 dataOf77 = some theStream ∧ o.dataFault theStream dataOf77 = none ∧
    ignoring.loader.ignored = [77] := ⟨rfl, rfl, by decide +kernel, rfl⟩
/-- Which of the last two clauses of a trailer applies hangs on the signature alone, whose check the model leaves free. -/
theorem test_stream_trailer (o : State) (ho : o = (staged.afterEdges 2 (edgesOf streamTrailer)).seeFrame 2 streamTrailer) :
    o.trailerFault wholeStream streamTrailer =
      if o.signatureOk wholeStream streamTrailer then none else some (LoadFault.whole 0x7102) := by
  have h : (streamTrailer.headerOk false && streamTrailer.type == 3 && streamTrailer.id == wholeStream.id && (o.track wholeStream.port).ok &&
      allZero (streamTrailer.payload.drop 7219)) = true := by subst ho; decide +kernel
  have g : (wholeStream.taken + 1 == wholeStream.frameCount && wholeStream.staged == wholeStream.image.length) = true := by decide +kernel
  simp only [State.trailerFault, h, g]
  cases o.signatureOk wholeStream streamTrailer <;> rfl
theorem test_stream_writes : streaming.mayWrite 0 0x240301 = true ∧ committing.mayWrite 0 0x240301 = true ∧ portsOpen.mayWrite 0 0x240205 = true ∧
    portsOpen.loader.dmaStatus ≠ 1 := by decide +kernel

/-- The bytes of a list of (offset, width, value) fields that are not zero. -/
def fields (l : List (Nat × Nat × Nat)) : Sparse Byte :=
  l.flatMap fun f => ((List.range f.2.1).map fun i => (f.1 + i, BitVec.ofNat 8 (f.2.2 / 256 ^ i))).filter fun e => e.2 != 0
/-- A partial image of tile 0 of an E8 with every frame zero, for a base digest of 0. -/
def partialImage : Staged := ⟨fields ([(0, 4, 0x5052524B), (4, 2, 1), (6, 2, 2), (8, 1, 8), (0x50, 1, 1),
    (0xC0, 2, 3), (0xC8, 8, 0x100), (0xD0, 8, 24824), (0xD8, 2, 12), (0xDA, 1, 255), (0xE0, 8, 25088), (0xE8, 8, 2), (0x100, 8, 496 + 2 * 2 ^ 60)] ++
    (List.range 32).map fun c => (0x100 + 504 + 760 * c, 8, 752 + c * 2 ^ 49 + 2 ^ 60)), 25090⟩
def partialStream : Stream := ⟨1, 77, true, false, 0, 9, 4, 4, 6, partialImage, [(0, 25090)], [], 0, ⟨none, [], none⟩⟩
def checking : State := { loaded with loader := { loaded.loader with state := 2, stream := some partialStream } }
def committed : State := { loaded with
  part := { loaded.part with grade := .e2 }
  loader := { loaded.loader with state := 3, stream := some { partialStream with partialImage := false } }
  fabric := { loaded.fabric with release := (List.range 128).map fun tk => (tk, 3) } }
theorem test_commit_passes : loaded.partialChecks smallImage partialImage = none := by decide +kernel
theorem test_commit_refused : (checking.loadChecks partialImage).map LoadFault.code = some 0x4A16 := by decide +kernel
theorem test_commit_done : committed.allReleased (committed.commitTiles { partialStream with partialImage := false }) = true ∧ committed.rst.commitFaults < 2 ∧ checking.loader.state = 2 ∧ checking.image = some smallImage ∧
    Sparse.wf (fun _ => 0) checking.fabric.release = true ∧ Sparse.wf (fun _ => 0) committed.fabric.release = true := by decide +kernel

/-- A committed module whose fixer scrubs and whose tiers and golden contents are zero; its tier repair source is a retained image. -/
def scrubbing : State := { loaded.putEntry fixerEnableKey 1 with
  fixer := { loaded.fixer with running := true }, loader := { loaded.loader with retained := some ⟨[], 128⟩ } }
/-- The next group of die 1 is a cluster frame. -/
def atCluster : State := { scrubbing with fixer := { scrubbing.fixer with checked := [0, 4103] } }
def clusterGroup : FrameGroupId := ⟨.clusterFrame, 1, 0, 5⟩
theorem test_scrubbing : let g : FrameGroupId := ⟨.tierRow, 1, 0, 0⟩
    scrubbing.scrubs = true ∧ scrubbing.groupNext g = true ∧ scrubbing.fixer.failed = [] ∧ scrubbing.sourceMissing g = false ∧
    { scrubbing with loader := { scrubbing.loader with retained := none } }.sourceMissing g = true ∧
    scrubbing.serving = true ∧ scrubbing.mayWrite 0 fixerEnableKey = true ∧ inRange fixerEnableKey 0 = true ∧
    atCluster.scrubs = true ∧ atCluster.groupNext clusterGroup = true := by decide +kernel
theorem test_scrubbing_match : scrubbing.groupDiff ⟨.tierRow, 1, 0, 0⟩ = [] := by decide +kernel
/-- An upset of a cluster frame shows in its signature, and so does one that strikes again after the rewrite. -/
theorem test_scrubbing_upset : let u := atCluster.upset clusterGroup [(0, 5)]
    u.signatureDiffers clusterGroup = true ∧ ((u.rewrite clusterGroup (u.groupDiff clusterGroup)).upset clusterGroup [(0, 1)]).signatureDiffers
      clusterGroup = true ∧ u.sourceMissing clusterGroup = false ∧ u.fixer.goldenWord clusterGroup 0 < 2 ^ 6016 := by decide +kernel
/-- An upset of a tier row without a retained image: its source is missing. -/
theorem test_scrubbing_lost : { scrubbing with loader := { scrubbing.loader with retained := none } }.groupNext ⟨.tierRow, 1, 0, 0⟩ = true ∧
    (scrubbing.upset ⟨.tierRow, 1, 0, 0⟩ [(7, 5), (3000, 2 ^ 66)]).groupDiff ⟨.tierRow, 1, 0, 0⟩ = [7, 3000] := by decide +kernel
/-- A set without upsets keeps its signature; whether one with upsets does hangs on the layout of its bytes alone, which the model leaves free. -/
theorem test_protected_set (s : State) (h : s.fixer.controlFlips = []) : s.controlUpset = false := by
  have e : (List.range s.controlSet.length).map s.control = s.controlSet := by
    apply List.ext_getElem
    · simp
    · intro i hi hj
      simp [State.control, h, List.getElem?_eq_getElem hj]
  rw [State.controlUpset, e]
  simp
theorem test_scrubbing_inv : Memory.wf scrubbing.mem = true ∧ scrubbing.log.entries.length = 2 ∧ scrubbing.log.persistent = [] ∧ scrubbing.log.details = [] ∧
    Sparse.wf (defaultOf scrubbing.part.grade) scrubbing.dict = true ∧ Sparse.wf (fun _ => Nib.zero) scrubbing.arr.nibs = true ∧
    Sparse.wf (fun _ => Queue.empty) scrubbing.arr.queues = true := by decide +kernel

/-- As `threads`, with an enabled interrupt of core 2 pending: its supervisor software interrupt, not delegated, below machine mode. -/
def asked : State := { threads with cores := threads.cores.map fun x => { x with ssip := true, csr := [(0x304, 2)] } }
/-- As `threads`, with thread 4, DELAYED, asked of core 2 to be suspended. -/
def suspending : State := threads.setThread 4 ⟨.delayed, 5, 1, 0, 0, some 2, 0⟩
/-- The core of a state with the request for preemption withdrawn, as `schask` leaves it. -/
def unasked (s : State) (c : Nat) (u : CsrUse) : Core := { ((s.useCore c u).cores[c]?).getD Core.fresh with preempt := false }
theorem test_ask : (unasked threads 2 ⟨[], 1, true, 0⟩).interrupted threads.coreTime = false ∧ (unasked asked 2 ⟨[], 1, true, 0⟩).interrupted asked.coreTime = true ∧
    asked.bestFor 2 = none ∧ threads.suspensions 2 = [] ∧ suspending.suspensions 2 = [4] ∧ (suspending.thread 4).state = .delayed ∧
    (unasked { threads with sched := { threads.sched with ready := [] } } 0 ⟨[], 1, true, 0⟩).interrupted threads.coreTime = false := by decide +kernel
theorem test_use_core : (threads.useCore 1 ⟨[⟨3, 0x304, 2⟩, ⟨1, 0x304, 0⟩], 1, true, 0⟩).readCsr 1 0x304 = some 2 ∧
    (threads.useCore 0 ⟨[], 1, true, 0⟩).cores[0]?.map Core.thread = some (some 2) := by decide +kernel
theorem test_threads : (threads.cores.map fun c => (c.state == .running, c.thread)).take 4 =
    [(true, some 2), (true, none), (true, none), (false, none)] ∧ threads.bestFor 1 = some 3 ∧ threads.bestFor 2 = none ∧ threads.freeThread = some 0 ∧
    threads.lookup 0x30010004 = .inr (4, Channel.fresh 3 false 4 64 0x1000 none) ∧ threads.entry 0x2C0201 = 0 ∧
    Sparse.wf (fun _ => Thread.free) threads.sched.threads = true ∧ (Channel.fresh 3 false 4 64 0x1000 none).holds 1 = true ∧
    (Channel.fresh 3 false 4 64 0x1000 none).holds 0 = false ∧ { threads with sched := { threads.sched with ready := [] } }.bestFor 0 = none := by decide +kernel

/-- An internal channel in slot 4 whose oldest entry is ring entry 3, with entries in these states; requester 5 has selected it. -/
def ring (l : List SlotState) : Channel := { Channel.fresh 3 false 4 64 0x1000 none with head := 3, slots := l }
def channels (l : List SlotState) : State := { threads with
  cores := threads.cores.map fun x => { x with uch := true }, chan := { threads.chan with live := [(4, ring l)], selects := [(5, 0x30010004)] } }
theorem test_channels : (channels [.received, .posted, .posted]).lookup 0x30010004 = .inr (4, ring [.received, .posted, .posted]) ∧
    (ring [.received, .posted, .posted]).unreceived = some 1 ∧ (ring [.received, .reserved]).unreceived = none ∧
    (ring []).position 3 = 0 ∧ (ring []).position 0 = 1 ∧ (channels []).bufferValid 8192 256 = true ∧
    (channels []).lookup 0x30010007 = .inl 2 ∧ (channels [.posted]).mayWrite 5 0x400201 = true ∧
    (channels []).channel 0 = none := by decide +kernel
theorem test_channel_slot : (channels []).freeSlot = some 0 := by
  unfold State.freeSlot; rw [List.range_eq_range']; decide +kernel

theorem test_core_events : threads.asleep = false ∧ threads.sec.halted = false ∧ threads.mayWrite 0 0x2C1103 = true ∧ threads.cores.length = 32 ∧
    threads.mayWrite 0 0x2C0501 = true ∧ (threads.cores[1]?).map (fun c => (c.state == .running, c.asleep, c.hpmCounter.length)) = some (true, false, 8) ∧
    threads.sched.tickList = [] ∧ Sparse.wf (defaultOf threads.part.grade) threads.dict = true := by decide +kernel
theorem test_counter_enabled : let s := (threads.putEntry 0x2B0001 3).putEntry (keyOf 0x2B11 1) 4
    bit (s.entry 0x2B0001) 1 = true ∧ s.entry (keyOf 0x2B11 1) ≠ 0 := by decide +kernel

/-- Trace runs, with the program flow of core 1, which is awake, traced in machine mode, and its loads from 0x10 to 0x1F; one record waits. -/
def tracingState : State := { (((((threads.putEntry 0x2A0001 1).putEntry (keyOf 0x2A01 2) 3).putEntry (keyOf 0x2A02 2) 0x103).putEntry (keyOf 0x2A08 1) 0x10).putEntry (keyOf 0x2A08 3) 0x1F).putEntry (keyOf 0x2A08 5) 1 with
  cores := threads.cores.map fun c => { c with asleep := false }, trace := { threads.trace with fifos := [(1, [⟨1, 6, 0, 0, 0, 5, 6, 0⟩])] } }
theorem test_trace : tracingState.sourceOn 1 = true ∧ pfMode (tracingState.entry (keyOf 0x2A01 2)) 3 = true ∧ (tracingState.pf 1).repeats = 0 ∧ (tracingState.pf 1).count = 0 ∧
    tracingState.sourceOn 33 = true ∧ tracingState.daMatches 1 0x18 0 = true ∧ tracingState.daMatches 1 0x200 0 = false ∧ fifoTakes (tracingState.fifo 33) 10 = true ∧ sleeping.asleep = true ∧
    fifoTakes (tracingState.fifo 1) 6 = true ∧ fifoTakes (List.replicate 14 ⟨1, 6, 0, 0, 0, 5, 6, 0⟩) 6 = false ∧ tracingState.tracing = true ∧
    tracingState.blotterRoom = true ∧ tracingState.mayWrite 0 0x2A0004 = true ∧ tracingState.mayWrite 0 0x2A0001 = true ∧
    fullState.mayWrite 0 0x2A0001 = true ∧ fullState.entry 0x2A0001 = 0 ∧ fullState.entry 0x2A0002 = 0 ∧ fullState.trace.unread + 1 < blotterSlots ∧
    Sparse.wf (fun _ => []) tracingState.trace.fifos = true := by decide +kernel

/-- Headers from stop 3 (HBM stack 0) to stop 6 (DDR5 channel 0), which take the odd ascending ring: a read of one flit, a channel message,
and an answer with data to the request of tag 7 of requester 1. -/
def readHeader : Nat := 6 * 2 ^ 59 + 3 * 2 ^ 54
def channelHeader : Nat := readHeader + 4 * 2 ^ 48
def answerHeader : Nat := readHeader + 2 * 2 ^ 48 + 7 * 2 ^ 33 + 2 ^ 25
/-- A packet that waits at a stop of that ring, and modules in which one does. -/
def transitAt (h stop : Nat) : Transit := ⟨1, stop, 0, false, 0, packetSent ⟨h, .read, hbmStart, 2, 9⟩⟩
def withTransit (l : List Transit) : State := { loaded with rings := { loaded.rings with transit := l } }
def packetAt (h stop : Nat) : State := withTransit [transitAt h stop]
/-- At the source, another packet heads the injection queue; at stop 4, eight flits of its priority fill the buffers of stop 5. -/
def waitingPacket : State := withTransit [⟨1, 3, 0, true, 0, packetSent ⟨readHeader, .read, hbmStart, 2, 8⟩⟩]
def blockedPacket : State := withTransit (transitAt readHeader 4 :: (List.range 8).map fun k => { transitAt readHeader 5 with waited := k })
theorem test_ring : loaded.part.grade.stops.length = 29 ∧ loaded.part.grade.stops[3]? = some (.hbm 0) ∧ loaded.part.grade.stops[4]? = some (.die 1) ∧
    loaded.part.grade.stops[6]? = some (.ddr 0) ∧ hdrSrc readHeader = 3 ∧ hdrDest readHeader = 6 ∧ loaded.ringHeld 8 = false ∧ loaded.ringHeld 1 = false ∧
    loaded.asleep = false ∧ loaded.entry 0x2B0001 = 0 ∧ StopOwner.domain (.ddr 0) = some 4 ∧ loaded.domainAsleep 4 = false ∧
    StopOwner.sleepsOff (.ddr 0) = true := by decide +kernel
theorem test_ring_headers : let q (h : Nat) := (packetSent ⟨h, .read, hbmStart, 2, 9⟩).header
    (hdrSrc (q readHeader), hdrDest (q readHeader), hdrType (q readHeader)) = (3, 6, 0) ∧ isRequest (q readHeader) = true ∧
    isRequest (q channelHeader) = false ∧ isAnswer (q channelHeader) = false ∧ isAnswer (q answerHeader) = true ∧
    (hdrTag (q answerHeader), hdrRequester (q answerHeader)) = (7, 1) ∧ (hdrPrio (q channelHeader), hdrPrio (q readHeader)) = (3, 1) ∧
    (hdrSrc (q channelHeader), hdrDest (q channelHeader), hdrSrc (q answerHeader), hdrDest (q answerHeader)) = (3, 6, 3, 6) := by decide +kernel
theorem test_ring_queues : let x := transitAt readHeader 4
    (packetAt readHeader 4).isHead x = true ∧ (packetAt readHeader 4).linkWinner 29 1 4 = some x ∧
    blockedPacket.isHead x = true ∧ blockedPacket.linkWinner 29 1 4 = none ∧
    waitingPacket.rings.transit.any (fun y => y.ring == 1 && y.stop == 3 && y.packet == x.packet) = false ∧
    (packetAt channelHeader 6).isHead (transitAt channelHeader 6) = true ∧ (packetAt answerHeader 6).isHead (transitAt answerHeader 6) = true ∧
    (packetAt readHeader 6).isHead (transitAt readHeader 6) = true ∧ (bitsWrong (2 ^ 70), bitsWrong 5) = (1, 2) := by decide +kernel
theorem test_domains : loaded.controllerFitted 1 = true ∧ loaded.modeIn quietModes = true ∧ loaded.domainAsleep 1 = false ∧ loaded.sec.halted = false ∧
    wakingState.rings.held.filter (fun h => h.1 == 0) = [(0, .access ⟨0, .read, hbmStart, [0, 0], true⟩)] := by decide +kernel

/-- A running module whose bundle 3 carries its positions 0 and 1 on lanes 0 and 7; bundle 3 with no spare left. -/
def narrow : State := runningState.setBundle 3 { runningState.bundle 3 with lanes := [0, 7] }
def noSpares (state : Nat) : State := loaded.setBundle 3 { loaded.bundle 3 with state := state, failed := (List.range 32).map (512 + ·) }
theorem test_bundles : loaded.bundles.length = 16 ∧ loaded.bundleFitted 3 = true ∧ (narrow.bundle 3).moving = [] ∧ loaded.arr.sched.run ≠ .running ∧
    (loaded.bundle 3).state = 1 ∧ (loaded.bundle 3).lanes.findIdx? (fun m => m == 7) = some 7 ∧
    (narrow.bundle 3).lanes.findIdx? (fun m => m == 7) = some 1 ∧ (narrow.bundle 3).free.head? = some 1 ∧ (loaded.bundle 3).lanes.findIdx? (fun m => m == 530) = none ∧
    { loaded with run := { loaded.run with mode := .service } }.mayWrite 0 0x2D0501 = true := by decide +kernel
theorem test_no_spares : ((noSpares 1).bundle 3).free = [] := by
  have h : ((noSpares 1).bundle 3).lanes = List.range 512 ∧ ((noSpares 1).bundle 3).failed = (List.range 32).map (512 + ·) := by decide +kernel
  simp only [Bundle.free, h.1, h.2, bundleLanes, List.filter_eq_nil_iff, List.mem_range, Bool.and_eq_true, Bool.not_eq_true', List.contains_iff_mem,
    List.mem_map, not_and, ← Bool.not_eq_true, Classical.not_not]
  intro a ha hb
  exact absurd ⟨a - 512, by omega, by omega⟩ hb.2
theorem test_lane_lost : (narrow.runTo 5).bundles = narrow.bundles ∧ (narrow.runTo 5).arr.sched.run = .running ∧ narrow.canReach 5 = true ∧
    (narrow.bundle 3).dead = [] := by decide +kernel

/-- The guest link is up; window 1 maps 1 MiB at guest address 2^20 to the scratchpad for reads and writes; handle 0x30010004 is open. -/
def guestState : State := { (((((threads.putEntry (guestKey 1 1) (2 ^ 20)).putEntry (guestKey 1 5) 1).putEntry (guestKey 1 6) 3).putEntry 0x380301 0x30010004).putEntry
  guestEnableKey 1) with run := loaded.run, guest := { threads.guest with state := 3 }
                         sec := { threads.sec with tables := [(4, [(2 ^ 44 - 1) * 2 ^ 40 + 7 * 2 ^ 37])] } }
theorem test_guest : guestState.guest.state = 3 ∧ guestState.sec.halted = false ∧ guestState.powered = true ∧ guestState.permits 4 5 3 .write = true ∧
    guestState.windowOfAccess ⟨.write, 2 ^ 20 + 5, [1, 2, 3]⟩ = some 1 ∧ guestState.windowOfAccess ⟨.amo, 2 ^ 20 + 5, [1, 2, 3]⟩ = some 1 ∧
    guestState.guestWindow 1 = ⟨2 ^ 20, 0, 2 ^ 20, 3, 0, 1⟩ ∧ (guestState.guestWindow 1).grants ⟨.write, 2 ^ 20 + 5, [1, 2, 3]⟩ = true ∧
    (guestState.guestWindow 1).grants ⟨.amo, 2 ^ 20 + 5, [1, 2, 3]⟩ = false ∧ guestState.guestHandle 9 = false ∧
    guestState.guestHandle 0x30010004 = true ∧ guestState.lookup 0x30010004 = .inr (4, Channel.fresh 3 false 4 64 0x1000 none) := by decide +kernel
theorem test_guest_power : guestState.guest.waiting = [] ∧ guestState.rings.held = [] ∧ guestState.rings.outstanding = [] ∧ guestState.guestLimit = 20 ∧
    guestState.mayWrite 0 guestEnableKey = true ∧ guestState.part.guest = true ∧ guestState.asleep = false ∧ guestState.guest.cut = false := by decide +kernel
theorem test_guest_aperture : let s := guestState.putEntry 0x380202 1
    s.windowOfAccess ⟨.read, 2 ^ 32 + 5, [1, 2, 3]⟩ = none ∧ s.guestAperture ≠ 0 ∧ s.inAperture (2 ^ 32 + 5) = true := by decide +kernel
theorem test_guest_window : guestState.mayWrite 0 (guestKey 2 1) = true ∧ inRange (guestKey 2 1) (2 ^ 22) = true ∧
    (guestState.putEntry (guestKey 2 1) (2 ^ 22)).windowsOk 2 = true ∧ (guestState.putEntry (guestKey 2 1) 7).windowsOk 2 = false ∧
    (guestState.putEntry (guestKey 1 7) 5).guest.tokens.getD 1 0 < 3000 ∧ ((guestState.putEntry (guestKey 1 7) 5).guestWindow 1).rate ≠ 0 := by decide +kernel

/-- Unit 3 watches the cycle word, 0xABFE, in a mode, with mask 0xFF, level 0xFD, hysteresis 2 and Count 1; it is armed; output 0 selects it. -/
def unitState (mode : Nat) : State := { ((((((loaded.putEntry (unitKey 3 1) (5 * 2 ^ 28)).putEntry (unitKey 3 2) mode).putEntry (unitKey 3 3) 0xFF).putEntry
  (unitKey 3 4) 0xFD).putEntry (unitKey 3 5) 2).putEntry (unitKey 3 6) 1).putEntry (outKey 0) (1 + 3 * 2 ^ 4 + 2 ^ 16) with
  trig := { loaded.trig with loadedCycle := 0xABFE, path := TrigPath.fresh, units := loaded.trig.units.set 3 { TrigUnit.fresh with armed := true } } }
theorem test_units : ∀ m ∈ List.range 8, let s := unitState m
    s.asleep = false ∧ s.loopsDown = false ∧ s.trig.units.length = 16 ∧ s.trig.outputs.length = 10 ∧ (∀ v < 16, v ≠ 3 → bits (s.unitEntry v 2) 0 3 = 0) ∧
    (∀ k ∈ s.trig.samplers, k.armed = false) ∧ (s.unit 3).holding = false ∧ s.unitEntry 3 6 ≤ 1 ∧ s.unitEntry 3 7 = 0 ∧
    s.pathEdge.sourceWord s.pathEdge.seenView (s.unitEntry 3 1) &&& s.unitEntry 3 3 = 0xFE ∧ Sparse.wf (defaultOf s.part.grade) s.dict = true := by decide +kernel
/-- Rising, high and mismatch see 0xFE against 0xFD; falling, low and match do not. -/
theorem test_unit_fires : (List.range 8).map (fun m => ((unitState m).unitEdge).entry (unitKey 3 9)) = [0, 1, 0, 1, 1, 0, 0, 1] := by decide +kernel

def holdingOff (kind : Nat) : State := ((unitState 4).putEntry (unitKey 3 7) kind).setUnit 3 ⟨false, false, 0, true, 1⟩
theorem test_trigger_events : (unitState 4).trig.lines = 0 ∧ (holdingOff 1).unitEntry 3 7 = 1 ∧ (holdingOff 1).unitEntry 3 2 = 4 ∧
    (holdingOff 1).unitEntry 3 4 ≤ (holdingOff 1).pathEdge.sourceWord (holdingOff 1).pathEdge.seenView ((holdingOff 1).unitEntry 3 1) &&& (holdingOff 1).unitEntry 3 3 ∧
    ((holdingOff 1).unit 3).holding = true ∧ (unitState 4).unitEntry 3 6 ≤ 1 := by decide +kernel

/-- Sampler 0 captures one word, the cycle word, on the I/O clock, with 128 KiB of buffer at 64 KiB and PostCount 2. -/
def samplerState : State := ((((((((unitState 4).putEntry (samplerKey 0 1) 1).putEntry (samplerKey 0 2) 1).putEntry (samplerKey 0 3) 1).putEntry
  (samplerKey 0 4) (5 * 2 ^ 28)).putEntry (samplerKey 0 0x0C) 65536).putEntry (samplerKey 0 0x0D) 131072).putEntry (samplerKey 0 0x0F) 2).putEntry
  (samplerKey 0 0x10) 8
def armedSampler : State := samplerState.setSampler 0 { Sampler.fresh with armed := true, kept := 5, edges := 5 }
/-- A forced trigger waits; no unit is in use. -/
def forcedSampler : State := (armedSampler.setSampler 0 { armedSampler.sampler 0 with forcing := true }).putEntry (unitKey 3 2) 0
/-- Sampler 0 streams into a ring in the DDR5 data region; one sample waits. -/
def streamState : State := { (((((samplerState.putEntry (samplerKey 0 1) 2).putEntry (samplerKey 0 2) 0).putEntry (samplerKey 0 0x14) 0x140).putEntry
  (samplerKey 0 0x15) 65536).putEntry (samplerKey 0 0x16) 64).setSampler 0 { Sampler.fresh with armed := true, kept := 5, drained := 4 } with
  sec := { samplerState.sec with sessionKey := true, tables := [(3, [(2 ^ 44 - 1) * 2 ^ 40 + 7 * 2 ^ 37])] } }
theorem test_samplers : samplerState.mayWrite 0 (samplerCommandKey 0) = true ∧ samplerState.armInvalid 0 = false ∧
    samplerState.shareOf 0 0 ≤ samplerState.bandwidthFree ∧ samplerState.trig.samplers.length = 4 ∧ samplerState.sampleClock 0 = 1 ∧
    (samplerState.putEntry (samplerKey 0 0x0D) 0).armInvalid 0 = true ∧ samplerState.streaming 0 = false ∧
    samplerState.mayWrite 0 (samplerKey 0 0x16) = true ∧ inRange (samplerKey 0 0x16) 64 = true := by decide +kernel
theorem test_no_bandwidth : let s := samplerState.setSampler 1 { Sampler.fresh with armed := true, share := sramBandwidth }
    s.armInvalid 0 = false ∧ ∀ e < 16, s.bandwidthFree < s.shareOf 0 e := by decide +kernel
theorem test_forced : forcedSampler.asleep = false ∧ forcedSampler.loopsDown = false ∧ (∀ v < 16, bits (forcedSampler.unitEntry v 2) 0 3 = 0) ∧
    (∀ j < 4, j ≠ 0 → (forcedSampler.sampler j).armed = false) ∧ forcedSampler.samplerEntry 0 0x12 ≠ 1 ∧ forcedSampler.pathEdge.triggerSample 0 = 5 ∧
    (forcedSampler.sampler 0).forcing = true ∧ forcedSampler.samplerEntry 0 0x0F = 2 := by decide +kernel
theorem test_stream : streamState.streaming 0 = true ∧ streamState.ringRoom 0 = true ∧ streamState.ringSize 0 = 65536 ∧ streamState.sampleBytes 0 = 4 := by
  decide +kernel

/-- A module with PTP on both ports, in state 1, port 0 with a master, past the year 2106. -/
def timedState : State := { (((fullState.putEntry 0x230201 1).putEntry 0x233001 1).putEntry 0x233101 1).putEntry 0x230203 100 with
  time := { fullState.time with units := (5 * 2 ^ 32 + 7) * 10 ^ 9 * 2 ^ 32 + 123 * 2 ^ 32 + 9 * 2 ^ 16, state := 1, sourcePort := 0
                                ports := [⟨some 3, 0, 0, true, false⟩, ⟨none, 0, 0, true, false⟩] } }
theorem test_time_read : timedState.reaches 0 0x230001 false = true ∧ (nextOf (.timeRead 0) timedState).map (fun t =>
    (t.answer, [2, 3, 4].map fun k => (t.reaches 0 (0x230000 + k) false, (t.readEntry 0 (0x230000 + k)).answer))) =
    some (.ok 7, [(true, .ok 5), (true, .ok 123), (true, .ok 9)]) := by decide +kernel

def syncing (state : Nat) (stepped : Bool) : State := timedState.withTime fun t =>
  { t with state := state, stepped := stepped, offsets := List.replicate 7 (-7000) }
def setTimeState : State := (((timedState.putEntry 0x230201 0).putEntry 0x230301 1).putEntry 0x230302 2).putEntry 0x230303 3
theorem test_ptp_sync : let s := syncing 1 false
    s.measuredOffset 0 (s.corrected 0 ⟨100, 1100, 50, 15050, 0, 0⟩) = -7000 ∧ s.meanDelay 0 (s.corrected 0 ⟨100, 1100, 50, 15050, 0, 0⟩) = 8000 ∧
    (s.ptpPort 0).master = some 3 ∧ s.time.sourcePort = 0 ∧ s.run.mode ≠ .run ∧ s.time.stepped = false ∧ s.time.state = 1 ∧ s.entry 0x230202 = 0 ∧
    s.entry 0x233102 = 0 := by decide +kernel
theorem test_time_events : timedState.time.ports.length = 2 ∧ timedState.tracing = false ∧ timedState.ptpOn = true ∧ timedState.asleep = false ∧
    timedState.entry 0x233101 ≠ 0 ∧ timedState.pulses.all (fun g => !g.busy) = true ∧ timedState.entry 0x230203 = 100 ∧
    setTimeState.mayWrite 0 0x230304 = true ∧ setTimeState.ptpOn = false ∧ setTimeState.run.mode ≠ .run ∧
    Sparse.wf (defaultOf timedState.part.grade) timedState.dict = true := by decide +kernel

/-- Generator 7 starts 1 us ahead to the nanosecond, with the least period and width. -/
def pulseState : State := ((((timedState.putEntry (pulseKey 7 1) 5).putEntry (pulseKey 7 2) 7).putEntry (pulseKey 7 3) 1124).putEntry (pulseKey 7 4) 20).putEntry
  (pulseKey 7 5) 10
theorem test_pulses : pulseState.mayWrite 0 (pulseKey 7 7) = true ∧ inRange (pulseKey 7 7) 9 = true ∧ inRange (pulseKey 7 7) 11 = true ∧
    (pulseState.pulse 7).busy = false ∧ pulseState.pulses.length = 8 ∧ (pulseState.time.totalNs + 1001) * 2 ^ 32 = pulseState.pulseStart 7 ∧ pulseState.asleep = false ∧
    4 + 5 * pulseState.entry (pulseKey 7 4) * 2 ^ 32 ≤ pulseState.time.units ∧
    Sparse.wf (defaultOf pulseState.part.grade) pulseState.dict = true := by decide +kernel

/-- Pins 0 to 15 are released; pin 3 feeds edge counter 0 and drives high under software; pin 20 is safe at its held pad; the others are held. -/
def pinState : State :=
  let s := ((fullState.putEntry (pinConfigKey 3) (2 ^ 30 + 2 ^ 17)).putEntry 0x273001 8).putEntry 0x273101 8
  { s with pins := { s.pins with software := 8, held := s.pins.held.filter fun e => decide (16 ≤ e.1), safe := [(20, s.pad 20)] } }
theorem test_pins : (∀ f ∈ inFuncs, pinState.funcLevel f = bit pinState.pins.functions f) ∧ pinState.free4 20 = false ∧ pinState.free4 3 = true ∧
    pinState.outputsOf 3 = [(0, true)] ∧ pinState.pad 3 = ⟨1, true, 0, 0, false⟩ ∧ pinState.mayWrite 0 (pinConfigKey 3) = true ∧
    pinState.mayWrite 0 0x273302 = true ∧ pinState.mayWrite 0 0x273501 = true ∧ pinState.mayWrite 0 0x276008 = true := by decide +kernel

/-- Pin 3, low, feeds function `f`; its filter has taken two high samples, or is as given. -/
def filtering (f : Nat) (y : PinFilter) : State :=
  { (loaded.putEntry (pinConfigKey 3) (f * 2 ^ 17)) with pins := { loaded.pins with held := [], filters := [(3, y)] } }
def feeding (f : Nat) : State := filtering f ⟨0, true, 2⟩
theorem test_feeding : ∀ f ∈ [0, 1, 8, 23, 24, 25, 26], (∀ g ∈ inFuncs, (feeding f).funcLevel g = bit (feeding f).pins.functions g) ∧
    (f = 0 ∨ (feeding f).funcPin f = some 3) ∧ (feeding f).asleep = false ∧ bit (feeding f).pins.filtered 3 = false ∧ (feeding f).pins.settling = [] ∧
    (feeding f).pins.patterns = List.replicate 8 0 ∧ (∀ u < 16, bits ((feeding f).unitEntry u 2) 0 3 = 0) ∧
    (feeding f).pinFilter 3 = ⟨0, true, 2⟩ := by decide +kernel
theorem test_two_pins : ((feeding 1).putEntry (pinConfigKey 2) (2 ^ 17)).funcPin 1 = some 2 ∧
    (((((feeding 0).putEntry (patternKey 5 1) 1).putEntry (patternKey 5 2) 0x18).putEntry (patternKey 5 3) 8).setPattern 5 2 |>.withPins
      fun p => { p with filtered := setBit p.filtered 3 true }).patternMatch 5 = true ∧ sleeping.asleep = true := by decide +kernel

def laneState (n : Nat) : State := loaded.setLane 7 { Lane.fresh with state := n }
def domainLaneState (n : Nat) : State := inDomainState.setLane 0 { Lane.fresh with state := n }
theorem test_dark_block : descramble 77 (LaneBlock.dark.onWire 77).bits = 0x99 * 2 ^ 56 ∧ (LaneBlock.dark.onWire 77).header = 2 ∧
    controlBlock (descramble 0 0) = none := by decide +kernel
theorem test_lanes : (laneState 3).lanes.length = 32 ∧ (laneState 3).laneUse 7 = 0 ∧ (domainLaneState 4).laneUse 0 = 1 ∧
    (laneState 3).mayWrite 0 (keyOf (0x2810 + 7) 4) = true ∧ (laneState 3).mayWrite 0 (keyOf (0x2810 + 7) 5) = true ∧
    (domainLaneState 4).arr.sched.run = .gated ∧ (domainLaneState 4).canReach 99 = false ∧ (laneState 3).laneCap 7 = 4 ∧
    (domainLaneState 2).laneScrambled 0 = false ∧ ((domainLaneState 2).putEntry 0x262001 1).laneScrambled 0 = true ∧
    (domainLaneState 4).mayWrite 0 (keyOf (0x2810 + 0) 4) = true := by decide +kernel

/-- A module whose secure scratchpad and scratchpad hold a byte; slots 0 and 1 hold keys; digest 4 is fused. -/
def keyed : State := { fullState with
  mem := { fullState.mem with bytes := [(secureBase - 1, 7), (secureEnd - 1, 8)] }
  sec := { fullState.sec with slot0 := some 5, slot1 := some 6, digests := [none, none, none, some 9] } }
/-- A record of a purpose for this module, signed by Yelrov, with a key and a signature of zeros. -/
def record (purpose target : Nat) : List Byte :=
  toBytes 4 0x48545541 ++ toBytes 1 purpose ++ toBytes 1 target ++ toBytes 2 1 ++ toBytes 4 keyed.part.hubSerial ++ toBytes 4 0 ++
    toBytes 32 keyed.sec.nonce ++ List.replicate (0xA50 - 48 + 4627) 0
/-- A module whose fused digest of Yelrov is that of the record's key. -/
def trusting (r : List Byte) : State := { keyed with sec := { keyed.sec with yelrovDigest := Config.sha3 (recKey r) } }
theorem test_record_fields : ∀ p ∈ [(1, 1), (2, 3), (3, 4)], let r := record p.1 p.2
    recPurpose r = p.1 ∧ recTarget r = p.2 ∧ recSigner r = 1 ∧ recNum r 0 4 = 0x48545541 ∧ recNum r 8 4 = keyed.part.hubSerial ∧
    recNum r 16 32 = keyed.sec.nonce ∧ r.length = 0xA50 + 4627 ∧ (trusting r).permitted r = true := by decide +kernel
/-- Such a record passes every check of R453 once its signature verifies, which no value of an uninterpreted function can show. -/
theorem test_auth_records (p : Nat × Nat) (hp : p ∈ [(1, 1), (2, 3), (3, 4)]) (h : signatureVerifies (record p.1 p.2) = true) :
    (trusting (record p.1 p.2)).recordOk (record p.1 p.2) = true := by
  obtain ⟨-, -, h3, h4, h5, h6, hl, hw⟩ := test_record_fields p hp
  have e5 : (trusting (record p.1 p.2)).part.hubSerial = keyed.part.hubSerial := rfl
  have e6 : (trusting (record p.1 p.2)).sec.nonce = keyed.sec.nonce := rfl
  have e7 : (trusting (record p.1 p.2)).sec.yelrovDigest = Config.sha3 (recKey (record p.1 p.2)) := rfl
  simp [State.recordOk, State.signerOk, hl, hw, h, h3, h4, h5, h6, e5, e6, e7]
theorem test_auth_context : keyed.mayWrite 0 (keyOf 0x2601 0) = true ∧ keyed.sec.lifeCycle = .blank ∧ keyed.sec.lifeCycle.ceiling = 3 ∧
    LifeCycle.develop.code = 1 ∧ Sparse.wf zeroByte keyed.mem.bytes = true ∧ recPurpose (toBytes 4 0x48545541 ++ [3, 4, 1]) = 3 := by decide +kernel
theorem test_life_cycle_wipes : (keyed.changeLifeCycle .develop).mem.bytes = [(secureBase - 1, 7)] := by
  decide +kernel

def developing : State := { keyed with sec := { keyed.sec with lifeCycle := .develop } }
/-- A KeyLoad record with the plain key 77 for a slot. -/
def keyRecord (slot : Nat) : List Byte := toBytes 8 slot ++ toBytes 32 77
/-- A valid entry that grants reads of the first page of HBM. -/
def hbmGrant : Nat := hbmStart * 2 ^ 84 + (hbmStart + 4095) * 2 ^ 40 + 2 ^ 39 + 2 ^ 38
theorem test_keys : developing.mayWrite 0 (keyOf 0x2611 0) = true ∧ developing.mayWrite 0 (keyOf 0x2612 0) = true ∧
    developing.mayWrite 0 (keyOf 0x2643 0) = true ∧ developing.mayWriteRights 0 = true ∧ developing.grantBad hbmGrant = false ∧
    developing.mayWrite 0 0x263001 = true ∧ developing.mayWrite 0 (keyOf 0x2624 0) = true ∧ developing.digestState 3 = 0 ∧
    developing.digestState 4 = 1 ∧ developing.sec.ownerDigest = none ∧ developing.sec.digests.length = 4 ∧ developing.sec.slot0.isSome = true := by
  decide +kernel
theorem test_key_records : recNum (keyRecord 2) 0 1 = 2 ∧ recNum (keyRecord 2) 1 7 = 0 ∧ ((keyRecord 2).drop 8).length = 32 ∧
    ofBytes ((keyRecord 2).drop 8) = 77 ∧ developing.sec.slot0 = some 5 ∧ developing.grantBad (2 ^ 35) = true := by decide +kernel
theorem test_rights : (nextOf (.rightsTableWrite 0 3 (List.replicate 16 hbmGrant)) developing).map (fun t => (t.sec.tables, t.answer)) =
    some ([(3, List.replicate 16 hbmGrant)], .ok 0) := by decide +kernel

/-- Level open in SERVICE; core 0 runs, core 1 is halted by debug. -/
def openState : State := { fullState with
  cores := { (default : Core) with state := .running, asleep := false } :: { (default : Core) with state := .debugHalt, before := .running, asleep := false } ::
    fullState.cores.drop 2 }
def untampered : State := openState.putEntry 0x262101 0
theorem test_debug : openState.mayWrite 0 0x260401 = true ∧ inRange 0x260401 3 = true ∧ openState.sec.level = 2 ∧ openState.run.mode = .service ∧
    openState.tracing = false ∧ openState.rst.vin = true ∧ openState.sec.halted = false ∧ openState.tamperOn = true ∧ untampered.tamperOn = false ∧
    Sparse.wf (defaultOf openState.part.grade) openState.dict = true := by decide +kernel

/-- Every sensor reads 25 degrees but die 3, the hub and the stacks' margins aside. -/
def sampleOf (v : Nat) : SensorSample := ⟨(List.replicate 30 400).set 3 v, [12000, 1000, 1000, 1000, 5000]⟩
def hotState : State := ((nextOf (.sensorUpdate (sampleOf 1984)) loaded).getD loaded)
theorem test_sensors : hotState.therm.critical = true ∧ hotState.therm.reached = [9, 10] ∧ (3 * 3, 3) ∈ hotState.therm.raised ∧ hotState.therm.point = 3 ∧
    hotState.asleep = false ∧ loaded.therm.reached = [] ∧ loaded.sensorFitted 3 = true ∧ loaded.arr.sched.run = .gated := by decide +kernel

def auditing : State := { loaded with log := { loaded.log with auditStatus := 1 } }
def faulty : State := (loaded.logAs 0x3204 .image srcHub 0).logAs 0x1301 .stop srcHub 0 |>.logAs 0x1202 .blocked srcHub 9
theorem test_audit : loaded.mayWrite 0 0x500002 = true ∧ loaded.mayWrite 0 0x510001 = true ∧ faulty.log.active.length = 3 ∧ loaded.log.auditStatus = 0 ∧
    loaded.log.lapsed = false ∧ loaded.rings.granted < 2 ^ 64 - 1 := by decide +kernel
theorem test_audit_result : (nextOf .auditComplete auditing).map (fun t => (t.log.auditStatus, t.log.auditResult)) = some (2, 0) := by decide +kernel
end

section
/-! What a command and a step keep: the queue of waiting commands, the fixed facts of the part and the invariant's three facts. The
laws of the commands' own meanings (`exec…_kept`) are put together here over the dispatcher, and then over a step. -/

namespace Sys2Proof.Machine

/-! ### One command -/

/-- Whatever command runs, there is a mask of components outside which it changes nothing; in every case the queue, the part, the
canonical form of memory and settings and the bounds of the log are kept. One arm for each arm of the dispatcher. -/
theorem exec_outKept (c : Instr) (s : State) : ∃ m, OutKept m s (exec c s) :=
  match c with
  | .dictionaryWrite .. => ⟨_, execDictionaryWrite_kept ..⟩
  | .sdoTransfer .. => ⟨_, execSdoTransfer_kept ..⟩
  | .rpdoReceived .. => ⟨_, execRpdoReceived_kept ..⟩
  | .nmtStop .. => ⟨_, execNmtStop_kept ..⟩
  | .nmtStart .. => ⟨_, execNmtStart_kept ..⟩
  | .nmtEnterPreoperational .. => ⟨_, execNmtEnterPreoperational_kept ..⟩
  | .nmtResetCommunication .. => ⟨_, execNmtResetCommunication_kept ..⟩
  | .nmtResetNode .. => ⟨_, execNmtResetNode_kept ..⟩
  | .heartbeat => ⟨_, execHeartbeat_kept ..⟩
  | .fastClockStop => ⟨_, execFastClockStop_kept ..⟩
  | .sensorUpdate .. => ⟨_, execSensorUpdate_kept ..⟩
  | .storeParameters .. => ⟨_, execStoreParameters_kept ..⟩
  | .restoreDefaults .. => ⟨_, execRestoreDefaults_kept ..⟩
  | .logReadSelect .. => ⟨_, execLogReadSelect_kept ..⟩
  | .firmwareCheckAndWrite .. => ⟨_, execFirmwareCheckAndWrite_kept ..⟩
  | .firmwareWriteComplete .. => ⟨_, execFirmwareWriteComplete_kept ..⟩
  | .firmwareActivate .. => ⟨_, execFirmwareActivate_kept ..⟩
  | .startAttempt .. => ⟨_, execStartAttempt_kept ..⟩
  | .startRetryWaitExpiry => ⟨_, execStartRetryWaitExpiry_kept ..⟩
  | .firmwareStartComplete => ⟨_, execFirmwareStartComplete_kept ..⟩
  | .firmwareStartTimeout => ⟨_, execFirmwareStartTimeout_kept ..⟩
  | .mgmtWatchdogExpiry => ⟨_, execMgmtWatchdogExpiry_kept ..⟩
  | .nop .. => ⟨_, execNop_kept ..⟩
  | .eval .. => ⟨_, execEval_kept ..⟩
  | .send .. => ⟨_, execSend_kept ..⟩
  | .store .. => ⟨_, execStore_kept ..⟩
  | .probe .. => ⟨_, execProbe_kept ..⟩
  | .sync .. => ⟨_, execSync_kept ..⟩
  | .enq .. => ⟨_, execEnq_kept ..⟩
  | .wait .. => ⟨_, execWait_kept ..⟩
  | .interconnectArrival .. => ⟨_, execInterconnectArrival_kept ..⟩
  | .stagingSample => ⟨_, execStagingSample_kept ..⟩
  | .segmentTokenCheck .. => ⟨_, execSegmentTokenCheck_kept ..⟩
  | .wordCellTokenInterval => ⟨_, execWordCellTokenInterval_kept ..⟩
  | .cycleBoundary => ⟨_, execCycleBoundary_kept ..⟩
  | .cycleLimitReached => ⟨_, execCycleLimitReached_kept ..⟩
  | .crossingLatchLoad => ⟨_, execCrossingLatchLoad_kept ..⟩
  | .waitDecisionPoint .. => ⟨_, execWaitDecisionPoint_kept ..⟩
  | .designAnswerArrival .. => ⟨_, execDesignAnswerArrival_kept ..⟩
  | .writeAckArrival .. => ⟨_, execWriteAckArrival_kept ..⟩
  | .stallResume .. => ⟨_, execStallResume_kept ..⟩
  | .stallTimeout => ⟨_, execStallTimeout_kept ..⟩
  | .writeStallTimeout => ⟨_, execWriteStallTimeout_kept ..⟩
  | .memoryRequestReceived .. => ⟨_, execMemoryRequestReceived_kept ..⟩
  | .ddr5Retraining .. => ⟨_, execDdr5Retraining_kept ..⟩
  | .run .. => ⟨_, execRun_kept ..⟩
  | .runAt .. => ⟨_, execRunAt_kept ..⟩
  | .runAtFire => ⟨_, execRunAtFire_kept ..⟩
  | .domainStartEdge => ⟨_, execDomainStartEdge_kept ..⟩
  | .step .. => ⟨_, execStep_kept ..⟩
  | .hold .. => ⟨_, execHold_kept ..⟩
  | .holdReport => ⟨_, execHoldReport_kept ..⟩
  | .park .. => ⟨_, execPark_kept ..⟩
  | .service .. => ⟨_, execService_kept ..⟩
  | .leave .. => ⟨_, execLeave_kept ..⟩
  | .standby .. => ⟨_, execStandby_kept ..⟩
  | .dormant .. => ⟨_, execDormant_kept ..⟩
  | .wake .. => ⟨_, execWake_kept ..⟩
  | .cancel .. => ⟨_, execCancel_kept ..⟩
  | .roomResume => ⟨_, execRoomResume_kept ..⟩
  | .save .. => ⟨_, execSave_kept ..⟩
  | .saveComplete => ⟨_, execSaveComplete_kept ..⟩
  | .restore .. => ⟨_, execRestore_kept ..⟩
  | .restoreComplete => ⟨_, execRestoreComplete_kept ..⟩
  | .discard .. => ⟨_, execDiscard_kept ..⟩
  | .adopt .. => ⟨_, execAdopt_kept ..⟩
  | .sheetHeaderWrite .. => ⟨_, execSheetHeaderWrite_kept ..⟩
  | .markControlWrite .. => ⟨_, execMarkControlWrite_kept ..⟩
  | .boundaryRecordRead .. => ⟨_, execBoundaryRecordRead_kept ..⟩
  | .cycleCountRead .. => ⟨_, execCycleCountRead_kept ..⟩
  | .systemClassAccess .. => ⟨_, execSystemClassAccess_kept ..⟩
  | .apertureWrite .. => ⟨_, execApertureWrite_kept ..⟩
  | .wordCellRecordWrite .. => ⟨_, execWordCellRecordWrite_kept ..⟩
  | .designMemoryWindowAccess .. => ⟨_, execDesignMemoryWindowAccess_kept ..⟩
  | .remoteCacheFlush .. => ⟨_, execRemoteCacheFlush_kept ..⟩
  | .marchDestructiveOnDie .. => ⟨_, execMarchDestructiveOnDie_kept ..⟩
  | .marchDestructiveAll .. => ⟨_, execMarchDestructiveAll_kept ..⟩
  | .marchPreservingOnDie .. => ⟨_, execMarchPreservingOnDie_kept ..⟩
  | .marchPreservingAll .. => ⟨_, execMarchPreservingAll_kept ..⟩
  | .marchComplete .. => ⟨_, execMarchComplete_kept ..⟩
  | .wcPass .. => ⟨_, execWcPass_kept ..⟩
  | .wcAdd .. => ⟨_, execWcAdd_kept ..⟩
  | .wcSub .. => ⟨_, execWcSub_kept ..⟩
  | .wcAnd .. => ⟨_, execWcAnd_kept ..⟩
  | .wcOr .. => ⟨_, execWcOr_kept ..⟩
  | .wcXor .. => ⟨_, execWcXor_kept ..⟩
  | .wcNot .. => ⟨_, execWcNot_kept ..⟩
  | .wcShl .. => ⟨_, execWcShl_kept ..⟩
  | .wcShr .. => ⟨_, execWcShr_kept ..⟩
  | .wcSar .. => ⟨_, execWcSar_kept ..⟩
  | .wcRol .. => ⟨_, execWcRol_kept ..⟩
  | .wcMullo .. => ⟨_, execWcMullo_kept ..⟩
  | .wcMulhu .. => ⟨_, execWcMulhu_kept ..⟩
  | .wcMulhs .. => ⟨_, execWcMulhs_kept ..⟩
  | .wcEq .. => ⟨_, execWcEq_kept ..⟩
  | .wcLtu .. => ⟨_, execWcLtu_kept ..⟩
  | .wcLts .. => ⟨_, execWcLts_kept ..⟩
  | .wcMinu .. => ⟨_, execWcMinu_kept ..⟩
  | .wcMaxu .. => ⟨_, execWcMaxu_kept ..⟩
  | .wcSel .. => ⟨_, execWcSel_kept ..⟩
  | .wcBit .. => ⟨_, execWcBit_kept ..⟩
  | .wcPop .. => ⟨_, execWcPop_kept ..⟩
  | .wcInc .. => ⟨_, execWcInc_kept ..⟩
  | .wcNop .. => ⟨_, execWcNop_kept ..⟩
  | .wcResultLand .. => ⟨_, execWcResultLand_kept ..⟩
  | .crossingStrobeSet .. => ⟨_, execCrossingStrobeSet_kept ..⟩
  | .stagingByteWrite .. => ⟨_, execStagingByteWrite_kept ..⟩
  | .releaseWriteEnable => ⟨_, execReleaseWriteEnable_kept ..⟩
  | .releaseClockStart => ⟨_, execReleaseClockStart_kept ..⟩
  | .probeSelectWrite .. => ⟨_, execProbeSelectWrite_kept ..⟩
  | .bridgeBeatReceived .. => ⟨_, execBridgeBeatReceived_kept ..⟩
  | .bridgeBeatDelivered .. => ⟨_, execBridgeBeatDelivered_kept ..⟩
  | .bridgeBeatTransmitted .. => ⟨_, execBridgeBeatTransmitted_kept ..⟩
  | .pauseReceived .. => ⟨_, execPauseReceived_kept ..⟩
  | .resumeReceived .. => ⟨_, execResumeReceived_kept ..⟩
  | .creditReturnArrival .. => ⟨_, execCreditReturnArrival_kept ..⟩
  | .dmaCommand .. => ⟨_, execDmaCommand_kept ..⟩
  | .streamHeaderFrame .. => ⟨_, execStreamHeaderFrame_kept ..⟩
  | .dataFrame .. => ⟨_, execDataFrame_kept ..⟩
  | .trailerFrame .. => ⟨_, execTrailerFrame_kept ..⟩
  | .loadChecksComplete .. => ⟨_, execLoadChecksComplete_kept ..⟩
  | .commitComplete => ⟨_, execCommitComplete_kept ..⟩
  | .loadAbort .. => ⟨_, execLoadAbort_kept ..⟩
  | .streamTimeout => ⟨_, execStreamTimeout_kept ..⟩
  | .fixerGroupCheck .. => ⟨_, execFixerGroupCheck_kept ..⟩
  | .protectedSetCheck .. => ⟨_, execProtectedSetCheck_kept ..⟩
  | .fixerEnableWrite .. => ⟨_, execFixerEnableWrite_kept ..⟩
  | .coreReleaseWrite .. => ⟨_, execCoreReleaseWrite_kept ..⟩
  | .hostEvent .. => ⟨_, execHostEvent_kept ..⟩
  | .chrecv .. => ⟨_, execChrecv_kept ..⟩
  | .chrelease .. => ⟨_, execChrelease_kept ..⟩
  | .chreserve .. => ⟨_, execChreserve_kept ..⟩
  | .chpost .. => ⟨_, execChpost_kept ..⟩
  | .chcount .. => ⟨_, execChcount_kept ..⟩
  | .schask .. => ⟨_, execSchask_kept ..⟩
  | .schwait .. => ⟨_, execSchwait_kept ..⟩
  | .schdelay .. => ⟨_, execSchdelay_kept ..⟩
  | .schcreate .. => ⟨_, execSchcreate_kept ..⟩
  | .schsetReady .. => ⟨_, execSchsetReady_kept ..⟩
  | .schsetSuspend .. => ⟨_, execSchsetSuspend_kept ..⟩
  | .schsetPriority .. => ⟨_, execSchsetPriority_kept ..⟩
  | .schsetAffinity .. => ⟨_, execSchsetAffinity_kept ..⟩
  | .schsetFree .. => ⟨_, execSchsetFree_kept ..⟩
  | .schsetState .. => ⟨_, execSchsetState_kept ..⟩
  | .chcreate .. => ⟨_, execChcreate_kept ..⟩
  | .chdestroy .. => ⟨_, execChdestroy_kept ..⟩
  | .schipi .. => ⟨_, execSchipi_kept ..⟩
  | .schcur .. => ⟨_, execSchcur_kept ..⟩
  | .channelDestroy .. => ⟨_, execChannelDestroy_kept ..⟩
  | .tick => ⟨_, execTick_kept ..⟩
  | .coreLockup .. => ⟨_, execCoreLockup_kept ..⟩
  | .ringPacket .. => ⟨_, execRingPacket_kept ..⟩
  | .domainWakeAnswer .. => ⟨_, execDomainWakeAnswer_kept ..⟩
  | .domainWakeTimeout .. => ⟨_, execDomainWakeTimeout_kept ..⟩
  | .domainSleep .. => ⟨_, execDomainSleep_kept ..⟩
  | .requestTimeout .. => ⟨_, execRequestTimeout_kept ..⟩
  | .diePllUnlock .. => ⟨_, execDiePllUnlock_kept ..⟩
  | .laneMarginLow .. => ⟨_, execLaneMarginLow_kept ..⟩
  | .dieLaneLost .. => ⟨_, execDieLaneLost_kept ..⟩
  | .bundleRetrain .. => ⟨_, execBundleRetrain_kept ..⟩
  | .guestAccess .. => ⟨_, execGuestAccess_kept ..⟩
  | .guestApertureRead .. => ⟨_, execGuestApertureRead_kept ..⟩
  | .guestWindowWrite .. => ⟨_, execGuestWindowWrite_kept ..⟩
  | .guestDescriptorReceived .. => ⟨_, execGuestDescriptorReceived_kept ..⟩
  | .guestPowerReport .. => ⟨_, execGuestPowerReport_kept ..⟩
  | .guestPowerEnableWrite .. => ⟨_, execGuestPowerEnableWrite_kept ..⟩
  | .guestSleepRequest => ⟨_, execGuestSleepRequest_kept ..⟩
  | .guestLinkLost => ⟨_, execGuestLinkLost_kept ..⟩
  | .samplerArm .. => ⟨_, execSamplerArm_kept ..⟩
  | .samplerDisarm .. => ⟨_, execSamplerDisarm_kept ..⟩
  | .samplerForceTrigger .. => ⟨_, execSamplerForceTrigger_kept ..⟩
  | .triggerUnitFire => ⟨_, execTriggerUnitFire_kept ..⟩
  | .holdoffExpiry .. => ⟨_, execHoldoffExpiry_kept ..⟩
  | .streamReadPointerWrite .. => ⟨_, execStreamReadPointerWrite_kept ..⟩
  | .streamDrain .. => ⟨_, execStreamDrain_kept ..⟩
  | .triggerOutputPulseEnd .. => ⟨_, execTriggerOutputPulseEnd_kept ..⟩
  | .traceEnableWrite .. => ⟨_, execTraceEnableWrite_kept ..⟩
  | .traceRecordOffer .. => ⟨_, execTraceRecordOffer_kept ..⟩
  | .syncRecordPeriod => ⟨_, execSyncRecordPeriod_kept ..⟩
  | .blotterReadPointerWrite .. => ⟨_, execBlotterReadPointerWrite_kept ..⟩
  | .coreSleep .. => ⟨_, execCoreSleep_kept ..⟩
  | .coreWake .. => ⟨_, execCoreWake_kept ..⟩
  | .coreCounterOverflow .. => ⟨_, execCoreCounterOverflow_kept ..⟩
  | .moduleCounterWrap .. => ⟨_, execModuleCounterWrap_kept ..⟩
  | .timeRead .. => ⟨_, execTimeRead_kept ..⟩
  | .ptpSyncReceived .. => ⟨_, execPtpSyncReceived_kept ..⟩
  | .ptpMasterLost .. => ⟨_, execPtpMasterLost_kept ..⟩
  | .holdoverExpiry => ⟨_, execHoldoverExpiry_kept ..⟩
  | .offsetUnlockExpiry => ⟨_, execOffsetUnlockExpiry_kept ..⟩
  | .setTimeCommand .. => ⟨_, execSetTimeCommand_kept ..⟩
  | .referenceLost => ⟨_, execReferenceLost_kept ..⟩
  | .pulseArm .. => ⟨_, execPulseArm_kept ..⟩
  | .pulseStop .. => ⟨_, execPulseStop_kept ..⟩
  | .pulseLeadingEdge .. => ⟨_, execPulseLeadingEdge_kept ..⟩
  | .pulseTrailingEdge .. => ⟨_, execPulseTrailingEdge_kept ..⟩
  | .pinConfigWrite .. => ⟨_, execPinConfigWrite_kept ..⟩
  | .pinRelease .. => ⟨_, execPinRelease_kept ..⟩
  | .safeCommand .. => ⟨_, execSafeCommand_kept ..⟩
  | .safeReq .. => ⟨_, execSafeReq_kept ..⟩
  | .pinInputChange .. => ⟨_, execPinInputChange_kept ..⟩
  | .wakePinEdge .. => ⟨_, execWakePinEdge_kept ..⟩
  | .edgeCountClear .. => ⟨_, execEdgeCountClear_kept ..⟩
  | .laneBringUp .. => ⟨_, execLaneBringUp_kept ..⟩
  | .laneBringUpDone .. => ⟨_, execLaneBringUpDone_kept ..⟩
  | .laneTrainRetry .. => ⟨_, execLaneTrainRetry_kept ..⟩
  | .laneBitSlip .. => ⟨_, execLaneBitSlip_kept ..⟩
  | .laneLost .. => ⟨_, execLaneLost_kept ..⟩
  | .domainLinkLost .. => ⟨_, execDomainLinkLost_kept ..⟩
  | .laneNoticeReceived .. => ⟨_, execLaneNoticeReceived_kept ..⟩
  | .laneDarkCommand .. => ⟨_, execLaneDarkCommand_kept ..⟩
  | .darkBlockReceived .. => ⟨_, execDarkBlockReceived_kept ..⟩
  | .darkIdleTimeout .. => ⟨_, execDarkIdleTimeout_kept ..⟩
  | .laneSignalDetect .. => ⟨_, execLaneSignalDetect_kept ..⟩
  | .windowBaseWrite .. => ⟨_, execWindowBaseWrite_kept ..⟩
  | .lifeCycleChange .. => ⟨_, execLifeCycleChange_kept ..⟩
  | .debugLevelRaise .. => ⟨_, execDebugLevelRaise_kept ..⟩
  | .revokeDigest .. => ⟨_, execRevokeDigest_kept ..⟩
  | .provision .. => ⟨_, execProvision_kept ..⟩
  | .keyLoad .. => ⟨_, execKeyLoad_kept ..⟩
  | .keyErase .. => ⟨_, execKeyErase_kept ..⟩
  | .debugLevelLower .. => ⟨_, execDebugLevelLower_kept ..⟩
  | .dbgaccRead .. => ⟨_, execDbgaccRead_kept ..⟩
  | .dbgaccWrite .. => ⟨_, execDbgaccWrite_kept ..⟩
  | .dbgaccResetRequest .. => ⟨_, execDbgaccResetRequest_kept ..⟩
  | .tapInstruction .. => ⟨_, execTapInstruction_kept ..⟩
  | .dbgReq => ⟨_, execDbgReq_kept ..⟩
  | .rightsTableWrite .. => ⟨_, execRightsTableWrite_kept ..⟩
  | .rightsLockWrite .. => ⟨_, execRightsLockWrite_kept ..⟩
  | .tamperEvent => ⟨_, execTamperEvent_kept ..⟩
  | .attestRequest .. => ⟨_, execAttestRequest_kept ..⟩
  | .powerOn .. => ⟨_, execPowerOn_kept ..⟩
  | .brownOut => ⟨_, execBrownOut_kept ..⟩
  | .alwaysOnLoss => ⟨_, execAlwaysOnLoss_kept ..⟩
  | .pinReset => ⟨_, execPinReset_kept ..⟩
  | .watchdogExpiry => ⟨_, execWatchdogExpiry_kept ..⟩
  | .watchdogRefresh .. => ⟨_, execWatchdogRefresh_kept ..⟩
  | .resetRequestCore .. => ⟨_, execResetRequestCore_kept ..⟩
  | .resetRequestSys .. => ⟨_, execResetRequestSys_kept ..⟩
  | .requestedResetTaken => ⟨_, execRequestedResetTaken_kept ..⟩
  | .clockFailure .. => ⟨_, execClockFailure_kept ..⟩
  | .escalationWaitExpiry => ⟨_, execEscalationWaitExpiry_kept ..⟩
  | .blockResetCore .. => ⟨_, execBlockResetCore_kept ..⟩
  | .blockResetBridgeEngine .. => ⟨_, execBlockResetBridgeEngine_kept ..⟩
  | .blockResetTriggerEngine .. => ⟨_, execBlockResetTriggerEngine_kept ..⟩
  | .blockResetEthernetPort .. => ⟨_, execBlockResetEthernetPort_kept ..⟩
  | .blockResetRelease .. => ⟨_, execBlockResetRelease_kept ..⟩
  | .powerAverageInterval .. => ⟨_, execPowerAverageInterval_kept ..⟩
  | .faultAcknowledge .. => ⟨_, execFaultAcknowledge_kept ..⟩
  | .auditCommand .. => ⟨_, execAuditCommand_kept ..⟩
  | .auditComplete => ⟨_, execAuditComplete_kept ..⟩
  | .guestLinkUp .. => ⟨_, execGuestLinkUp_kept ..⟩
  | .canopenSyncReceived => ⟨_, execCanopenSyncReceived_kept ..⟩
  | .trigLineChange .. => ⟨_, execTrigLineChange_kept ..⟩
  | .machineTimerInterrupt .. => ⟨_, execMachineTimerInterrupt_kept ..⟩
  | .batterySlotLost => ⟨_, execBatterySlotLost_kept ..⟩
  | .brownOutRecovery => ⟨_, execBrownOutRecovery_kept ..⟩
  | .lifeCycleSysReset => ⟨_, execLifeCycleSysReset_kept ..⟩
  | .bundleRetrainComplete .. => ⟨_, execBundleRetrainComplete_kept ..⟩
  | .secureWipeComplete => ⟨_, execSecureWipeComplete_kept ..⟩
  | .ptpAnnounceReceived .. => ⟨_, execPtpAnnounceReceived_kept ..⟩
  | .loopLockedAgain .. => ⟨_, execLoopLockedAgain_kept ..⟩
  | .sampleClockEdge .. => ⟨_, execSampleClockEdge_kept ..⟩

/-- The next state of a command keeps what every command keeps. -/
theorem exec_next_kept {c : Instr} {s t : State} (h : exec c s = .next t) : ∃ m, Kept m s t := by
  obtain ⟨m, hm⟩ := exec_outKept c s
  rw [h] at hm
  exact ⟨m, hm⟩

theorem exec_next_pending {c : Instr} {s t : State} (h : exec c s = .next t) : t.pending = s.pending :=
  (exec_next_kept h).elim fun _ k => k.queue

theorem exec_next_part {c : Instr} {s t : State} (h : exec c s = .next t) : t.part = s.part :=
  (exec_next_kept h).elim fun _ k => k.part

/-! ### One step -/

theorem step_pending_cons (c : Instr) (rest : List Instr) (s : State) :
    step { s with pending := c :: rest } = exec c { s with pending := rest } := rfl

theorem step_of_pending_cons {s : State} {c : Instr} {rest : List Instr} (h : s.pending = c :: rest) :
    step s = exec c { s with pending := rest } := by
  simp only [step, h]

theorem step_of_pending_nil {s : State} (h : s.pending = []) : step s = .next s.tick := by
  simp only [step, h]

/-- A step that answers next has run the command in front on the rest of the queue, or idled for a nanosecond on an empty queue. -/
theorem step_next_cases {s t : State} (h : step s = .next t) :
    (∃ c rest, s.pending = c :: rest ∧ exec c { s with pending := rest } = .next t) ∨ (s.pending = [] ∧ t = s.tick) := by
  cases hp : s.pending with
  | nil =>
    rw [step_of_pending_nil hp] at h
    exact .inr ⟨rfl, (Host.Outcome.next.inj h).symm⟩
  | cons c rest =>
    rw [step_of_pending_cons hp] at h
    exact .inl ⟨c, rest, rfl, h⟩

end Sys2Proof.Machine

open Sys2Proof Sys2Proof.Machine

/-- Settles O4: the laws of the commands, put together over the dispatcher. -/
theorem commandsKeepQueueAndPart : Obligations.CommandsKeepQueueAndPart := by
  intro c s t h
  exact ⟨exec_next_pending h, exec_next_part h⟩

/-- Settles O5: either the front command has run on the rest of the queue, or a nanosecond has passed on an empty one. -/
theorem stepTakesTheFrontOrIdles : Obligations.StepTakesTheFrontOrIdles := by
  intro s t h
  obtain ⟨c, rest, hp, hc⟩ | ⟨hp, rfl⟩ := step_next_cases h
  · have hq := exec_next_pending hc
    have hpart := exec_next_part hc
    exact ⟨by rw [hq, hp, List.tail_cons], hpart, by simp [hp]⟩
  · have hk := State.tick_kept s
    exact ⟨by rw [hk.queue, hp, List.tail_nil], hk.part, fun _ => rfl⟩

/-- Settles O1: a step with a command in front is, by definition, that command on the rest of the queue. -/
theorem stepRunsTheCommandInFront : Obligations.StepRunsTheCommandInFront := step_pending_cons

end

section
/-! Frames of commands in the terms of Safety: a law of what a command keeps (`exec…_kept`), whose mask lies within the mask of a list of
components, says that the command touches only that list. -/

namespace Sys2Proof.Machine

/-! ### Masks and lists of components -/

theorem Component.bit_eq_ctorIdx (c : Component) : c.bit = c.ctorIdx := by cases c <;> rfl

theorem Component.bit_inj {c d : Component} : c.bit = d.bit ↔ c = d := by
  refine ⟨fun h => ?_, congrArg bit⟩
  rw [c.bit_eq_ctorIdx, d.bit_eq_ctorIdx] at h
  rw [← Component.ofNat_ctorIdx c, h, Component.ofNat_ctorIdx]

/-- Each component of the list sets its own bit in the mask that is folded. -/
theorem Component.testBit_foldl_mask (l : List Component) (m : Nat) (c : Component) :
    (l.foldl (fun m d => m ||| 2 ^ d.bit) m).testBit c.bit = true ↔ m.testBit c.bit = true ∨ c ∈ l := by
  induction l generalizing m with
  | nil => simp only [List.foldl_nil, List.not_mem_nil, or_false]
  | cons d l ih =>
    rw [List.foldl_cons, ih, Nat.testBit_or, Nat.testBit_two_pow, Bool.or_eq_true, decide_eq_true_iff, bit_inj, List.mem_cons, or_assoc,
      eq_comm (a := d)]

/-- The mask of a list has the bit of a component exactly when the list names it. -/
theorem Component.testBit_mask (l : List Component) (c : Component) : (mask l).testBit c.bit = true ↔ c ∈ l := by
  rw [mask, testBit_foldl_mask, Nat.zero_testBit]
  exact or_iff_right Bool.false_ne_true

/-! ### From a law to a frame -/

theorem Kept.sameBut_mask {l : List Component} {s t : State} (h : Kept (Component.mask l) s t) : State.sameBut l s t :=
  h.sameBut l fun c => (Component.testBit_mask l c).1

/-- A command whose law names a mask within that of `l` touches only `l`. -/
theorem touches_of_outKept {m : Nat} {l : List Component} {c : Instr} (h : ∀ s, OutKept m s (exec c s))
    (hm : m ||| Component.mask l = Component.mask l := by decide) : Touches l c := by
  intro s t ht
  have hk := h s
  rw [ht] at hk
  exact (Kept.mono hk hm).sameBut_mask

/-! ### Word cells -/

/-- The operations of a word cell, in the order of their codes (R219, Table 9-3). -/
def wordCellOperations (cell : Nat) : List Instr :=
  [.wcPass cell, .wcAdd cell, .wcSub cell, .wcAnd cell, .wcOr cell, .wcXor cell, .wcNot cell, .wcShl cell, .wcShr cell, .wcSar cell,
    .wcRol cell, .wcMullo cell, .wcMulhu cell, .wcMulhs cell, .wcEq cell, .wcLtu cell, .wcLts cell, .wcMinu cell, .wcMaxu cell,
    .wcSel cell, .wcBit cell, .wcPop cell, .wcInc cell, .wcNop cell]

/-- Whatever the code, each is one edge of the cell: their frame is that of `execCell`. -/
theorem exec_wordCellOperation {cell : Nat} {c : Instr} (hc : c ∈ wordCellOperations cell) :
    ∃ op, ∀ s, exec c s = .next (s.execCell op cell) := by
  simp only [wordCellOperations, List.mem_cons, List.not_mem_nil, or_false] at hc
  obtain rfl | rfl | rfl | rfl | rfl | rfl | rfl | rfl | rfl | rfl | rfl | rfl | rfl | rfl | rfl | rfl | rfl | rfl | rfl | rfl | rfl |
    rfl | rfl | rfl := hc <;> exact ⟨_, fun _ => rfl⟩

theorem exec_wordCellOperation_kept {cell : Nat} {c : Instr} (hc : c ∈ wordCellOperations cell) (s : State) :
    OutKept 0x1ffc10118681e80552 s (exec c s) := by
  obtain ⟨op, h⟩ := exec_wordCellOperation hc
  rw [h]
  exact State.execCell_kept s op cell

/-! ### Parking, service and leaving -/

theorem exec_parkServiceLeave_kept {req : Nat} {c : Instr} (hc : c ∈ [Instr.park req, .service req, .leave req]) (s : State) :
    OutKept 0x400700004352086db s (exec c s) := by
  simp only [List.mem_cons, List.not_mem_nil, or_false] at hc
  obtain rfl | rfl | rfl := hc
  · exact execPark_kept req s
  · exact execService_kept req s
  · exact execLeave_kept req s

end Sys2Proof.Machine

open Sys2Proof Sys2Proof.Machine

/-- Settles O59: the mask of each command's law is that of the list beside the command. -/
theorem framesOfArrayAndCellCommands : Obligations.FramesOfArrayAndCellCommands := by
  refine ⟨fun _ _ hc => ?parkServiceLeave, fun _ _ hc => ?wordCell, fun access => ?guestAccess, fun lane notice => ?laneNotice,
    ?tamper, ?brownOut⟩
  case parkServiceLeave => exact touches_of_outKept (exec_parkServiceLeave_kept hc)
  case wordCell => exact touches_of_outKept (exec_wordCellOperation_kept hc)
  case guestAccess => exact touches_of_outKept (execGuestAccess_kept access)
  case laneNotice => exact touches_of_outKept (execLaneNoticeReceived_kept lane notice)
  case tamper => exact touches_of_outKept execTamperEvent_kept
  case brownOut => exact touches_of_outKept execBrownOut_kept

end

section
/-! What the effects of several commands rest on: fields of a number, what the list of a sparse array names, the frame of a next state,
and a refused write. Here and below the theorems are elaborated one after another (Elab.async false), as those of Laws/Kept are: many
small proofs that wait for one another in parallel cost a thread each. -/

set_option Elab.async false

namespace Sys2Proof.Machine

/-! ### Fields of a number -/

/-- A field reads the same in the number's lower bits, where they hold all of it. -/
theorem bits_mod_two_pow (x : Nat) {lo n k : Nat} (h : lo + n ≤ k) : bits (x % 2 ^ k) lo n = bits x lo n := by
  apply Nat.eq_of_testBit_eq
  intro i
  simp only [bits, Nat.testBit_mod_two_pow, Nat.testBit_shiftRight]
  by_cases hi : i < n
  · simp [hi, show lo + i < k by omega]
  · simp [hi]

/-- A field reads the same in the number's upper bits, where they hold all of it. -/
theorem bits_div_two_pow (x : Nat) {lo n k : Nat} (h : k ≤ lo) : bits (x / 2 ^ k) (lo - k) n = bits x lo n := by
  unfold bits
  rw [Nat.shiftRight_eq_div_pow, Nat.shiftRight_eq_div_pow, Nat.div_div_eq_div_mul, ← Nat.pow_add, Nat.add_sub_cancel' h]

/-- A write of a field, as the part above it, the field and the part below it. -/
theorem setBits_eq (x lo n v : Nat) : setBits x lo n v = 2 ^ (lo + n) * (x / 2 ^ (lo + n)) + (v % 2 ^ n * 2 ^ lo + x % 2 ^ lo) := by
  have hx := Nat.div_add_mod x (2 ^ lo)
  have hq := Nat.div_add_mod (x / 2 ^ lo) (2 ^ n)
  rw [Nat.div_div_eq_div_mul, ← Nat.pow_add] at hq
  have hsum : 2 ^ lo * (x / 2 ^ lo) = 2 ^ (lo + n) * (x / 2 ^ (lo + n)) + (x / 2 ^ lo % 2 ^ n) * 2 ^ lo := by
    calc 2 ^ lo * (x / 2 ^ lo) = 2 ^ lo * (2 ^ n * (x / 2 ^ (lo + n)) + x / 2 ^ lo % 2 ^ n) := by rw [hq]
      _ = _ := by rw [Nat.mul_add, ← Nat.mul_assoc, ← Nat.pow_add, Nat.mul_comm (2 ^ lo) (x / 2 ^ lo % 2 ^ n)]
  unfold setBits bits
  rw [Nat.shiftRight_eq_div_pow]
  omega

theorem field_and_below_lt (x lo n v : Nat) : v % 2 ^ n * 2 ^ lo + x % 2 ^ lo < 2 ^ (lo + n) := by
  have hv : v % 2 ^ n + 1 ≤ 2 ^ n := Nat.mod_lt _ (Nat.two_pow_pos n)
  calc v % 2 ^ n * 2 ^ lo + x % 2 ^ lo < v % 2 ^ n * 2 ^ lo + 2 ^ lo := Nat.add_lt_add_left (Nat.mod_lt _ (Nat.two_pow_pos lo)) _
    _ = (v % 2 ^ n + 1) * 2 ^ lo := (Nat.add_one_mul _ _).symm
    _ ≤ 2 ^ n * 2 ^ lo := Nat.mul_le_mul_right _ hv
    _ = 2 ^ (lo + n) := by rw [Nat.pow_add, Nat.mul_comm]

theorem bits_setBits_same (x lo n v : Nat) : bits (setBits x lo n v) lo n = v % 2 ^ n := by
  rw [← bits_mod_two_pow _ (Nat.le_refl (lo + n)), setBits_eq, Nat.mul_add_mod, Nat.mod_eq_of_lt (field_and_below_lt x lo n v), bits,
    Nat.shiftRight_eq_div_pow, Nat.mul_comm, Nat.mul_add_div (Nat.two_pow_pos lo), Nat.div_eq_of_lt (Nat.mod_lt _ (Nat.two_pow_pos lo)),
    Nat.add_zero, Nat.mod_mod]

/-- A write of a field leaves the fields that lie apart from it. -/
theorem bits_setBits_apart (x v : Nat) {lo n lo' n' : Nat} (h : lo' + n' ≤ lo ∨ lo + n ≤ lo') :
    bits (setBits x lo n v) lo' n' = bits x lo' n' := by
  rcases h with below | above
  · rw [← bits_mod_two_pow _ below, ← bits_mod_two_pow x below, setBits_eq, Nat.pow_add, Nat.mul_assoc, Nat.mul_comm _ (2 ^ lo),
      Nat.mul_add_mod, Nat.mul_add_mod, Nat.mod_mod]
  · rw [← bits_div_two_pow _ above, ← bits_div_two_pow x above, setBits_eq, Nat.mul_add_div (Nat.two_pow_pos _),
      Nat.div_eq_of_lt (field_and_below_lt x lo n v), Nat.add_zero]

/-- A choice by either of two equivalent conditions (Mathlib's if_congr, which this text's package does without). -/
theorem ite_of_iff {α : Sort u} {p q : Prop} [Decidable p] [Decidable q] {a b : α} (h : p ↔ q) :
    (if p then a else b) = if q then a else b :=
  ite_congr (propext h) (fun _ => rfl) (fun _ => rfl)

/-- The frame of a next state, from what its command keeps. -/
theorem sameBut_of_outKept {m : Nat} {l : List Component} {s t : State} {o : Host.Outcome State Fault Refusal} (h : OutKept m s o)
    (ho : o = .next t) (hm : m ||| Component.mask l = Component.mask l := by decide) : s.sameBut l t := by
  rw [ho] at h
  exact (Kept.mono h hm).sameBut_mask

/-! ### Sparse arrays -/

namespace Sparse

variable {α : Type} [DecidableEq α] (d : Nat → α)

/-- The list of a canonical array names a key exactly with what the key reads as. -/
theorem mem_iff_get_of_wfFrom {lo : Nat} {m : Sparse α} (h : wfFrom d lo m = true) {k : Nat} {v : α} (hv : v ≠ d k) :
    (k, v) ∈ m ↔ get d m k = v := by
  induction m generalizing lo with
  | nil => simp [get, hv.symm]
  | cons e m ih =>
    obtain ⟨j, w⟩ := e
    obtain ⟨-, -, hm⟩ := (wfFrom_cons d lo j w m).1 h
    by_cases hk : k = j
    · subst hk
      have hout : (k, v) ∉ m := by
        rw [ih hm, get_of_lt d m _ _ hm (Nat.lt_succ_self k)]
        exact hv.symm
      simp [get, hout, eq_comm]
    · rw [List.mem_cons, or_iff_right (by simp [hk]), ih hm]
      simp only [get, if_neg hk]
      split
      next hlt => rw [get_of_lt d m _ _ hm (by omega)]
      next => rfl

theorem mem_iff_get {m : Sparse α} (h : wf d m = true) {k : Nat} {v : α} (hv : v ≠ d k) : (k, v) ∈ m ↔ get d m k = v :=
  mem_iff_get_of_wfFrom d h hv

end Sparse

/-! ### Refusals -/

/-- A write refused with 0x9011 logs the requester and the entry, answers, and changes nothing else. -/
theorem State.refuse_9011 (s : State) (req key : Nat) :
    s.logged (s.refuse req key 0x9011) 0x9011 srcHub (accessArg req key) ∧ (s.refuse req key 0x9011).answer = refusedAnswer req ∧
      s.sameBut [.answer, .mgmtClock, .log] (s.refuse req key 0x9011) :=
  ⟨(s.logAs_logged 0x9011 .refused srcHub (accessArg req key)).of rfl rfl, rfl, ((s.refuse_kept req key 0x9011).up).sameBut_mask⟩

end Sys2Proof.Machine
end

section
/-! The events of word cells and what stands beside them: results, strobes and crossing bytes land, the staged release advances, a probe
select is written, a credit returns. -/

set_option Elab.async false

namespace Sys2Proof.Machine

/-! ### Cells of the fabric -/

theorem Fabric.cell_setCell_same {f : Fabric} (h : Sparse.wf (fun _ => WordCell.zero) f.cells = true) (k : Nat) (c : WordCell) :
    (f.setCell k c).cell k = c := Sparse.get_set_same _ _ _ _ h

theorem Fabric.cell_setCell_ne {f : Fabric} (h : Sparse.wf (fun _ => WordCell.zero) f.cells = true) {k j : Nat} (hj : j ≠ k) (c : WordCell) :
    (f.setCell k c).cell j = f.cell j := Sparse.get_set_ne _ _ _ _ _ h hj

theorem Fabric.setCell_cells_wf {f : Fabric} (h : Sparse.wf (fun _ => WordCell.zero) f.cells = true) (k : Nat) (c : WordCell) :
    Sparse.wf (fun _ => WordCell.zero) (f.setCell k c).cells = true := Sparse.set_wf _ _ _ _ h

@[simp] theorem Fabric.putCell_cells (f : Fabric) (k : Nat) (c : WordCell) : (f.putCell k c).cells = (f.setCell k c).cells := by
  unfold Fabric.putCell
  dsimp only
  split <;> rfl

/-- Beside the cells, new elements may count edges of tracks. -/
theorem Fabric.putCell_eq (f : Fabric) (k : Nat) (c : WordCell) :
    f.putCell k c = { f with cells := (f.setCell k c).cells, trackEdges := (f.putCell k c).trackEdges } := by
  unfold Fabric.putCell
  dsimp only
  split <;> rfl

theorem Fabric.cell_putCell (f : Fabric) (k j : Nat) (c : WordCell) : (f.putCell k c).cell j = (f.setCell k c).cell j := by
  unfold Fabric.cell
  rw [putCell_cells]

theorem State.withFabric_putCell_sameBut (s : State) (k : Nat) (c : Fabric → WordCell) :
    s.sameBut [.fabCells, .fabTrackEdges] (s.withFabric fun f => f.putCell k (c f)) := by
  have h := State.withFabric_kept (m := Component.mask [.fabCells, .fabTrackEdges]) s
    (fun f => { f with cells := (f.setCell k (c f)).cells, trackEdges := (f.putCell k (c f)).trackEdges })
  simp only [← Fabric.putCell_eq] at h
  exact h.sameBut_mask

/-! ### Results land (R220) -/

theorem WordCell.land_eq (c : WordCell) (l : Landing) : c.land l = { c with
    t0 := if l.dst = 0 then l.value else c.t0
    t1 := if l.dst = 1 then l.value else c.t1
    t2 := if l.dst = 2 then l.value else c.t2
    t3 := if l.dst = 3 then l.value else c.t3
    out := if l.dst = 4 then l.value else c.out
    flag := l.flag.getD c.flag } := by
  obtain ⟨dst, value, flag, left⟩ := l
  match dst, flag with
  | 0, some _ | 0, none | 1, some _ | 1, none | 2, some _ | 2, none | 3, some _ | 3, none | 4, some _ | 4, none => rfl
  | n + 5, some _ | n + 5, none => rfl

/-- The value that the landings `l` leave in destination `d`, which held `v`: the last one's. -/
def lastLanded (l : List Landing) (d : Nat) (v : BitVec 32) : BitVec 32 :=
  ((l.filter fun x => x.dst == d).getLast?.map Landing.value).getD v

theorem lastLanded_cons (x : Landing) (l : List Landing) (d : Nat) (v : BitVec 32) :
    lastLanded (x :: l) d v = lastLanded l d (if x.dst = d then x.value else v) := by
  unfold lastLanded
  by_cases h : x.dst = d
  · rw [List.filter_cons_of_pos (p := fun x : Landing => x.dst == d) (beq_iff_eq.2 h), List.getLast?_cons, if_pos h]
    cases (l.filter fun x => x.dst == d).getLast? <;> rfl
  · rw [List.filter_cons_of_neg (p := fun x : Landing => x.dst == d) (mt beq_iff_eq.1 h), if_neg h]

theorem lastFlag_cons (x : Landing) (l : List Landing) (v : Bool) :
    ((x :: l).filterMap Landing.flag).getLast?.getD v = (l.filterMap Landing.flag).getLast?.getD (x.flag.getD v) := by
  cases h : x.flag with
  | none => rw [List.filterMap_cons_none h, Option.getD_none]
  | some b =>
    rw [List.filterMap_cons_some h, List.getLast?_cons]
    cases (l.filterMap Landing.flag).getLast? <;> rfl

theorem WordCell.foldl_land (c : WordCell) (l : List Landing) : l.foldl WordCell.land c = { c with
    t0 := lastLanded l 0 c.t0
    t1 := lastLanded l 1 c.t1
    t2 := lastLanded l 2 c.t2
    t3 := lastLanded l 3 c.t3
    out := lastLanded l 4 c.out
    flag := (l.filterMap Landing.flag).getLast?.getD c.flag } := by
  induction l generalizing c with
  | nil => rfl
  | cons x l ih => simp only [List.foldl_cons, ih, land_eq, lastLanded_cons, lastFlag_cons]

/-- WC_RESULT_LAND puts the results that are due into the cell. -/
theorem wcResultLand_effect {s : State} {k : Nat} (hw : Sparse.wf (fun _ => WordCell.zero) s.fabric.cells = true)
    (hk : s.cellLive k = true) : Completes (.wcResultLand k) s fun u =>
      u.fabric.cell k = (s.fabric.cell k).landDue ∧ (∀ m, m ≠ k → u.fabric.cell m = s.fabric.cell m) ∧
        s.sameBut [.fabCells, .fabTrackEdges] u := by
  refine ⟨_, congrArg Host.Outcome.next (if_pos hk), ?own, fun m hm => ?others, State.withFabric_putCell_sameBut s k _⟩
  case own => exact (Fabric.cell_putCell ..).trans (Fabric.cell_setCell_same hw ..)
  case others => exact (Fabric.cell_putCell ..).trans (Fabric.cell_setCell_ne hw hm _)

/-- CROSSING_STROBE_SET sets the strobe that is due. -/
theorem crossingStrobeSet_effect {s : State} {k : Nat} (hw : Sparse.wf (fun _ => WordCell.zero) s.fabric.cells = true)
    (hk : s.cellLive k = true) : Completes (.crossingStrobeSet k) s fun u =>
      u.fabric.cell k = (s.fabric.cell k).strobeDue ∧ (∀ m, m ≠ k → u.fabric.cell m = s.fabric.cell m) ∧ s.sameBut [.fabCells] u :=
  have he := congrArg Host.Outcome.next (if_pos hk)
  ⟨_, he, Fabric.cell_setCell_same hw .., fun _ hm => Fabric.cell_setCell_ne hw hm _,
    sameBut_of_outKept (execCrossingStrobeSet_kept k s) he⟩

theorem WordCell.strobeDue_eq {c : WordCell} (h : ∃ n ∈ c.sinceLoad, 2 ≤ n) :
    c.strobeDue = { c with strobe := true, sinceLoad := c.sinceLoad.filter fun n => decide (n < 2) } := by
  unfold WordCell.strobeDue
  rw [if_pos (by simpa using h)]

/-! ### A crossing byte lands (R233) -/

theorem NibArray.cluster_setCluster_same {a : NibArray} (h : Sparse.wf (fun _ => Cluster.zero) a.clusters = true) (k : Nat) (c : Cluster) :
    (a.setCluster k c).cluster k = c := Sparse.get_set_same _ _ _ _ h

theorem NibArray.cluster_setCluster_ne {a : NibArray} (h : Sparse.wf (fun _ => Cluster.zero) a.clusters = true) {k j : Nat} (hj : j ≠ k)
    (c : Cluster) : (a.setCluster k c).cluster j = a.cluster j := Sparse.get_set_ne _ _ _ _ _ h hj

/-- The cluster's staging register with byte `b` written in the byte of cell `k`. -/
def Cluster.stage (x : Cluster) (k b : Nat) : Cluster :=
  { x with staging := BitVec.ofNat 64 (setBits x.staging.toNat (8 * (k % 8)) 8 b) }

/-- A byte of the staging register, as the number in it is read. -/
theorem Cluster.stage_field (x : Cluster) (k b : Nat) {i : Nat} (hi : i < 8) :
    bits (x.stage k b).staging.toNat (8 * i) 8 = bits (setBits x.staging.toNat (8 * (k % 8)) 8 b) (8 * i) 8 := by
  rw [stage, BitVec.toNat_ofNat, bits_mod_two_pow _ (by omega)]

theorem Cluster.stage_own (x : Cluster) (k b : Nat) : bits (x.stage k b).staging.toNat (8 * (k % 8)) 8 = b % 2 ^ 8 := by
  rw [stage_field x k b (Nat.mod_lt _ (by decide)), bits_setBits_same]

theorem Cluster.stage_other (x : Cluster) (k b : Nat) {i : Nat} (hi : i < 8) (hk : i ≠ k % 8) :
    bits (x.stage k b).staging.toNat (8 * i) 8 = bits x.staging.toNat (8 * i) 8 := by
  rw [stage_field x k b hi, bits_setBits_apart _ _ (by omega)]

theorem State.landStagings_single {s : State} {k b n : Nat} (h : s.fabric.dueStagings k = [(b, n)]) :
    s.landStagings k = (s.withArr fun a => a.setCluster (k / 8) ((a.cluster (k / 8)).stage k b)).withFabric fun f =>
      f.setCell k { f.cell k with stagings := (f.cell k).stagings.drop 1 } := by
  unfold State.landStagings
  rw [h]
  rfl

/-- STAGING_BYTE_WRITE writes the one byte that is due to the cluster's staging register, and takes it from the cell. -/
theorem stagingByteWrite_effect {s : State} {k b n : Nat} (hw : Sparse.wf (fun _ => WordCell.zero) s.fabric.cells = true)
    (hc : Sparse.wf (fun _ => Cluster.zero) s.arr.clusters = true) (hk : s.cellLive k = true) (hb : s.fabric.dueStagings k = [(b, n)]) :
    Completes (.stagingByteWrite k) s fun u =>
      u.arr.cluster (k / 8) = (s.arr.cluster (k / 8)).stage k b ∧
      u.fabric.cell k = { s.fabric.cell k with stagings := (s.fabric.cell k).stagings.drop 1 } ∧
      (∀ m, m ≠ k / 8 → u.arr.cluster m = s.arr.cluster m) ∧ s.sameBut [.fabCells, .arrClusters] u := by
  have he : exec (.stagingByteWrite k) s = .next _ := congrArg Host.Outcome.next ((if_pos hk).trans (State.landStagings_single hb))
  exact ⟨_, he, NibArray.cluster_setCluster_same hc .., Fabric.cell_setCell_same hw .., fun m hm => NibArray.cluster_setCluster_ne hc hm _,
    sameBut_of_outKept (execStagingByteWrite_kept k s) he⟩

/-! ### The staged release (R237) -/

theorem Fabric.stage_setStage_same {f : Fabric} (h : Sparse.wf (fun _ => 0) f.release = true) (tk v : Nat) :
    (f.setStage tk v).stage tk = v := Sparse.get_set_same _ _ _ _ h

theorem Fabric.stage_setStage_ne {f : Fabric} (h : Sparse.wf (fun _ => 0) f.release = true) {tk j : Nat} (hj : j ≠ tk) (v : Nat) :
    (f.setStage tk v).stage j = f.stage j := Sparse.get_set_ne _ _ _ _ _ h hj

/-- Stages written one after another change nothing of the fabric but the stages. -/
theorem Fabric.foldl_setStage_eq (f : Fabric) (l : List (Nat × Nat)) (b : Nat) :
    l.foldl (fun f e => f.setStage e.1 b) f = { f with release := (l.foldl (fun f e => f.setStage e.1 b) f).release } := by
  induction l generalizing f with
  | nil => rfl
  | cons e l ih =>
    rw [List.foldl_cons, ih]
    rfl

theorem Fabric.stage_foldl_setStage {f : Fabric} (h : Sparse.wf (fun _ => 0) f.release = true) (l : List (Nat × Nat)) (b tk : Nat) :
    (l.foldl (fun f e => f.setStage e.1 b) f).stage tk = if tk ∈ l.map Prod.fst then b else f.stage tk := by
  induction l generalizing f with
  | nil => rfl
  | cons e l ih =>
    rw [List.foldl_cons, ih (Sparse.set_wf _ _ _ _ h), List.map_cons]
    by_cases hl : tk ∈ l.map Prod.fst
    · rw [if_pos hl, if_pos (List.mem_cons_of_mem _ hl)]
    · by_cases he : tk = e.1
      · rw [if_neg hl, he, stage_setStage_same h, if_pos List.mem_cons_self]
      · rw [if_neg hl, stage_setStage_ne h he, if_neg (by simp [he, hl])]

/-- The tiles at a stage that is not 0 are the listed ones. -/
theorem Fabric.mem_tilesAt {f : Fabric} (h : Sparse.wf (fun _ => 0) f.release = true) {n tk : Nat} (hn : n ≠ 0) :
    tk ∈ f.tilesAt n ↔ f.stage tk = n := by
  rw [Fabric.stage, ← Sparse.mem_iff_get _ h hn]
  simp [Fabric.tilesAt]

theorem Fabric.advance_eq (f : Fabric) (a b : Nat) : f.advance a b = { f with release := (f.advance a b).release } :=
  foldl_setStage_eq f _ b

theorem Fabric.stage_advance {f : Fabric} (h : Sparse.wf (fun _ => 0) f.release = true) {a : Nat} (ha : a ≠ 0) (b tk : Nat) :
    (f.advance a b).stage tk = if f.stage tk = a then b else f.stage tk := by
  unfold Fabric.advance
  rw [stage_foldl_setStage h]
  exact ite_of_iff (mem_tilesAt h ha)

/-- RELEASE_WRITE_ENABLE takes every tile from stage 1 to 2. -/
theorem releaseWriteEnable_effect {s : State} (h : Sparse.wf (fun _ => 0) s.fabric.release = true) :
    Completes .releaseWriteEnable s fun u =>
      (∀ tk : Nat, u.fabric.stage tk = if s.fabric.stage tk = 1 then 2 else s.fabric.stage tk) ∧ s.sameBut [.fabRelease] u := by
  refine ⟨_, rfl, Fabric.stage_advance h (by decide) 2, ?_⟩
  have hk := State.withFabric_kept (m := Component.mask [.fabRelease]) s fun f => { f with release := (f.advance 1 2).release }
  simp only [← Fabric.advance_eq] at hk
  exact hk.sameBut_mask

/-- Operations that change nothing of the fabric but its cells do so one after another. -/
theorem Fabric.foldl_cells_eq {α : Type} {g : Fabric → α → Fabric} (hg : ∀ f a, g f a = { f with cells := (g f a).cells }) (l : List α)
    (f : Fabric) : l.foldl g f = { f with cells := (l.foldl g f).cells } := by
  induction l generalizing f with
  | nil => rfl
  | cons a l ih =>
    rw [List.foldl_cons, ih (g f a), hg f a]

theorem Fabric.startCells_eq (f : Fabric) (tk : Nat) : f.startCells tk = { f with cells := (f.startCells tk).cells } :=
  foldl_cells_eq (g := fun f k => f.setCell k { f.cell k with pc := 0 }) (fun _ _ => rfl) _ f

theorem Fabric.startCells_cellKeys (f : Fabric) (tk : Nat) : (f.startCells tk).cellKeys = f.cellKeys := by
  rw [startCells_eq]
  rfl

/-- PC at 0 in each cell of a list, and in no other. -/
theorem Fabric.foldl_start {f : Fabric} (h : Sparse.wf (fun _ => WordCell.zero) f.cells = true) (l : List Nat) :
    Sparse.wf (fun _ => WordCell.zero) (l.foldl (fun f k => f.setCell k { f.cell k with pc := 0 }) f).cells = true ∧
      ∀ k : Nat, (l.foldl (fun f k => f.setCell k { f.cell k with pc := 0 }) f).cell k =
        if k ∈ l then { f.cell k with pc := 0 } else f.cell k := by
  induction l generalizing f with
  | nil => exact ⟨h, fun _ => rfl⟩
  | cons j l ih =>
    obtain ⟨hw, hc⟩ := ih (setCell_cells_wf h j { f.cell j with pc := 0 })
    refine ⟨hw, fun k => (hc k).trans ?_⟩
    by_cases hk : k = j
    · subst hk
      rw [cell_setCell_same h, if_pos List.mem_cons_self, ite_self]
    · rw [cell_setCell_ne h hk]
      exact ite_of_iff (by simp [hk])

theorem Fabric.startCells_cell {f : Fabric} (h : Sparse.wf (fun _ => WordCell.zero) f.cells = true) (tk : Nat) :
    Sparse.wf (fun _ => WordCell.zero) (f.startCells tk).cells = true ∧
      ∀ k : Nat, (f.startCells tk).cell k = if k / 256 = tk ∧ k ∈ f.cellKeys then { f.cell k with pc := 0 } else f.cell k := by
  obtain ⟨hw, hc⟩ := foldl_start h (f.cellKeys.filter fun k => k / 256 == tk)
  exact ⟨hw, fun k => (hc k).trans (ite_of_iff (by simp [and_comm]))⟩

theorem Fabric.foldl_startCells_cell {f : Fabric} (h : Sparse.wf (fun _ => WordCell.zero) f.cells = true) (ts : List Nat) (k : Nat) :
    (ts.foldl Fabric.startCells f).cell k = if k / 256 ∈ ts ∧ k ∈ f.cellKeys then { f.cell k with pc := 0 } else f.cell k := by
  induction ts generalizing f with
  | nil => simp
  | cons tk ts ih =>
    obtain ⟨hw, hc⟩ := startCells_cell h tk
    rw [List.foldl_cons, ih hw, startCells_cellKeys, hc]
    by_cases hkey : k ∈ f.cellKeys
    · by_cases htk : k / 256 = tk
      · simp [hkey, htk]
      · simp [hkey, htk]
    · simp [hkey]

/-- RELEASE_CLOCK_START takes every tile from stage 2 to 3 and starts its cells. -/
theorem releaseClockStart_effect {s : State} (hr : Sparse.wf (fun _ => 0) s.fabric.release = true)
    (hc : Sparse.wf (fun _ => WordCell.zero) s.fabric.cells = true) :
    Completes .releaseClockStart s fun u =>
      (∀ tk : Nat, u.fabric.stage tk = if s.fabric.stage tk = 2 then 3 else s.fabric.stage tk) ∧
      (∀ k : Nat, u.fabric.cell k =
        if s.fabric.stage (k / 256) = 2 ∧ k ∈ s.fabric.cellKeys then { s.fabric.cell k with pc := 0 } else s.fabric.cell k) ∧
      s.sameBut [.fabRelease, .fabCells] u := by
  have hadv := Fabric.advance_eq s.fabric 2 3
  have hstart := Fabric.foldl_cells_eq Fabric.startCells_eq
  refine ⟨_, rfl, fun tk => ?stage, fun k => ?cell, ?frame⟩
  case stage =>
    rw [State.withFabric, hstart]
    exact Fabric.stage_advance hr (by decide) 3 tk
  case cell =>
    have hcells : (s.fabric.advance 2 3).cells = s.fabric.cells := by rw [hadv]
    have hkeys : (s.fabric.advance 2 3).cellKeys = s.fabric.cellKeys := by rw [hadv]; rfl
    have hcell : (s.fabric.advance 2 3).cell k = s.fabric.cell k := by rw [hadv]; rfl
    refine (Fabric.foldl_startCells_cell (hcells ▸ hc) (s.fabric.tilesAt 2) k).trans ?_
    rw [hkeys, hcell]
    exact ite_of_iff (and_congr_left fun _ => Fabric.mem_tilesAt hr (by decide))
  case frame =>
    have hk := State.withFabric_kept (m := Component.mask [.fabRelease, .fabCells]) s fun f =>
      { f with release := (f.advance 2 3).release, cells := ((f.tilesAt 2).foldl Fabric.startCells (f.advance 2 3)).cells }
    have heq (f : Fabric) : (f.tilesAt 2).foldl Fabric.startCells (f.advance 2 3) =
        { f with release := (f.advance 2 3).release, cells := ((f.tilesAt 2).foldl Fabric.startCells (f.advance 2 3)).cells } := by
      rw [hstart, Fabric.advance_eq]
    simp only [← heq] at hk
    exact hk.sameBut_mask

/-! ### The select of a probe multiplexer (R239) -/

/-- A select takes 32 bits of any value. -/
theorem entryOf_probeSelect {mux : Nat} (h : mux < 16) :
    ∃ e, entryOf (keyOf 0x2750 (mux + 1)) = some e ∧ e.type.width = 32 ∧ ∀ v, e.rule.accepts v = true := by
  have hall : ∀ m < 16, (entryOf (keyOf 0x2750 (m + 1))).map (fun e => (e.type, e.rule)) = some (.u32, .any) := by decide +kernel
  obtain ⟨e, he, htype⟩ := Option.map_eq_some_iff.1 (hall mux h)
  obtain ⟨ht, hr⟩ := Prod.mk.inj htype
  exact ⟨e, he, by rw [ht]; rfl, fun v => by rw [hr]; rfl⟩

/-- PROBE_SELECT_WRITE that no check turns away is the rule of the select. -/
theorem exec_probeSelectWrite {s : State} {req mux v : Nat} (hm : mux < 16) (hv : v < 2 ^ 32)
    (h : s.mayWrite req (keyOf 0x2750 (mux + 1)) = true) : exec (.probeSelectWrite req mux v) s = .next (
      if bits v 30 2 = 3 ∨ (bits v 30 2 ≠ 0 ∧ s.dies ≤ bits v 27 3) then s.refuse req (keyOf 0x2750 (mux + 1)) 0x9011
      else ((s.putEntry (keyOf 0x2750 (mux + 1)) (v - v % 2 ^ 15)).goldenProbe mux (v - v % 2 ^ 15)).accept) := by
  obtain ⟨e, he, hw, hr⟩ := entryOf_probeSelect hm
  refine congrArg Host.Outcome.next ((State.writingValue_eq h he (hr _) _).trans ?_)
  rw [hw, Nat.mod_eq_of_lt hv]
  exact ite_of_iff (or_iff_right (Nat.not_le.2 hm))

theorem probeSelectWrite_stores {s : State} {req mux v : Nat} (hd : Sparse.wf (defaultOf s.part.grade) s.dict = true) (hm : mux < 16)
    (hv : v < 2 ^ 32) (h : s.mayWrite req (keyOf 0x2750 (mux + 1)) = true)
    (hok : bits v 30 2 = 0 ∨ bits v 30 2 < 3 ∧ bits v 27 3 < s.dies) : Completes (.probeSelectWrite req mux v) s fun u =>
      u.entry (keyOf 0x2750 (mux + 1)) = v - v % 2 ^ 15 ∧ u.answer = .ok 0 ∧
        (∀ key, key ≠ keyOf 0x2750 (mux + 1) → u.entry key = s.entry key) ∧ s.sameBut [.answer, .mgmtClock, .dict, .fixer] u := by
  have he := exec_probeSelectWrite hm hv h
  rw [if_neg (by omega)] at he
  have hk := (s.putEntry_kept (keyOf 0x2750 (mux + 1)) (v - v % 2 ^ 15)).up (m := Component.mask [.answer, .mgmtClock, .dict, .fixer])
  exact ⟨_, he, State.entry_putEntry_same _ _ hd, rfl, fun _ hkey => State.entry_putEntry_ne _ _ hd hkey,
    (hk.trans ((Kept.upd id id).trans ((State.accept_kept _).up))).sameBut_mask⟩

theorem probeSelectWrite_refuses {s : State} {req mux v : Nat} (hm : mux < 16) (hv : v < 2 ^ 32)
    (h : s.mayWrite req (keyOf 0x2750 (mux + 1)) = true) (hbad : bits v 30 2 = 3 ∨ bits v 30 2 ≠ 0 ∧ s.dies ≤ bits v 27 3) :
    Completes (.probeSelectWrite req mux v) s fun u =>
      s.logged u 0x9011 srcHub (accessArg req (keyOf 0x2750 (mux + 1))) ∧ u.answer = refusedAnswer req ∧ u.dict = s.dict := by
  have he := exec_probeSelectWrite hm hv h
  rw [if_pos hbad] at he
  obtain ⟨hlog, hans, -, -, hsame⟩ := s.refuse_9011 req (keyOf 0x2750 (mux + 1))
  exact ⟨_, he, hlog, hans, hsame .dict (by decide)⟩

/-! ### A credit returns (R316, R245) -/

theorem State.channel_setChannel {s : State} {slot : Nat} {c : Channel} (h : s.channel slot = some c) (c' : Channel) :
    (s.setChannel slot c').channel slot = some c' := by
  obtain ⟨⟨k, x⟩, hfind, -⟩ := Option.map_eq_some_iff.1 h
  have hk : k = slot := by simpa using List.find?_some hfind
  have hkey (y : Nat × Channel) : ((if y.1 = slot then (slot, c') else y).1 == slot) = (y.1 == slot) := by
    by_cases hy : y.1 = slot <;> simp [hy]
  simp only [State.channel, State.setChannel, List.find?_map, Function.comp_def, hkey, hfind, hk, Option.map_some, if_true]

theorem creditReturnArrival_effect {s : State} {slot : Nat} {c : Channel} (h : s.channel slot = some c) (ht : c.type = 1)
    (hf : 0 < c.inFlight) : Completes (.creditReturnArrival slot) s fun u =>
      u.channel slot = some c.returnCredit ∧
      (∀ p ∈ c.port.toList, s.roomMargin (bits (s.portFrame p) 116 16) < c.credits + 1 →
        u.arr.sched.rooms = s.arr.sched.rooms.filter (fun r => r != (4, slot))) ∧ s.sameBut [.chan, .arrSched] u := by
  let r := s.setChannel slot c.returnCredit
  have hch : r.channel slot = some c.returnCredit := State.channel_setChannel h c.returnCredit
  have he : exec (.creditReturnArrival slot) s = .next (c.port.elim r fun p =>
      if r.roomMargin (bits (r.portFrame p) 116 16) < c.credits + 1 then r.clearRoom 4 slot else r) := by
    show execCreditReturnArrival slot s = _
    simp only [execCreditReturnArrival, h, ht, ne_eq, not_true_eq_false, false_or, if_neg (Nat.ne_of_gt hf)]
    cases c.port <;> rfl
  refine ⟨_, he, ?channel, fun p hp hroom => ?room, sameBut_of_outKept (execCreditReturnArrival_kept slot s) he⟩
  case channel =>
    cases c.port with
    | none => exact hch
    | some p =>
      rw [Option.elim_some]
      split <;> exact hch
  case room =>
    have hport : c.port = some p := Option.mem_toList.1 hp
    rw [hport, Option.elim_some]
    exact congrArg (fun u : State => u.arr.sched.rooms) (if_pos hroom)

end Sys2Proof.Machine

open Sys2Proof Sys2Proof.Machine

/-- Settles O30: each event by the lemma of its effect on the fabric's cells, the staging registers, the stages or the channel. -/
theorem cellEventsTakeEffect : Obligations.CellEventsTakeEffect := by
  intro s hcells hclusters hrelease hdict
  refine ⟨fun k hk => ⟨?landing, ?strobe, ?staging⟩, releaseWriteEnable_effect hrelease, releaseClockStart_effect hrelease hcells,
    fun req mux v hm hv hw => ⟨probeSelectWrite_stores hdict hm hv hw, probeSelectWrite_refuses hm hv hw⟩,
    fun slot c => creditReturnArrival_effect⟩
  case landing =>
    rintro x due rfl rfl
    obtain ⟨u, hu, hcell, hother, hsame⟩ := wcResultLand_effect hcells hk
    refine ⟨u, hu, hcell.trans ?_, hother, hsame⟩
    rw [WordCell.landDue, WordCell.foldl_land]
    rfl
  case strobe =>
    intro hdue
    rw [← WordCell.strobeDue_eq hdue]
    exact crossingStrobeSet_effect hcells hk
  case staging =>
    intro b n hb hlt
    obtain ⟨u, hu, hstage, hcell, hother, hsame⟩ := stagingByteWrite_effect hcells hclusters hk hb
    rw [← Nat.mod_eq_of_lt hlt]
    exact ⟨u, hu, hstage ▸ Cluster.stage_own .., fun i hi hne => hstage ▸ Cluster.stage_other _ _ _ hi hne, hcell, hother, hsame⟩

end

section
/-! The cycle mark, the latched records and the notices of domain peers. -/

set_option Elab.async false

namespace Sys2Proof.Machine

/-! ### The mark, the boundary record and the cycle count (R106, R211, R212) -/

theorem exec_markControlWrite {s : State} {req v : Nat} (h : s.mayWrite req 0x214103 = true) (hv : inRange 0x214103 v = true) :
    exec (.markControlWrite req v) s = .next (((s.putEntry 0x214103 (v % 2 ^ 5)).withRun fun r =>
      { r with markArmed := bit v 0, markDone := r.markDone && !bit v 0 }).accept) := by
  obtain ⟨e, he, htype⟩ : ∃ e, entryOf 0x214103 = some e ∧ e.type = .u8 := by decide +kernel
  simp only [inRange, he] at hv
  have hbit : bit (v % 2 ^ 8) 0 = bit v 0 := by simp [bit]
  refine congrArg Host.Outcome.next ((State.writingValue_eq h he hv _).trans ?_)
  rw [htype, EntryType.width, hbit, Nat.mod_mod_of_dvd v (by decide : 2 ^ 5 ∣ 2 ^ 8)]

theorem markControlWrite_effect {s : State} {req v : Nat} (h : s.mayWrite req 0x214103 = true) (hv : inRange 0x214103 v = true)
    (hd : Sparse.wf (defaultOf s.part.grade) s.dict = true) : Completes (.markControlWrite req v) s fun t =>
      t.entry 0x214103 = v % 2 ^ 5 ∧ t.answer = .ok 0 ∧
        t.run = { s.run with markArmed := bit v 0, markDone := s.run.markDone && !bit v 0 } ∧
          s.sameBut [.answer, .mgmtClock, .run, .dict] t := by
  have hput := (s.putEntry_kept 0x214103 (v % 2 ^ 5)).up (m := Component.mask [.answer, .mgmtClock, .run, .dict])
  exact ⟨_, exec_markControlWrite h hv, State.entry_putEntry_same (s := s) _ _ hd, rfl, rfl,
    (hput.trans ((State.withRun_kept ..).trans ((State.accept_kept _).up))).sameBut_mask⟩

theorem boundaryRecordRead_effect {s : State} {req : Nat} (h : s.reaches req 0x214001 false = true) :
    Completes (.boundaryRecordRead req) s fun t => t.answer = .ok (s.run.lastCycle % 2 ^ 32) ∧
      t.run = { s.run with latchedCycle := s.run.lastCycle, latchedStart := s.run.lastStart } ∧
        s.sameBut [.answer, .mgmtClock, .run] t := by
  refine ⟨_, congrArg Host.Outcome.next (State.reading_eq h _), rfl, rfl, ?_⟩
  exact ((State.withRun_kept ..).trans ((State.reply_kept ..).up)).sameBut_mask

theorem cycleCountRead_effect {s : State} {req : Nat} (h : s.reaches req 0x213001 false = true) :
    Completes (.cycleCountRead req) s fun t => t.answer = .ok (s.arr.sched.cycle % 2 ^ 32) ∧
      t.arr.sched = { s.arr.sched with cycleHigh := s.arr.sched.cycle / 2 ^ 32 % 2 ^ 32 } ∧
        s.sameBut [.answer, .mgmtClock, .arrSched] t := by
  refine ⟨_, congrArg Host.Outcome.next (State.reading_eq h _), rfl, rfl, ?_⟩
  exact (((State.withSched_kept ..).up).trans ((State.reply_kept ..).up)).sameBut_mask

/-! ### What a notice does over its lane (R130) -/

/-- Over a pinned lane of the domain every notice is taken. -/
theorem exec_laneNotice_pinned {s : State} {l : Nat} (h : s.noticeLane l = true) (n : Notice) :
    exec (.laneNoticeReceived l n) s = .next (s.takeNotice l n) :=
  congrArg Host.Outcome.next (if_pos (by rw [h, Bool.true_or]))

/-- Over a domain lane that is up, a latency and a start are taken, pinned or not. -/
theorem exec_laneNotice_told {s : State} {l : Nat} {n : Notice} (hl : (s.domainLane l).isSome = true) (hu : (s.lane l).up = true)
    (hn : toldBeforeStart n = true) : exec (.laneNoticeReceived l n) s = .next (s.takeNotice l n) :=
  congrArg Host.Outcome.next (if_pos (by rw [hl, hu, hn, Bool.and_true, Bool.and_true, Bool.or_true]))

/-- A stall that is added stands, joined with another of its slot, and waits for at least the peers that it names. -/
theorem State.addStall_stands (s : State) (st : Stall) :
    (s.addStall st).arr.sched.stalls.any (fun x => x.cycle == st.cycle && x.slot == st.slot && decide (st.peers ≤ x.peers)) = true := by
  have hstalls (t : State) (h : t.arr = s.arr) : t.arr.sched.stalls = s.arr.sched.stalls := by rw [h]
  unfold State.addStall State.withSched
  dsimp only
  rw [hstalls _ (by split <;> rfl), List.any_eq_true]
  split
  case isTrue hsame =>
    obtain ⟨x, hx, hxs⟩ := List.any_eq_true.1 hsame
    refine ⟨_, List.mem_map_of_mem hx, ?_⟩
    rw [if_pos hxs]
    simpa using hxs
  case isFalse => exact ⟨st, by simp, by simp⟩

/-- The notice of a peer's stall is not told on. -/
theorem State.addStall_peer_kept (s : State) (cycle slot peers : Nat) : Kept 0x100000000000 s (s.addStall ⟨cycle, slot, [], [], peers⟩) := by
  unfold State.addStall
  simp only [List.isEmpty_nil, Bool.and_true, Bool.not_true, Bool.and_false, Bool.false_and, Bool.false_eq_true, if_false]
  exact State.withSched_kept ..

/-- A stop or a vote of a peer is not told on: while the array runs it waits for its boundary (R120). -/
theorem State.peerStop_running {s : State} (h : s.arr.sched.run = .running) {b : Nat} (hb : b = 2 ∨ b = 3) (cycle st : Nat) :
    s.peerStop b cycle st = s.withSched fun c =>
      { c with stops := c.stops ++ [⟨b, max (stopCycle s.L s.lead cycle st) c.cycle, cycle, st, hubUnit, 0⟩] } := by
  unfold State.peerStop State.raiseStopAt
  rcases hb with rfl | rfl <;> simp [h]

theorem State.setPoint_peerPoints (s : State) (p : Nat) : (s.setPoint p).arr.sched.peerPoints = s.arr.sched.peerPoints := by
  have hoffer (t : State) (src kind payload : Nat) : (t.offer src kind payload).arr.sched = t.arr.sched :=
    ((t.offer_kept src kind payload).same .arrSched).resolve_left (by decide)
  unfold State.setPoint
  dsimp only
  split
  · rfl
  · split
    · rw [hoffer]; rfl
    · rfl

theorem State.demandAt_peerPoints (s : State) (n st : Nat) (raised : List (Nat × Nat)) :
    (s.demandAt n st raised).arr.sched.peerPoints = s.arr.sched.peerPoints := by
  unfold State.demandAt
  dsimp only
  split
  · rfl
  · rw [setPoint_peerPoints]; rfl

/-! ### The start that member 0 names (R128, R129, R197) -/

/-- What leaves both parts of run control alone leaves run control. -/
theorem Kept.run_eq {m : Nat} {s t : State} (h : Kept m s t) (hr : ¬ m.testBit Component.run.bit = true := by decide)
    (hs : ¬ m.testBit Component.runStop.bit = true := by decide) : t.run = s.run := by
  have hrun : Component.agree s t .run := (h.same .run).resolve_left hr
  obtain ⟨hcause, hfault⟩ := Prod.mk.inj ((h.same .runStop).resolve_left hs)
  have hall := congrArg (fun r : RunCtl => { r with stopCause := t.run.stopCause, stopFault := t.run.stopFault }) hrun
  rw [hcause, hfault] at hall
  calc t.run = { t.run with stopCause := s.run.stopCause, stopFault := s.run.stopFault } := by rw [← hcause, ← hfault]
    _ = s.run := hall

theorem Kept.sched_eq {m : Nat} {s t : State} (h : Kept m s t) (hm : ¬ m.testBit Component.arrSched.bit = true := by decide) :
    t.arr.sched = s.arr.sched := (h.same .arrSched).resolve_left hm

theorem State.setMode_mode (s : State) (m : Mode) : (s.setMode m).run.mode = m := by
  unfold State.setMode
  split
  · assumption
  · dsimp only
    rw [(State.sync_kept _).run_eq, (State.raiseLine_kept ..).run_eq, (State.logEvent_kept ..).run_eq]
    split <;> rfl

/-- A member that awaits a start is as it was but for the edge, the target and the peers that it runs with, and has its lanes pinned. -/
theorem State.awaitStart_effect (s : State) (edge : Nat) (target : Option Nat) :
    (s.awaitStart edge target).run = { s.run with peersRunning := s.peers, startEdge := edge } ∧
      (s.awaitStart edge target).arr.sched = { s.arr.sched with run := .awaitingEdge, target := target } := by
  have hk := s.pinDomain_kept
  exact ⟨by rw [← hk.run_eq]; rfl, by rw [← hk.sched_eq]; rfl⟩

theorem State.openRun_mode (s : State) : s.openRun.run.mode = .run := State.setMode_mode ..

/-- The other members are those of the committed image. -/
theorem State.peers_of_image {s t : State} (h : t.image = s.image) : t.peers = s.peers := by
  unfold State.peers
  rw [h]

/-- A peer that refuses the start for no reason enters RUN and waits for its edge. -/
theorem State.peerStart_effect {s : State} (edge : Nat) (target : Option Nat) (hm : s.takesRuns = false)
    (hq : s.modeIn [.loaded, .hold] = true) (hr : s.peerRefusal = none) : (s.peerStart edge target).run.mode = .run ∧
      (s.peerStart edge target).arr.sched.run = .awaitingEdge ∧ (s.peerStart edge target).run.startEdge = edge ∧
      (s.peerStart edge target).arr.sched.target = target ∧ (s.peerStart edge target).run.peersRunning = s.peers := by
  have hnotrun : s.run.mode ≠ .run := by
    intro h
    simp [State.modeIn, h] at hq
  have heq : s.peerStart edge target = s.endStopFaults.openRun.awaitStart edge target := by
    simp [State.peerStart, hm, hnotrun, hq, hr]
  have himage : s.endStopFaults.openRun.image = s.image :=
    (((State.endStopFaults_kept s).up).trans (State.openRun_kept _) |>.same .image).resolve_left (by decide)
  obtain ⟨hrun, hsched⟩ := State.awaitStart_effect s.endStopFaults.openRun edge target
  rw [heq, hrun, hsched]
  exact ⟨State.openRun_mode _, rfl, rfl, rfl, State.peers_of_image himage⟩

end Sys2Proof.Machine
open Sys2Proof Sys2Proof.Machine

/-- Settles O22: the two reads and the write by the rule of their entry, each notice by what taking it does. -/
theorem recordsAndMarksTakeEffect : Obligations.RecordsAndMarksTakeEffect := by
  intro s
  refine ⟨fun req v => markControlWrite_effect, fun req => boundaryRecordRead_effect, fun req => cycleCountRead_effect,
    fun l hl => ⟨fun cycle slot hrun hahead => ?stall, fun cycle slot => ?release, fun cycle st hrun => ?stop,
      fun event cycle st hrun => ?vote, fun p cycle st hp => ?point, fun m => ?held⟩,
    fun l hl hu => ⟨fun bad => ?latency, fun edge target hm hq hr => ?start⟩⟩
  case stall =>
    have ht : s.takeNotice l (.stall cycle slot) = s.addStall ⟨cycle, slot, [], [], 1⟩ := if_pos ⟨hrun, hahead⟩
    exact ⟨_, ht ▸ exec_laneNotice_pinned hl _, s.addStall_stands ⟨cycle, slot, [], [], 1⟩,
      (s.addStall_peer_kept cycle slot 1).sameBut_mask (l := [.arrSched])⟩
  case release => exact ⟨_, exec_laneNotice_pinned hl _, rfl, (s.withSched_kept _).sameBut_mask (l := [.arrSched])⟩
  case stop =>
    have ht : s.takeNotice l (.stop cycle st) = _ := State.peerStop_running hrun (.inr rfl) cycle st
    exact ⟨_, ht ▸ exec_laneNotice_pinned hl _, rfl, (s.withSched_kept _).sameBut_mask (l := [.arrSched])⟩
  case vote =>
    have ht : s.takeNotice l (.vote event cycle st) = _ :=
      State.peerStop_running (s := s.withArr fun a => { a with votes := a.votes ++ [(cycle, event, 1)] }) hrun (.inl rfl) cycle st
    refine ⟨_, ht ▸ exec_laneNotice_pinned hl _, rfl, rfl, ?_⟩
    exact ((State.withArr_kept ..).trans ((State.withSched_kept ..).up)).sameBut_mask (l := [.arrSched, .arrVotes])
  case point =>
    refine ⟨_, exec_laneNotice_pinned hl _, ?_⟩
    show (l, p) ∈ (s.peerPoint l p cycle st).arr.sched.peerPoints
    rw [State.peerPoint, State.demandAt_peerPoints]
    simp [State.withSched, Nat.ne_of_gt hp]
  case held => exact ⟨_, exec_laneNotice_pinned hl _, rfl, (State.withRun_kept ..).sameBut_mask (l := [.run])⟩
  case latency =>
    refine ⟨_, exec_laneNotice_told hl hu rfl, ?_, (State.withRun_kept ..).sameBut_mask (l := [.run])⟩
    cases bad <;> simp [State.takeNotice, State.withRun]
  case start => exact ⟨_, exec_laneNotice_told hl hu rfl, State.peerStart_effect edge target hm hq hr⟩

end

section
/-! A null write in its issue step (R97): its entry stands in the queue performed and present, and no acknowledgement is its own. -/

set_option Elab.async false

namespace Sys2Proof.Machine

/-- An acknowledgement finds no write that waits for it where the head entry is a null write, and changes nothing. -/
theorem exec_writeAckArrival_of_present {s : State} {port desc : Nat} {e : QEntry} {es : List QEntry}
    (he : (s.arr.queue (queueKey port desc)).entries = e :: es) (hp : e.present = true) (ns : Nat) :
    exec (.writeAckArrival port desc ns) s = .next s := by
  show execWriteAckArrival port desc ns s = .next s
  simp [execWriteAckArrival, he, hp]

/-- A module with a write queue of port 0, descriptor 0, in the step in which its calendar's ENQ, with an enable member at 0, has issued. -/
def nullWriteState : State :=
  (State.reset.withArr fun a => a.setQueue (queueKey 0 0) { Queue.empty with desc := BitVec.ofNat 128 (2 ^ 24), p := 4 }).issue 0 0 true 0

theorem nullWriteState_queue : nullWriteState.arr.queue (queueKey 0 0) =
    { Queue.empty with desc := BitVec.ofNat 128 (2 ^ 24), p := 4, entries := [⟨false, 0, 0, true, true, 0, 0, 0, 16, false⟩] } := by
  decide +kernel

theorem nullWriteState_runs : nullWriteState.sec.halted = false ∧
    Sparse.wf (fun _ => Queue.empty) nullWriteState.arr.queues = true := by decide +kernel

end Sys2Proof.Machine

open Sys2Proof Sys2Proof.Machine

/-- Refutes O17: its clause on WRITE_ACK_ARRIVAL has the acknowledgement of every performed head write remove it, but a null write (R97)
is performed and already present, and stays until its step ends. -/
theorem not_stallsAndAnswersTakeEffect : ¬ Obligations.StallsAndAnswersTakeEffect := by
  intro h
  obtain ⟨hlive, hwf⟩ := nullWriteState_runs
  have hhead := congrArg Queue.entries nullWriteState_queue
  have hwrite : (nullWriteState.arr.queue (queueKey 0 0)).isWrite = true := by rw [nullWriteState_queue]; decide
  obtain ⟨-, -, hack, -⟩ := h nullWriteState hlive
  obtain ⟨t, ht, hempty, -⟩ := hack 0 0 0 _ _ _ rfl hwf hwrite hhead rfl
  have hsame : nullWriteState = t := Host.Outcome.next.inj ((exec_writeAckArrival_of_present hhead rfl 0).symm.trans ht)
  rw [← hsame, hhead] at hempty
  exact List.cons_ne_nil _ _ hempty

end

section
/-! What the log keeps of a lane's number: 32 bits of it (Table 2-4), whatever the length of a state's list of lanes. -/

set_option Elab.async false

namespace Sys2Proof.Machine

/-- The last of the entries that `logs` names is the newest one. -/
theorem State.logs_last {s t : State} {l : List (Nat × Nat × Nat)} {x : Nat × Nat × Nat} (h : s.logs t (l ++ [x])) :
    t.log.entries.getLast?.map (fun e => (e.code, e.source, e.arg)) = some x := by
  have hlast := congrArg List.getLast? h.2
  rw [List.getLast?_map, List.getLast?_drop, List.getLast?_concat] at hlast
  split at hlast
  case isTrue => simp at hlast
  case isFalse => exact hlast

/-- A lane that is lost is logged with the lower 32 bits of its number. -/
theorem laneLost_last {s t : State} {l : Nat} (hu : (s.lane l).up = true) (h : exec (.laneLost l) s = .next t) :
    t.log.entries.getLast?.map (fun e => (e.code, e.source, e.arg)) = some (0x8102, srcHub, l % 2 ^ 32) := by
  have he := (congrArg Host.Outcome.next (if_pos hu)).symm.trans h
  rw [← Host.Outcome.next.inj he]
  exact (State.logAs_logged (s.unpin l) 0x8102 .self srcHub l).2

/-- A state whose last lane, of number `n`, is a pinned lane of the committed image's domain; the array is gated. -/
def lastLanePinned (n : Nat) : State := { State.reset with
  image := some ⟨0, 0, 0, [], 0, [], false, 0, 64, 2, 0, [⟨n, 40⟩], 0, 0, 0, 0, 0, [], [], 0, 0, 0, 0⟩
  lanes := List.replicate (n + 1) { Lane.fresh with state := 4 } }

theorem lastLanePinned_lane (n : Nat) : (lastLanePinned n).lane n = { Lane.fresh with state := 4 } := by
  simp [State.lane, lastLanePinned]

theorem lastLanePinned_laneUse (n : Nat) : (lastLanePinned n).laneUse n = 1 := by
  simp [State.laneUse, State.domainLane, lastLanePinned]

theorem lastLanePinned_length (n : Nat) : n < (lastLanePinned n).lanes.length := by
  simp [lastLanePinned]

theorem reset_dict_wf : Sparse.wf (defaultOf State.reset.part.grade) State.reset.dict = true := by decide +kernel

end Sys2Proof.Machine

open Sys2Proof Sys2Proof.Machine

/-- Refutes O50: its clause on LANE_LOST of a pinned domain lane has the log name the lane by its whole number, but an entry keeps 32
bits of it, and lane 2 ^ 32 of a state that lists so many lanes is logged as lane 0. -/
theorem not_laneCommandsTakeEffect : ¬ Obligations.LaneCommandsTakeEffect := by
  intro h
  have hlane := lastLanePinned_lane (2 ^ 32)
  have hstate : ((lastLanePinned (2 ^ 32)).lane (2 ^ 32)).state = 4 := by rw [hlane]
  have hup : ((lastLanePinned (2 ^ 32)).lane (2 ^ 32)).up = true := by rw [hlane]; rfl
  obtain ⟨-, -, -, -, -, hpinned, -⟩ := h (lastLanePinned (2 ^ 32)) (2 ^ 32) _ rfl (lastLanePinned_length _) reset_dict_wf
  obtain ⟨⟨t, ht, hlogs, -⟩, -⟩ := hpinned hstate (lastLanePinned_laneUse _) rfl
  have hlast := (laneLost_last hup ht).symm.trans (State.logs_last (l := [(0x6210, srcHub, 2 ^ 32)]) hlogs)
  simp at hlast

end

section
/-! What a trace record leaves, and with it a change of mode: the active faults, and every setting outside chapter 15. -/

set_option Elab.async false

namespace Sys2Proof.Machine

/-! ### What an operation keeps -/

/-- A component outside the mask stays. -/
theorem Kept.agree {m : Nat} {s t : State} (h : Kept m s t) (c : Component) (hc : ¬ m.testBit c.bit = true := by decide) :
    c.agree s t := (h.same c).resolve_left hc

/-- An operation that keeps something keeps it over a list. -/
theorem foldl_keeps {α β γ : Type} {p : β → γ} {g : β → α → β} (hg : ∀ b a, p (g b a) = p b) (l : List α) (b : β) :
    p (l.foldl g b) = p b :=
  List.foldlRecOn (motive := fun x => p x = p b) l g rfl fun x hx a _ => (hg x a).trans hx

/-- A change of pins ends in the state that it is given, but for pins that begin to switch and shared outputs that are logged. -/
theorem State.repin_const_kept (s t : State) : Kept 0x100000040 t (s.repin fun _ => t) :=
  (Kept.foldl (fun _ _ => (State.beginSwitch_kept ..).up) (Kept.refl t)).trans (State.logShared_kept ..).up

/-! ### Settings and active faults beside a trace record

A Sync record counts into entries of chapter 15 only. A setting whose array is not in canonical form is followed through those writes
by its being listed: what it reads as is not its default. -/

namespace Sparse

/-- Removing one key leaves every other listed key, canonical form or not. -/
theorem get_erase_of_listed {α : Type} {d : Nat → α} {m : Sparse α} {k j : Nat} (hk : get d m k ≠ d k) (hj : k ≠ j) :
    get d (erase m j) k = get d m k := by
  induction m with
  | nil => rfl
  | cons e m ih =>
    obtain ⟨i, w⟩ := e
    by_cases hi : k = i
    · subst hi
      simp only [erase, if_neg (Ne.symm hj)]
      split <;> simp [get]
    · have hlt : ¬ k < i := fun h => hk (by simp [get, hi, h])
      have hget : get d ((i, w) :: m) k = get d m k := by simp [get, hi, hlt]
      rw [hget] at hk ⊢
      simp only [erase]
      split
      · rfl
      · split
        · exact hget
        · simpa [get, hi, hlt] using ih hk

theorem get_set_of_listed {α : Type} [DecidableEq α] {d : Nat → α} {m : Sparse α} {k j : Nat} (hk : get d m k ≠ d k) (hj : k ≠ j) (v : α) :
    get d (set d m j v) k = get d m k := by
  unfold set
  split
  · exact get_erase_of_listed hk hj
  · exact get_put_ne d m j k v hj

end Sparse

/-- A value other than the default reads back, canonical form or not. -/
theorem State.entry_putEntry_listed (s : State) {key v : Nat} (hv : v ≠ defaultOf s.part.grade key) : (s.putEntry key v).entry key = v := by
  simp only [State.entry, State.putEntry, Sparse.set, if_neg hv]
  exact Sparse.get_put_same ..

/-- What writes only settings of chapter 15 keeps: the active faults and every other listed setting. -/
structure State.TraceKeeps (s t : State) : Prop where
  part : t.part = s.part
  active : t.log.active = s.log.active
  entry : ∀ key < 0x2A0000, s.entry key ≠ defaultOf s.part.grade key → t.entry key = s.entry key

namespace State.TraceKeeps

theorem refl (s : State) : s.TraceKeeps s := ⟨rfl, rfl, fun _ _ _ => rfl⟩

theorem trans {s t u : State} (h : s.TraceKeeps t) (k : t.TraceKeeps u) : s.TraceKeeps u where
  part := k.part.trans h.part
  active := k.active.trans h.active
  entry key hkey hlisted := by
    have ht := h.entry key hkey hlisted
    exact (k.entry key hkey (by rwa [ht, h.part])).trans ht

theorem of_dict {s t : State} (hp : t.part = s.part) (ha : t.log.active = s.log.active) (hd : t.dict = s.dict) : s.TraceKeeps t :=
  ⟨hp, ha, fun _ _ _ => by unfold State.entry; rw [hp, hd]⟩

theorem of_kept {m : Nat} {s t : State} (h : Kept m s t) (hd : ¬ m.testBit Component.dict.bit = true := by decide)
    (hl : ¬ m.testBit Component.log.bit = true := by decide) : s.TraceKeeps t :=
  of_dict h.part (congrArg Log.active (h.agree .log hl)) (h.agree .dict hd)

theorem foldl {α : Type} {g : State → α → State} (hg : ∀ (s : State) a, s.TraceKeeps (g s a)) (l : List α) (s : State) :
    s.TraceKeeps (l.foldl g s) :=
  List.foldlRecOn (motive := State.TraceKeeps s) l g (refl s) fun t ht a _ => ht.trans (hg t a)

end State.TraceKeeps

theorem State.putEntry_traceKeeps (s : State) {key : Nat} (hkey : 0x2A0000 ≤ key) (v : Nat) : s.TraceKeeps (s.putEntry key v) :=
  ⟨rfl, rfl, fun k hk hlisted => Sparse.get_set_of_listed hlisted (by omega) v⟩

/-- A logging of severity information or warning makes no fault active. -/
theorem State.logRow_active_quiet (s : State) {row : FaultRow} (h : row.severity.serious = false) (source arg d1 d2 : Nat) :
    (s.logRow row source arg d1 d2).log.active = s.log.active := by
  unfold State.logRow
  simp only [h, Bool.false_eq_true, if_false]
  split <;> rfl

theorem State.log1_traceKeeps (s : State) (code source arg : Nat)
    (h : (faultRowOf code).all (fun r => !r.severity.serious) = true := by decide) : s.TraceKeeps (s.log1 code source arg) := by
  have hk := s.log1_quiet code source arg h
  refine .of_dict hk.part ?_ (hk.agree .dict)
  unfold State.log1
  split
  case h_1 r hr =>
    rw [hr] at h
    exact s.logRow_active_quiet (by simpa using h) ..
  case h_2 => rfl

theorem State.traceCount_traceKeeps (s : State) {key : Nat} (hkey : 0x2A0000 ≤ key) (n : Nat) : s.TraceKeeps (s.traceCount key n) := by
  have hbump := s.putEntry_traceKeeps hkey (sat32 (s.entry key) n)
  unfold State.traceCount
  split
  · exact .refl s
  · dsimp only
    split
    · exact hbump.trans ((State.putEntry_traceKeeps _ (by decide) 1).trans (State.log1_traceKeeps ..))
    · exact hbump

theorem State.countIn_traceKeeps (s : State) (code unit n k : Nat) : s.TraceKeeps (s.countIn code unit n k) := by
  have hcount := s.putEntry_traceKeeps (key := keyOf (0x2B10 + k) 3) (by unfold keyOf; omega)
    ((s.entry (keyOf (0x2B10 + k) 3) + n) % 2 ^ 32)
  unfold State.countIn
  dsimp only
  split
  · split
    · exact hcount
    · have hwrap := fun v => hcount.trans (State.putEntry_traceKeeps _ (key := 0x2B0002) (by decide) v)
      split
      · exact (hwrap _).trans (.of_kept (State.raiseLine_kept ..))
      · exact hwrap _
  · exact .refl s

theorem State.countEvent_traceKeeps (s : State) (code unit n : Nat) : s.TraceKeeps (s.countEvent code unit n) := by
  unfold State.countEvent
  split
  · exact .refl s
  · exact .foldl (fun s k => s.countIn_traceKeeps code unit n k) _ s

theorem State.blotterTake_traceKeeps (s : State) (r : TraceRec) : s.TraceKeeps (s.blotterTake r) := by
  unfold State.blotterTake
  exact (State.TraceKeeps.of_kept (s.storeRecord_kept r)).trans <| (State.traceCount_traceKeeps _ (by decide) _).trans <|
    (State.TraceKeeps.of_kept (State.advanceBlotter_kept ..)).trans <| (State.traceCount_traceKeeps _ (by decide) _).trans <|
    (State.countEvent_traceKeeps ..).trans (.of_kept (State.thresholdLine_kept ..))

theorem State.sync_traceKeeps (s : State) : s.TraceKeeps s.sync := by
  have hcount := s.traceCount_traceKeeps (key := 0x2A2001) (by decide) 1
  unfold State.sync
  split
  · exact .refl s
  · dsimp only
    split
    · exact hcount.trans (State.blotterTake_traceKeeps ..)
    · exact hcount.trans (State.traceCount_traceKeeps _ (by decide) 1)

theorem State.setMode_traceKeeps (s : State) (m : Mode) : s.TraceKeeps (s.setMode m) := by
  unfold State.setMode
  split
  · exact .refl s
  · refine State.TraceKeeps.trans ?_ (State.sync_traceKeeps _)
    split <;> exact ⟨rfl, rfl, fun _ _ _ => rfl⟩

/-! ### A fault of the class blocked becomes active (R495) -/

theorem mem_activate (a : ActiveFault) (l : List ActiveFault) : a ∈ activate a l := by
  induction l with
  | nil => exact List.mem_singleton_self a
  | cons b l ih =>
    unfold activate
    split
    · exact List.mem_cons_self
    · exact List.mem_cons_of_mem _ ih

theorem State.logSerious_active (s : State) (code source arg : Nat) (row : FaultRow) :
    (s.logSerious code source arg row).log.active = activate ⟨code, source, row.cls, arg % 2 ^ 32⟩ s.log.active := by
  unfold State.logSerious
  dsimp only
  split
  · rfl
  · unfold State.send
    split <;> rfl

theorem State.logAs_active {code : Nat} {cls : FaultClass} {row : FaultRow} (hrow : faultRow code cls = some row)
    (h : row.severity.serious = true) (s : State) (source arg : Nat) :
    (s.logAs code cls source arg).log.active.any (fun a => a.code == code) = true := by
  unfold State.logAs State.logRow
  simp only [hrow, h, if_true, State.logSerious_active, List.any_eq_true]
  exact ⟨_, mem_activate .., beq_iff_eq.2 (faultRow_code hrow)⟩

end Sys2Proof.Machine
end

section
/-! Commits (R189, R267 to R276): a stream that waits for its checks is committed up to the staged release, refused, or leaves no image;
and a commit whose tiles are released is done. -/

set_option Elab.async false

namespace Sys2Proof.Machine

/-! ### Stages of tiles that are isolated and released (R236, R237) -/

theorem Kept.release_wf {m : Nat} {s t : State} (h : Kept m s t) (hw : Sparse.wf (fun _ => 0) s.fabric.release = true)
    (hm : ¬ m.testBit Component.fabRelease.bit = true := by decide) : Sparse.wf (fun _ => 0) t.fabric.release = true := by
  have hrel : t.fabric.release = s.fabric.release := h.agree .fabRelease hm
  rwa [hrel]

theorem Kept.stage_eq {m : Nat} {s t : State} (h : Kept m s t) (tk : Nat) (hm : ¬ m.testBit Component.fabRelease.bit = true := by decide) :
    t.fabric.stage tk = s.fabric.stage tk := congrArg (fun r => Sparse.get (fun _ => 0) r tk) (h.agree .fabRelease hm)

theorem Fabric.resetTile_release (f : Fabric) (tk : Nat) : (f.resetTile tk).release = f.release :=
  (foldl_keeps (p := Fabric.release) (by intros; rfl) ..).trans rfl

theorem Fabric.initialCells_release (f : Fabric) : f.initialCells.release = f.release :=
  (foldl_keeps (p := Fabric.release) (by intros; rfl) ..).trans rfl

/-- Isolation of a tile keeps the stages canonical and every other tile's stage. -/
theorem State.isolate_stage {s : State} (h : Sparse.wf (fun _ => 0) s.fabric.release = true) (tk : Nat) :
    Sparse.wf (fun _ => 0) (s.isolate tk).fabric.release = true ∧
      ∀ j : Nat, j ≠ tk → (s.isolate tk).fabric.stage j = s.fabric.stage j := by
  unfold State.isolate
  split
  · exact ⟨h, fun _ _ => rfl⟩
  · have hrel : ((s.discardPartial (tk * 2)).discardPartial (tk * 2 + 1)).fabric.release = s.fabric.release :=
      ((s.discardPartial_kept (tk * 2)).trans (State.discardPartial_kept ..)).agree .fabRelease
    simp only [State.withFabric, Fabric.stage, Fabric.resetTile_release, Fabric.setStage, hrel]
    exact ⟨Sparse.set_wf _ _ _ _ h, fun j hj => Sparse.get_set_ne _ _ _ _ _ h hj⟩

theorem State.foldl_isolate_stage {s : State} (h : Sparse.wf (fun _ => 0) s.fabric.release = true) (l : List Nat) :
    Sparse.wf (fun _ => 0) (l.foldl State.isolate s).fabric.release = true ∧
      ∀ j : Nat, j ∉ l → (l.foldl State.isolate s).fabric.stage j = s.fabric.stage j := by
  induction l generalizing s with
  | nil => exact ⟨h, fun _ _ => rfl⟩
  | cons tk l ih =>
    obtain ⟨hw, hstage⟩ := s.isolate_stage h tk
    obtain ⟨hw', hstage'⟩ := ih hw
    refine ⟨hw', fun j hj => ?_⟩
    rw [List.mem_cons, not_or] at hj
    exact (hstage' j hj.2).trans (hstage j hj.1)

/-- Stage 1 of the release: the tiles given stand at 1, the others where they stood. -/
theorem State.stage_removeIsolation {s : State} (h : Sparse.wf (fun _ => 0) s.fabric.release = true) (tiles : List Nat) (tk : Nat) :
    (s.removeIsolation tiles).fabric.stage tk = if tk ∈ tiles then 1 else s.fabric.stage tk := by
  have hpairs := Fabric.stage_foldl_setStage h (tiles.map fun t => (t, 0)) 1 tk
  rw [List.foldl_map, List.map_map] at hpairs
  exact hpairs.trans (by simp [Function.comp_def])

/-! ### The load checks (R189) -/

theorem firstFault_eq_none {l : List (Option LoadFault)} : firstFault l = none ↔ ∀ f ∈ l, f = none := by
  induction l with
  | nil => exact ⟨fun _ _ h => (nomatch h), fun _ => rfl⟩
  | cons f l ih => cases f <;> simp [firstFault, ih]

/-- Stage 12 passes only where slots and buffers can be reserved. -/
theorem State.reserve_of_loadChecks {s : State} {m : Staged} (h : s.loadChecks m = none) : ∃ r, s.reserve (m.declarations m.header) = some r := by
  have h12 : s.stage12 m m.header = none :=
    firstFault_eq_none.1 h _ (by simp only [List.mem_cons, true_or, or_true])
  have hreserve := firstFault_eq_none.1 h12 _ (List.mem_cons_of_mem _ (List.mem_singleton_self _))
  refine Option.isSome_iff_exists.1 ?_
  unfold require at hreserve
  split at hreserve
  · assumption
  · cases hreserve

/-! ### A full commit (steps C1 to C10) -/

theorem NibArray.fetchAll_eq (a : NibArray) (t : Nat) :
    (a.fetchAll t).sched = a.sched ∧ (a.fetchAll t).flights = a.flights := by
  unfold NibArray.fetchAll
  exact ⟨foldl_keeps (p := NibArray.sched) (by intros; rfl) .., foldl_keeps (p := NibArray.flights) (by intros; rfl) ..⟩

/-- Step C3 gives a fresh schedule and nothing in flight. -/
theorem State.commitArray_fresh (s : State) (m : Staged) (h : Header) :
    (s.commitArray m h).arr.sched.cycle = 0 ∧ (s.commitArray m h).arr.flights = [] := by
  obtain ⟨hsched, hflights⟩ : _ ∧ (s.commitArray m h).arr.flights = [] := NibArray.fetchAll_eq ..
  exact ⟨congrArg Sched.cycle hsched, hflights⟩

theorem State.commitFabric_release (s : State) (fs : List Frame) (latency : List Nat) :
    (s.commitFabric fs latency).fabric.release = s.fabric.release := by
  have hengines (u : State) (h : u.fabric.release = s.fabric.release) : (u.reserveEngines (List.range 8)).fabric.release = s.fabric.release :=
    ((u.reserveEngines_kept (List.range 8)).agree .fabRelease).trans h
  unfold State.commitFabric
  dsimp only
  split
  · exact (foldl_keeps (p := fun u : State => u.fabric.release) (by intros; rfl) ..).trans (hengines _ (Fabric.initialCells_release _))
  · exact hengines _ (Fabric.initialCells_release _)

/-- Steps C1 to C5: the array starts afresh, and the stages of the tiles stay canonical. -/
theorem State.commitContents_effect {s : State} (hw : Sparse.wf (fun _ => 0) s.fabric.release = true) (m : Staged) (h : Header) (fs : List Frame) :
    (s.commitContents m h fs).arr.sched.cycle = 0 ∧ (s.commitContents m h fs).arr.flights = [] ∧
      Sparse.wf (fun _ => 0) (s.commitContents m h fs).fabric.release = true := by
  have hafter (u : State) : Kept 0x1ffd70000010040002 (u.commitArray m h) (((u.commitArray m h).commitMemory m h).commitFabric fs h.latency) :=
    (State.commitMemory_kept ..).up.trans (State.commitFabric_kept ..).up
  have hbefore (u : State) : Kept 0x17ffff001e60042 u ((u.destroyDeclared.commitArray m h).commitMemory m h) :=
    (State.destroyDeclared_kept u).up.trans ((State.commitArray_kept ..).up.trans (State.commitMemory_kept ..).up)
  have hpins (p : Nat → Bool) (ns : List Nat) : Kept 0x10100700200040 s ((s.abortSamplers p).holdPins ns) :=
    (s.abortSamplers_kept p).up.trans (State.holdPins_kept ..).up
  unfold State.commitContents
  refine ⟨?cycle, ?flights, ?stages⟩
  case cycle => exact (congrArg Sched.cycle ((hafter _).agree .arrSched)).trans (State.commitArray_fresh ..).1
  case flights => exact ((hafter _).agree .arrFlights).trans (State.commitArray_fresh ..).2
  case stages =>
    rw [State.commitFabric_release]
    exact (hbefore _).release_wf (State.foldl_isolate_stage ((hpins _ _).release_wf hw) _).1

theorem State.allTiles_of_part {s t : State} (h : t.part = s.part) : t.allTiles = s.allTiles := by
  unfold State.allTiles State.dies
  rw [h]

/-- Steps C7 to C9 on what steps C1 to C5 leave, and then stage 1 of the release on every tile. -/
theorem State.commitFinish_eq (s : State) (m patched : Staged) (h : Header) (fs : List Frame) (r : Reservation) : ∃ g : State,
    s.commitFinish m patched h fs r = (g.removeIsolation s.allTiles).releaseBridgePins ∧
      g.loader = { s.loader with retained := some m, chain := [] } ∧ g.image.map Image.digest = some m.digest ∧
      g.run = { s.run with valid := true, domainLost := false } ∧ g.fixer.running = true ∧ g.arr.sched = s.arr.sched ∧
      g.arr.flights = s.arr.flights ∧ g.fabric.release = s.fabric.release := by
  have hbound (used : List (Nat × Nat)) :
      Kept 0x10000001800042 s ((s.createDeclared (m.declarations h) fs r).writeBinding patched h used).1 :=
    (State.createDeclared_kept ..).up.trans (State.writeBinding_kept ..).up
  have htail (u : State) : Kept 0x42 u ((u.clearEntries commitCleared).endCommitFaults) :=
    (State.clearEntries_kept ..).up.trans (State.endCommitFaults_kept ..).up
  unfold State.commitFinish
  refine ⟨_, congrArg (fun l => State.releaseBridgePins (State.removeIsolation _ l)) (State.allTiles_of_part (hbound _).part),
    ((htail _).agree .loader).trans ?loader, ?image, (htail _).run_eq.trans ?run, ?fixer, ((htail _).agree .arrSched).trans ?sched,
    ((htail _).agree .arrFlights).trans ?flights, ((htail _).agree .fabRelease).trans ?release⟩
  case loader => exact congrArg (fun l : Loader => { l with retained := some m, chain := [] }) ((hbound _).agree .loader)
  case image => exact congrArg (Option.map Image.digest) ((htail _).agree .image)
  case run => exact congrArg (fun c : RunCtl => { c with valid := true, domainLost := false }) (hbound _).run_eq
  case fixer => exact congrArg Fixer.running ((htail _).agree .fixer)
  case sched => exact (hbound _).agree .arrSched
  case flights => exact (hbound _).agree .arrFlights
  case release => exact (hbound _).agree .fabRelease

/-- The end of a commit that passes its read-back changes pins, lanes and the log only. -/
theorem State.commitEnd_kept (s t : State) (ns : List Nat) (uses : List (Nat × Nat)) :
    Kept 0x180000040 t ((s.repin fun _ => t.endHold ns).retrainChanged uses) :=
  (State.endHold_kept ..).up.trans ((State.repin_const_kept ..).up.trans (State.retrainChanged_kept ..).up)

/-- A full commit that passes its read-back. -/
theorem State.commitFull_passed {s : State} {m : Staged} {r : Reservation} (hr : s.reserve (m.declarations m.header) = some r)
    (hw : Sparse.wf (fun _ => 0) s.fabric.release = true) :
    (s.commitFull m none).loader = { s.loader with retained := some m, chain := [] } ∧
      (s.commitFull m none).image.map Image.digest = some m.digest ∧
      (s.commitFull m none).run = { s.run with valid := true, domainLost := false } ∧ (s.commitFull m none).fixer.running = true ∧
      (s.commitFull m none).arr.sched.cycle = 0 ∧ (s.commitFull m none).arr.flights = [] ∧
      ∀ tk < s.dies * 64, (s.commitFull m none).fabric.stage tk = 1 := by
  obtain ⟨patched, fs, hend⟩ : ∃ patched fs, Kept 0x180000040
      ((s.commitContents m m.header fs).commitFinish m patched m.header fs r) (s.commitFull m none) := by
    simp only [State.commitFull, hr]
    exact ⟨_, _, State.commitEnd_kept ..⟩
  have hcontents := s.commitContents_kept m m.header fs
  obtain ⟨hcycle, hflights, hstages⟩ := s.commitContents_effect hw m m.header fs
  obtain ⟨g, hfinish, gloader, gimage, grun, gfixer, gsched, gflights, grelease⟩ :=
    (s.commitContents m m.header fs).commitFinish_eq m patched m.header fs r
  rw [hfinish, State.allTiles_of_part hcontents.part] at hend
  have hall : Kept 0x180000040 (g.removeIsolation s.allTiles) (s.commitFull m none) := (State.releaseBridgePins_kept _).up.trans hend
  refine ⟨?loader, ?image, ?run, ?fixer, ?cycle, ?flights, fun tk htk => ?stage⟩
  case loader =>
    exact (hall.agree .loader).trans (gloader.trans (congrArg (fun l : Loader => { l with retained := some m, chain := [] })
      (hcontents.agree .loader)))
  case image => exact (congrArg (Option.map Image.digest) (hall.agree .image)).trans gimage
  case run => exact hall.run_eq.trans (grun.trans (congrArg (fun c : RunCtl => { c with valid := true, domainLost := false }) hcontents.run_eq))
  case fixer => exact (congrArg Fixer.running (hall.agree .fixer)).trans gfixer
  case cycle => exact (congrArg Sched.cycle ((hall.agree .arrSched).trans gsched)).trans hcycle
  case flights => exact (hall.agree .arrFlights).trans (gflights.trans hflights)
  case stage => exact (hall.stage_eq tk).trans ((State.stage_removeIsolation (by rwa [grelease]) _ tk).trans (if_pos (List.mem_range.2 htk)))

/-! ### A partial commit (R275) -/

theorem State.writeRegion'_release (s : State) (region : List Nat) (fs : List Frame) :
    (s.writeRegion' region fs).fabric.release = s.fabric.release := by
  have hengines (u : State) (es : List Nat) : (u.reserveEngines es).fabric.release = u.fabric.release :=
    (u.reserveEngines_kept es).agree .fabRelease
  unfold State.writeRegion'
  refine (foldl_keeps (p := Fabric.release) (fun f tk => f.resetTile_release tk) ..).trans ((hengines ..).trans ?_)
  refine foldl_keeps (p := Fabric.release) (fun f x => ?_) ..
  dsimp only
  split
  · rfl
  · split
    · rfl
    · split <;> rfl

/-- Steps C1 and C5 on a region: the rest of the fabric stands where it stood. -/
theorem State.isolated_writeRegion'_effect {s : State} (hw : Sparse.wf (fun _ => 0) s.fabric.release = true) (ns region : List Nat)
    (fs : List Frame) : ∃ v, v = (region.foldl State.isolate (s.holdPins ns)).writeRegion' region fs ∧ Kept 0x1ffc00000110000002 s v ∧
      Sparse.wf (fun _ => 0) v.fabric.release = true ∧ ∀ tk : Nat, tk ∉ region → v.fabric.stage tk = s.fabric.stage tk := by
  have hpins := s.holdPins_kept ns
  obtain ⟨hstages, hother⟩ := State.foldl_isolate_stage (hpins.release_wf hw) region
  have hrelease := State.writeRegion'_release (region.foldl State.isolate (s.holdPins ns)) region fs
  refine ⟨_, rfl, ?kept, by rwa [hrelease], fun tk htk => ?stage⟩
  case kept =>
    exact (Kept.foldl (fun _ _ => (State.isolate_kept ..).up) hpins.up).trans (State.writeRegion'_kept ..).up
  case stage => exact (congrArg (fun r => Sparse.get (fun _ => 0) r tk) hrelease).trans ((hother tk htk).trans (hpins.stage_eq tk))

/-- A partial commit that passes its read-back. -/
theorem State.commitPartial_passed {s : State} (i : Image) (m : Staged) (hw : Sparse.wf (fun _ => 0) s.fabric.release = true) :
    (s.commitPartial i m none).loader = s.loader ∧ (s.commitPartial i m none).image = s.image ∧
      (s.commitPartial i m none).run = s.run ∧ (s.commitPartial i m none).fixer.running = true ∧
      ∀ tk : Nat, (s.commitPartial i m none).fabric.stage tk =
        if tk ∈ m.partialHeader.region then 1 else s.fabric.stage tk := by
  obtain ⟨ns, fs, hend⟩ : ∃ ns fs, Kept 0x180000040 ((((((m.partialHeader.region.foldl State.isolate (s.holdPins ns)).writeRegion'
      m.partialHeader.region fs).takeGoldenRegion m.partialHeader.region fs).newPass).endCode 0x3211).removeIsolation
      m.partialHeader.region) (s.commitPartial i m none) := ⟨_, _, State.commitEnd_kept ..⟩
  obtain ⟨v, hv, hwritten, hstages, hother⟩ := State.isolated_writeRegion'_effect hw ns m.partialHeader.region fs
  rw [← hv] at hend
  have hgolden : Kept 0x10040 v (((v.takeGoldenRegion m.partialHeader.region fs).newPass).endCode 0x3211) :=
    (State.takeGoldenRegion_kept ..).up.trans ((State.newPass_kept ..).up.trans (State.endCode_kept ..).up)
  have hall : Kept 0x1ffc00000190010042 s (s.commitPartial i m none) :=
    hwritten.up.trans (hgolden.up.trans ((State.removeIsolation_kept ..).up.trans hend.up))
  refine ⟨hall.agree .loader, hall.agree .image, hall.run_eq, ?fixer, fun tk => ?stage⟩
  case fixer => exact (congrArg Fixer.running ((hend.agree .fixer).trans ((State.endCode_kept _ 0x3211).agree .fixer))).trans rfl
  case stage =>
    refine (hend.stage_eq tk).trans ((State.stage_removeIsolation (hgolden.release_wf hstages) _ tk).trans ?_)
    split
    · rfl
    · exact (hgolden.stage_eq tk).trans (hother tk ‹_›)

/-! ### A commit whose read-back differs (R270) -/

theorem State.setMode_valid (s : State) (m : Mode) : (s.setMode m).run.valid = s.run.valid := by
  unfold State.setMode
  split
  · rfl
  · dsimp only
    rw [(State.sync_kept _).run_eq, (State.raiseLine_kept ..).run_eq, (State.logEvent_kept ..).run_eq]
    split <;> rfl

/-- What R270 makes of the state in which the read-back differs. -/
def State.readBackFailed (c : State) (arg : Nat) : State := ((c.dropImage).logAs 0x3211 .blocked srcHub arg).setMode .service

theorem State.readBackFailed_effect (c : State) (arg : Nat) :
    (c.readBackFailed arg).image = none ∧ (c.readBackFailed arg).run.mode = .service ∧ (c.readBackFailed arg).run.valid = false ∧
      (c.readBackFailed arg).log.active.any (fun a => a.code == 0x3211) = true := by
  unfold State.readBackFailed
  refine ⟨?image, State.setMode_mode .., ?valid, ?active⟩
  case image => rw [State.setMode_image, State.logAs_image]; rfl
  case valid => rw [State.setMode_valid, State.logAs_run]; rfl
  case active =>
    rw [(State.setMode_traceKeeps ..).active]
    exact State.logAs_active (row := ⟨0x3211, .error, .blocked⟩) (by decide +kernel) rfl ..

/-! ### The checks and the commit of a stream -/

/-- The fault of stage S5 (R189, R274). -/
def State.streamFault (s : State) (x : Stream) : Option LoadFault :=
  if x.partialImage then match s.image with
    | some i => s.partialChecks i x.image
    | none => some (LoadFault.whole 0x3203)
  else s.loadChecks x.image

theorem State.streamFault_full {s : State} {x : Stream} (h : x.partialImage = false) : s.streamFault x = s.loadChecks x.image := by
  simp [State.streamFault, h]

/-- A partial image passes only beside a committed image. -/
theorem State.image_of_streamFault {s : State} {x : Stream} (h : x.partialImage = true) (hf : s.streamFault x = none) :
    ∃ i, s.image = some i := by
  cases hi : s.image with
  | none => simp [State.streamFault, h, hi] at hf
  | some i => exact ⟨i, rfl⟩

/-- A commit begins (R269). -/
def State.committing (s : State) : State := { s.withLoader fun l => { l with state := 3 } with rst := { s.rst with commitFaults := 0 } }

theorem exec_loadChecksComplete {s : State} {x : Stream} (hx : s.loader.stream = some x) (h2 : s.loader.state = 2) (b : Option Nat) :
    exec (.loadChecksComplete b) s = .next (s.checkAndCommit x b) := by
  show execLoadChecksComplete b s = _
  simp only [execLoadChecksComplete, hx, h2, if_true]

/-- An image that fails a check is refused. -/
theorem State.checkAndCommit_refused {s : State} {x : Stream} {e : LoadFault} (hf : s.streamFault x = some e) (b : Option Nat) :
    s.checkAndCommit x b = s.refuseCurrent e := by
  unfold State.checkAndCommit
  dsimp only
  split
  case h_1 e' he' => rw [Option.some.inj (hf.symm.trans he')]
  case h_2 hn => cases hf.symm.trans hn

/-- The commit of a stream, as the kind of its image has it. -/
def State.commitImage (s : State) (x : Stream) (failure : Option Nat) : State := match x.partialImage, s.image with
  | true, some i => s.commitPartial i x.image failure
  | _, _ => s.commitFull x.image failure

theorem State.commitImage_full (s : State) {x : Stream} (hp : x.partialImage = false) (failure : Option Nat) :
    s.commitImage x failure = s.commitFull x.image failure := by
  simp only [State.commitImage, hp]

theorem State.commitImage_partial {s : State} {x : Stream} {i : Image} (hp : x.partialImage = true) (hi : s.image = some i)
    (failure : Option Nat) : s.commitImage x failure = s.commitPartial i x.image failure := by
  simp only [State.commitImage, hp, hi]

/-- An image that passes its checks and its read-back is committed. -/
theorem State.checkAndCommit_passed {s : State} {x : Stream} (hf : s.streamFault x = none) :
    s.checkAndCommit x none = s.committing.commitImage x none := by
  unfold State.checkAndCommit
  dsimp only
  split
  case h_1 e he => cases hf.symm.trans he
  case h_2 => rfl

/-- After a read-back that differs, the loader is free again. -/
theorem State.checkAndCommit_differs {s : State} {x : Stream} (hf : s.streamFault x = none) (arg : Nat) :
    s.checkAndCommit x (some arg) = (s.committing.commitImage x (some arg)).withLoader fun l =>
      { l with state := 0, stream := none, dmaStatus := if x.port = 3 then 3 else l.dmaStatus } := by
  unfold State.checkAndCommit
  dsimp only
  split
  case h_1 e he => cases hf.symm.trans he
  case h_2 => rfl

/-- What has been reserved in the checks is reserved in the commit. -/
theorem State.reserve_committing {s : State} {x : Stream} (hp : x.partialImage = false) (hf : s.streamFault x = none) :
    ∃ r, s.committing.reserve (x.image.declarations x.image.header) = some r :=
  State.reserve_of_loadChecks ((State.streamFault_full hp).symm.trans hf)

/-- Full or partial, a commit whose read-back differs ends alike. -/
theorem State.commitImage_differs {s : State} {x : Stream} (hf : s.streamFault x = none) (arg : Nat) : ∃ c : State,
    s.committing.commitImage x (some arg) = c.readBackFailed arg := by
  cases hp : x.partialImage with
  | false =>
    obtain ⟨r, hr⟩ := State.reserve_committing hp hf
    rw [State.commitImage_full _ hp]
    simp only [State.commitFull, hr]
    exact ⟨_, rfl⟩
  | true =>
    obtain ⟨i, hi⟩ := State.image_of_streamFault hp hf
    rw [State.commitImage_partial hp (s := s.committing) hi]
    exact ⟨_, rfl⟩

/-- A full image that passes (R269). -/
theorem State.checkAndCommit_full {s : State} {x : Stream} (hp : x.partialImage = false) (hf : s.streamFault x = none)
    (hw : Sparse.wf (fun _ => 0) s.fabric.release = true) :
    (s.checkAndCommit x none).loader = { s.loader with state := 3, retained := some x.image, chain := [] } ∧
      (s.checkAndCommit x none).image.map Image.digest = some x.image.digest ∧
      (s.checkAndCommit x none).run = { s.run with valid := true, domainLost := false } ∧
      (s.checkAndCommit x none).fixer.running = true ∧ (s.checkAndCommit x none).arr.sched.cycle = 0 ∧
      (s.checkAndCommit x none).arr.flights = [] ∧ ∀ tk < s.dies * 64, (s.checkAndCommit x none).fabric.stage tk = 1 := by
  obtain ⟨r, hr⟩ := State.reserve_committing hp hf
  rw [State.checkAndCommit_passed hf, State.commitImage_full _ hp]
  exact State.commitFull_passed (s := s.committing) hr hw

/-- A partial image that passes (R275). -/
theorem State.checkAndCommit_partial {s : State} {x : Stream} (hp : x.partialImage = true) (hf : s.streamFault x = none)
    (hw : Sparse.wf (fun _ => 0) s.fabric.release = true) :
    (s.checkAndCommit x none).loader = { s.loader with state := 3 } ∧ (s.checkAndCommit x none).image = s.image ∧
      (s.checkAndCommit x none).run = s.run ∧ (s.checkAndCommit x none).fixer.running = true ∧
      ∀ tk : Nat, (s.checkAndCommit x none).fabric.stage tk =
        if tk ∈ x.image.partialHeader.region then 1 else s.fabric.stage tk := by
  obtain ⟨i, hi⟩ := State.image_of_streamFault hp hf
  rw [State.checkAndCommit_passed hf, State.commitImage_partial hp (s := s.committing) hi]
  exact State.commitPartial_passed (s := s.committing) i x.image hw

/-- Of the stream in progress the fault is recorded, and the loader is free (R267, R522). -/
theorem State.refuseCurrent_effect {s : State} {x : Stream} (hx : s.loader.stream = some x) (e : LoadFault) :
    (s.refuseCurrent e).loader.state = 0 ∧ (s.refuseCurrent e).loader.stream = none ∧ (s.refuseCurrent e).loader.fault = e.code ∧
      (s.refuseCurrent e).loader.offset = e.offset ∧
      s.sameBut [.loader, .dict, .can, .log, .rstCommit, .cores, .host] (s.refuseCurrent e) := by
  have hloader : (s.refuseCurrent e).loader = { ((s.withLoader fun l => { l with state := 0, stream := none }).ignoreStream x.port x.id).loader with
      fault := e.code, offset := e.offset } := by
    simp only [State.refuseCurrent, hx, State.refuseFirst, State.refuseStream, State.bump_loader, State.logAs_loader]
    rfl
  rw [hloader]
  exact ⟨rfl, rfl, rfl, rfl, ((s.refuseCurrent_kept e).up).sameBut_mask⟩

/-! ### COMMIT_COMPLETE (R237, R269, R276) -/

theorem exec_commitComplete {s : State} {x : Stream} (hx : s.loader.stream = some x) (h3 : s.loader.state = 3)
    (hr : s.allReleased (s.commitTiles x) = true) (hf : s.rst.commitFaults < 2) : exec .commitComplete s = .next (s.commitDone x) := by
  show execCommitComplete s = _
  simp only [execCommitComplete, hx, h3, hr, hf, and_self, if_true]

/-- The loader as a commit that is done leaves it, one more commit counted. -/
def State.commitCounted (s : State) (x : Stream) : State :=
  (s.withLoader fun l =>
    { l with state := 0, stream := none, fault := 0, offset := 0, dmaStatus := if x.port = 3 then 2 else l.dmaStatus }).bump 0x240801

theorem State.commitDone_full (s : State) {x : Stream} (hp : x.partialImage = false) :
    s.commitDone x = ((s.commitCounted x).setMode .loaded).tellLatency := by
  simp only [State.commitDone, hp, Bool.false_eq_true, if_false]
  rfl

theorem State.commitDone_partial {s : State} {x : Stream} {i : Image} (hp : x.partialImage = true) (hi : s.image = some i) :
    s.commitDone x = (s.commitCounted x).partialDone i x.image := by
  unfold State.commitDone
  rw [if_pos hp]
  split
  case h_1 j hj =>
    cases hi.symm.trans hj
    rfl
  case h_2 hn => cases hi.symm.trans hn

theorem State.commitDone_partial_none {s : State} {x : Stream} (hp : x.partialImage = true) (hi : s.image = none) :
    s.commitDone x = s.commitCounted x := by
  unfold State.commitDone
  rw [if_pos hp]
  split
  case h_1 j hj => cases hi.symm.trans hj
  case h_2 => rfl

theorem sat32_one_ne_zero (n : Nat) : sat32 n 1 ≠ 0 := by
  unfold sat32 max32
  split <;> omega

theorem defaultOf_commits (g : Grade) : defaultOf g 0x240801 = 0 := by cases g <;> decide +kernel

/-- The count is never its default, so nothing that a change of mode writes hides it. -/
theorem State.commitCounted_entry (s : State) (x : Stream) : (s.commitCounted x).entry 0x240801 = sat32 (s.entry 0x240801) 1 ∧
    (s.commitCounted x).entry 0x240801 ≠ defaultOf s.part.grade 0x240801 := by
  have hne : sat32 (s.entry 0x240801) 1 ≠ defaultOf s.part.grade 0x240801 := by
    rw [defaultOf_commits]
    exact sat32_one_ne_zero _
  have hentry : (s.commitCounted x).entry 0x240801 = sat32 (s.entry 0x240801) 1 := State.entry_putEntry_listed _ hne
  exact ⟨hentry, hentry ▸ hne⟩

/-- COMMIT_COMPLETE of a full image. -/
theorem State.commitDone_full_effect (s : State) {x : Stream} (hp : x.partialImage = false) :
    (s.commitDone x).loader = (s.commitCounted x).loader ∧ (s.commitDone x).entry 0x240801 = sat32 (s.entry 0x240801) 1 ∧
      (s.commitDone x).run.mode = .loaded ∧ (s.commitDone x).image = s.image := by
  have htell := ((s.commitCounted x).setMode .loaded).tellLatency_kept
  have htrace := ((s.commitCounted x).setMode_traceKeeps .loaded).trans (.of_kept htell)
  obtain ⟨hentry, hlisted⟩ := s.commitCounted_entry x
  rw [State.commitDone_full s hp]
  refine ⟨(htell.agree .loader).trans (State.setMode_loader ..), (htrace.entry _ (by decide) hlisted).trans hentry, ?mode,
    (htell.agree .image).trans (State.setMode_image ..)⟩
  case mode => rw [htell.run_eq, State.setMode_mode]

end Sys2Proof.Machine

open Sys2Proof Sys2Proof.Machine

/-- Settles O33: a stream's checks and commit by the lemma of each outcome (a full image, a partial one, a refusal, a read-back that
differs), and the end of a commit by the kind of its image. -/
theorem commitsTakeEffect : Obligations.CommitsTakeEffect := by
  intro s x f hx hf hw
  have hfault : f = s.streamFault x := hf
  subst hfault
  refine ⟨fun h2 hpass => ⟨⟨_, exec_loadChecksComplete hx h2 none, ?passes⟩, fun arg => ⟨_, exec_loadChecksComplete hx h2 _, ?differs⟩⟩,
    fun h2 e he => ⟨_, exec_loadChecksComplete hx h2 none, ?refused⟩,
    fun h3 hr hc => ⟨_, exec_commitComplete hx h3 hr hc, ?done⟩⟩
  case passes =>
    cases hp : x.partialImage with
    | false =>
      obtain ⟨hloader, himage, hrun, hfixer, hcycle, hflights, hstage⟩ := State.checkAndCommit_full hp hpass hw
      rw [hloader, hrun]
      exact ⟨rfl, hx, hfixer, by simp, rfl, fun _ => ⟨himage, hcycle, hflights, rfl, rfl, hstage⟩, nofun⟩
    | true =>
      obtain ⟨hloader, himage, hrun, hfixer, hstage⟩ := State.checkAndCommit_partial hp hpass hw
      rw [hloader, hrun]
      exact ⟨rfl, hx, hfixer, by simp, rfl, nofun, fun _ =>
        ⟨himage, rfl, fun tk htk => (hstage tk).trans (if_pos htk), fun tk htk => (hstage tk).trans (if_neg htk)⟩⟩
  case differs =>
    obtain ⟨c, hc⟩ := State.commitImage_differs hpass arg
    obtain ⟨himage, hmode, hvalid, hactive⟩ := c.readBackFailed_effect arg
    rw [State.checkAndCommit_differs hpass, hc]
    exact ⟨himage, hmode, hvalid, rfl, rfl, hactive⟩
  case refused =>
    rw [State.checkAndCommit_refused he]
    exact State.refuseCurrent_effect hx e
  case done =>
    cases hp : x.partialImage with
    | false =>
      obtain ⟨hloader, hentry, hmode, himage⟩ := s.commitDone_full_effect hp
      rw [hloader]
      exact ⟨rfl, rfl, rfl, hentry, fun _ => ⟨hmode, rfl, himage⟩, nofun⟩
    | true =>
      obtain ⟨hentry, -⟩ := s.commitCounted_entry x
      cases hi : s.image with
      | none =>
        rw [State.commitDone_partial_none hp hi]
        exact ⟨rfl, rfl, rfl, hentry, nofun, nofun⟩
      | some i =>
        rw [State.commitDone_partial hp hi]
        refine ⟨rfl, rfl, rfl, hentry, nofun, fun _ j hj => ?_⟩
        cases hj
        exact ⟨rfl, rfl, rfl, rfl⟩

end

section
/-! One edge of a word cell (R217 to R223): what the operation of an entry gives, and what a held and an executed entry leave. -/

set_option Elab.async false

namespace Sys2Proof.Machine

/-! ### The operations (Table 9-3) -/

/-- The commands of the operations, in the order of their codes. -/
def operationCommands : List (Nat → Instr) :=
  [.wcPass, .wcAdd, .wcSub, .wcAnd, .wcOr, .wcXor, .wcNot, .wcShl, .wcShr, .wcSar, .wcRol, .wcMullo, .wcMulhu, .wcMulhs, .wcEq, .wcLtu,
    .wcLts, .wcMinu, .wcMaxu, .wcSel, .wcBit, .wcPop, .wcInc, .wcNop]

/-- The command of an operation is one edge at which the entry has that operation. -/
theorem exec_operationCommand {op : Nat} {c : Nat → Instr} (hc : operationCommands[op]? = some c) (k : Nat) (s : State) :
    exec (c k) s = .next (s.execCell op k) := by
  have hall : operationCommands.map (fun c => exec (c k) s) = (List.range 24).map fun op => .next (s.execCell op k) := rfl
  have hop : op < 24 := (List.getElem?_eq_some_iff.1 hc).1
  simpa [hc, hop] using congrArg (fun l => l[op]?) hall

/-- The value and the flag output of every operation on A, B, the shift amount and the flag, as Table 9-3 states them. -/
def operationTable (a b : BitVec 32) (sh : Nat) (flag : Bool) : List (BitVec 32 × Bool) :=
  [(a, a != 0), (a + b, decide (2 ^ 32 ≤ a.toNat + b.toNat)), (a - b, decide (a.toNat < b.toNat)), (a &&& b, a &&& b != 0), (a ||| b, a ||| b != 0),
    (a ^^^ b, a ^^^ b != 0), (~~~a, ~~~a != 0), (a <<< sh, sh != 0 && a.getLsbD (31 - sh + 1)), (a >>> sh, sh != 0 && a.getLsbD (sh - 1)),
    (a.sshiftRight sh, sh != 0 && a.getLsbD (sh - 1)), (a <<< sh ||| a >>> (32 - sh), a <<< sh ||| a >>> (32 - sh) != 0), (a * b, a * b != 0),
    (BitVec.ofNat 32 ((a.toNat * b.toNat) / 2 ^ 32), decide (2 ^ 32 ≤ a.toNat * b.toNat)),
    (BitVec.ofInt 32 ((a.toInt * b.toInt) / 2 ^ 32), decide (a.toInt * b.toInt < 0 ∨ 2 ^ 32 ≤ a.toInt * b.toInt)),
    (a, decide (a = b)), (a, decide (a.toNat < b.toNat)), (a, decide (a.toInt < b.toInt)),
    (if a.toNat < b.toNat then a else b, decide (a.toNat < b.toNat)), (if a.toNat < b.toNat then b else a, decide (a.toNat < b.toNat)),
    (if flag then b else a, flag), (if a.getLsbD sh then 1 else 0, a.getLsbD sh),
    (BitVec.ofNat 32 ((List.range 32).filter fun i => a.getLsbD i).length, a != 0), (a + 1, decide (a = 0xFFFFFFFF)), (0, false)]

/-- A rotation is the two shifts. -/
theorem rotl32_eq (a : BitVec 32) {sh : Nat} (h : sh < 32) : rotl32 a sh = a <<< sh ||| a >>> (32 - sh) := by
  rw [rotl32, BitVec.rotateLeft_eq_rotateLeftAux_of_lt h, BitVec.rotateLeftAux]

theorem bne_zero_of_iff {r : BitVec 32} {p : Prop} [Decidable p] (h : r = 0 ↔ ¬ p) : (r != 0) = decide p :=
  Bool.eq_iff_iff.2 (by rw [bne_iff_ne, decide_eq_true_iff, Ne, h, Decidable.not_not])

/-- The high half of an unsigned product is not 0 where the product has more than 32 bits. -/
theorem mulhu_ne_zero (a b : BitVec 32) :
    (BitVec.ofNat 32 (a.toNat * b.toNat / 2 ^ 32) != 0) = decide (2 ^ 32 ≤ a.toNat * b.toNat) := by
  have hlt : a.toNat * b.toNat < 2 ^ 32 * 2 ^ 32 := Nat.mul_lt_mul'' a.isLt b.isLt
  generalize a.toNat * b.toNat = p at hlt ⊢
  exact bne_zero_of_iff (by bv_omega)

/-- That of a signed product is 0 where the product is a number of 32 bits that is not negative. -/
theorem mulhs_ne_zero (a b : BitVec 32) :
    (BitVec.ofInt 32 (a.toInt * b.toInt / 2 ^ 32) != 0) = decide (a.toInt * b.toInt < 0 ∨ 2 ^ 32 ≤ a.toInt * b.toInt) := by
  have hbound : (a.toInt * b.toInt).natAbs ≤ 2 ^ 31 * 2 ^ 31 := by
    rw [Int.natAbs_mul]
    have ha := a.toInt_lt
    have ha' := a.le_toInt
    have hb := b.toInt_lt
    have hb' := b.le_toInt
    exact Nat.mul_le_mul (by omega) (by omega)
  generalize a.toInt * b.toInt = p at hbound ⊢
  refine bne_zero_of_iff ?_
  rw [← BitVec.toNat_inj, BitVec.toNat_ofInt]
  simp only [BitVec.ofNat_eq_ofNat, BitVec.toNat_ofNat]
  omega

theorem popCount_eq (a : BitVec 32) : popCount a = ((List.range 32).filter fun i => a.getLsbD i).length := by
  have hfold (l : List Nat) (n : Nat) : l.foldl (fun n i => n + b2n (a.getLsbD i)) n = n + (l.filter fun i => a.getLsbD i).length := by
    induction l generalizing n with
    | nil => rfl
    | cons i l ih =>
      rw [List.foldl_cons, ih, List.filter_cons]
      cases a.getLsbD i <;> simp [b2n, Nat.add_assoc, Nat.add_comm]
  rw [popCount, hfold, Nat.zero_add]

/-- A word has a number of ones other than 0 where it is not 0. -/
theorem popCount_ne_zero (a : BitVec 32) : (BitVec.ofNat 32 (popCount a) != 0) = (a != 0) := by
  have hle : popCount a ≤ 32 := by
    rw [popCount_eq]
    exact List.length_filter_le ..
  have hzero : popCount a = 0 ↔ a = 0 := by
    rw [popCount_eq, List.length_eq_zero_iff, List.filter_eq_nil_iff]
    refine ⟨fun h => BitVec.eq_of_getLsbD_eq fun i hi => ?_, fun h i _ => by simp [h]⟩
    simpa using h i (List.mem_range.2 hi)
  have hword : BitVec.ofNat 32 (popCount a) = 0 ↔ popCount a = 0 := by bv_omega
  rw [Bool.eq_iff_iff, bne_iff_ne, bne_iff_ne, Ne, Ne, hword, hzero]

theorem bitValue_eq (x : Bool) : BitVec.ofNat 32 (b2n x) = if x then 1 else 0 := by cases x <;> rfl

theorem increment_carry (a : BitVec 32) : decide (2 ^ 32 ≤ a.toNat + 1) = decide (a = 0xFFFFFFFF) :=
  decide_eq_decide.2 (by bv_omega)

/-- The model's results and flags are those of the table. -/
theorem operationTable_getElem? (a b : BitVec 32) {sh : Nat} (hsh : sh < 32) (flag : Bool) {op : Nat} (hop : op < 23) :
    (operationTable a b sh flag)[op]? = some (wcResult op a b sh flag, wcFlag op a b (wcResult op a b sh flag) sh flag) :=
  match op, hop with
  | 7, _ => congrArg (fun n => some (a <<< sh, sh != 0 && a.getLsbD n)) (by omega)
  | 10, _ => congrArg (fun r => some (r, r != 0)) (rotl32_eq a hsh).symm
  | 12, _ => congrArg (fun f => some (_, f)) (mulhu_ne_zero a b).symm
  | 13, _ => congrArg (fun f => some (_, f)) (mulhs_ne_zero a b).symm
  | 20, _ => congrArg (fun r => some (r, a.getLsbD sh)) (bitValue_eq _).symm
  | 21, _ => congrArg some (Prod.ext (congrArg (BitVec.ofNat 32) (popCount_eq a).symm) (popCount_ne_zero a).symm)
  | 22, _ => congrArg (fun f => some (_, f)) (increment_carry a).symm
  | 0, _ | 1, _ | 2, _ | 3, _ | 4, _ | 5, _ | 6, _ | 8, _ | 9, _ | 11, _ | 14, _ | 15, _ | 16, _ | 17, _ | 18, _ | 19, _ => rfl
  | _ + 23, h => absurd h (by omega)

theorem wcSh_lt (e : Nat) : wcSh e < 32 := Nat.mod_lt _ (by decide)

/-- Of the 24 operations only the no-operation has code 23. -/
theorem operationTable_op_lt {a b : BitVec 32} {sh op : Nat} {flag : Bool} {r : BitVec 32 × Bool} (hr : some r = (operationTable a b sh flag)[op]?)
    (h : op ≠ 23) : op < 23 := by
  obtain ⟨hlt, -⟩ := List.getElem?_eq_some_iff.1 hr.symm
  exact Nat.lt_of_le_of_ne (Nat.le_of_lt_succ hlt) h

/-! ### What stands before the edge -/

/-- The entry that PC names, and whether its hold applies (R222). -/
def State.entryNow (s : State) (k : Nat) : Nat := s.fabric.entry k (s.fabric.cell k).pc
def State.entryHeld (s : State) (k e : Nat) : Bool := (wcPW e || wcPR e) && wcHW e && !s.portReady k e

/-- The landings before an edge leave the frames as they are. -/
theorem State.landCell_entry (s : State) (k n : Nat) : (s.landCell k).fabric.entry k n = s.fabric.entry k n := by
  have hframes : (s.landCell k).fabric.clusterFrames = s.fabric.clusterFrames :=
    ((State.withFabric_putCell_sameBut _ k _).2.2 .fabClusterFrames (by decide)).trans ((s.landStagings_kept k).agree .fabClusterFrames)
  unfold Fabric.entry Fabric.cellField Fabric.clusterFrame
  rw [hframes]

theorem Kept.cell_eq {m : Nat} {s t : State} (h : Kept m s t) (k : Nat) (hm : ¬ m.testBit Component.fabCells.bit = true := by decide) :
    t.fabric.cell k = s.fabric.cell k := congrArg (Sparse.get _ · k) (h.agree .fabCells hm)

theorem Kept.tile_eq {m : Nat} {s t : State} (h : Kept m s t) (k : Nat) (hm : ¬ m.testBit Component.arrTiles.bit = true := by decide) :
    t.arr.tile k = s.arr.tile k := congrArg (Sparse.get _ · k) (h.agree .arrTiles hm)

section
variable {s : State} (hw : Sparse.wf (fun _ => WordCell.zero) s.fabric.cells = true)
include hw

theorem State.landStagings_cells (k : Nat) : Sparse.wf (fun _ => WordCell.zero) (s.landStagings k).fabric.cells = true ∧
    ((s.landStagings k).fabric.cell k).pc = (s.fabric.cell k).pc := by
  unfold State.landStagings
  dsimp only
  split
  case isTrue => exact ⟨hw, rfl⟩
  case isFalse =>
    have hkept := s.stageBytes_kept k ((s.fabric.dueStagings k).map Prod.fst)
    have hwf := hw
    rw [← hkept.agree .fabCells] at hwf
    refine ⟨Fabric.setCell_cells_wf hwf .., ?_⟩
    rw [State.withFabric, Fabric.cell_setCell_same hwf, hkept.cell_eq]

theorem State.landCell_cells_wf (k : Nat) : Sparse.wf (fun _ => WordCell.zero) (s.landCell k).fabric.cells = true :=
  (congrArg _ (Fabric.putCell_cells ..)).trans (Fabric.setCell_cells_wf (State.landStagings_cells hw k).1 ..)

theorem State.landCell_pc (k : Nat) : ((s.landCell k).fabric.cell k).pc = (s.fabric.cell k).pc := by
  have hcell : (s.landCell k).fabric.cell k = ((s.landStagings k).fabric.cell k).landDue.strobeDue :=
    (Fabric.cell_putCell ..).trans (Fabric.cell_setCell_same (State.landStagings_cells hw k).1 ..)
  have hpc (c : WordCell) : c.landDue.strobeDue.pc = c.pc := by
    unfold WordCell.strobeDue WordCell.landDue
    rw [WordCell.foldl_land]
    split <;> rfl
  rw [hcell, hpc, (landStagings_cells hw k).2]

theorem State.landCell_entryNow (k : Nat) : (s.landCell k).entryNow k = s.entryNow k := by
  rw [entryNow, landCell_pc hw, landCell_entry, entryNow]

/-- At an edge of its clock, a cell holds or executes the entry that PC names. -/
theorem State.execCell_eq {op k : Nat} (hruns : s.cellRuns k = true) (hdue : s.fabric.edgeDue k = true)
    (hop : wcOp ((s.landCell k).entryNow k) = op) : s.execCell op k =
      (if (s.landCell k).entryHeld k ((s.landCell k).entryNow k) then (s.landCell k).holdCell k
        else (s.landCell k).runEntry k ((s.landCell k).entryNow k)).stretchTile (k / 256) := by
  rw [landCell_entryNow hw] at hop
  refine if_neg ?_
  rw [hruns, hdue, show wcOp (s.fabric.entry k (s.fabric.cell k).pc) = op from hop]
  simp

/-! ### A held entry (R222) -/

theorem State.holdCell_cell (k : Nat) :
    (s.holdCell k).fabric.cell k = { (s.fabric.cell k).tickEdge with pipes := s.samplePipes k } ∧
      ∀ m, m ≠ k → (s.holdCell k).fabric.cell m = s.fabric.cell m :=
  ⟨Fabric.cell_setCell_same hw .., fun _ hm => Fabric.cell_setCell_ne hw hm _⟩

/-! ### An executed entry (R220 to R223) -/

/-- What an executed entry leaves in the cells. -/
theorem State.runEntry_cell (k e : Nat) : (s.runEntry k e).fabric.cell k = s.wcEffect k e ∧
    ∀ m, m ≠ k → (s.runEntry k e).fabric.cell m = s.fabric.cell m := by
  have hact := s.actPort_kept k e
  have hdraw := ((s.actPort k e).withFabric fun f => f.setCell k (s.wcEffect k e)).drawMul_kept k (wcOp e)
  have hwf : Sparse.wf (fun _ => WordCell.zero) (s.actPort k e).fabric.cells = true := by
    rw [hact.agree .fabCells]
    exact hw
  exact ⟨(hdraw.cell_eq k).trans (Fabric.cell_setCell_same hwf ..),
    fun m hm => (hdraw.cell_eq m).trans ((Fabric.cell_setCell_ne hwf hm _).trans (hact.cell_eq m))⟩

end

theorem wcIsMul_iff (op : Nat) : wcIsMul op = true ↔ op = 11 ∨ op = 12 ∨ op = 13 := by simp [wcIsMul, or_assoc]

theorem State.drawMul_wcTokens {s : State} (hw : Sparse.wf (fun _ => Tile.zero) s.arr.tiles = true) (k op : Nat) :
    ((s.drawMul k op).arr.tile (k / 256)).wcTokens = (s.arr.tile (k / 256)).wcTokens + if op = 11 ∨ op = 12 ∨ op = 13 then 6 else 0 := by
  rw [drawMul, ite_of_iff (wcIsMul_iff op)]
  split
  case isTrue => exact congrArg Tile.wcTokens (Sparse.get_set_same _ _ _ _ hw)
  case isFalse => rfl

/-- A multiply draws its tokens, another operation none (R223). -/
theorem State.runEntry_wcTokens {s : State} (hw : Sparse.wf (fun _ => Tile.zero) s.arr.tiles = true) (k e : Nat) :
    ((s.runEntry k e).arr.tile (k / 256)).wcTokens =
      (s.arr.tile (k / 256)).wcTokens + if wcOp e = 11 ∨ wcOp e = 12 ∨ wcOp e = 13 then 6 else 0 := by
  have hact := s.actPort_kept k e
  have hwf : Sparse.wf (fun _ => Tile.zero) (s.actPort k e).arr.tiles = true := by
    rw [hact.agree .arrTiles]
    exact hw
  refine (State.drawMul_wcTokens (s := (s.actPort k e).withFabric _) hwf k (wcOp e)).trans ?_
  rw [← hact.tile_eq (k / 256)]
  rfl

/-- Without a port action, an executed entry changes cells and tokens only. -/
theorem State.runEntry_noPort_kept {s : State} {k e : Nat} (hpush : wcPW e = false) (hpop : wcPR e = false) :
    Kept (Component.mask [.fabCells, .arrTiles]) s (s.runEntry k e) := by
  have hact : s.actPort k e = s := by
    unfold actPort
    dsimp only
    rw [hpush, hpop]
    split
    · rfl
    · rfl
    · split <;> rfl
  unfold runEntry
  rw [hact]
  exact ((s.withFabric_kept (m := Component.mask [.fabCells, .arrTiles]) _).trans ((State.drawMul_kept ..).up))

/-- The result and the flag that the table gives are on their way, of a no-operation nothing (R219, R220). -/
theorem State.wcEffect_landings (s : State) (k e : Nat) {r : BitVec 32 × Bool}
    (hr : some r = (operationTable (s.wcSource k (wcSrcA e)) (s.wcSource k (wcSrcB e)) (wcSh e) (s.fabric.cell k).flag)[wcOp e]?) :
    (s.wcEffect k e).landings = ((s.fabric.cell k).landings.map fun l => { l with left := l.left - 1 }) ++
      if wcOp e = 23 then [] else [⟨wcDst e, r.1, if wcFW e then some r.2 else none,
        s.latency (k / 16384) (if wcOp e = 11 ∨ wcOp e = 12 ∨ wcOp e = 13 then 1 else 0)⟩] := by
  unfold wcEffect
  dsimp only
  split
  case isTrue => simp [WordCell.tickEdge]
  case isFalse h =>
    rw [operationTable_getElem? _ _ (wcSh_lt e) _ (operationTable_op_lt hr h), Option.some_inj] at hr
    rw [hr, b2n, ite_of_iff (wcIsMul_iff _)]
    rfl

/-- So is the byte of an entry with XW (R233). -/
theorem State.wcEffect_stagings (s : State) (k e : Nat) {r : BitVec 32 × Bool}
    (hr : some r = (operationTable (s.wcSource k (wcSrcA e)) (s.wcSource k (wcSrcB e)) (wcSh e) (s.fabric.cell k).flag)[wcOp e]?) :
    (s.wcEffect k e).stagings = ((s.fabric.cell k).stagings.map fun b => (b.1, b.2 - 1)) ++
      if wcXW e = true ∧ wcOp e ≠ 23 then [(r.1.toNat % 2 ^ 8, s.latency (k / 16384) 7)] else [] := by
  have hiff : (wcXW e && !decide (wcOp e = 23)) = true ↔ wcXW e = true ∧ wcOp e ≠ 23 := by simp
  unfold wcEffect
  dsimp only
  rw [ite_of_iff hiff]
  split
  case isTrue h =>
    rw [operationTable_getElem? _ _ (wcSh_lt e) _ (operationTable_op_lt hr h.2), Option.some_inj] at hr
    rw [hr]
    rfl
  case isFalse => simp [WordCell.tickEdge]

/-- What an edge leaves of the cell and the tokens, where the entry executes; `o` is the state in which the edge finds them. -/
theorem execCell_executed {s o : State} {k e op : Nat} (ho : o = s.landCell k) (he : e = o.entryNow k) (hop : wcOp e = op)
    (hruns : s.cellRuns k = true) (hdue : s.fabric.edgeDue k = true) (hcells : Sparse.wf (fun _ => WordCell.zero) s.fabric.cells = true)
    (htiles : Sparse.wf (fun _ => Tile.zero) s.arr.tiles = true) (hheld : o.entryHeld k e = false) :
    (s.execCell op k).fabric.cell k = o.wcEffect k e ∧ (∀ m, m ≠ k → (s.execCell op k).fabric.cell m = o.fabric.cell m) ∧
      ((s.execCell op k).arr.tile (k / 256)).wcTokens =
        (o.arr.tile (k / 256)).wcTokens + (if op = 11 ∨ op = 12 ∨ op = 13 then 6 else 0) ∧
      (wcPW e = false → wcPR e = false → o.sameBut [.fabCells, .arrTiles, .trig] (s.execCell op k)) := by
  subst ho he hop
  rw [State.execCell_eq hcells hruns hdue rfl, hheld, if_neg Bool.false_ne_true]
  generalize hrun : (s.landCell k).runEntry k ((s.landCell k).entryNow k) = t
  have hstretch := t.stretchTile_kept (k / 256)
  obtain ⟨hcell, hother⟩ := State.runEntry_cell (State.landCell_cells_wf hcells k) k ((s.landCell k).entryNow k)
  have htiles' : Sparse.wf (fun _ => Tile.zero) (s.landCell k).arr.tiles = true := by
    rw [(s.landCell_kept k).agree .arrTiles]
    exact htiles
  have htokens := State.runEntry_wcTokens htiles' k ((s.landCell k).entryNow k)
  rw [hrun] at hcell hother htokens
  refine ⟨(hstretch.cell_eq k).trans hcell, fun m hm => (hstretch.cell_eq m).trans (hother m hm), ?tokens, fun hpush hpop => ?frame⟩
  case tokens => rw [hstretch.tile_eq, htokens]
  case frame =>
    rw [← hrun] at hstretch ⊢
    exact (((State.runEntry_noPort_kept hpush hpop).up).trans hstretch.up).sameBut_mask

/-- What an edge leaves where the entry is held. -/
theorem execCell_held {s o : State} {k e op : Nat} (ho : o = s.landCell k) (he : e = o.entryNow k) (hop : wcOp e = op)
    (hruns : s.cellRuns k = true) (hdue : s.fabric.edgeDue k = true) (hcells : Sparse.wf (fun _ => WordCell.zero) s.fabric.cells = true)
    (hheld : o.entryHeld k e = true) :
    (s.execCell op k).fabric.cell k = { (o.fabric.cell k).tickEdge with pipes := o.samplePipes k } ∧
      (∀ m, m ≠ k → (s.execCell op k).fabric.cell m = o.fabric.cell m) ∧ o.sameBut [.fabCells, .trig] (s.execCell op k) := by
  subst ho he hop
  rw [State.execCell_eq hcells hruns hdue rfl, if_pos hheld]
  have hstretch := ((s.landCell k).holdCell k).stretchTile_kept (k / 256)
  obtain ⟨hcell, hother⟩ := State.holdCell_cell (State.landCell_cells_wf hcells k) k
  exact ⟨(hstretch.cell_eq k).trans hcell, fun m hm => (hstretch.cell_eq m).trans (hother m hm),
    (((State.holdCell_kept ..).up).trans hstretch.up).sameBut_mask⟩

end Sys2Proof.Machine

open Sys2Proof Sys2Proof.Machine

/-- Settles O28: the result of each operation by the table of the operations, what an executed and a held entry leave by the lemmas of
the edge. -/
theorem wordCellOperationsTakeEffect : Obligations.WordCellOperationsTakeEffect := by
  intro s op k c o x e sh a b held hc ho hx he hsh ha hb hheld hruns hdue hop hcells htiles
  subst hx hsh ha hb
  have hexec := exec_operationCommand hc k s
  refine ⟨fun hfalse r hr => ?executed, fun htrue => ?held⟩
  case executed =>
    obtain ⟨hcell, hother, htokens, hframe⟩ := execCell_executed ho he hop hruns hdue hcells htiles (hheld.symm.trans hfalse)
    refine ⟨_, hexec, ?pc, ?landings, ?stagings, ?registers, ?strobe, hother, htokens, hframe⟩ <;> rw [hcell]
    case pc => rfl
    case landings => subst hop; exact o.wcEffect_landings k e hr
    case stagings => subst hop; exact o.wcEffect_stagings k e hr
    case registers => rfl
    case strobe => rfl
  case held => exact ⟨_, hexec, execCell_held ho he hop hruns hdue hcells (hheld.symm.trans htrue)⟩

end

section
/-! A list of tiles that is not canonical: a tile that it names twice ends its interval twice, the second time with its tokens given back. -/

set_option Elab.async false

namespace Sys2Proof.Machine

/-- A state whose image gives no tile word-cell tokens, and whose list of tiles names tile 0 twice, with one such token drawn. -/
def doubledTile : State := { State.reset with
  image := some ⟨0, 0, 0, [], 0, [], false, 0, 64, 1, 0, [], 0, 0, 0, 0, 0, [], [], 0, 0, 0, 0⟩
  arr := { State.reset.arr with tiles := List.replicate 2 (0, { Tile.zero with tokens := 1, wcTokens := 1 }) } }

theorem doubledTile_interval : ((doubledTile.arr.tiles.map Prod.fst).foldl State.cellInterval doubledTile).tokens.overdraws = 1 := by
  decide +kernel

end Sys2Proof.Machine

open Sys2Proof Sys2Proof.Machine

/-- Refutes O29: its last clause counts the entries of the list of tiles that overdraw, of any list, without the canonical form that the
other clauses ask for. A list that names one overdrawn tile twice has two such entries, and the interval counts one overdraw. -/
theorem not_heldEntriesAndMultiplyTokens : ¬ Obligations.HeldEntriesAndMultiplyTokens := by
  intro h
  obtain ⟨t, ht, hcount⟩ := h.2 doubledTile _ rfl (by decide)
  have hone : t.tokens.overdraws = 1 := Host.Outcome.next.inj ht ▸ doubledTile_interval
  exact absurd (hone.symm.trans hcount) (by decide +kernel)

end

section
/-! The bridge engines (R240 to R243, R441): beats that are received, delivered and transmitted, and the pauses and resumes of either end. -/

set_option Elab.async false

namespace Sys2Proof.Machine

/-! ### Engines and lanes in their lists -/

theorem listSet_eq_set {α : Type} (l : List α) (i : Nat) (x : α) : listSet l i x = l.set i x := by
  induction l generalizing i with
  | nil => rfl
  | cons y l ih => cases i with
    | zero => rfl
    | succ i => exact congrArg (y :: ·) (ih i)

theorem State.engine_setEngine_same {s : State} {n : Nat} (hn : n < s.fabric.engines.length) (x : BridgeEngine) :
    (s.setEngine n x).engine n = x := by
  show (listSet s.fabric.engines n x).getD n _ = x
  rw [listSet_eq_set, List.getD_eq_getElem?_getD, List.getElem?_set_self hn, Option.getD_some]

theorem State.engine_setEngine_ne (s : State) {n m : Nat} (hm : m ≠ n) (x : BridgeEngine) : (s.setEngine n x).engine m = s.engine m := by
  show (listSet s.fabric.engines n x).getD m _ = s.fabric.engines.getD m _
  rw [listSet_eq_set, List.getD_eq_getElem?_getD, List.getElem?_set_ne hm.symm, List.getD_eq_getElem?_getD]

theorem State.setEngine_engines_length (s : State) (n : Nat) (x : BridgeEngine) :
    (s.setEngine n x).fabric.engines.length = s.fabric.engines.length := by
  show (listSet s.fabric.engines n x).length = _
  rw [listSet_eq_set, List.length_set]

theorem Kept.engine_eq {m : Nat} {s t : State} (h : Kept m s t) (n : Nat) (hm : ¬ m.testBit Component.fabEngines.bit = true := by decide) :
    t.engine n = s.engine n := congrArg (List.getD · n _) (h.agree .fabEngines hm)

theorem Kept.setting_eq {m : Nat} {s t : State} (h : Kept m s t) (key : Nat) (hm : ¬ m.testBit Component.dict.bit = true := by decide) :
    t.entry key = s.entry key := by
  unfold State.entry
  rw [h.part, h.agree .dict hm]

theorem State.sendBlock_sent (s : State) (l : Nat) (x : LaneBlock) :
    ((s.sendBlock l x).lane l).sent = (s.lane l).sent ++ if l < s.lanes.length then [x] else [] := by
  show ((listSet s.lanes l _).getD l _).sent = _
  rw [listSet_eq_set, List.getD_eq_getElem?_getD]
  by_cases hl : l < s.lanes.length
  · rw [List.getElem?_set_self hl, if_pos hl, Option.getD_some]
  · rw [if_neg hl, List.append_nil, List.set_eq_of_length_le (Nat.not_lt.1 hl), ← List.getD_eq_getElem?_getD]
    rfl

/-! ### Engines in use -/

theorem State.boundEngine_eq_some {s : State} {n : Nat} {b : BridgeBinding} :
    s.boundEngine n = some b ↔ n < 8 ∧ s.sec.halted = false ∧ (s.engine n).bound = some b := by
  unfold boundEngine
  split
  case isTrue h => exact ⟨nofun, fun ⟨hn, hhalt, _⟩ => h.elim (fun h => absurd hn (Nat.not_lt.2 h)) (by simp [hhalt])⟩
  case isFalse h =>
    rw [not_or, Nat.not_le, Bool.not_eq_true] at h
    simp [h]

theorem State.liveEngine_of_bound {s : State} {n : Nat} {b : BridgeBinding} (hb : s.boundEngine n = some b)
    (hup : s.engineLanesUp b = true) : s.liveEngine n = some b := by
  obtain ⟨hn, hhalt, hbound⟩ := boundEngine_eq_some.1 hb
  rw [liveEngine, if_neg (by simp [hhalt, hn]), hbound, Option.filter_some, if_pos hup]

/-- Whether an engine's lanes are up is a matter of their states only. -/
theorem State.engineLanesUp_eq (s : State) (b : BridgeBinding) : s.engineLanesUp b =
    (b.laneKind == 1 || (List.range b.laneCount).all fun k => (s.lanes.map Lane.state)[b.firstLane + k]? == some 3) := by
  unfold engineLanesUp
  congr 2
  funext k
  rw [List.getElem?_map]
  cases s.lanes[b.firstLane + k]? <;> rfl

/-- A lane that takes a block stays in its state. -/
theorem State.receive_states (s : State) (l : Nat) (w : WireBlock) : (s.receive l w).1.lanes.map Lane.state = s.lanes.map Lane.state := by
  have hset (x : Lane) (hx : x.state = (s.lane l).state) : (s.setLane l x).lanes.map Lane.state = s.lanes.map Lane.state := by
    show (listSet s.lanes l x).map Lane.state = _
    rw [listSet_eq_set, List.map_set, hx, lane, List.getD_eq_getElem?_getD]
    by_cases hl : l < s.lanes.length
    · rw [List.getElem?_eq_getElem hl, Option.getD_some, ← List.getElem_map Lane.state (h := by simpa using hl), List.set_getElem_self]
    · exact List.set_eq_of_length_le (by simpa using hl)
  have hcounted (c : Prop) [Decidable c] (n : Nat) :
      (if c then { s.lane l with fecCorrected := n } else s.lane l).state = (s.lane l).state := by split <;> rfl
  unfold receive
  dsimp only
  split
  · rfl
  · split
    · exact hset _ (hcounted ..)
    · split
      · split
        · exact hset _ (hcounted ..)
        · exact hset _ (hcounted ..)
      · exact hset _ (hcounted ..)

theorem State.receive_liveEngine {s : State} {n : Nat} {b : BridgeBinding} (hb : s.boundEngine n = some b)
    (hup : s.engineLanesUp b = true) (l : Nat) (w : WireBlock) : (s.receive l w).1.liveEngine n = some b := by
  have hkept := s.receive_kept l w
  obtain ⟨hn, hhalt, hbound⟩ := boundEngine_eq_some.1 hb
  refine liveEngine_of_bound (boundEngine_eq_some.2 ⟨hn, ?_, by rwa [hkept.engine_eq]⟩) ?_
  · exact (congrArg Security.halted (hkept.agree .sec)).trans hhalt
  · rw [engineLanesUp_eq, receive_states, ← engineLanesUp_eq, hup]

/-! ### A beat is received (R241, R243) -/

theorem exec_bridgeBeatReceived {s : State} {n : Nat} {b : BridgeBinding} (hlive : s.liveEngine n = some b) (blocks : List Nat) :
    exec (.bridgeBeatReceived n blocks) s = .next (if (s.engine n).rx.length < b.rxDepth then
      (s.setEngine n { s.engine n with rx := (s.engine n).rx ++ [beatOf b.width blocks] }).checkPause n b else s.dropBeat n) := by
  show execBridgeBeatReceived n blocks s = _
  simp only [execBridgeBeatReceived, hlive]

/-- Below the high-water mark, and after a pause, no pause is sent. -/
theorem State.checkPause_quiet {s : State} {n : Nat} {b : BridgeBinding}
    (h : (s.engine n).rx.length < b.highWater ∨ (s.engine n).pauseSent = true) : s.checkPause n b = s := by
  refine if_neg ?_
  rw [Classical.not_and_iff_not_or_not, Nat.not_le, Bool.not_eq_false]
  exact h

/-- At the high-water mark a pause is sent and counted. -/
theorem State.checkPause_sends {s : State} {n : Nat} {b : BridgeBinding} (hlen : n < s.fabric.engines.length)
    (hd : Sparse.wf (defaultOf s.part.grade) s.dict = true) (hw : b.highWater ≤ (s.engine n).rx.length)
    (hp : (s.engine n).pauseSent = false) :
    (s.checkPause n b).engine n = { s.engine n with pauseSent := true } ∧
      (s.checkPause n b).entry (bridgeKey n 4) = sat32 (s.entry (bridgeKey n 4)) 1 ∧
      (∀ m, m ≠ n → (s.checkPause n b).engine m = s.engine m) ∧
      (b.laneKind = 0 → ((s.checkPause n b).lane b.firstLane).sent =
        (s.lane b.firstLane).sent ++ if b.firstLane < s.lanes.length then [.pause n] else []) := by
  let t := s.setEngine n { s.engine n with pauseSent := true }
  let u := t.engineBlock b (.pause n)
  have hu : s.checkPause n b = u.bump (bridgeKey n 4) := if_pos ⟨hw, hp⟩
  have hblock : Kept _ t u := State.engineBlock_kept ..
  have hbump := u.bump_kept (bridgeKey n 4)
  have hset := s.setEngine_kept n { s.engine n with pauseSent := true }
  rw [hu]
  refine ⟨?engine, ?count, fun m hm => ?others, fun hk => ?lane⟩
  case engine => rw [hbump.engine_eq, hblock.engine_eq, engine_setEngine_same hlen]
  case count =>
    have hdict : Sparse.wf (defaultOf u.part.grade) u.dict = true := hblock.dict hd
    rw [bump, entry_putEntry_same _ _ hdict, hblock.setting_eq, hset.setting_eq]
  case others => rw [hbump.engine_eq, hblock.engine_eq, engine_setEngine_ne _ hm]
  case lane =>
    have hsend : u = t.sendBlock b.firstLane (.pause n) := if_pos hk
    show (u.lane b.firstLane).sent = _
    rw [hsend, sendBlock_sent]
    rfl

/-- A beat that finds the FIFO full is dropped and counted, and logged once. -/
theorem State.dropBeat_effect {s : State} {n : Nat} (hlen : n < s.fabric.engines.length)
    (hd : Sparse.wf (defaultOf s.part.grade) s.dict = true) :
    ((s.dropBeat n).engine n).rx = (s.engine n).rx ∧ (s.dropBeat n).entry (bridgeKey n 5) = sat32 (s.entry (bridgeKey n 5)) 1 ∧
      ((s.engine n).overflowLogged = false → s.logged (s.dropBeat n) 0x8121 srcHub 0) ∧
      ((s.engine n).overflowLogged = true → (s.dropBeat n).log = s.log) ∧ ∀ m, m ≠ n → (s.dropBeat n).engine m = s.engine m := by
  obtain ⟨t, ht, hcount, hkept⟩ : ∃ t : State, s.dropBeat n = (if (t.engine n).overflowLogged then t
      else (t.setEngine n { t.engine n with overflowLogged := true }).log1 0x8121 srcHub 0) ∧
      t.entry (bridgeKey n 5) = sat32 (s.entry (bridgeKey n 5)) 1 ∧ Kept 0x2 s t := by
    refine ⟨_, rfl, ?_, ((s.bump_kept _).trans (.ite (State.putEntry_kept ..) (.refl _)))⟩
    have hbump : (s.bump (bridgeKey n 5)).entry (bridgeKey n 5) = sat32 (s.entry (bridgeKey n 5)) 1 := entry_putEntry_same _ _ hd
    split
    · rw [entry_putEntry_ne _ _ ((s.bump_kept _).dict hd) (by simp [bridgeKey, keyOf]), hbump]
    · exact hbump
  have hlog : t.log = s.log := hkept.agree .log
  rw [ht, ← hkept.engine_eq n, ← hcount]
  cases hover : (t.engine n).overflowLogged with
  | true =>
    rw [if_pos rfl]
    exact ⟨rfl, rfl, nofun, fun _ => hlog, fun m _ => hkept.engine_eq m⟩
  | false =>
    let v := t.setEngine n { t.engine n with overflowLogged := true }
    have hlen' : n < t.fabric.engines.length := by rwa [hkept.agree .fabEngines]
    have hlogging := v.log1_kept 0x8121 srcHub 0
    rw [if_neg Bool.false_ne_true]
    refine ⟨?_, ?_, fun _ => (v.log1_logged 0x8121 srcHub 0).of hlog rfl, nofun, fun m hm => ?_⟩
    · rw [hlogging.engine_eq, engine_setEngine_same hlen']
    · rw [hlogging.setting_eq, (t.setEngine_kept ..).setting_eq]
    · rw [hlogging.engine_eq, engine_setEngine_ne _ hm, hkept.engine_eq]

/-! ### A beat is delivered (R241) -/

theorem exec_bridgeBeatDelivered {s : State} {n : Nat} {b : BridgeBinding} (hb : s.boundEngine n = some b)
    (hd : (s.engine n).delivered < (s.engine n).rx.length) (hst : 2 ≤ s.fabric.stage (b.die * 64 + b.tile)) :
    exec (.bridgeBeatDelivered n) s = .next (s.setEngine n { s.engine n with delivered := (s.engine n).delivered + 1 }) := by
  show execBridgeBeatDelivered n s = _
  simp only [execBridgeBeatDelivered, hb]
  rw [if_pos ⟨hd, hst⟩]

/-! ### A beat is transmitted (R241, R242) -/

theorem State.roomMargin_of_image {s t : State} (h : t.image = s.image) (n : Nat) : t.roomMargin n = s.roomMargin n := by
  unfold roomMargin L lead inDomain lambdaMax
  rw [h]

theorem exec_bridgeBeatTransmitted {s : State} {n : Nat} {b : BridgeBinding} (hlive : s.liveEngine n = some b) {beat : List Nat}
    {rest : List (List Nat)} (htx : (s.engine n).tx = beat :: rest) :
    exec (.bridgeBeatTransmitted n) s = .next (if (s.engine n).paused then s else
      ((s.setEngine n { s.engine n with tx := rest, sent := (s.engine n).sent ++ [beat], beats := (s.engine n).beats + 1 }).sendBeat b
        (s.engine n).beats beat).bridgeRoom n b) := by
  show execBridgeBeatTransmitted n s = _
  simp only [execBridgeBeatTransmitted, hlive, htx]

/-- With more free beats than the margin the engine's room stop ends (R242). -/
theorem State.bridgeRoom_rooms {s : State} {n : Nat} {b : BridgeBinding}
    (h : s.roomMargin b.beatsPerCycle < b.txDepth - (s.engine n).tx.length) :
    (s.bridgeRoom n b).arr.sched.rooms = s.arr.sched.rooms.filter fun r => r != (5, n) :=
  congrArg (fun u : State => u.arr.sched.rooms) (if_neg (Nat.not_le.2 h))

/-- What a transmitted beat leaves: the engine takes its new contents, and its room stop ends where the beat makes room. -/
theorem State.transmit_effect {s : State} {n : Nat} (hlen : n < s.fabric.engines.length) (b : BridgeBinding) (y : BridgeEngine) (k : Nat)
    (beat : List Nat) :
    let u := ((s.setEngine n y).sendBeat b k beat).bridgeRoom n b
    u.engine n = y ∧ (∀ m, m ≠ n → u.engine m = s.engine m) ∧
      (s.roomMargin b.beatsPerCycle < b.txDepth - y.tx.length → u.arr.sched.rooms = s.arr.sched.rooms.filter fun r => r != (5, n)) := by
  have hset := s.setEngine_kept n y
  have hsend := (s.setEngine n y).sendBeat_kept b k beat
  have hroom := ((s.setEngine n y).sendBeat b k beat).bridgeRoom_kept n b
  have hengine : ((s.setEngine n y).sendBeat b k beat).engine n = y := by rw [hsend.engine_eq, engine_setEngine_same hlen]
  refine ⟨?_, fun m hm => ?_, fun hfree => ?_⟩
  · rw [hroom.engine_eq, hengine]
  · rw [hroom.engine_eq, hsend.engine_eq, engine_setEngine_ne _ hm]
  · rw [bridgeRoom_rooms (by rwa [hengine, roomMargin_of_image ((hsend.agree .image).trans (hset.agree .image))]), hsend.sched_eq, hset.sched_eq]

/-! ### A PAUSE or RESUME block arrives (R441) -/

theorem exec_pauseReceived {s : State} {n : Nat} {b : BridgeBinding} {w : LaneWire} (hw : (s.receive w.lane w.block).2 = some (.pause n))
    (hlive : (s.receive w.lane w.block).1.liveEngine n = some b) : exec (.pauseReceived w) s =
      .next ((s.receive w.lane w.block).1.setEngine n { (s.receive w.lane w.block).1.engine n with paused := true }) := by
  have hr : s.receive w.lane w.block = ((s.receive w.lane w.block).1, some (.pause n)) := Prod.ext rfl hw
  show execPauseReceived w s = _
  unfold execPauseReceived
  rw [hr]
  simp only [hlive]

theorem exec_resumeReceived {s : State} {n : Nat} {b : BridgeBinding} {w : LaneWire} (hw : (s.receive w.lane w.block).2 = some (.resume n))
    (hlive : (s.receive w.lane w.block).1.liveEngine n = some b) : exec (.resumeReceived w) s =
      .next ((s.receive w.lane w.block).1.setEngine n { (s.receive w.lane w.block).1.engine n with paused := false }) := by
  have hr : s.receive w.lane w.block = ((s.receive w.lane w.block).1, some (.resume n)) := Prod.ext rfl hw
  show execResumeReceived w s = _
  unfold execResumeReceived
  rw [hr]
  simp only [hlive]

/-- Either block sets whether the engine is paused. -/
theorem State.receive_setPaused {s : State} {n : Nat} (hlen : n < s.fabric.engines.length) (w : LaneWire) (p : Bool) :
    let t := (s.receive w.lane w.block).1
    let u := t.setEngine n { t.engine n with paused := p }
    u.engine n = { s.engine n with paused := p } ∧ (∀ m, m ≠ n → u.engine m = s.engine m) ∧ s.sameBut [.fabEngines, .lanes] u := by
  have hkept := s.receive_kept w.lane w.block
  refine ⟨?_, fun m hm => ?_, (hkept.up.trans (State.setEngine_kept ..).up).sameBut_mask⟩
  · rw [engine_setEngine_same (by rwa [hkept.agree .fabEngines]), hkept.engine_eq]
  · rw [engine_setEngine_ne _ hm, hkept.engine_eq]

end Sys2Proof.Machine

open Sys2Proof Sys2Proof.Machine

/-- Settles O31: each command by the lemma of its effect on the engine, a PAUSE or RESUME after the lane has taken the block. -/
theorem bridgeCommandsTakeEffect : Obligations.BridgeCommandsTakeEffect := by
  intro s n b x hb hup hx hlen8 hdict
  subst hx
  obtain ⟨hn, -, -⟩ := State.boundEngine_eq_some.1 hb
  have hlen : n < s.fabric.engines.length := by rwa [hlen8]
  have hlive := State.liveEngine_of_bound hb hup
  refine ⟨fun blocks hroom hquiet => ?joins, fun blocks hroom hw hp => ?pauses, fun blocks hfull => ?drops, fun hd hst => ?delivered,
    fun beat rest htx => ⟨fun hp => ?transmitted, fun hp => ?paused⟩, fun w hw => ?pause, fun w hw => ?resume⟩
  case joins =>
    have he := (exec_bridgeBeatReceived hlive blocks).trans (congrArg _ (if_pos hroom))
    have hset := State.engine_setEngine_same hlen { s.engine n with rx := (s.engine n).rx ++ [beatOf b.width blocks] }
    rw [State.checkPause_quiet (by rw [hset]; simpa using hquiet)] at he
    exact ⟨_, he, hset, fun m hm => s.engine_setEngine_ne hm _, ((s.setEngine_kept ..).up).sameBut_mask⟩
  case pauses =>
    have he := (exec_bridgeBeatReceived hlive blocks).trans (congrArg _ (if_pos hroom))
    have hset := State.engine_setEngine_same hlen { s.engine n with rx := (s.engine n).rx ++ [beatOf b.width blocks] }
    have hkept := s.setEngine_kept n { s.engine n with rx := (s.engine n).rx ++ [beatOf b.width blocks] }
    obtain ⟨hengine, hcount, hothers, hlane⟩ := State.checkPause_sends (b := b) (by rwa [State.setEngine_engines_length]) (hkept.dict hdict)
      (by rw [hset]; simpa using hw) (by rw [hset]; exact hp)
    exact ⟨_, he, by rw [hengine, hset], hcount.trans (by rw [hkept.setting_eq]),
      fun m hm => (hothers m hm).trans (s.engine_setEngine_ne hm _), hlane, (hkept.up.trans (State.checkPause_kept ..).up).sameBut_mask⟩
  case drops =>
    have he := (exec_bridgeBeatReceived hlive blocks).trans (congrArg _ (if_neg (Nat.not_lt.2 hfull)))
    exact ⟨_, he, State.dropBeat_effect hlen hdict⟩
  case delivered =>
    exact ⟨_, exec_bridgeBeatDelivered hb hd hst, State.engine_setEngine_same hlen _, fun m hm => s.engine_setEngine_ne hm _,
      ((s.setEngine_kept ..).up).sameBut_mask⟩
  case transmitted =>
    have he := (exec_bridgeBeatTransmitted hlive htx).trans (congrArg _ (if_neg (by simp [hp])))
    exact ⟨_, he, State.transmit_effect hlen b _ _ _⟩
  case paused =>
    have he := (exec_bridgeBeatTransmitted hlive htx).trans (congrArg _ (if_pos hp))
    exact ⟨s, he, (Kept.refl s).sameBut_mask⟩
  case pause => exact ⟨_, exec_pauseReceived hw (State.receive_liveEngine hb hup ..), State.receive_setPaused hlen w true⟩
  case resume => exact ⟨_, exec_resumeReceived hw (State.receive_liveEngine hb hup ..), State.receive_setPaused hlen w false⟩

end

section
/-! The fixer (R280 to R289): the words of a frame group as writes leave them, a check of one group from its upsets to the pass, the
check of the protected set, and the write of FixerEnable. -/

set_option Elab.async false

namespace Sys2Proof.Machine

theorem Kept.mem_eq {m : Nat} {s t : State} (h : Kept m s t) (hm : m &&& 0x3f0000000000000 = 0 := by decide) : t.mem = s.mem := by
  have hout {c : Component} (hc : Nat.testBit 0x3f0000000000000 c.bit = true) : c.agree s t := by
    refine (h.same c).resolve_left fun hbit => ?_
    have hand := congrArg (Nat.testBit · c.bit) hm
    simp [hbit, hc] at hand
  have hbytes : t.mem.bytes = s.mem.bytes := hout (c := .memBytes) (by decide)
  have honDie : t.mem.onDie = s.mem.onDie := hout (c := .memOnDie) (by decide)
  have hcache : t.mem.cache = s.mem.cache := hout (c := .memCache) (by decide)
  have hmarch : t.mem.march = s.mem.march := hout (c := .memMarch) (by decide)
  have howned : t.mem.owned = s.mem.owned := hout (c := .memOwned) (by decide)
  have hretrained : t.mem.retrained = s.mem.retrained := hout (c := .memRetrained) (by decide)
  calc t.mem = ⟨t.mem.bytes, t.mem.onDie, t.mem.cache, t.mem.march, t.mem.owned, t.mem.retrained⟩ := rfl
    _ = s.mem := by rw [hbytes, honDie, hcache, hmarch, howned, hretrained]

/-! ### Settings beside the words of a group -/

theorem keyOf_select_div {m : Nat} (h : m < 16) : keyOf 0x2750 (m + 1) / 256 = 0x2750 := by
  simp only [keyOf]
  omega

/-- Write the sixteen probe selects. -/
def State.putSelects (s : State) (select : Nat → Nat) : State :=
  (List.range 16).foldl (fun t m => t.putEntry (keyOf 0x2750 (m + 1)) (select m)) s

/-- A write of the module frame is one of its clocks and its probe selects (Table 9-10). -/
theorem State.setGroupWord_moduleFrame (s : State) (die tile item i v : Nat) : s.setGroupWord ⟨.moduleFrame, die, tile, item⟩ i v =
    (s.withFabric fun f => { f with fclk := (List.range 16).map fun k => bits v (16 * k) 16 }).putSelects
      fun m => bits v (256 + 32 * m) 32 := rfl

section
variable {s : State} {key : Nat}

/-- A setting stays over a list of operations each of which leaves it alone. -/
theorem State.entry_foldl {α : Type} {m : Nat} {f : State → α → State} {l : List α} (hkept : ∀ t a, Kept m t (f t a))
    (hentry : ∀ t, ∀ a ∈ l, Sparse.wf (defaultOf t.part.grade) t.dict = true → (f t a).entry key = t.entry key)
    (hd : Sparse.wf (defaultOf s.part.grade) s.dict = true) : (l.foldl f s).entry key = s.entry key :=
  (List.foldlRecOn (motive := fun t => Sparse.wf (defaultOf t.part.grade) t.dict = true ∧ t.entry key = s.entry key) l f ⟨hd, rfl⟩
    fun t ht a ha => ⟨(hkept t a).dict ht.1, (hentry t a ha ht.1).trans ht.2⟩).2

variable (g : FrameGroupId) (hd : Sparse.wf (defaultOf s.part.grade) s.dict = true) (hkey : key / 256 ≠ 0x2750)
include hd hkey

omit g in
theorem State.entry_putSelects (select : Nat → Nat) : (s.putSelects select).entry key = s.entry key :=
  entry_foldl (fun t _ => t.putEntry_kept ..)
    (fun _ _ hm ht => entry_putEntry_ne _ _ ht fun h => hkey (h ▸ keyOf_select_div (List.mem_range.1 hm))) hd

/-- Of the settings, only the probe selects are words of a group. -/
theorem State.entry_setGroupWord (i v : Nat) : (s.setGroupWord g i v).entry key = s.entry key := by
  obtain ⟨kind, die, tile, item⟩ := g
  cases kind
  case moduleFrame =>
    rw [setGroupWord_moduleFrame, entry_putSelects (s := s.withFabric _) hd hkey]
    rfl
  all_goals rfl

theorem State.entry_upset (flips : BitFlips) : (s.upset g flips).entry key = s.entry key :=
  entry_foldl (m := 0x141c0ffff000000002) (fun t f => Kept.ite (t.setGroupWord_kept ..) (.refl t))
    (fun t f _ ht => by
      split
      · exact entry_setGroupWord g ht hkey ..
      · rfl) hd

theorem State.entry_rewrite (l : List Nat) : (s.rewrite g l).entry key = s.entry key :=
  entry_foldl (fun t _ => t.setGroupWord_kept ..) (fun _ _ _ ht => entry_setGroupWord g ht hkey ..) hd

end

theorem State.putSelects_nibs (s : State) (select : Nat → Nat) : (s.putSelects select).arr.nibs = s.arr.nibs := by
  unfold putSelects
  exact foldl_keeps (p := fun t : State => t.arr.nibs) (g := fun t m => t.putEntry (keyOf 0x2750 (m + 1)) (select m)) (fun _ _ => rfl) _ s

theorem State.setGroupWord_nibs (s : State) {g : FrameGroupId} (h : g.kind ≠ .carryMask) (i v : Nat) :
    (s.setGroupWord g i v).arr.nibs = s.arr.nibs := by
  obtain ⟨kind, die, tile, item⟩ := g
  cases kind
  case carryMask => exact absurd rfl h
  case moduleFrame =>
    rw [setGroupWord_moduleFrame, putSelects_nibs]
    rfl
  case tierRow =>
    simp only [setGroupWord, withArr]
    split <;> rfl
  all_goals rfl

theorem State.rewrite_nibs (s : State) {g : FrameGroupId} (h : g.kind ≠ .carryMask) (l : List Nat) :
    (s.rewrite g l).arr.nibs = s.arr.nibs :=
  foldl_keeps (p := fun t : State => t.arr.nibs) (fun t i => t.setGroupWord_nibs h i _) l s

/-! ### Words of the tiles' groups -/

/-- The kinds of group whose words stand in tiers, nibs, queues and frames. -/
def tileKinds : List FrameKind := [.tierRow, .carryMask, .descriptor, .clusterFrame, .tileFrame]

/-- The arrays of those words are in canonical form. -/
structure State.GroupsCanonical (s : State) : Prop where
  words : Sparse.wf (fun _ => TierWord.zero) s.arr.words = true
  routeWords : Sparse.wf (fun _ => TierWord.zero) s.arr.routeWords = true
  nibs : Sparse.wf (fun _ => Nib.zero) s.arr.nibs = true
  queues : Sparse.wf (fun _ => Queue.empty) s.arr.queues = true
  clusterFrames : Sparse.wf (fun _ => 0) s.fabric.clusterFrames = true
  tileFrames : Sparse.wf (fun _ => 0) s.fabric.tileFrames = true

theorem TierWord.num_ofNum {v : Nat} (h : v < 2 ^ 68) : (TierWord.ofNum v).num = v := by
  simp only [num, ofNum, BitVec.toNat_ofNat]
  omega

theorem FrameGroupId.rowKey_nib {g : FrameGroupId} {i j : Nat} (hi : i < 2048) (hj : j < 2048) (h : i ≠ j) :
    g.rowKey i ≠ g.rowKey j := by
  simp only [rowKey, if_pos hi, if_pos hj, wordKey]
  omega

theorem FrameGroupId.rowKey_route {g : FrameGroupId} {i j : Nat} (hi : ¬i < 2048) (hj : ¬j < 2048) (h : i ≠ j) :
    g.rowKey i ≠ g.rowKey j := by
  simp only [rowKey, if_neg hi, if_neg hj, routeKey]
  omega

theorem FrameGroupId.descKey_ne {g : FrameGroupId} {i j : Nat} (h : i ≠ j) : g.descKey i ≠ g.descKey j := by
  simp only [descKey, queueKey]
  omega

section
variable {s : State} {g : FrameGroupId}

theorem State.GroupsCanonical.setGroupWord (h : s.GroupsCanonical) (hg : g.kind ∈ tileKinds) (i v : Nat) :
    (s.setGroupWord g i v).GroupsCanonical := by
  obtain ⟨kind, die, tile, item⟩ := g
  cases kind
  case tierRow =>
    by_cases hi : i < 2048
    · simp only [State.setGroupWord, if_pos hi]
      exact { h with words := Sparse.set_wf _ _ _ _ h.words }
    · simp only [State.setGroupWord, if_neg hi]
      exact { h with routeWords := Sparse.set_wf _ _ _ _ h.routeWords }
  case carryMask => exact { h with nibs := Sparse.set_wf _ _ _ _ h.nibs }
  case descriptor => exact { h with queues := Sparse.set_wf _ _ _ _ h.queues }
  case clusterFrame => exact { h with clusterFrames := Sparse.set_wf _ _ _ _ h.clusterFrames }
  case tileFrame => exact { h with tileFrames := Sparse.set_wf _ _ _ _ h.tileFrames }
  all_goals simp [tileKinds] at hg

variable (hs : s.GroupsCanonical) (hg : g.kind ∈ tileKinds)
include hs hg

/-- A word of a group reads as it was written, where it fits its width. -/
theorem State.groupWord_setGroupWord_same {v : Nat} (hv : v < 2 ^ g.kind.width) (i : Nat) : (s.setGroupWord g i v).groupWord g i = v := by
  obtain ⟨kind, die, tile, item⟩ := g
  cases kind
  case tierRow =>
    by_cases hi : i < 2048
    · simp only [setGroupWord, groupWord, withArr, if_pos hi, Sparse.get_set_same _ _ _ _ hs.words]
      exact TierWord.num_ofNum hv
    · simp only [setGroupWord, groupWord, withArr, if_neg hi, Sparse.get_set_same _ _ _ _ hs.routeWords]
      exact TierWord.num_ofNum hv
  case carryMask =>
    simp only [setGroupWord, groupWord, withArr, NibArray.setNib, NibArray.nib, Sparse.get_set_same _ _ _ _ hs.nibs]
    exact BitVec.toNat_ofNat .. |>.trans (Nat.mod_eq_of_lt hv)
  case descriptor =>
    simp only [setGroupWord, groupWord, withArr, NibArray.setQueue, NibArray.queue, Sparse.get_set_same _ _ _ _ hs.queues]
    exact BitVec.toNat_ofNat .. |>.trans (Nat.mod_eq_of_lt hv)
  case clusterFrame => exact Sparse.get_set_same _ _ _ _ hs.clusterFrames
  case tileFrame => exact Sparse.get_set_same _ _ _ _ hs.tileFrames
  all_goals simp [tileKinds] at hg

/-- A write of one word of a group leaves its other words. -/
theorem State.groupWord_setGroupWord_ne {i j : Nat} (hi : i < g.kind.size) (hj : j < g.kind.size) (h : i ≠ j) (v : Nat) :
    (s.setGroupWord g j v).groupWord g i = s.groupWord g i := by
  obtain ⟨kind, die, tile, item⟩ := g
  cases kind
  case tierRow =>
    by_cases hi' : i < 2048 <;> by_cases hj' : j < 2048
    · simp only [setGroupWord, groupWord, withArr, if_pos hi', if_pos hj']
      rw [Sparse.get_set_ne _ _ _ _ _ hs.words (FrameGroupId.rowKey_nib hi' hj' h)]
    · simp only [setGroupWord, groupWord, withArr, if_pos hi', if_neg hj']
    · simp only [setGroupWord, groupWord, withArr, if_neg hi', if_pos hj']
    · simp only [setGroupWord, groupWord, withArr, if_neg hi', if_neg hj']
      rw [Sparse.get_set_ne _ _ _ _ _ hs.routeWords (FrameGroupId.rowKey_route hi' hj' h)]
  case carryMask =>
    simp only [setGroupWord, groupWord, withArr, NibArray.setNib, NibArray.nib]
    rw [Sparse.get_set_ne _ _ _ _ _ hs.nibs (by omega)]
  case descriptor =>
    simp only [setGroupWord, groupWord, withArr, NibArray.setQueue, NibArray.queue]
    rw [Sparse.get_set_ne _ _ _ _ _ hs.queues (FrameGroupId.descKey_ne h)]
  case clusterFrame => exact absurd ((Nat.lt_one_iff.1 hi).trans (Nat.lt_one_iff.1 hj).symm) h
  case tileFrame => exact absurd ((Nat.lt_one_iff.1 hi).trans (Nat.lt_one_iff.1 hj).symm) h
  all_goals simp [tileKinds] at hg

/-- Rewriting brings the words it names to their golden contents and leaves the others (R285). -/
theorem State.groupWord_rewrite (hfit : ∀ i < g.kind.size, s.fixer.goldenWord g i < 2 ^ g.kind.width) {l : List Nat}
    (hl : ∀ j ∈ l, j < g.kind.size) {i : Nat} (hi : i < g.kind.size) :
    (s.rewrite g l).groupWord g i = if i ∈ l then s.fixer.goldenWord g i else s.groupWord g i := by
  induction l generalizing s with
  | nil => rfl
  | cons j l ih =>
    obtain ⟨hj, hl⟩ := List.forall_mem_cons.1 hl
    let t := s.setGroupWord g j (s.fixer.goldenWord g j)
    have hfixer : t.fixer = s.fixer := (s.setGroupWord_kept ..).agree .fixer
    have ht : (t.rewrite g l).groupWord g i = if i ∈ l then s.fixer.goldenWord g i else t.groupWord g i := by
      rw [ih (hs.setGroupWord hg ..) (by rwa [hfixer]) hl, hfixer]
    by_cases hij : i = j
    · subst hij
      rw [if_pos List.mem_cons_self]
      exact ht.trans (by rw [groupWord_setGroupWord_same hs hg (hfit i hi), ite_self])
    · have hother : t.groupWord g i = s.groupWord g i := groupWord_setGroupWord_ne hs hg hi hj hij _
      exact (ht.trans (by rw [hother])).trans (ite_of_iff (by simp [hij]))

/-- A group whose differing words are rewritten holds its golden contents. -/
theorem State.groupWord_rewrite_groupDiff (hfit : ∀ i < g.kind.size, s.fixer.goldenWord g i < 2 ^ g.kind.width) {i : Nat}
    (hi : i < g.kind.size) : (s.rewrite g (s.groupDiff g)).groupWord g i = s.fixer.goldenWord g i := by
  have hdiff (j : Nat) : j ∈ s.groupDiff g ↔ j < g.kind.size ∧ s.groupWord g j ≠ s.fixer.goldenWord g j := by simp [groupDiff]
  rw [groupWord_rewrite hs hg hfit (fun j hj => ((hdiff j).1 hj).1) hi]
  split
  case isTrue => rfl
  case isFalse h => exact Classical.not_not.1 fun hne => h ((hdiff i).2 ⟨hi, hne⟩)

end

/-- A group that holds its golden contents has their signature. -/
theorem State.signatureDiffers_of_golden {s : State} {g : FrameGroupId}
    (h : ∀ i < g.kind.size, s.groupWord g i = s.fixer.goldenWord g i) : s.signatureDiffers g = false := by
  have hdiff : s.groupDiff g = [] := by simpa [groupDiff] using h
  rw [signatureDiffers, hdiff]
  rfl

/-! ### States whose groups hold the same -/

/-- The two states agree on everything that is a word of some group; both keep their settings in canonical form. -/
structure State.SameGroups (s t : State) : Prop where
  words : t.arr.words = s.arr.words
  routeWords : t.arr.routeWords = s.arr.routeWords
  nibs : t.arr.nibs = s.arr.nibs
  queues : t.arr.queues = s.arr.queues
  clusterFrames : t.fabric.clusterFrames = s.fabric.clusterFrames
  tileFrames : t.fabric.tileFrames = s.fabric.tileFrames
  engines : t.fabric.engines = s.fabric.engines
  fclk : t.fabric.fclk = s.fabric.fclk
  delays : t.fabric.delays = s.fabric.delays
  selects : ∀ m < 16, t.probeSelect m = s.probeSelect m
  dict : Sparse.wf (defaultOf s.part.grade) s.dict = true
  dict' : Sparse.wf (defaultOf t.part.grade) t.dict = true

namespace State.SameGroups

/-- Reports and counts: settings, CAN, log, recorded stop, faults of a commit, fixer, cores, host and schedule. -/
abbrev reportMask : Nat := 0x100400290552

/-- What touches only reports and counts, and no probe select, leaves the groups. -/
theorem of_kept {m : Nat} {s t : State} (h : Kept m s t) (hd : Sparse.wf (defaultOf s.part.grade) s.dict = true)
    (hselects : ∀ key, key / 256 = 0x2750 → t.entry key = s.entry key) (hm : m ||| reportMask = reportMask := by decide) :
    s.SameGroups t :=
  have h := h.mono hm
  ⟨h.agree .arrWords, h.agree .arrRouteWords, h.agree .arrNibs, h.agree .arrQueues, h.agree .fabClusterFrames, h.agree .fabTileFrames,
    h.agree .fabEngines, h.agree .fabFclk, h.agree .fabDelays, fun m hm => hselects _ (keyOf_select_div hm), hd, h.dict hd⟩

theorem bump {s : State} (hd : Sparse.wf (defaultOf s.part.grade) s.dict = true) {key : Nat} (hkey : key / 256 ≠ 0x2750) :
    s.SameGroups (s.bump key) :=
  of_kept (s.bump_kept key) hd fun _ h => entry_putEntry_ne _ _ hd fun he => hkey (he ▸ h)

theorem trans {s t u : State} (h : s.SameGroups t) (k : t.SameGroups u) : s.SameGroups u :=
  ⟨k.words.trans h.words, k.routeWords.trans h.routeWords, k.nibs.trans h.nibs, k.queues.trans h.queues,
    k.clusterFrames.trans h.clusterFrames, k.tileFrames.trans h.tileFrames, k.engines.trans h.engines, k.fclk.trans h.fclk,
    k.delays.trans h.delays, fun m hm => (k.selects m hm).trans (h.selects m hm), h.dict, k.dict'⟩

variable {s t : State} (h : s.SameGroups t)
include h

theorem engine (e : Nat) : t.engine e = s.engine e := congrArg (List.getD · e _) h.engines

theorem groupWord (g : FrameGroupId) (i : Nat) : t.groupWord g i = s.groupWord g i := by
  obtain ⟨kind, die, tile, item⟩ := g
  cases kind
  case moduleFrame =>
    have hselects : (List.range 16).map t.probeSelect = (List.range 16).map s.probeSelect :=
      List.map_congr_left fun m hm => h.selects m (List.mem_range.1 hm)
    simp only [State.groupWord, hselects, h.fclk]
  all_goals simp only [State.groupWord, h.words, h.routeWords, NibArray.nib, h.nibs, NibArray.queue, h.queues, Fabric.clusterFrame,
    h.clusterFrames, Fabric.tileFrame, h.tileFrames, h.engine, h.delays]

theorem groupDiff (hf : t.fixer = s.fixer) (g : FrameGroupId) : t.groupDiff g = s.groupDiff g := by
  simp only [State.groupDiff, h.groupWord, hf]

theorem signatureDiffers (hf : t.fixer = s.fixer) (g : FrameGroupId) : t.signatureDiffers g = s.signatureDiffers g := by
  simp only [State.signatureDiffers, h.groupDiff hf, funext (h.groupWord g), hf]

theorem putEntry (key v : Nat) : (s.putEntry key v).SameGroups (t.putEntry key v) :=
  { h with
    selects := fun m hm => by
      by_cases hk : keyOf 0x2750 (m + 1) = key
      · subst hk
        exact (entry_putEntry_same _ _ h.dict').trans (entry_putEntry_same _ _ h.dict).symm
      · exact (entry_putEntry_ne _ _ h.dict' hk).trans ((h.selects m hm).trans (entry_putEntry_ne _ _ h.dict hk).symm)
    dict := (s.putEntry_kept key v).dict h.dict
    dict' := (t.putEntry_kept key v).dict h.dict' }

theorem putSelects (select : Nat → Nat) : (s.putSelects select).SameGroups (t.putSelects select) :=
  List.foldl_rel (r := SameGroups) h fun _ _ _ _ hab => hab.putEntry ..

/-- One write of a word has one effect on both. -/
theorem setGroupWord (g : FrameGroupId) (i v : Nat) : (s.setGroupWord g i v).SameGroups (t.setGroupWord g i v) := by
  obtain ⟨kind, die, tile, item⟩ := g
  cases kind
  case tierRow =>
    by_cases hi : i < 2048
    · simp only [State.setGroupWord, if_pos hi]
      exact { h with words := by simp only [withArr, h.words] }
    · simp only [State.setGroupWord, if_neg hi]
      exact { h with routeWords := by simp only [withArr, h.routeWords] }
  case carryMask =>
    exact { h with nibs := by simp only [State.setGroupWord, withArr, NibArray.setNib, NibArray.nib, h.nibs] }
  case descriptor =>
    exact { h with queues := by simp only [State.setGroupWord, withArr, NibArray.setQueue, NibArray.queue, h.queues] }
  case clusterFrame => exact { h with clusterFrames := by simp only [State.setGroupWord, withFabric, h.clusterFrames] }
  case tileFrame => exact { h with tileFrames := by simp only [State.setGroupWord, withFabric, h.tileFrames] }
  case bridgeFrame =>
    exact { h with engines := by simp only [State.setGroupWord, setEngine, withFabric, h.engine, h.engines] }
  case moduleFrame =>
    rw [setGroupWord_moduleFrame, setGroupWord_moduleFrame]
    refine putSelects (s := s.withFabric _) (t := t.withFabric _) ?_ _
    exact { h with fclk := rfl }
  case pads => exact { h with delays := by simp only [State.setGroupWord, withFabric, h.delays] }

theorem upset (g : FrameGroupId) (flips : BitFlips) : (s.upset g flips).SameGroups (t.upset g flips) :=
  List.foldl_rel (r := SameGroups) h fun f _ a b hab => by
    rw [hab.groupWord]
    split
    · exact hab.setGroupWord ..
    · exact hab

/-- So has a rewrite from one set of golden contents. -/
theorem rewrite (hf : t.fixer = s.fixer) (g : FrameGroupId) (l : List Nat) : (s.rewrite g l).SameGroups (t.rewrite g l) := by
  induction l generalizing s t with
  | nil => exact h
  | cons i l ih =>
    show ((s.setGroupWord g i (s.fixer.goldenWord g i)).rewrite g l).SameGroups ((t.setGroupWord g i (t.fixer.goldenWord g i)).rewrite g l)
    rw [hf]
    exact ih (h.setGroupWord ..)
      (((t.setGroupWord_kept ..).agree .fixer).trans (hf.trans ((s.setGroupWord_kept ..).agree .fixer).symm))

end State.SameGroups

/-! ### The check of one group (R283, R285, R286) -/

theorem FrameKind.ofCode_code (k : FrameKind) : ofCode k.code = some k := by cases k <;> rfl

/-- FIXER_GROUP_CHECK of the group that its engine takes next. -/
theorem exec_fixerGroupCheck {s : State} {x : FrameGroup} {g : FrameGroupId} (hx : x.kind = g.kind.code)
    (hg : g = ⟨g.kind, x.die, x.tile, x.item⟩) (hscrubs : s.scrubs = true) (hnext : s.groupNext g = true) (ok : Bool) :
    exec (.fixerGroupCheck x ok) s = .next (if ok then (s.upset g x.flips).checkGroup g x.stuck
      else (s.upset g x.flips).deviceHalt haltTag 0x7301 (Config.packArg 0x7301 (g.named 0))) := by
  show execFixerGroupCheck x ok s = _
  rw [execFixerGroupCheck, hx, FrameKind.ofCode_code]
  dsimp only
  rw [← hg, hscrubs, hnext]
  rfl

theorem State.deviceHalt_halted (s : State) (cause code arg : Nat) : (s.deviceHalt cause code arg).sec.halted = true := by
  unfold deviceHalt
  dsimp only
  split
  case isTrue h => exact h
  case isFalse => rfl

/-- The state in which a group with an invalid select field has been counted (R287). -/
def State.noteSelect (s : State) (g : FrameGroupId) : State := if (s.invalidSelect g).isSome then s.bump 0x250106 else s

/-- The state in which a repair has rewritten the group, and the upsets have struck it again. -/
def State.rewritten (s : State) (g : FrameGroupId) (stuck : BitFlips) : State :=
  ((s.noteSelect g).rewrite g (s.groupDiff g)).upset g stuck

/-- The counter of the repairs of a group: TierRepairs or FabricRepairs (R291). -/
def FrameGroupId.repairKey (g : FrameGroupId) : Nat := if g.kind = .tierRow then 0x250104 else 0x250105

theorem FrameGroupId.repairKey_eq (g : FrameGroupId) : g.repairKey = 0x250104 ∨ g.repairKey = 0x250105 := by
  unfold repairKey
  split <;> simp

theorem FrameGroupId.repairKey_div (g : FrameGroupId) : g.repairKey / 256 ≠ 0x2750 := by
  have := g.repairKey_eq
  omega

section
variable {s : State} {g : FrameGroupId}

theorem State.noteSelect_fixer : (s.noteSelect g).fixer = s.fixer := by
  unfold noteSelect
  split <;> rfl

theorem State.noteSelect_same (hd : Sparse.wf (defaultOf s.part.grade) s.dict = true) : s.SameGroups (s.noteSelect g) := by
  unfold noteSelect
  split
  · exact .bump hd (by decide)
  · exact .of_kept (m := 0) (.refl s) hd fun _ _ => rfl

theorem State.entry_noteSelect (hd : Sparse.wf (defaultOf s.part.grade) s.dict = true) {key : Nat} (hkey : key ≠ 0x250106) :
    (s.noteSelect g).entry key = s.entry key := by
  unfold noteSelect
  split
  · exact entry_putEntry_ne _ _ hd hkey
  · rfl

theorem State.noteSelect_sourceMissing : (s.noteSelect g).sourceMissing g = s.sourceMissing g := by
  unfold noteSelect
  split <;> rfl

theorem State.repairGroup_missing (h : s.sourceMissing g = true) (stuck : BitFlips) :
    s.repairGroup g stuck = ((s.noteSelect g).repairFailed g (s.invalidSelect g) 0 true).countDiffering :=
  congrArg State.countDiffering (if_pos (noteSelect_sourceMissing.trans h))

theorem State.repairGroup_rewritten (h : s.sourceMissing g = false) (stuck : BitFlips) :
    s.repairGroup g stuck = (if (s.rewritten g stuck).signatureDiffers g
      then (s.rewritten g stuck).repairFailed g (s.invalidSelect g) (s.wordsRewritten g (s.groupDiff g)) false
      else ((s.rewritten g stuck).repaired g (s.invalidSelect g) (s.wordsRewritten g (s.groupDiff g))).groupMatched g).countDiffering :=
  congrArg State.countDiffering (if_neg (by rw [← noteSelect_sourceMissing (g := g)] at h; simpa [noteSelect] using h))

end

/-! ### What follows the words: reports, counts and the pass -/

/-- All that follows the count of a repair leaves the settings. -/
theorem State.repaired_kept_bump (s : State) (g : FrameGroupId) (select : Option Nat) (words : Nat) :
    Kept 0x100400290550 (s.bump g.repairKey) (s.repaired g select words) := by
  unfold repaired
  exact .ite (((logAs_kept ..).up.trans (keepRecord_kept ..).up).trans (raiseStop_kept ..).up)
    ((logAs_kept ..).up.trans (keepRecord_kept ..).up)

theorem State.repairFailed_kept_bump (s : State) (g : FrameGroupId) (select : Option Nat) (words : Nat) (missing : Bool) :
    Kept 0x100400290550 (s.bump 0x250107) (s.repairFailed g select words missing) := by
  unfold repairFailed
  exact ((((logAs_kept ..).up).trans (keepRecord_kept ..).up).trans (Kept.upd (m := 0x10000) id id).up).trans (raiseStop_kept ..).up

theorem State.repairFailed_failed (s : State) (g : FrameGroupId) (select : Option Nat) (words : Nat) (missing : Bool) :
    g ∈ (s.repairFailed g select words missing).fixer.failed := by
  unfold repairFailed
  rw [(raiseStop_kept ..).agree .fixer]
  dsimp only
  split
  case isTrue h => simpa using h
  case isFalse => exact List.mem_cons_self

theorem State.groupMatched_failed (s : State) (g : FrameGroupId) : g ∉ (s.groupMatched g).fixer.failed := by
  unfold groupMatched
  split
  case isTrue =>
    dsimp only
    split
    · rw [(endCode_kept ..).agree .fixer]
      simp
    · simp
  case isFalse h => simpa using h

theorem State.countDiffering_failed (s : State) : s.countDiffering.fixer.failed = s.fixer.failed := by
  unfold countDiffering
  dsimp only
  split <;> rfl

theorem State.groupChecked_failed (s : State) (g : FrameGroupId) : (s.groupChecked g).fixer.failed = s.fixer.failed := by
  unfold groupChecked
  dsimp only
  split <;> rfl

theorem State.entry_groupChecked {s : State} (hd : Sparse.wf (defaultOf s.part.grade) s.dict = true) (g : FrameGroupId) {key : Nat}
    (hpasses : key ≠ 0x250101) (hduration : key ≠ 0x250102) : (s.groupChecked g).entry key = s.entry key := by
  unfold groupChecked
  dsimp only
  split
  · rfl
  · exact (entry_putEntry_ne _ _ ((bump_kept _ _).dict hd) hduration).trans (entry_putEntry_ne _ _ hd hpasses)

/-- A count, whatever is reported after it, and the progress of the pass leave the words of all groups; of the fixer's counters beyond
those of the pass they change that one only. -/
theorem State.groupChecked_report {w r : State} {key : Nat} (hd : Sparse.wf (defaultOf w.part.grade) w.dict = true)
    (h : Kept 0x100400290550 (w.bump key) r) (hlo : 0x250102 < key) (hhi : key < 0x275000) (g : FrameGroupId) :
    w.SameGroups (r.groupChecked g) ∧ (r.groupChecked g).entry key = sat32 (w.entry key) 1 := by
  have hdbump := (w.bump_kept key).dict hd
  have hdr := h.dict hdbump
  have hpass (k : Nat) (hk : 0x250102 < k) : (r.groupChecked g).entry k = (w.bump key).entry k :=
    (entry_groupChecked hdr g (by omega) (by omega)).trans (h.setting_eq k)
  have hkept : Kept SameGroups.reportMask (w.bump key) (r.groupChecked g) := h.up.trans (r.groupChecked_kept g).up
  exact ⟨(SameGroups.bump hd (by omega)).trans (.of_kept hkept hdbump fun k hk => hpass k (by omega)),
    (hpass key hlo).trans (entry_putEntry_same _ _ hd)⟩

/-! ### The outcomes of a check -/

section
variable {u : State} {g : FrameGroupId}

theorem State.checkGroup_of_differs (hsig : u.signatureDiffers g = true) (stuck : BitFlips) :
    u.checkGroup g stuck = (u.repairGroup g stuck).groupChecked g := congrArg (groupChecked · g) (if_pos hsig)

/-- A group that matches changes nothing but the pass. -/
theorem State.checkGroup_match (hsig : u.signatureDiffers g = false) (hfailed : u.fixer.failed = []) (stuck : BitFlips) :
    u.sameBut [.fixer, .dict] (u.checkGroup g stuck) ∧ (u.checkGroup g stuck).fixer.failed = [] := by
  have hmatched : u.groupMatched g = u := if_neg (by simp [hfailed])
  have hcheck : u.checkGroup g stuck = u.groupChecked g := by
    rw [checkGroup, hsig, if_neg Bool.false_ne_true, hmatched]
  rw [hcheck]
  exact ⟨((u.groupChecked_kept g).up).sameBut_mask, (u.groupChecked_failed g).trans hfailed⟩

section
variable (hd : Sparse.wf (defaultOf u.part.grade) u.dict = true) (stuck : BitFlips)
include hd

theorem State.rewritten_same : ((u.rewrite g (u.groupDiff g)).upset g stuck).SameGroups (u.rewritten g stuck) :=
  ((noteSelect_same hd).rewrite noteSelect_fixer g _).upset g stuck

omit hd in
theorem State.rewritten_fixer : (u.rewritten g stuck).fixer = u.fixer :=
  ((upset_kept ..).agree .fixer).trans (((rewrite_kept ..).agree .fixer).trans noteSelect_fixer)

theorem State.entry_rewritten {key : Nat} (hkey : key / 256 ≠ 0x2750) (hselect : key ≠ 0x250106) :
    (u.rewritten g stuck).entry key = u.entry key := by
  have hnote := (noteSelect_same (g := g) hd).dict'
  exact (entry_upset g ((rewrite_kept ..).dict hnote) hkey _).trans
    ((entry_rewrite g hnote hkey _).trans (entry_noteSelect hd hselect))

/-- Whether a rewritten group still differs does not depend on the count of its select field. -/
theorem State.rewritten_signatureDiffers : (u.rewritten g stuck).signatureDiffers g =
    ((u.rewrite g (u.groupDiff g)).upset g stuck).signatureDiffers g :=
  (rewritten_same hd stuck).signatureDiffers
    ((rewritten_fixer stuck).trans (((upset_kept ..).agree .fixer).trans ((rewrite_kept ..).agree .fixer)).symm) g

variable (hsig : u.signatureDiffers g = true)
include hsig

/-- A group without a source keeps its words and joins the failed ones (R286). -/
theorem State.checkGroup_missing (hsource : u.sourceMissing g = true) :
    (∀ i, (u.checkGroup g stuck).groupWord g i = u.groupWord g i) ∧ g ∈ (u.checkGroup g stuck).fixer.failed ∧
      (u.checkGroup g stuck).entry 0x250107 = sat32 (u.entry 0x250107) 1 := by
  let r := (u.noteSelect g).repairFailed g (u.invalidSelect g) 0 true
  have hnote := noteSelect_same (g := g) hd
  have hcheck : u.checkGroup g stuck = r.countDiffering.groupChecked g := by
    rw [checkGroup_of_differs hsig, repairGroup_missing hsource]
  obtain ⟨hgroups, hcount⟩ := groupChecked_report hnote.dict' ((repairFailed_kept_bump ..).trans (countDiffering_kept r).up)
    (by decide) (by decide) g
  rw [hcheck, groupChecked_failed, countDiffering_failed]
  exact ⟨(hnote.trans hgroups).groupWord g, repairFailed_failed .., hcount.trans (by rw [entry_noteSelect hd (by decide)])⟩

variable (hsource : u.sourceMissing g = false)
include hsource

/-- A group that still differs after its rewrite joins the failed ones (R286). -/
theorem State.checkGroup_struck (hstill : ((u.rewrite g (u.groupDiff g)).upset g stuck).signatureDiffers g = true) :
    (∀ i, (u.checkGroup g stuck).groupWord g i = ((u.rewrite g (u.groupDiff g)).upset g stuck).groupWord g i) ∧
      g ∈ (u.checkGroup g stuck).fixer.failed ∧ (u.checkGroup g stuck).entry 0x250107 = sat32 (u.entry 0x250107) 1 := by
  let r := (u.rewritten g stuck).repairFailed g (u.invalidSelect g) (u.wordsRewritten g (u.groupDiff g)) false
  have hsame := rewritten_same (g := g) hd stuck
  have hcheck : u.checkGroup g stuck = r.countDiffering.groupChecked g := by
    rw [checkGroup_of_differs hsig, repairGroup_rewritten hsource, if_pos ((rewritten_signatureDiffers hd stuck).trans hstill)]
  obtain ⟨hgroups, hcount⟩ := groupChecked_report hsame.dict' ((repairFailed_kept_bump ..).trans (countDiffering_kept r).up)
    (by decide) (by decide) g
  rw [hcheck, groupChecked_failed, countDiffering_failed]
  exact ⟨(hsame.trans hgroups).groupWord g, repairFailed_failed ..,
    hcount.trans (by rw [entry_rewritten hd stuck (by decide) (by decide)])⟩

/-- A group of the tiles that nothing strikes again holds its golden contents (R285). -/
theorem State.checkGroup_repaired (hu : u.GroupsCanonical) (hg : g.kind ∈ tileKinds)
    (hfit : ∀ i < g.kind.size, u.fixer.goldenWord g i < 2 ^ g.kind.width) :
    (∀ i < g.kind.size, (u.checkGroup g []).groupWord g i = u.fixer.goldenWord g i) ∧
      (u.checkGroup g []).entry g.repairKey = sat32 (u.entry g.repairKey) 1 ∧ g ∉ (u.checkGroup g []).fixer.failed ∧
      (g.kind ≠ .carryMask → (u.checkGroup g []).arr.nibs = u.arr.nibs) := by
  let r := (u.rewritten g []).repaired g (u.invalidSelect g) (u.wordsRewritten g (u.groupDiff g))
  have hsame : (u.rewrite g (u.groupDiff g)).SameGroups (u.rewritten g []) := rewritten_same hd []
  have hgolden : ∀ i < g.kind.size, (u.rewrite g (u.groupDiff g)).groupWord g i = u.fixer.goldenWord g i :=
    fun i hi => groupWord_rewrite_groupDiff hu hg hfit hi
  have hmatch : (u.rewritten g []).signatureDiffers g = false :=
    signatureDiffers_of_golden fun i hi => by rw [hsame.groupWord, rewritten_fixer, hgolden i hi]
  have hcheck : u.checkGroup g [] = (r.groupMatched g).countDiffering.groupChecked g := by
    rw [checkGroup_of_differs hsig, repairGroup_rewritten hsource, hmatch, if_neg Bool.false_ne_true]
  have hkey := g.repairKey_eq
  obtain ⟨hgroups, hcount⟩ := groupChecked_report hsame.dict'
    (((repaired_kept_bump ..).trans (groupMatched_kept r g).up).trans (countDiffering_kept _).up) (by omega) (by omega) g
  have hall := hsame.trans hgroups
  rw [hcheck, groupChecked_failed, countDiffering_failed]
  exact ⟨fun i hi => (hall.groupWord g i).trans (hgolden i hi), hcount.trans (by rw [entry_rewritten hd [] (by omega) (by omega)]),
    groupMatched_failed r g, fun hk => hall.nibs.trans (u.rewrite_nibs hk _)⟩

end
end

theorem State.GroupsCanonical.upset {s : State} (hs : s.GroupsCanonical) {g : FrameGroupId} (hg : g.kind ∈ tileKinds) (flips : BitFlips) :
    (s.upset g flips).GroupsCanonical :=
  List.foldlRecOn (motive := State.GroupsCanonical) flips _ hs fun t ht f _ => by
    split
    · exact ht.setGroupWord hg ..
    · exact ht

/-! ### The commands -/

section
variable {s u : State} {x : FrameGroup} {g : FrameGroupId} (hx : x.kind = g.kind.code) (hg : g = ⟨g.kind, x.die, x.tile, x.item⟩)
  (hscrubs : s.scrubs = true) (hnext : s.groupNext g = true) (hu : u = s.upset g x.flips)
include hx hg hscrubs hnext

/-- A golden or staged line whose tag fails halts the device (R281, R469). -/
theorem fixerGroupCheck_halts : Completes (.fixerGroupCheck x false) s fun t => t.sec.halted = true :=
  ⟨_, exec_fixerGroupCheck hx hg hscrubs hnext false, State.deviceHalt_halted ..⟩

include hu

/-- A group that matches changes nothing but the pass (R283). -/
theorem fixerGroupCheck_matches (hsig : u.signatureDiffers g = false) (hfailed : s.fixer.failed = []) :
    Completes (.fixerGroupCheck x true) s fun t => u.sameBut [.fixer, .dict] t ∧ t.fixer.failed = [] := by
  subst hu
  have hfixer : (s.upset g x.flips).fixer = s.fixer := (s.upset_kept g x.flips).agree .fixer
  exact ⟨_, exec_fixerGroupCheck hx hg hscrubs hnext true,
    State.checkGroup_match hsig ((congrArg Fixer.failed hfixer).trans hfailed) x.stuck⟩

variable (hd : Sparse.wf (defaultOf s.part.grade) s.dict = true) (hsig : u.signatureDiffers g = true)
include hd hsig

/-- A group that differs, and whose source is missing, keeps its words and joins the failed groups (R286). -/
theorem fixerGroupCheck_lacksSource (hsource : u.sourceMissing g = true) : Completes (.fixerGroupCheck x true) s fun t =>
    (∀ i < g.kind.size, t.groupWord g i = u.groupWord g i) ∧ g ∈ t.fixer.failed ∧
      t.entry 0x250107 = sat32 (s.entry 0x250107) 1 := by
  subst hu
  obtain ⟨hwords, hfailed, hcount⟩ := State.checkGroup_missing ((s.upset_kept g x.flips).dict hd) x.stuck hsig hsource
  rw [State.entry_upset g hd (by decide)] at hcount
  exact ⟨_, exec_fixerGroupCheck hx hg hscrubs hnext true, fun i _ => hwords i, hfailed, hcount⟩

variable (hsource : u.sourceMissing g = false)
include hsource

/-- A group that still differs after its rewrite joins the failed groups (R286). -/
theorem fixerGroupCheck_fails {v : State} (hv : v = (u.rewrite g (u.groupDiff g)).upset g x.stuck) (hstill : v.signatureDiffers g = true) :
    Completes (.fixerGroupCheck x true) s fun t => (∀ i < g.kind.size, t.groupWord g i = v.groupWord g i) ∧ g ∈ t.fixer.failed ∧
      t.entry 0x250107 = sat32 (s.entry 0x250107) 1 := by
  subst hu hv
  obtain ⟨hwords, hfailed, hcount⟩ := State.checkGroup_struck ((s.upset_kept g x.flips).dict hd) x.stuck hsig hsource hstill
  rw [State.entry_upset g hd (by decide)] at hcount
  exact ⟨_, exec_fixerGroupCheck hx hg hscrubs hnext true, fun i _ => hwords i, hfailed, hcount⟩

/-- A group of the tiles that differs, and that nothing strikes again, holds its golden contents afterwards (R285). -/
theorem fixerGroupCheck_repairs (hs : s.GroupsCanonical) (hstuck : x.stuck = []) (hkind : g.kind ∈ tileKinds)
    (hfit : ∀ i < g.kind.size, s.fixer.goldenWord g i < 2 ^ g.kind.width) : Completes (.fixerGroupCheck x true) s fun t =>
      (∀ i < g.kind.size, t.groupWord g i = s.fixer.goldenWord g i) ∧ t.entry g.repairKey = sat32 (s.entry g.repairKey) 1 ∧
        g ∉ t.fixer.failed ∧ (g.kind ≠ .carryMask → t.arr.nibs = u.arr.nibs) ∧ t.mem = s.mem := by
  subst hu
  have hupset := s.upset_kept g x.flips
  have hfixer : (s.upset g x.flips).fixer = s.fixer := hupset.agree .fixer
  obtain ⟨hgolden, hcount, hfailed, hnibs⟩ :=
    State.checkGroup_repaired (hupset.dict hd) hsig hsource (hs.upset hkind x.flips) hkind (by rwa [hfixer])
  rw [hfixer] at hgolden
  rw [State.entry_upset g hd g.repairKey_div] at hcount
  have hexec := exec_fixerGroupCheck hx hg hscrubs hnext true
  rw [hstuck] at hexec
  exact ⟨_, hexec, hgolden, hcount, hfailed, hnibs, (State.checkGroup_kept ..).mem_eq.trans hupset.mem_eq⟩

end

/-- A protected set without its signature: the fixer is reset, and a new pass starts (R289). -/
theorem protectedSetCheck_resets {s : State} (hd : Sparse.wf (defaultOf s.part.grade) s.dict = true) (hserving : s.serving = true)
    (hupset : s.controlUpset = true) (flips : BitFlips) : Completes (.protectedSetCheck flips) s fun t =>
      s.logged t 0x3F01 srcFirmware 0 ∧ t.fixer = { s.fixer with
        checked := [], differing := 0, warned := false, passStart := s.mgmt.uptime, controlFlips := flips, resetting := true } ∧
      t.entry 0x250109 = sat32 (s.entry 0x250109) 1 := by
  let r := s.log1 0x3F01 srcFirmware 0
  let p := (r.bump 0x250109).newPass
  let t : State := { p with fixer := { p.fixer with controlFlips := flips, resetting := true } }
  have hlog : Kept 0x40 s r := s.log1_quiet ..
  have hexec : exec (.protectedSetCheck flips) s = .next t := by
    show execProtectedSetCheck flips s = _
    rw [execProtectedSetCheck, hserving, hupset]
    rfl
  refine ⟨t, hexec, (s.log1_logged 0x3F01 srcFirmware 0).of rfl rfl, ?fixer, ?count⟩
  case fixer =>
    have hfixer : r.fixer = s.fixer := s.log1_fixer ..
    have huptime : r.mgmt.uptime = s.mgmt.uptime := congrArg Mgmt.uptime (s.log1_mgmt ..)
    show { r.fixer with
      checked := [], differing := 0, warned := false, passStart := r.mgmt.uptime, controlFlips := flips, resetting := true } = _
    rw [hfixer, huptime]
  case count => exact (State.entry_putEntry_same (s := r) _ _ (hlog.dict hd)).trans (congrArg (sat32 · 1) (hlog.setting_eq _))

/-- A protected set with its signature, or a controller without firmware: nothing but the upsets that strike afterwards (R289). -/
theorem protectedSetCheck_matches {s : State} (h : (s.serving && s.controlUpset) = false) (flips : BitFlips) :
    Completes (.protectedSetCheck flips) s fun t =>
      t.fixer = { s.fixer with controlFlips := s.fixer.controlFlips ++ flips } ∧ s.sameBut [.fixer] t := by
  let t : State := { s with fixer := { s.fixer with controlFlips := s.fixer.controlFlips ++ flips } }
  have hexec : exec (.protectedSetCheck flips) s = .next t := by
    show execProtectedSetCheck flips s = _
    rw [execProtectedSetCheck, h]
    rfl
  have hkept : Kept 0x10000 s t := Kept.upd id id
  exact ⟨t, hexec, rfl, hkept.up.sameBut_mask⟩

/-- FixerEnable is a BOOLEAN: of a value that is written, bit 0 is stored (R32, R291). -/
theorem exec_fixerEnableWrite {s : State} {req : Nat} (h : s.mayWrite req fixerEnableKey = true) (v : Nat) :
    exec (.fixerEnableWrite req v) s = .next (((s.putEntry fixerEnableKey (v % 2)).controlWritten 0).newPass).accept := by
  obtain ⟨e, he, htype, hrule⟩ : ∃ e, entryOf fixerEnableKey = some e ∧ e.type = .bool ∧ e.rule = .any := by decide +kernel
  refine congrArg Host.Outcome.next ((State.writingValue_eq h he (by rw [hrule]; rfl) _).trans ?_)
  rw [htype]
  rfl

/-- A write of FixerEnable starts a new pass (R284). -/
theorem fixerEnableWrite_stores {s : State} {req : Nat} (hd : Sparse.wf (defaultOf s.part.grade) s.dict = true)
    (h : s.mayWrite req fixerEnableKey = true) (v : Nat) : Completes (.fixerEnableWrite req v) s fun t =>
      t.entry fixerEnableKey = v % 2 ∧ t.answer = .ok 0 ∧ t.fixer = { s.fixer with
        checked := [], differing := 0, warned := false, passStart := s.mgmt.uptime
        controlFlips := s.fixer.controlFlips.filter fun f => f.1 != 0 } ∧ s.sameBut [.answer, .mgmtClock, .dict, .fixer] t := by
  have hput := (s.putEntry_kept fixerEnableKey (v % 2)).up (m := Component.mask [.answer, .mgmtClock, .dict, .fixer])
  exact ⟨_, exec_fixerEnableWrite h v, State.entry_putEntry_same (s := s) _ _ hd, rfl, rfl,
    (hput.trans (((State.controlWritten_kept ..).up.trans (State.newPass_kept _).up).trans (State.accept_kept _).up)).sameBut_mask⟩

/-! ### A value above a BOOLEAN -/

/-- A module after reset whose management firmware runs; it holds no image. -/
def servingState : State := { State.reset with boot := { State.reset.boot with phase := .ready } }

theorem servingState_mayWrite : servingState.mayWrite 0 fixerEnableKey = true ∧ inRange fixerEnableKey 2 = true := by decide +kernel

theorem servingState_inv : servingState.Inv :=
  ⟨by decide +kernel, ⟨by decide +kernel, by decide +kernel, by decide +kernel⟩, by decide +kernel⟩

theorem servingState_canonical : servingState.GroupsCanonical := ⟨rfl, rfl, rfl, rfl, rfl, rfl⟩

end Sys2Proof.Machine

open Sys2Proof Sys2Proof.Machine

/-- Refutes O34: its clause on FIXER_ENABLE_WRITE has the entry keep the lower 8 bits of the value, but FixerEnable is a BOOLEAN (R291),
of whose value R32 keeps bit 0: a write of 2, which passes every check, stores 0. The other clauses hold, by the theorems
`fixerGroupCheck_…` and `protectedSetCheck_…`, and so does this one of `v % 2` (`fixerEnableWrite_stores`). -/
theorem not_scrubbingTakesEffect : ¬ Obligations.ScrubbingTakesEffect := by
  intro h
  obtain ⟨hwrite, hrange⟩ := servingState_mayWrite
  have hs := servingState_canonical
  obtain ⟨-, -, hd⟩ := servingState_inv
  obtain ⟨-, -, henable⟩ := h servingState servingState_inv hs.words hs.routeWords hs.clusterFrames hs.tileFrames hs.nibs hs.queues
  obtain ⟨t, ht, hclaimed, -⟩ := henable 0 2 hwrite hrange
  obtain ⟨t', ht', hstored, -⟩ := fixerEnableWrite_stores hd hwrite 2
  obtain rfl := Host.Outcome.next.inj (ht.symm.trans ht')
  exact absurd (hclaimed.symm.trans hstored) (by decide)

end

section
/-! Cores and threads (R298 to R306): what a change of one core, of one thread and of the ready list leaves, what a dispatch, a thread
that becomes READY and the choice of the best READY thread do, and what an operation CSR of a running core runs on. -/

set_option Elab.async false

namespace Sys2Proof.Machine

/-! ### One core -/

theorem State.cores_withCore (s : State) (c : Nat) (f : Core → Core) : (s.withCore c f).cores = s.cores.modify c f := by
  refine List.ext_getElem? fun m => ?_
  rw [List.getElem?_modify]
  unfold withCore
  dsimp only
  split
  case h_1 x hx =>
    rw [listSet_eq_set, List.getElem?_set]
    by_cases hm : c = m
    · subst hm
      obtain ⟨hc, rfl⟩ := List.getElem?_eq_some_iff.1 hx
      simp [hc]
    · simp [hm]
  case h_2 hx =>
    by_cases hm : c = m
    · subst hm
      simp [hx]
    · simp [hm]

@[simp] theorem State.core_withCore_same (s : State) (c : Nat) (f : Core → Core) :
    (s.withCore c f).cores[c]? = (s.cores[c]?).map f := by simp [cores_withCore]

theorem State.core_withCore_ne (s : State) {c m : Nat} (f : Core → Core) (h : m ≠ c) :
    (s.withCore c f).cores[m]? = s.cores[m]? := by simp [cores_withCore, h.symm]

/-- What a change of one core keeps in it, it keeps in every core. -/
theorem State.core_map_withCore {α : Type} {p : Core → α} {f : Core → Core} (hf : ∀ x, p (f x) = p x) (s : State) (c m : Nat) :
    ((s.withCore c f).cores[m]?).map p = (s.cores[m]?).map p := by
  by_cases h : m = c
  · subst h
    rw [core_withCore_same, Option.map_map]
    exact congrArg (Option.map · _) (funext hf)
  · rw [core_withCore_ne s f h]

theorem State.coreThread_eq_map (s : State) (c : Nat) : s.coreThread c = ((s.cores[c]?).map Core.thread).join := by
  unfold coreThread
  cases s.cores[c]? <;> rfl

theorem State.coreThread_withCore {f : Core → Core} (hf : ∀ x, (f x).thread = x.thread) (s : State) (c m : Nat) :
    (s.withCore c f).coreThread m = s.coreThread m := by
  rw [coreThread_eq_map, coreThread_eq_map, core_map_withCore hf]

theorem State.coreThread_of_core {s : State} {c : Nat} {k : Core} (h : s.cores[c]? = some k) : s.coreThread c = k.thread := by
  rw [coreThread_eq_map, h]
  rfl

/-- Operations on the cores 0 to n − 1 in turn, each of which changes its own core only. -/
theorem State.cores_foldl_range {P : State → Prop} {op : State → Nat → State} {f : Nat → Core → Core} (hP : ∀ t, ∀ i < 32, P t → P (op t i))
    (hop : ∀ t, ∀ i < 32, P t → (op t i).cores = t.cores.modify i (f i)) {s : State} (hs : P s) {n : Nat} (hn : n ≤ 32) :
    P ((List.range n).foldl op s) ∧
      ((List.range n).foldl op s).cores = s.cores.mapIdx fun i x => if i < n then f i x else x := by
  induction n with
  | zero => exact ⟨hs, List.ext_getElem? fun j => by simp⟩
  | succ n ih =>
    obtain ⟨hinv, hcores⟩ := ih (Nat.le_of_succ_le hn)
    rw [List.range_succ, List.foldl_append]
    refine ⟨hP _ _ hn hinv, (hop _ _ hn hinv).trans ?_⟩
    rw [hcores]
    refine List.ext_getElem? fun j => ?_
    rw [List.getElem?_modify, List.getElem?_mapIdx, List.getElem?_mapIdx, Option.map_eq_map, Option.map_map]
    refine congrArg (Option.map · _) (funext fun x => ?_)
    by_cases hj : n = j
    · subst hj
      simp
    · simp [hj, show j < n + 1 ↔ j < n by omega]

/-! ### Trace records beside cores, threads and channels -/

@[simp] theorem State.decision_cores (s : State) (kind core thread priority reason handle : Nat) :
    (s.decision kind core thread priority reason handle).cores = s.cores := (s.decision_kept ..).agree .cores
@[simp] theorem State.decision_sched (s : State) (kind core thread priority reason handle : Nat) :
    (s.decision kind core thread priority reason handle).sched = s.sched := (s.decision_kept ..).agree .sched
@[simp] theorem State.decision_chan (s : State) (kind core thread priority reason handle : Nat) :
    (s.decision kind core thread priority reason handle).chan = s.chan := (s.decision_kept ..).agree .chan
@[simp] theorem State.offerContext_cores (s : State) (c priv : Nat) : (s.offerContext c priv).cores = s.cores :=
  (s.offerContext_kept ..).agree .cores
@[simp] theorem State.offerContext_sched (s : State) (c priv : Nat) : (s.offerContext c priv).sched = s.sched :=
  (s.offerContext_kept ..).agree .sched
@[simp] theorem State.offer_cores (s : State) (src kind payload : Nat) : (s.offer src kind payload).cores = s.cores :=
  (s.offer_kept ..).agree .cores
@[simp] theorem State.wakeCore_sched (s : State) (c : Nat) : (s.wakeCore c).sched = s.sched := (s.wakeCore_kept ..).agree .sched
@[simp] theorem State.preempt_sched (s : State) (c t : Nat) : (s.preempt c t).sched = s.sched := (s.preempt_kept ..).agree .sched

/-- A core that leaves sleep is awake, and nothing else of it changes. -/
theorem State.wakeCore_cores (s : State) (c : Nat) : (s.wakeCore c).cores = s.cores.modify c fun x => { x with asleep := false } := by
  have hid (x : Core) (hx : x.asleep = false) : ({ x with asleep := false } : Core) = x := by rw [← hx]
  unfold wakeCore
  split
  case h_1 hc => rw [List.modify_eq_self (List.getElem?_eq_none_iff.1 hc)]
  case h_2 x hx =>
    dsimp only
    split
    case isTrue => rw [offer_cores, offer_cores, cores_withCore]
    case isFalse hawake =>
      refine List.ext_getElem? fun m => ?_
      rw [List.getElem?_modify]
      by_cases hm : c = m
      · subst hm
        simp [hx, hid x (by simpa using hawake)]
      · simp [hm]

/-! ### One thread -/

/-- The thread table is canonical. -/
def State.ThreadsCanonical (s : State) : Prop := Sparse.wf (fun _ => Thread.free) s.sched.threads = true

section
variable {s : State} (h : s.ThreadsCanonical)
include h

theorem State.thread_setThread_same (n : Nat) (x : Thread) : (s.setThread n x).thread n = x := Sparse.get_set_same _ _ _ _ h

theorem State.thread_setThread_ne {n m : Nat} (hm : m ≠ n) (x : Thread) : (s.setThread n x).thread m = s.thread m :=
  Sparse.get_set_ne _ _ _ _ _ h hm

theorem State.ThreadsCanonical.setThread (n : Nat) (x : Thread) : (s.setThread n x).ThreadsCanonical := Sparse.set_wf _ _ _ _ h

end

/-- States with the same thread table: the second is canonical where the first is, and its threads are the first's. -/
theorem State.ThreadsCanonical.of_threads {s t : State} (h : s.ThreadsCanonical) (ht : t.sched.threads = s.sched.threads) :
    t.ThreadsCanonical := by
  unfold ThreadsCanonical
  rw [ht]
  exact h

theorem State.thread_of_threads {s t : State} (ht : t.sched.threads = s.sched.threads) (n : Nat) : t.thread n = s.thread n := by
  unfold thread
  rw [ht]

@[simp] theorem State.thread_withCore (s : State) (c : Nat) (f : Core → Core) (n : Nat) : (s.withCore c f).thread n = s.thread n :=
  thread_of_threads rfl n

@[simp] theorem State.thread_reply (s : State) (a : Answer) (n : Nat) : (s.reply a).thread n = s.thread n := thread_of_threads rfl n

@[simp] theorem State.thread_decision (s : State) (kind core thread priority reason handle n : Nat) :
    (s.decision kind core thread priority reason handle).thread n = s.thread n :=
  thread_of_threads (congrArg Scheduler.threads (decision_sched ..)) n

/-! ### Dispatch and readiness (R302 to R305) -/

/-- A dispatch makes the thread RUNNING on the core and takes it out of the ready list. -/
theorem State.dispatch_sched (s : State) (t c : Nat) : (s.dispatch t c).sched = { s.sched with
    threads := (s.setThread t { s.thread t with state := .running, core := c }).sched.threads
    ready := s.sched.ready.filter fun u => u != t } := by
  unfold dispatch
  simp only [offerContext_sched, decision_sched, withCore_sched, wakeCore_sched]
  rfl

theorem State.dispatch_threads (s : State) (t c : Nat) :
    (s.dispatch t c).sched.threads = (s.setThread t { s.thread t with state := .running, core := c }).sched.threads := by
  rw [dispatch_sched]

/-- The core that receives a thread runs it, awake; its `schask` returns the thread and its wake reason. -/
theorem State.dispatch_cores (s : State) (t c : Nat) : (s.dispatch t c).cores = s.cores.modify c fun x =>
    { x with asleep := false, state := .running, thread := some t, result := t + (s.thread t).reason * 2 ^ 12 } := by
  unfold dispatch
  simp only [offerContext_cores, decision_cores, cores_withCore, wakeCore_cores, List.modify_modify_eq]
  rfl

/-- A thread that becomes READY stands at the tail of the ready list, with its wake reason. -/
theorem State.joinReady_sched (s : State) (t reason : Nat) : (s.joinReady t reason).sched = { s.sched with
    threads := (s.setThread t { s.thread t with state := .ready, reason := reason, handle := 0 }).sched.threads
    ready := (s.sched.ready.filter fun u => u != t) ++ [t] } := by
  unfold joinReady
  rw [decision_sched]
  rfl

theorem State.joinReady_threads (s : State) (t reason : Nat) : (s.joinReady t reason).sched.threads =
    (s.setThread t { s.thread t with state := .ready, reason := reason, handle := 0 }).sched.threads := by
  rw [joinReady_sched]

@[simp] theorem State.joinReady_cores (s : State) (t reason : Nat) : (s.joinReady t reason).cores = s.cores :=
  (s.joinReady_kept ..).agree .cores

section
variable {s : State} (h : s.ThreadsCanonical) (t : Nat)
include h

theorem State.thread_dispatch_same (c : Nat) : (s.dispatch t c).thread t = { s.thread t with state := .running, core := c } :=
  (thread_of_threads (s.dispatch_threads t c) t).trans (thread_setThread_same h ..)

theorem State.thread_dispatch_ne (c : Nat) {m : Nat} (hm : m ≠ t) : (s.dispatch t c).thread m = s.thread m :=
  (thread_of_threads (s.dispatch_threads t c) m).trans (thread_setThread_ne h hm _)

theorem State.thread_joinReady_same (reason : Nat) :
    (s.joinReady t reason).thread t = { s.thread t with state := .ready, reason := reason, handle := 0 } :=
  (thread_of_threads (s.joinReady_threads t reason) t).trans (thread_setThread_same h ..)

theorem State.thread_joinReady_ne (reason : Nat) {m : Nat} (hm : m ≠ t) : (s.joinReady t reason).thread m = s.thread m :=
  (thread_of_threads (s.joinReady_threads t reason) m).trans (thread_setThread_ne h hm _)

theorem State.ThreadsCanonical.joinReady (reason : Nat) : (s.joinReady t reason).ThreadsCanonical :=
  (h.setThread t { s.thread t with state := .ready, reason := reason, handle := 0 }).of_threads
    (s.joinReady_threads t reason)

end

/-- A READY thread gets a core, asks for one, or waits for one (R304). -/
theorem State.place_cases (s : State) (t : Nat) :
    (∃ c, s.place t = s.dispatch t c) ∨ (s.place t).sched = s.sched := by
  unfold place
  split
  · exact .inl ⟨_, rfl⟩
  · split
    · exact .inr (preempt_sched ..)
    · exact .inr rfl

/-- A thread that becomes READY may run at once (R304); its wake reason, the other threads and the delay lists are as it joined. -/
theorem State.makeReady_effect {s : State} (h : s.ThreadsCanonical) (t reason : Nat) :
    (((s.makeReady t reason).thread t).state = .ready ∨ ((s.makeReady t reason).thread t).state = .running) ∧
      ((s.makeReady t reason).thread t).reason = reason ∧ (∀ m, m ≠ t → (s.makeReady t reason).thread m = s.thread m) ∧
      (s.makeReady t reason).sched.tickList = s.sched.tickList ∧ (s.makeReady t reason).sched.ticks = s.sched.ticks := by
  have hready := thread_joinReady_same h t reason
  have hjoin := s.joinReady_sched t reason
  unfold makeReady
  obtain ⟨c, hc⟩ | hsched := (s.joinReady t reason).place_cases t
  · rw [hc, thread_dispatch_same (h.joinReady t reason), hready, dispatch_sched, hjoin]
    exact ⟨.inr rfl, rfl, fun m hm => (thread_dispatch_ne (h.joinReady t reason) t c hm).trans (thread_joinReady_ne h t reason hm), rfl, rfl⟩
  · have hthreads := congrArg Scheduler.threads hsched
    rw [thread_of_threads hthreads, hready, hsched, hjoin]
    exact ⟨.inl rfl, rfl, fun m hm => (thread_of_threads hthreads m).trans (thread_joinReady_ne h t reason hm), rfl, rfl⟩

/-! ### The best READY thread (R302) -/

theorem State.mem_of_bestFor {s : State} {c t : Nat} (h : s.bestFor c = some t) : t ∈ s.sched.ready := by
  unfold bestFor at h
  refine List.foldlRecOn (motive := fun o => ∀ m, o = some m → m ∈ s.sched.ready) _ _ (by simp) (fun o ho a ha m hm => ?_) t h
  have ha : a ∈ s.sched.ready := (List.mem_filter.1 ha).1
  split at hm
  · exact Option.some.inj hm ▸ ha
  · split at hm
    · exact Option.some.inj hm ▸ ha
    · exact ho m hm

theorem State.bestFor_eq_none {s : State} {c : Nat} : s.bestFor c = none ↔ ∀ t ∈ s.sched.ready, bit (s.thread t).affinity c = false := by
  have hfilter : (s.sched.ready.filter fun t => bit (s.thread t).affinity c) = [] ↔
      ∀ t ∈ s.sched.ready, bit (s.thread t).affinity c = false := by simp [List.filter_eq_nil_iff]
  rw [← hfilter]
  unfold bestFor
  cases s.sched.ready.filter fun t => bit (s.thread t).affinity c with
  | nil => simp
  | cons a l =>
    refine iff_of_false (fun h => ?_) (List.cons_ne_nil a l)
    rw [List.foldl_cons] at h
    have hsome : ∀ o : Option Nat, o = none → o.isSome = true → False := by simp
    refine hsome _ h (List.foldlRecOn (motive := fun o : Option Nat => o.isSome = true) l _ rfl fun o _ b _ => ?_)
    split
    · rfl
    · split <;> rfl

/-- Of one READY thread, the best is this one where the core may run it. -/
theorem State.bestFor_singleton {s : State} {c t : Nat} (hready : s.sched.ready = [t]) (haffinity : bit (s.thread t).affinity c = true) :
    s.bestFor c = some t := by
  unfold bestFor
  simp [hready, haffinity]

/-! ### Operation CSRs of a running core (R299, R300) -/

theorem Core.storeCsr_state (x : Core) (n v : Nat) : (x.storeCsr n v).state = x.state := by
  simp only [storeCsr, setCsr, apply_ite Core.state, ite_self]

theorem Core.writeCsr_state (x : Core) (w : CsrWrite) : (x.writeCsr w).state = x.state := by
  unfold writeCsr
  split
  · exact x.storeCsr_state ..
  · rfl

theorem State.csrWrite_state (s : State) (c : Nat) (w : CsrWrite) (m : Nat) :
    ((s.csrWrite c w).cores[m]?).map Core.state = (s.cores[m]?).map Core.state := by
  have hwrite := core_map_withCore (p := Core.state) (f := fun x => x.writeCsr w) (fun x => x.writeCsr_state w) s c m
  unfold csrWrite
  dsimp only
  split
  · rw [offerContext_cores, hwrite]
  · exact hwrite

/-- What the core's software writes to its CSRs neither starts nor stops a core. -/
theorem State.useCore_state (s : State) (c : Nat) (u : CsrUse) (m : Nat) :
    ((s.useCore c u).cores[m]?).map Core.state = (s.cores[m]?).map Core.state := by
  unfold useCore
  refine (core_map_withCore (p := Core.state) (f := fun x => { x with priv := u.priv }) (fun _ => rfl) _ c m).trans ?_
  exact foldl_keeps (p := fun t : State => (t.cores[m]?).map Core.state) (fun t w => t.csrWrite_state c w m) _ _

/-- Core `c` of `s` runs, and its software uses an operation CSR with operand `v`: `r` is the state that its earlier CSR writes leave, and
`k` the core there. -/
structure CsrAccess (s r : State) (c : Nat) (u : CsrUse) (k : Core) (v : Nat) : Prop where
  running : (s.cores[c]?).map Core.state = some .running
  before : r = s.useCore c u
  core : r.cores[c]? = some k
  operand : v = u.operand % 2 ^ 64

namespace CsrAccess

variable {s r : State} {c : Nat} {u : CsrUse} {k : Core} {v : Nat} (h : CsrAccess s r c u k v)
include h

theorem core_running : k.state = .running := by
  have hk := s.useCore_state c u c
  rw [← h.before, h.core, h.running] at hk
  exact Option.some.inj hk

theorem coreThread : r.coreThread c = k.thread := State.coreThread_of_core h.core

/-- A field of the operand within its 64 bits. -/
theorem bits_operand {lo n : Nat} (hle : lo + n ≤ 64) : bits u.operand lo n = bits v lo n := by rw [h.operand, bits_mod_two_pow _ hle]

/-- A CSRRW that the mode allows runs the operation. -/
theorem csrOp_eq (hcsr : u.csrrw = true) {user : Bool} (hmode : u.priv ≠ 0 ∨ user = true ∧ k.uch = true) (op : Nat → State → State) :
    s.csrOp c user u op = op v r := by
  obtain ⟨x, hx, hrun⟩ := Option.map_eq_some_iff.1 h.running
  have hallowed : (!u.csrrw || (u.priv == 0 && (!user || !(r.cores[c]?).any Core.uch))) = false := by
    rw [h.core, hcsr]
    obtain hpriv | ⟨rfl, huch⟩ := hmode
    · simp [hpriv]
    · simp [huch]
  unfold State.csrOp
  simp only [hx, hrun, ne_eq, not_true_eq_false, if_false, ← h.before, ← h.operand, hallowed, Bool.false_eq_true]

/-- Any other CSR instruction, and a CSRRW of user mode on an operation that user mode never has, is illegal. -/
theorem csrOp_illegal (hillegal : u.csrrw = false ∨ u.priv = 0) (op : Nat → State → State) : s.csrOp c false u op = r.reply .illegal := by
  obtain ⟨x, hx, hrun⟩ := Option.map_eq_some_iff.1 h.running
  have hdenied : (!u.csrrw || (u.priv == 0 && (!false || !(r.cores[c]?).any Core.uch))) = true := by
    obtain hcsr | hpriv := hillegal
    · simp [hcsr]
    · simp [hpriv]
  unfold State.csrOp
  simp only [hx, hrun, ne_eq, not_true_eq_false, if_false, ← h.before, hdenied, if_true]

end CsrAccess

end Sys2Proof.Machine
end

section
/-! The operations on threads (R299 to R309), for a CSRRW that the mode allows: the instructions that are illegal beside it, `schcur` and
the actions of `schset`. -/

set_option Elab.async false

namespace Sys2Proof.Machine

/-! ### What ends an operation -/

theorem State.coreThread_csrResult (s : State) (c v m : Nat) : (s.csrResult c v).coreThread m = s.coreThread m :=
  coreThread_withCore (f := fun x => { x with result := v }) (fun _ => rfl) s c m

@[simp] theorem State.thread_csrResult (s : State) (c v m : Nat) : (s.csrResult c v).thread m = s.thread m := thread_of_threads rfl m

@[simp] theorem State.csrResult_sched (s : State) (c v : Nat) : (s.csrResult c v).sched = s.sched := rfl

theorem State.coreThread_leaveCore (s : State) (c : Nat) : (s.leaveCore c).coreThread c = none := by
  rw [coreThread_eq_map, leaveCore, core_withCore_same]
  cases s.cores[c]? <;> rfl

theorem State.coreThread_of_cores {s t : State} (h : t.cores = s.cores) (c : Nat) : t.coreThread c = s.coreThread c := by
  unfold coreThread
  rw [h]

theorem mem_insertDelay (k t : Nat) (l : List (Nat × Nat)) : (k, t) ∈ insertDelay k t l := by
  induction l with
  | nil => exact List.mem_singleton_self _
  | cons e l ih =>
    unfold insertDelay
    split
    · exact List.mem_cons_of_mem _ ih
    · exact List.mem_cons_self

theorem not_mem_filter_ne (n : Nat) (l : List Nat) : n ∉ l.filter fun m => m != n := by simp

/-- A preemption request leaves the thread that the core runs. -/
theorem State.coreThread_preempt (s : State) (d t c : Nat) : (s.preempt d t).coreThread c = s.coreThread c := by
  unfold preempt
  split
  · rfl
  · split
    · rfl
    · rw [coreThread_of_cores (decision_cores ..)]
      exact coreThread_withCore (f := fun x => { x with preempt := true }) (fun _ => rfl) s d c

theorem State.preempt_requests {s : State} {d : Nat} (h : (s.cores[d]?).map Core.preempt = some false) (t : Nat) :
    ((s.preempt d t).cores[d]?).map Core.preempt = some true := by
  obtain ⟨x, hx, hnot⟩ := Option.map_eq_some_iff.1 h
  unfold preempt
  simp only [hx, hnot, Bool.false_eq_true, if_false, decision_cores, bump_cores, core_withCore_same, Option.map_some]

/-! ### Illegal instructions, and the ones that run -/

namespace CsrAccess

variable {s r : State} {c : Nat} {u : CsrUse} {k : Core} {v : Nat} (h : CsrAccess s r c u k v)
include h

theorem completes_illegal (hillegal : u.csrrw = false ∨ u.priv = 0) {i : Instr} {op : Nat → State → State}
    (hi : exec i s = .next (s.csrOp c false u op)) :
    Completes i s fun t => t.answer = .illegal ∧ r.sameBut [.answer, .mgmtClock] t :=
  ⟨_, hi.trans (congrArg _ (h.csrOp_illegal hillegal op)), rfl, (r.reply_kept .illegal).up.sameBut_mask⟩

/-- Beside a CSRRW of machine or supervisor mode, every thread operation and the creation and destruction of channels are illegal. -/
theorem threadOperations_illegal (hillegal : u.csrrw = false ∨ u.priv = 0) : ∀ i ∈ [Instr.schcur, .schsetState, .schsetPriority,
    .schsetSuspend, .schsetReady, .schsetFree, .schcreate, .schdelay, .schwait, .schask, .schipi, .chcreate, .chdestroy],
    Completes (i c u) s fun t => t.answer = .illegal ∧ r.sameBut [.answer, .mgmtClock] t := by
  have schsetState : exec (.schsetState c u) s = .next (s.csrOp c false u _) := congrArg Host.Outcome.next (apply_ite ..).symm
  intro i hi
  simp only [List.mem_cons, List.not_mem_nil, or_false] at hi
  obtain rfl | rfl | rfl | rfl | rfl | rfl | rfl | rfl | rfl | rfl | rfl | rfl | rfl := hi
  case inr.inl => exact h.completes_illegal hillegal schsetState
  all_goals exact h.completes_illegal hillegal rfl

variable (hcsr : u.csrrw = true) (hpriv : u.priv ≠ 0)
include hcsr hpriv

theorem exec_eq {i : Instr} {op : Nat → State → State} (hi : exec i s = .next (s.csrOp c false u op)) : exec i s = .next (op v r) :=
  hi.trans (congrArg _ (h.csrOp_eq hcsr (.inl hpriv) op))

theorem schcur : Completes (.schcur c u) s fun t => t.answer = .ok (k.thread.getD 0xFFFF) ∧ r.sameBut [.answer, .mgmtClock, .cores] t := by
  refine ⟨_, h.exec_eq hcsr hpriv rfl, ?_, (r.csrResult_kept ..).up.sameBut_mask⟩
  show Answer.ok ((r.cores[c]?).elim 0xFFFF Core.current) = _
  rw [h.core]
  rfl

/-! ### schset (R299, R303) -/

section
variable {n : Nat} (hn : n = bits v 0 12) (hreserved : bits v 22 10 = 0) (hfree : (r.thread n).state ≠ .free)
include hn hreserved hfree

/-- An action of `schset` returns the state before where it allows that state. -/
theorem schset_allowed {action : Nat} (haction : bits v 12 4 = action) {ok : Thread → Bool} (hok : ok (r.thread n) = true)
    (op : Nat → Nat → State → State) : s.schset c u action ok op = (op n v r).csrResult c (r.thread n).state.code := by
  unfold State.schset
  rw [h.csrOp_eq hcsr (.inl hpriv)]
  simp [← hn, hreserved, haction, hfree, hok]

omit hfree in
/-- Where it does not allow that state it fails with status 9. -/
theorem schset_refused {action : Nat} (haction : bits v 12 4 = action) {ok : Thread → Bool} (hok : ok (r.thread n) = false)
    (op : Nat → Nat → State → State) : s.schset c u action ok op = r.csrFail c 9 := by
  unfold State.schset
  rw [h.csrOp_eq hcsr (.inl hpriv)]
  simp [← hn, hreserved, haction, hok]

theorem schsetState (haction : bits v 12 4 = 5) : Completes (.schsetState c u) s fun t =>
    t.answer = .ok (r.thread n).state.code ∧ r.sameBut [.answer, .mgmtClock, .cores] t := by
  have hnot : ¬ 5 < bits u.operand 12 4 := by
    rw [h.bits_operand (by decide), haction]
    decide
  exact ⟨_, congrArg Host.Outcome.next ((if_neg hnot).trans (h.schset_allowed hcsr hpriv hn hreserved hfree haction rfl _)), rfl,
    (r.csrResult_kept ..).up.sameBut_mask⟩

variable (hw : r.ThreadsCanonical)

include hw in
/-- A READY thread whose priority changes moves to the tail of the ready list (R303). -/
theorem schsetPriority (haction : bits v 12 4 = 2) : Completes (.schsetPriority c u) s fun t =>
    t.answer = .ok (r.thread n).state.code ∧ t.thread n = { r.thread n with priority := bits v 16 6 } ∧
    (∀ m, m ≠ n → t.thread m = r.thread m) ∧
    t.sched.ready = (if (r.thread n).state = .ready then r.sched.ready.filter (fun m => m != n) ++ [n] else r.sched.ready) ∧
    r.sameBut [.answer, .mgmtClock, .cores, .sched] t := by
  let q := r.setThread n { r.thread n with priority := bits v 16 6 }
  have hq : q.thread n = { r.thread n with priority := bits v 16 6 } := State.thread_setThread_same hw ..
  have hkept : Kept 0x400000 r q := r.setThread_kept ..
  let p := if (q.thread n).state = .ready then
    q.withScheduler fun d => { d with ready := (d.ready.filter fun u => u != n) ++ [n] } else q
  have he : exec (.schsetPriority c u) s = .next (p.csrResult c (r.thread n).state.code) :=
    congrArg Host.Outcome.next (h.schset_allowed hcsr hpriv hn hreserved hfree haction rfl _)
  have hthreads : p.sched.threads = q.sched.threads := by
    unfold p
    split <;> rfl
  refine ⟨_, he, rfl, ?_, fun m hm => ?_, ?_, ?_⟩
  · rw [State.thread_csrResult, State.thread_of_threads hthreads, hq]
  · rw [State.thread_csrResult, State.thread_of_threads hthreads, State.thread_setThread_ne hw hm]
  · rw [State.csrResult_sched]
    unfold p
    simp only [hq]
    split <;> rfl
  · exact Kept.sameBut_mask (hkept.up.trans ((Kept.ite (q.withScheduler_kept ..).up (.refl q)).trans (State.csrResult_kept ..).up))

include hw in
theorem schsetAffinity (haction : bits v 12 4 = 3) (haffinity : bits v 32 32 ≠ 0) : Completes (.schsetAffinity c u) s fun t =>
    t.answer = .ok (r.thread n).state.code ∧ t.thread n = { r.thread n with affinity := bits v 32 32 } ∧
    (∀ m, m ≠ n → t.thread m = r.thread m) ∧ t.sched.ready = r.sched.ready ∧ r.sameBut [.answer, .mgmtClock, .cores, .sched] t := by
  have hnot : ¬ (bits u.operand 12 4 = 3 ∧ bits u.operand 32 32 = 0) := by
    rw [h.bits_operand (lo := 32) (by decide)]
    exact fun hzero => haffinity hzero.2
  exact ⟨_, congrArg Host.Outcome.next ((if_neg hnot).trans (h.schset_allowed hcsr hpriv hn hreserved hfree haction rfl _)), rfl,
    (State.thread_csrResult ..).trans (State.thread_setThread_same hw ..),
    fun m hm => (State.thread_csrResult ..).trans (State.thread_setThread_ne hw hm _), rfl,
    Kept.sameBut_mask ((r.setThread_kept ..).up.trans (State.csrResult_kept ..).up)⟩

include hw in
/-- A thread that no other core runs is suspended at once. -/
theorem schsetSuspend_here (haction : bits v 12 4 = 1) (hhere : (r.thread n).state ≠ .running ∨ (r.thread n).core = c) :
    Completes (.schsetSuspend c u) s fun t => t.answer = .ok (r.thread n).state.code ∧
      t.thread n = { r.thread n with state := .suspended, suspendNext := none, handle := 0 } ∧
      (∀ m, m ≠ n → t.thread m = r.thread m) ∧ n ∉ t.sched.ready ∧ ((r.thread n).state = .running → t.coreThread c = none) ∧
      r.sameBut [.answer, .mgmtClock, .cores, .sched, .chan] t := by
  obtain ⟨q, hq⟩ : ∃ q, q = if (r.thread n).state = .running then r.leaveCore c else r := ⟨_, rfl⟩
  have hkept : Kept 0x200000 r q := hq ▸ Kept.ite (r.leaveCore_kept c) (.refl r)
  let p := q.unlist n
  have hthreads : p.sched.threads = r.sched.threads := by
    show q.sched.threads = _
    rw [hkept.agree .sched]
  have hp : p.ThreadsCanonical := hw.of_threads hthreads
  let w := p.setThread n { r.thread n with state := .suspended, suspendNext := none, handle := 0 }
  have hsuspend : r.suspend c n = w := by
    unfold w p
    rw [hq]
    exact if_neg fun hrun => hhere.elim (· hrun.1) (hrun.2 ·)
  have he : exec (.schsetSuspend c u) s = .next ((r.suspend c n).csrResult c (r.thread n).state.code) :=
    congrArg Host.Outcome.next (h.schset_allowed hcsr hpriv hn hreserved hfree haction rfl _)
  rw [hsuspend] at he
  refine ⟨_, he, rfl, ?_, fun m hm => ?_, not_mem_filter_ne n q.sched.ready, fun hrun => ?_, ?_⟩
  · rw [State.thread_csrResult, State.thread_setThread_same hp]
  · rw [State.thread_csrResult, State.thread_setThread_ne hp hm, State.thread_of_threads hthreads]
  · rw [State.coreThread_csrResult, State.coreThread_of_cores (s := q) (t := w) rfl, hq, if_pos hrun, State.coreThread_leaveCore]
  · exact Kept.sameBut_mask (hkept.up.trans ((q.unlist_kept n).up.trans ((p.setThread_kept ..).up.trans (State.csrResult_kept ..).up)))

include hw in
/-- A thread that another core runs is asked of that core, and runs on. -/
theorem schsetSuspend_elsewhere (haction : bits v 12 4 = 1) (hrun : (r.thread n).state = .running) (hcore : (r.thread n).core ≠ c)
    (hpreempt : (r.cores[(r.thread n).core]?).map Core.preempt = some false) : Completes (.schsetSuspend c u) s fun t =>
      t.answer = .ok 3 ∧ t.thread n = { r.thread n with suspendNext := some (r.thread n).core } ∧
      (t.cores[(r.thread n).core]?).map Core.preempt = some true ∧ t.coreThread (r.thread n).core = r.coreThread (r.thread n).core := by
  let d := (r.thread n).core
  let q := r.setThread n { r.thread n with suspendNext := some d }
  have hsuspend : r.suspend c n = q.preempt d n := if_pos ⟨hrun, hcore⟩
  have he : exec (.schsetSuspend c u) s = .next ((r.suspend c n).csrResult c (r.thread n).state.code) :=
    congrArg Host.Outcome.next (h.schset_allowed hcsr hpriv hn hreserved hfree haction rfl _)
  rw [hsuspend, hrun] at he
  refine ⟨_, he, rfl, ?_, ?_, ?_⟩
  · rw [State.thread_csrResult, State.thread_of_threads (congrArg Scheduler.threads (q.preempt_sched d n)), State.thread_setThread_same hw]
  · exact (State.core_map_withCore (p := Core.preempt) (f := fun x => { x with result := 3 }) (fun _ => rfl) _ c d).trans
      (q.preempt_requests hpreempt n)
  · rw [State.coreThread_csrResult, State.coreThread_preempt]
    rfl

include hw in
theorem schsetReady (haction : bits v 12 4 = 0) (hsuspended : (r.thread n).state = .suspended) : Completes (.schsetReady c u) s fun t =>
    t.answer = .ok 1 ∧ ((t.thread n).state = .ready ∨ (t.thread n).state = .running) ∧ (t.thread n).reason = 5 ∧
      ∀ m, m ≠ n → t.thread m = r.thread m := by
  obtain ⟨hstate, hreason, hother, -⟩ := State.makeReady_effect hw n 5
  refine ⟨_, congrArg Host.Outcome.next (h.schset_allowed hcsr hpriv hn hreserved hfree haction ?_ _), ?_, ?_⟩
  · simp [hsuspended]
  · rw [hsuspended]
    rfl
  · simp only [State.thread_csrResult]
    exact ⟨hstate, hreason, hother⟩

omit hfree in
theorem schsetReady_refused (haction : bits v 12 4 = 0) (hnot : (r.thread n).state ≠ .suspended) : Completes (.schsetReady c u) s fun t =>
    t.answer = .ok (2 ^ 63 + 9) ∧ t.sched = r.sched :=
  ⟨_, congrArg Host.Outcome.next (h.schset_refused hcsr hpriv hn hreserved haction (by simpa using hnot) _), rfl, rfl⟩

include hw in
theorem schsetFree (haction : bits v 12 4 = 4) (hnot : (r.thread n).state ≠ .running) : Completes (.schsetFree c u) s fun t =>
    t.answer = .ok (r.thread n).state.code ∧ t.thread n = Thread.free ∧ (∀ m, m ≠ n → t.thread m = r.thread m) ∧ n ∉ t.sched.ready := by
  let q := (r.unlist n).setThread n Thread.free
  let p := q.decision 5 c n (r.thread n).priority 0 0
  have he : exec (.schsetFree c u) s = .next (p.csrResult c (r.thread n).state.code) :=
    congrArg Host.Outcome.next (h.schset_allowed hcsr hpriv hn hreserved hfree haction (by simpa using hnot) _)
  refine ⟨_, he, rfl, ?_, fun m hm => ?_, ?_⟩
  · rw [State.thread_csrResult, State.thread_decision, State.thread_setThread_same (s := r.unlist n) hw]
  · rw [State.thread_csrResult, State.thread_decision, State.thread_setThread_ne (s := r.unlist n) hw hm]
    exact State.thread_of_threads rfl m
  · rw [State.csrResult_sched, State.decision_sched]
    exact not_mem_filter_ne n r.sched.ready

omit hfree in
theorem schsetFree_refused (haction : bits v 12 4 = 4) (hrun : (r.thread n).state = .running) : Completes (.schsetFree c u) s fun t =>
    t.answer = .ok (2 ^ 63 + 9) ∧ t.sched = r.sched :=
  ⟨_, congrArg Host.Outcome.next (h.schset_refused hcsr hpriv hn hreserved haction (by simp [hrun]) _), rfl, rfl⟩

end

end CsrAccess
end Sys2Proof.Machine
end

section
/-! The operations on threads, continued: `schcreate`, `schdelay` and `schwait` (R298, R308, R309, R315). -/

set_option Elab.async false

namespace Sys2Proof.Machine

/-- The slot and the channel that a handle names. -/
theorem State.channel_of_lookup {s : State} {handle slot : Nat} {d : Channel} (h : s.lookup handle = .inr (slot, d)) :
    s.channel slot = some d := by
  unfold lookup at h
  split at h
  · exact nomatch h
  · split at h
    · exact nomatch h
    next hd =>
      split at h
      · obtain ⟨rfl, rfl⟩ := Prod.mk.inj (Sum.inr.inj h)
        exact hd
      · exact nomatch h

@[simp] theorem State.thread_leaveCore (s : State) (c m : Nat) : (s.leaveCore c).thread m = s.thread m := thread_of_threads rfl m

/-- A delay of this kind is over already (R308). -/
def State.delayDue (s : State) (kind value : Nat) : Bool :=
  if kind = 0 then value == 0 else if kind = 1 then decide (value ≤ s.sched.ticks) else decide (value ≤ s.arr.sched.cycle)

/-- Thread `m` stands in the delay list of the kind (R309). -/
def Scheduler.enlist (d : Scheduler) (kind value m : Nat) : Scheduler :=
  if kind = 2 then { d with cycleList := insertDelay value m d.cycleList }
  else { d with tickList := insertDelay (if kind = 0 then d.ticks + value else value) m d.tickList }

/-- The running thread `m` of core `c` becomes DELAYED and leaves the core. -/
def State.delay (s : State) (c m kind value : Nat) : State :=
  ((((s.setThread m { s.thread m with state := .delayed }).leaveCore c).withScheduler fun d => d.enlist kind value m).decision 3 c m
    (s.thread m).priority 4 0).csrResult c 0

theorem Scheduler.enlist_threads (d : Scheduler) (kind value m : Nat) : (d.enlist kind value m).threads = d.threads := by
  unfold enlist
  split <;> rfl

theorem State.delay_sched (s : State) (c m kind value : Nat) :
    (s.delay c m kind value).sched = (s.setThread m { s.thread m with state := .delayed }).sched.enlist kind value m := by
  rw [delay, csrResult_sched, decision_sched]
  rfl

theorem State.delay_effect {s : State} (hw : s.ThreadsCanonical) (c m kind value : Nat) : (s.delay c m kind value).answer = .ok 0 ∧
    ((s.delay c m kind value).thread m).state = .delayed ∧ (s.delay c m kind value).coreThread c = none := by
  have hthreads : (s.delay c m kind value).sched.threads = (s.setThread m { s.thread m with state := .delayed }).sched.threads := by
    rw [delay_sched, Scheduler.enlist_threads]
  refine ⟨rfl, ?_, ?_⟩
  · rw [thread_of_threads hthreads, thread_setThread_same hw]
  · rw [delay, coreThread_csrResult, coreThread_of_cores (decision_cores ..)]
    exact coreThread_leaveCore _ c

namespace CsrAccess

variable {s r : State} {c : Nat} {u : CsrUse} {k : Core} {v : Nat} (h : CsrAccess s r c u k v) (hcsr : u.csrrw = true) (hpriv : u.priv ≠ 0)
include h hcsr hpriv

/-! ### Creation, delays and waits -/

theorem schcreate (hw : r.ThreadsCanonical) {m : Nat} (hm : r.freeThread = some m) (haffinity : bits v 32 32 ≠ 0) (hlow : bits v 6 2 = 0)
    (hhigh : bits v 9 23 = 0) (hready : bit v 8 = false) : Completes (.schcreate c u) s fun t => t.answer = .ok m ∧
      t.thread m = ⟨.suspended, bits v 0 6, bits v 32 32, 0, 0, none, 0⟩ ∧ (∀ j, j ≠ m → t.thread j = r.thread j) ∧
      t.sched.ready = r.sched.ready := by
  let q := r.setThread m ⟨.suspended, bits v 0 6, bits v 32 32, 0, 0, none, 0⟩
  let p := q.decision 5 c m (bits v 0 6) 0 0
  have he : exec (.schcreate c u) s = .next (p.csrResult c m) := by
    refine (h.exec_eq hcsr hpriv rfl).trans (congrArg Host.Outcome.next ?_)
    dsimp only
    simp only [haffinity, hlow, hhigh, hready, hm, ne_eq, not_true_eq_false, or_self, if_false, Bool.false_eq_true]
    rfl
  refine ⟨_, he, rfl, ?_, fun j hj => ?_, ?_⟩
  · rw [State.thread_csrResult, State.thread_decision, State.thread_setThread_same hw]
  · rw [State.thread_csrResult, State.thread_decision, State.thread_setThread_ne hw hj]
  · rw [State.csrResult_sched, State.decision_sched]
    rfl

section
variable {m : Nat} (hm : k.thread = some m)
include hm

/-- A delay that is due returns 1; one that is to come delays the running thread (R308). -/
theorem schdelay_eq (hreserved : bits v 2 6 = 0) {kind : Nat} (hkind : bits v 0 2 = kind) (hne : kind ≠ 3) :
    exec (.schdelay c u) s = .next (if r.delayDue kind (bits v 8 56) = true then r.csrResult c 1 else r.delay c m kind (bits v 8 56)) := by
  refine (h.exec_eq hcsr hpriv rfl).trans (congrArg Host.Outcome.next ?_)
  dsimp only
  simp only [hreserved, hkind, hne, ne_eq, not_true_eq_false, or_self, if_false, h.coreThread, hm]
  rfl

variable (hw : r.ThreadsCanonical)

include hw in
theorem schdelay_ticks (hreserved : bits v 2 6 = 0) (hkind : bits v 0 2 = 0) (hvalue : bits v 8 56 ≠ 0) : Completes (.schdelay c u) s fun t =>
    t.answer = .ok 0 ∧ (t.thread m).state = .delayed ∧ t.coreThread c = none ∧ (r.sched.ticks + bits v 8 56, m) ∈ t.sched.tickList ∧
      t.sched.cycleList = r.sched.cycleList := by
  have hdue : ¬ r.delayDue 0 (bits v 8 56) = true := by simpa [State.delayDue] using hvalue
  have he := h.schdelay_eq hcsr hpriv hm hreserved hkind (by decide)
  rw [if_neg hdue] at he
  obtain ⟨hans, hstate, hcore⟩ := State.delay_effect hw c m 0 (bits v 8 56)
  refine ⟨_, he, hans, hstate, hcore, ?_, ?_⟩
  · rw [State.delay_sched]
    exact mem_insertDelay ..
  · rw [State.delay_sched]
    rfl

include hw in
theorem schdelay_cycle (hreserved : bits v 2 6 = 0) (hkind : bits v 0 2 = 2) (hvalue : r.arr.sched.cycle < bits v 8 56) :
    Completes (.schdelay c u) s fun t => t.answer = .ok 0 ∧ (t.thread m).state = .delayed ∧ t.coreThread c = none ∧
      (bits v 8 56, m) ∈ t.sched.cycleList ∧ t.sched.tickList = r.sched.tickList := by
  have hdue : ¬ r.delayDue 2 (bits v 8 56) = true := by simpa [State.delayDue] using hvalue
  have he := h.schdelay_eq hcsr hpriv hm hreserved hkind (by decide)
  rw [if_neg hdue] at he
  obtain ⟨hans, hstate, hcore⟩ := State.delay_effect hw c m 2 (bits v 8 56)
  refine ⟨_, he, hans, hstate, hcore, ?_, ?_⟩
  · rw [State.delay_sched]
    exact mem_insertDelay ..
  · rw [State.delay_sched]
    rfl

theorem schdelay_due (hreserved : bits v 2 6 = 0) (hkind : bits v 0 2 = 1) (hvalue : bits v 8 56 ≤ r.sched.ticks) :
    Completes (.schdelay c u) s fun t => t.answer = .ok 1 ∧ t.sched = r.sched := by
  have hdue : r.delayDue 1 (bits v 8 56) = true := by simpa [State.delayDue] using hvalue
  have he := h.schdelay_eq hcsr hpriv hm hreserved hkind (by decide)
  rw [if_pos hdue] at he
  exact ⟨_, he, rfl, rfl⟩

section
variable (hreserved : bits v 33 7 = 0) {slot : Nat} {d : Channel} (hd : r.lookup (v % 2 ^ 32) = .inr (slot, d))
    (htype : d.type = 3 ∨ d.type = bits v 32 1 + 1)
include hreserved hd htype

/-- On a live handle whose channel's type has the condition, the thread waits unless the condition holds already (R315). -/
theorem schwait_eq : exec (.schwait c u) s = .next (if d.holds (bits v 32 1) = true then r.csrResult c 1
    else r.wait c m slot (bits v 32 1) (bits v 40 24) (v % 2 ^ 32) d) := by
  have htype' : ¬ (d.type ≠ 3 ∧ d.type ≠ bits v 32 1 + 1) := fun hnot => htype.elim hnot.1 hnot.2
  refine (h.exec_eq hcsr hpriv rfl).trans (congrArg Host.Outcome.next ?_)
  dsimp only
  simp only [hreserved, ne_eq, not_true_eq_false, if_false, h.coreThread, hm, hd]
  exact if_neg htype'

theorem schwait_holds (hholds : d.holds (bits v 32 1) = true) : Completes (.schwait c u) s fun t =>
    t.answer = .ok 1 ∧ t.sched = r.sched ∧ t.chan = r.chan :=
  ⟨_, (h.schwait_eq hcsr hpriv hm hreserved hd htype).trans (congrArg Host.Outcome.next (if_pos hholds)), rfl, rfl, rfl⟩

include hw in
theorem schwait_waits (hholds : d.holds (bits v 32 1) = false) : Completes (.schwait c u) s fun t =>
    t.answer = .ok 0 ∧ (t.thread m).state = .waiting ∧ t.coreThread c = none ∧
      t.channel slot = some { d with waiters := d.waiters ++ [(m, bits v 32 1)] } ∧
      (0 < bits v 40 24 → (r.sched.ticks + bits v 40 24, m) ∈ t.sched.tickList) := by
  have he := (h.schwait_eq hcsr hpriv hm hreserved hd htype).trans (congrArg Host.Outcome.next (if_neg (by simp [hholds])))
  let q := (r.setThread m { r.thread m with state := .waiting, handle := v % 2 ^ 32 }).leaveCore c
  let p := q.setChannel slot { d with waiters := d.waiters ++ [(m, bits v 32 1)] }
  have hchannel : p.channel slot = some { d with waiters := d.waiters ++ [(m, bits v 32 1)] } :=
    State.channel_setChannel (s := q) (State.channel_of_lookup (s := r) hd) _
  obtain ⟨w, hw'⟩ : ∃ w, w = if bits v 40 24 = 0 then p
    else p.withScheduler fun e => { e with tickList := insertDelay (e.ticks + bits v 40 24) m e.tickList } := ⟨_, rfl⟩
  have hkept : Kept 0x400000 p w := hw' ▸ Kept.ite (.refl p) (p.withScheduler_kept _)
  have hthreads : w.sched.threads = q.sched.threads := by
    rw [hw']
    split <;> rfl
  have hwait : r.wait c m slot (bits v 32 1) (bits v 40 24) (v % 2 ^ 32) d = (w.decision 3 c m (r.thread m).priority 5 (v % 2 ^ 32)).csrResult c 0 := by
    rw [hw']
    rfl
  rw [hwait] at he
  refine ⟨_, he, rfl, ?_, ?_, ?_, fun htimeout => ?_⟩
  · rw [State.thread_csrResult, State.thread_decision, State.thread_of_threads hthreads, State.thread_leaveCore, State.thread_setThread_same hw]
  · rw [State.coreThread_csrResult, State.coreThread_of_cores ((State.decision_cores ..).trans (hkept.agree .cores))]
    exact State.coreThread_leaveCore _ c
  · unfold State.channel
    rw [show (State.csrResult (w.decision ..) c 0).chan = p.chan from (State.decision_chan ..).trans (hkept.agree .chan)]
    exact hchannel
  · rw [State.csrResult_sched, State.decision_sched, hw', if_neg (Nat.ne_of_gt htimeout)]
    exact mem_insertDelay ..

end

end

end CsrAccess
end Sys2Proof.Machine
end

section
/-! The operations on threads, continued: `schask` and `schipi` (R296, R299, R302). -/

set_option Elab.async false

namespace Sys2Proof.Machine

/-! ### schask (R299, R302) -/

theorem Kept.coreTime_eq {m : Nat} {s t : State} (h : Kept m s t) (hm : ¬ m.testBit Component.mgmt.bit = true := by decide) :
    t.coreTime = s.coreTime := by
  have huptime := congrArg Mgmt.uptime (h.agree .mgmt hm)
  exact congrArg (· / 10) huptime

/-- The request for preemption of a core is withdrawn, as every `schask` does first. -/
def State.unrequest (s : State) (c : Nat) : State := s.withCore c fun x => { x with preempt := false }

theorem State.coreThread_unrequest (s : State) (c m : Nat) : (s.unrequest c).coreThread m = s.coreThread m :=
  coreThread_withCore (f := fun x => { x with preempt := false }) (fun _ => rfl) s c m

theorem State.suspensions_unrequest (s : State) (c : Nat) : (s.unrequest c).suspensions c = s.suspensions c := by
  unfold suspensions
  rw [coreThread_unrequest]
  rfl

theorem State.core_unrequest {s : State} {c : Nat} {k : Core} (h : s.cores[c]? = some k) :
    (s.unrequest c).cores[c]? = some { k with preempt := false } := by
  rw [unrequest, core_withCore_same, h]
  rfl

theorem State.dispose_idle {s : State} {c : Nat} (h : s.coreThread c = none) (disposition : Nat) : s.dispose c disposition = s := by
  unfold dispose
  rw [h]

/-- Disposition 1 suspends the running thread, and so does a suspension that was asked of the core. -/
theorem State.dispose_suspends {s : State} {c m : Nat} (h : s.coreThread c = some m) {disposition : Nat}
    (hd : ¬ (disposition = 0 ∧ (s.thread m).suspendNext = none)) : s.dispose c disposition =
      ((s.leaveCore c).setThread m { s.thread m with state := .suspended, suspendNext := none }).decision 3 c m (s.thread m).priority 1 0 := by
  unfold dispose
  rw [h]
  exact if_neg hd

theorem State.dispose_readies {s : State} {c m : Nat} (h : s.coreThread c = some m) (hnext : (s.thread m).suspendNext = none) :
    s.dispose c 0 = ((s.leaveCore c).decision 3 c m (s.thread m).priority 2 0).joinReady m 0 := by
  unfold dispose
  rw [h]
  exact if_pos ⟨rfl, hnext⟩

theorem State.ask_dispatches {s : State} {c m : Nat} (h : s.bestFor c = some m) :
    s.ask c = (s.dispatch m c).reply (.ok (m + ((s.dispatch m c).thread m).reason * 2 ^ 12)) := by
  unfold ask
  rw [h]

section
variable {s : State} {c : Nat} {k : Core} (hk : s.cores[c]? = some k) (h : s.bestFor c = none)
include hk h

theorem State.ask_interrupted (hint : k.interrupted s.coreTime = true) : s.ask c = s.csrResult c (2 ^ 62) := by
  have hany : ((s.cores[c]?).any fun x => x.interrupted s.coreTime) = true := by rw [hk, Option.any_some, hint]
  unfold ask
  rw [h]
  exact if_pos hany

theorem State.ask_blocks (hint : k.interrupted s.coreTime = false) :
    s.ask c = (s.withCore c fun x => { x with state := .blocked }).reply .waiting := by
  have hany : ¬ ((s.cores[c]?).any fun x => x.interrupted s.coreTime) = true := by
    rw [hk, Option.any_some, hint]
    exact Bool.false_ne_true
  unfold ask
  rw [h]
  exact if_neg hany

end

/-- A thread that is not READY does not run by an `schask`. -/
theorem State.ask_spares {s : State} (hw : s.ThreadsCanonical) {m : Nat} (hm : m ∉ s.sched.ready) (c : Nat) :
    (s.ask c).thread m = s.thread m ∧ m ∉ (s.ask c).sched.ready := by
  cases hbest : s.bestFor c with
  | some j =>
    have hne : m ≠ j := fun heq => hm (heq ▸ mem_of_bestFor hbest)
    rw [ask_dispatches hbest, reply_sched, dispatch_sched]
    exact ⟨(thread_reply ..).trans (thread_dispatch_ne hw j c hne),
      fun hmem => hm (List.mem_filter.1 hmem).1⟩
  | none =>
    have hsched : (s.ask c).sched = s.sched := by
      unfold ask
      rw [hbest]
      dsimp only
      split <;> rfl
    rw [hsched]
    exact ⟨thread_of_threads (congrArg Scheduler.threads hsched) m, hm⟩

theorem State.coreThread_dispatch {s : State} {c : Nat} {k : Core} (hk : s.cores[c]? = some k) (t : Nat) :
    (s.dispatch t c).coreThread c = some t := by
  simp [coreThread, dispatch_cores, hk]

/-- The core's share of an `schask`: the suspensions asked of it, the disposition of its thread, and the next thread. -/
def State.disposeAndAsk (s : State) (c disposition : Nat) : State :=
  ((((s.unrequest c).suspensions c).foldl State.suspendLate (s.unrequest c)).dispose c disposition).ask c

theorem State.disposeAndAsk_eq {s : State} {c : Nat} (h : s.suspensions c = []) (disposition : Nat) :
    s.disposeAndAsk c disposition = ((s.unrequest c).dispose c disposition).ask c := by
  rw [disposeAndAsk, suspensions_unrequest, h]
  rfl

namespace CsrAccess

variable {s r : State} {c : Nat} {u : CsrUse} {k : Core} {v : Nat} (h : CsrAccess s r c u k v) (hcsr : u.csrrw = true) (hpriv : u.priv ≠ 0)
  (hv : v ≤ 1)
include h hcsr hpriv hv

/-- On a core without a thread, `schask` is the core's share. -/
theorem schask_idle (hk : k.thread = none) : exec (.schask c u) s = .next (r.disposeAndAsk c v) := by
  refine (h.exec_eq hcsr hpriv rfl).trans (congrArg Host.Outcome.next ?_)
  dsimp only
  simp only [Nat.not_lt.2 hv, if_false, h.coreThread, hk]
  rfl

/-- A disposed thread competes for another core only where its own has not taken it. -/
theorem schask_busy {m : Nat} (hk : k.thread = some m) (hnot : ((r.disposeAndAsk c v).thread m).state ≠ .ready) :
    exec (.schask c u) s = .next (r.disposeAndAsk c v) := by
  refine (h.exec_eq hcsr hpriv rfl).trans (congrArg Host.Outcome.next ?_)
  dsimp only
  simp only [Nat.not_lt.2 hv, if_false, h.coreThread, hk]
  exact if_neg hnot

section
variable (hk : k.thread = none) (hnone : r.suspensions c = [])
include hk hnone

theorem schask_eq_ask : exec (.schask c u) s = .next ((r.unrequest c).ask c) := by
  have hidle : (r.unrequest c).coreThread c = none := by rw [State.coreThread_unrequest, h.coreThread, hk]
  rw [h.schask_idle hcsr hpriv hv hk, State.disposeAndAsk_eq hnone, State.dispose_idle hidle]

theorem schask_blocks (hbest : r.bestFor c = none) (hint : ({ k with preempt := false } : Core).interrupted r.coreTime = false) :
    Completes (.schask c u) s fun t => t.answer = .waiting ∧ t.cores[c]? = some { k with preempt := false, state := .blocked } ∧
      t.sched = r.sched := by
  have hcore := State.core_unrequest h.core
  have he := h.schask_eq_ask hcsr hpriv hv hk hnone
  rw [State.ask_blocks hcore hbest hint] at he
  refine ⟨_, he, rfl, ?_, rfl⟩
  rw [State.reply_cores, State.core_withCore_same, hcore]
  rfl

theorem schask_interrupted (hbest : r.bestFor c = none) (hint : ({ k with preempt := false } : Core).interrupted r.coreTime = true) :
    Completes (.schask c u) s fun t => t.answer = .ok (2 ^ 62) ∧ (t.cores[c]?).map Core.state = some .running ∧ t.sched = r.sched := by
  have hcore := State.core_unrequest h.core
  have he := h.schask_eq_ask hcsr hpriv hv hk hnone
  rw [State.ask_interrupted hcore hbest hint] at he
  refine ⟨_, he, rfl, ?_, rfl⟩
  rw [State.csrResult, State.reply_cores, State.core_withCore_same, hcore]
  exact congrArg some h.core_running

theorem schask_dispatches (hw : r.ThreadsCanonical) {m : Nat} (hbest : r.bestFor c = some m) : Completes (.schask c u) s fun t =>
    t.answer = .ok (m + (r.thread m).reason * 2 ^ 12) ∧ t.thread m = { r.thread m with state := .running, core := c } ∧
      t.coreThread c = some m ∧ m ∉ t.sched.ready := by
  have hthread : ((r.unrequest c).dispatch m c).thread m = { r.thread m with state := .running, core := c } :=
    State.thread_dispatch_same (s := r.unrequest c) hw m c
  have he := h.schask_eq_ask hcsr hpriv hv hk hnone
  rw [State.ask_dispatches (s := r.unrequest c) hbest, hthread] at he
  refine ⟨_, he, rfl, ?_, ?_, ?_⟩
  · rw [State.thread_reply, hthread]
  · exact (State.coreThread_of_cores (State.reply_cores ..) c).trans (State.coreThread_dispatch (State.core_unrequest h.core) m)
  · rw [State.reply_sched, State.dispatch_sched]
    exact not_mem_filter_ne m _

end

/-- A thread whose suspension was asked of the core, and that no core runs now, is suspended (R299). -/
theorem schask_suspends_asked (hw : r.ThreadsCanonical) {m : Nat} (hk : k.thread = none) (hasked : r.suspensions c = [m])
    (hnot : (r.thread m).state ≠ .running) : Completes (.schask c u) s fun t =>
      (t.thread m).state = .suspended ∧ (t.thread m).suspendNext = none ∧ m ∉ t.sched.ready := by
  let q := r.unrequest c
  let p := (q.unlist m).setThread m { q.thread m with state := .suspended, suspendNext := none, handle := 0 }
  have hlate : q.suspendLate m = p := if_neg hnot
  have hidle : p.coreThread c = none := by
    rw [State.coreThread_of_cores (s := q) (t := p) rfl, State.coreThread_unrequest, h.coreThread, hk]
  have hask : r.disposeAndAsk c v = p.ask c := by
    rw [State.disposeAndAsk, State.suspensions_unrequest, hasked]
    exact (congrArg (fun w : State => (w.dispose c v).ask c) hlate).trans (congrArg (·.ask c) (State.dispose_idle hidle v))
  have hp : p.ThreadsCanonical := State.ThreadsCanonical.setThread (s := q.unlist m) hw m _
  have hthread : p.thread m = { q.thread m with state := .suspended, suspendNext := none, handle := 0 } :=
    State.thread_setThread_same (s := q.unlist m) hw m _
  have hready : m ∉ p.sched.ready := not_mem_filter_ne m q.sched.ready
  obtain ⟨hsame, hout⟩ := State.ask_spares hp hready c
  refine ⟨_, (h.schask_idle hcsr hpriv hv hk).trans (congrArg Host.Outcome.next hask), ?_, ?_, hout⟩ <;> rw [hsame, hthread]

section
variable {m : Nat} (hk : k.thread = some m) (hnone : r.suspensions c = [])
include hk hnone

/-- Disposition 1: the running thread is SUSPENDED, and the core without another one blocks. -/
theorem schask_suspends_running (hw : r.ThreadsCanonical) (hone : v = 1) (hout : m ∉ r.sched.ready) (hbest : r.bestFor c = none)
    (hint : ({ k with preempt := false } : Core).interrupted r.coreTime = false) : Completes (.schask c u) s fun t =>
      t.answer = .waiting ∧ (t.thread m).state = .suspended ∧ t.coreThread c = none := by
  let q := r.unrequest c
  let w := (q.leaveCore c).setThread m { q.thread m with state := .suspended, suspendNext := none }
  let p := w.decision 3 c m (q.thread m).priority 1 0
  have hrun : q.coreThread c = some m := by rw [State.coreThread_unrequest, h.coreThread, hk]
  have hdispose : q.dispose c v = p := State.dispose_suspends hrun (by simp [hone])
  have hkept : Kept 0x1000042 w p := w.decision_kept ..
  have hthread : p.thread m = { q.thread m with state := .suspended, suspendNext := none } :=
    (w.thread_decision ..).trans (State.thread_setThread_same (s := q.leaveCore c) hw m _)
  have hcore : p.cores[c]? = some { k with preempt := false, thread := none } := by
    rw [State.decision_cores]
    show (q.leaveCore c).cores[c]? = _
    rw [State.leaveCore, State.core_withCore_same, State.core_unrequest h.core]
    rfl
  have hbest' : p.bestFor c = none := by
    have hready : p.sched.ready = r.sched.ready := by
      rw [State.decision_sched]
      rfl
    refine State.bestFor_eq_none.2 fun j hj => ?_
    rw [hready] at hj
    have hne : j ≠ m := fun heq => hout (heq ▸ hj)
    rw [State.thread_decision, State.thread_setThread_ne (s := q.leaveCore c) hw hne]
    exact State.bestFor_eq_none.1 hbest j hj
  have hask : r.disposeAndAsk c v = (p.withCore c fun x => { x with state := .blocked }).reply .waiting := by
    rw [State.disposeAndAsk_eq hnone, hdispose]
    refine State.ask_blocks hcore hbest' ?_
    rw [hkept.coreTime_eq]
    exact hint
  have hfinal : ((r.disposeAndAsk c v).thread m).state = .suspended := by
    rw [hask, State.thread_reply, State.thread_withCore, hthread]
  refine ⟨_, h.schask_busy hcsr hpriv hv hk (by rw [hfinal]; exact nofun), ?_, hfinal, ?_⟩
  · rw [hask]
    rfl
  · rw [hask, State.coreThread_of_cores (State.reply_cores ..), State.coreThread_withCore (f := fun x => { x with state := .blocked }) fun _ => rfl,
      State.coreThread_of_core hcore]

/-- Disposition 0: the running thread becomes READY, and as the best one for the core runs on. -/
theorem schask_takes_back (hw : r.ThreadsCanonical) (hzero : v = 0) (hnext : (r.thread m).suspendNext = none) (hready : r.sched.ready = [])
    (haffinity : bit (r.thread m).affinity c = true) : Completes (.schask c u) s fun t =>
      t.answer = .ok m ∧ (t.thread m).state = .running ∧ t.coreThread c = some m ∧ t.sched.ready = [] := by
  let q := r.unrequest c
  let w := (q.leaveCore c).decision 3 c m (q.thread m).priority 2 0
  have hsched : w.sched = r.sched := State.decision_sched ..
  have hthreads : w.sched.threads = r.sched.threads := congrArg Scheduler.threads hsched
  have hww : w.ThreadsCanonical := hw.of_threads hthreads
  let p := w.joinReady m 0
  have hrun : q.coreThread c = some m := by rw [State.coreThread_unrequest, h.coreThread, hk]
  have hdispose : q.dispose c v = p := hzero ▸ State.dispose_readies hrun hnext
  have hthread : p.thread m = { r.thread m with state := .ready, reason := 0, handle := 0 } := by
    rw [State.thread_joinReady_same hww, State.thread_of_threads hthreads]
  have hreadyp : p.sched.ready = [m] := by
    rw [State.joinReady_sched, hsched, hready]
    rfl
  have hbest : p.bestFor c = some m := State.bestFor_singleton hreadyp (by rw [hthread]; exact haffinity)
  have hdispatched : (p.dispatch m c).thread m = { r.thread m with state := .running, core := c, reason := 0, handle := 0 } := by
    rw [State.thread_dispatch_same (hww.joinReady m 0), hthread]
  have hask : r.disposeAndAsk c v = (p.dispatch m c).reply (.ok m) := by
    rw [State.disposeAndAsk_eq hnone, hdispose, State.ask_dispatches hbest, hdispatched]
    simp
  have hcore : p.cores[c]? = some { k with preempt := false, thread := none } := by
    rw [State.joinReady_cores, State.decision_cores, State.leaveCore, State.core_withCore_same, State.core_unrequest h.core]
    rfl
  have hfinal : (r.disposeAndAsk c v).thread m = { r.thread m with state := .running, core := c, reason := 0, handle := 0 } := by
    rw [hask, State.thread_reply, hdispatched]
  refine ⟨_, h.schask_busy hcsr hpriv hv hk (by rw [hfinal]; exact nofun), ?_, ?_, ?_, ?_⟩
  · rw [hask]
    rfl
  · rw [hfinal]
  · rw [hask, State.coreThread_of_cores (State.reply_cores ..), State.coreThread_dispatch hcore]
  · rw [hask, State.reply_sched, State.dispatch_sched, hreadyp]
    simp

end

end CsrAccess

/-! ### schipi (R296) -/

theorem Core.interrupt_ssip (x : Core) (time : Nat) : (x.interrupt time).ssip = x.ssip := by
  unfold interrupt
  split <;> rfl

namespace CsrAccess

variable {s r : State} {c : Nat} {u : CsrUse} {k : Core} {v : Nat} (h : CsrAccess s r c u k v)
include h

theorem schipi (hcsr : u.csrrw = true) (hpriv : u.priv ≠ 0) (hv : v < 2 ^ 32) : Completes (.schipi c u) s fun t => t.answer = .ok 0 ∧
    t.cores.map Core.ssip = r.cores.mapIdx (fun i y => y.ssip || (decide (i < 32) && bit v i)) ∧
    r.sameBut [.answer, .mgmtClock, .cores] t := by
  let op (w : State) (i : Nat) : State :=
    if bit v i = true then w.withCore i fun x => ({ x with ssip := true } : Core).interrupt w.coreTime else w
  let f (i : Nat) (x : Core) : Core := if bit v i = true then ({ x with ssip := true } : Core).interrupt r.coreTime else x
  have hop : ∀ w, ∀ i < 32, w.coreTime = r.coreTime → (op w i).cores = w.cores.modify i (f i) := by
    intro w i _ hw
    unfold op f
    split
    · rw [State.cores_withCore, hw]
    · exact (List.modify_id ..).symm
  have htime : ∀ w, ∀ i < 32, w.coreTime = r.coreTime → (op w i).coreTime = r.coreTime := by
    intro w i _ hw
    unfold op
    split <;> exact hw
  let q := (List.range 32).foldl op r
  have hkept : Kept 0x200000 r q := Kept.foldl (fun w i => Kept.ite (w.withCore_kept ..) (.refl w)) (.refl r)
  have hcores : q.cores = r.cores.mapIdx fun i x => if i < 32 then f i x else x := (State.cores_foldl_range htime hop rfl (Nat.le_refl 32)).2
  have he : exec (.schipi c u) s = .next (q.csrResult c 0) :=
    (h.exec_eq hcsr hpriv rfl).trans (congrArg Host.Outcome.next (if_neg (Nat.not_le.2 hv)))
  refine ⟨_, he, rfl, List.ext_getElem? fun i => ?_, Kept.sameBut_mask (hkept.up.trans (State.csrResult_kept ..).up)⟩
  have hresult := State.core_map_withCore (p := Core.ssip) (f := fun x => { x with result := 0 }) (fun _ => rfl) q c i
  rw [List.getElem?_map]
  refine hresult.trans ?_
  rw [hcores, List.getElem?_mapIdx, List.getElem?_mapIdx, Option.map_map]
  refine congrArg (Option.map · _) (funext fun x => ?_)
  by_cases hi : i < 32 <;> cases hbit : bit v i <;> simp [f, hi, hbit, Core.interrupt_ssip]

end CsrAccess
end Sys2Proof.Machine

open Sys2Proof Sys2Proof.Machine

/-- Settles O35: each operation by the lemma of its effect, from the state that the core's earlier CSR writes leave. -/
theorem threadOperationsTakeEffect : Obligations.ThreadOperationsTakeEffect := by
  intro s r c u k v n x hrun hr hk hv hn hx hw _
  subst hx
  have h : CsrAccess s r c u k v := ⟨hrun, hr, hk, hv⟩
  refine ⟨h.threadOperations_illegal, fun hcsr hpriv => ⟨h.schcur hcsr hpriv, fun hreserved hfree => ?schset,
    fun _ hm => h.schcreate hcsr hpriv hw hm, fun _ hm hreserved => ?schdelay, fun _ _ _ hm hreserved hd htype => ?schwait,
    fun hle hidle hnone => ?schaskIdle, fun _ hle hidle hasked => h.schask_suspends_asked hcsr hpriv hle hw hidle hasked,
    fun _ hone hm hout hnone => ?schaskSuspends, fun _ hzero hm hnext hready hnone => ?schaskTakesBack, h.schipi hcsr hpriv⟩⟩
  case schset =>
    exact ⟨h.schsetState hcsr hpriv hn hreserved hfree, h.schsetPriority hcsr hpriv hn hreserved hfree hw,
      fun haction haffinity _ => h.schsetAffinity hcsr hpriv hn hreserved hfree hw haction haffinity,
      h.schsetSuspend_here hcsr hpriv hn hreserved hfree hw, h.schsetSuspend_elsewhere hcsr hpriv hn hreserved hfree hw,
      h.schsetReady hcsr hpriv hn hreserved hfree hw, h.schsetReady_refused hcsr hpriv hn hreserved,
      h.schsetFree hcsr hpriv hn hreserved hfree hw, h.schsetFree_refused hcsr hpriv hn hreserved⟩
  case schdelay =>
    exact ⟨h.schdelay_ticks hcsr hpriv hm hw hreserved, h.schdelay_cycle hcsr hpriv hm hw hreserved, h.schdelay_due hcsr hpriv hm hreserved⟩
  case schwait => exact ⟨h.schwait_holds hcsr hpriv hm hreserved hd htype, h.schwait_waits hcsr hpriv hm hw hreserved hd htype⟩
  case schaskIdle =>
    exact ⟨h.schask_blocks hcsr hpriv hle hidle hnone, h.schask_interrupted hcsr hpriv hle hidle hnone,
      fun _ => h.schask_dispatches hcsr hpriv hle hidle hnone hw⟩
  case schaskSuspends => exact h.schask_suspends_running hcsr hpriv (Nat.le_of_eq hone) hm hnone hw hone hout
  case schaskTakesBack => exact h.schask_takes_back hcsr hpriv (hzero ▸ Nat.zero_le 1) hm hnone hw hzero hnext hready

end

section
/-! What trace records change of the settings: the counters of indices 0x2A20 to 0x2A23 (R382, R384), and no other. -/

set_option Elab.async false

namespace Sys2Proof.Machine

/-- The settings are canonical. -/
def State.DictCanonical (s : State) : Prop := Sparse.wf (defaultOf s.part.grade) s.dict = true

/-- What leads from `s` to `t` keeps the canonical form of the settings, and every setting that counts no trace records. -/
structure State.CountsTrace (s t : State) : Prop where
  keeps : s.DictCanonical → t.DictCanonical ∧ ∀ key, key / 256 < 0x2A20 ∨ 0x2A23 < key / 256 → t.entry key = s.entry key

namespace State.CountsTrace

theorem refl (s : State) : s.CountsTrace s := ⟨fun hd => ⟨hd, fun _ _ => rfl⟩⟩

theorem trans {s t u : State} (h : s.CountsTrace t) (k : t.CountsTrace u) : s.CountsTrace u where
  keeps hd :=
    have ht := h.keeps hd
    have hu := k.keeps ht.1
    ⟨hu.1, fun key hkey => (hu.2 key hkey).trans (ht.2 key hkey)⟩

theorem of_kept {m : Nat} {s t : State} (h : Kept m s t) (hm : ¬ m.testBit Component.dict.bit = true := by decide) : s.CountsTrace t :=
  ⟨fun hd => ⟨h.dict hd, fun key _ => h.setting_eq key hm⟩⟩

/-- The records themselves are no settings. -/
theorem withTrace {s t : State} (h : s.CountsTrace t) (x : Trace) : s.CountsTrace { t with trace := x } :=
  h.trans (.of_kept (Kept.upd (m := 0x1000000) id id))

theorem ite {s a b : State} {c : Prop} [Decidable c] (h : s.CountsTrace a) (k : s.CountsTrace b) : s.CountsTrace (if c then a else b) := by
  split <;> assumption

end State.CountsTrace

theorem State.putEntry_countsTrace (s : State) {key : Nat} (hkey : 0x2A20 ≤ key / 256 ∧ key / 256 ≤ 0x2A23) (v : Nat) :
    s.CountsTrace (s.putEntry key v) where
  keeps hd := ⟨Sparse.set_wf _ _ _ _ hd, fun k hk => entry_putEntry_ne _ _ hd fun heq => by
    subst heq
    omega⟩

theorem State.traceCount_countsTrace (s : State) {key : Nat} (hkey : 0x2A20 ≤ key / 256 ∧ key / 256 ≤ 0x2A23) (n : Nat) :
    s.CountsTrace (s.traceCount key n) := by
  have hbump := s.putEntry_countsTrace hkey (sat32 (s.entry key) n)
  unfold State.traceCount
  refine .ite (.refl s) (.ite (hbump.trans ?_) hbump)
  exact (State.putEntry_countsTrace _ (by decide) 1).trans (.of_kept (State.log1_quiet ..))

/-- The drop counters of the sources 0 to 127. -/
theorem dropKey_index {src : Nat} (h : src < 128) : 0x2A20 ≤ dropKey src / 256 ∧ dropKey src / 256 ≤ 0x2A23 := by
  unfold dropKey keyOf
  split
  · omega
  · split <;> omega

section
variable (s : State) {src : Nat} (h : src < 128)
include h

theorem State.dropRecord_countsTrace : s.CountsTrace (s.dropRecord src) := by
  have hcount := (s.traceCount_countsTrace (key := 0x2A2003) (by decide) 1).trans (State.traceCount_countsTrace _ (dropKey_index h) 1)
  unfold State.dropRecord
  exact .ite (hcount.withTrace _) (((hcount.withTrace _).withTrace _).trans (.of_kept (State.log1_quiet ..)))

theorem State.offerNow_countsTrace (kind payload : Nat) : s.CountsTrace (s.offerNow src kind payload) := by
  have hcount := s.traceCount_countsTrace (key := 0x2A2001) (by decide) 1
  unfold State.offerNow
  exact .ite (hcount.trans (.of_kept (State.enterFifo_kept ..))) (hcount.trans (State.dropRecord_countsTrace _ h))

theorem State.offer_countsTrace (kind payload : Nat) : s.CountsTrace (s.offer src kind payload) :=
  .ite (s.offerNow_countsTrace h kind payload) (.refl s)

theorem State.offerAlways_countsTrace (kind payload : Nat) : s.CountsTrace (s.offerAlways src kind payload) :=
  .ite (.refl s) (s.offerNow_countsTrace h kind payload)

theorem State.flushRepeat_countsTrace : s.CountsTrace (s.flushRepeat src) := by
  unfold State.flushRepeat
  split
  · exact .ite ((s.offer_countsTrace h ..).trans (.of_kept (State.setPf_kept ..))) (.refl s)
  · exact .refl s

theorem State.offerBranches_countsTrace (addr count history : Nat) : s.CountsTrace (s.offerBranches src addr count history) := by
  have hpf (p : PfState) : s.CountsTrace (s.setPf src p) := .of_kept (State.setPf_kept ..)
  unfold State.offerBranches
  refine .ite (.ite ((hpf _).trans (State.flushRepeat_countsTrace _ h)) (hpf _)) ?_
  exact (s.flushRepeat_countsTrace h).trans ((State.offer_countsTrace _ h ..).trans (.of_kept (State.setPf_kept ..)))

theorem State.flushFlow_countsTrace : s.CountsTrace (s.flushFlow src) := by
  refine State.CountsTrace.trans ?_ (State.flushRepeat_countsTrace _ h)
  unfold State.flushBranches
  exact .ite (.refl s) ((State.CountsTrace.of_kept (State.setPf_kept ..)).trans (State.offerBranches_countsTrace _ h ..))

end

theorem State.wakeCore_countsTrace (s : State) {c : Nat} (h : c < 32) : s.CountsTrace (s.wakeCore c) := by
  unfold State.wakeCore
  split
  · exact .refl s
  · refine .ite ?_ (.refl s)
    exact (State.CountsTrace.of_kept (State.withCore_kept ..)).trans
      ((State.offer_countsTrace _ (Nat.lt_trans h (by decide)) ..).trans (State.offer_countsTrace _ (by omega) ..))

end Sys2Proof.Machine
end

section
/-! Events at the cores (R293 to R296, R302, R307, R309, R388 to R392): ticks, releases, host events, timer interrupts, sleeps, wakes and
counter overflows. -/

set_option Elab.async false

namespace Sys2Proof.Machine

/-! ### TICK (R307, R309) -/

theorem State.wakeTicks_of_none_due {s : State} (h : ∀ e ∈ s.sched.tickList, s.sched.ticks < e.1) : s.wakeTicks = s := by
  have hdue : (s.sched.tickList.filter fun e => decide (e.1 ≤ s.sched.ticks)) = [] := by simpa [List.filter_eq_nil_iff] using h
  unfold wakeTicks
  rw [hdue]
  rfl

theorem State.wakeTicks_of_one {s : State} {k n : Nat} (h : s.sched.tickList = [(k, n)]) (hdue : k ≤ s.sched.ticks) :
    s.wakeTicks = s.wakeDue 3 n := by
  unfold wakeTicks
  rw [h, List.filter_cons_of_pos (by simpa using hdue)]
  rfl

/-- A thread whose time has come is READY, or RUNNING at once, with the reason of its wake, and in no delay list. -/
theorem State.wakeDue_effect {s : State} (hw : s.ThreadsCanonical) (reason n : Nat) :
    (((s.wakeDue reason n).thread n).state = .ready ∨ ((s.wakeDue reason n).thread n).state = .running) ∧
      ((s.wakeDue reason n).thread n).reason = (if (s.thread n).state = .waiting then 2 else reason) ∧
      (s.wakeDue reason n).sched.tickList = s.sched.tickList.filter (fun e => e.2 != n) ∧
      (s.wakeDue reason n).sched.ticks = s.sched.ticks := by
  obtain ⟨hstate, hreason, -, hlist, hticks⟩ :=
    makeReady_effect (s := s.unlist n) hw n (if (s.thread n).state = .waiting then 2 else reason)
  exact ⟨hstate, hreason, hlist, hticks⟩

theorem tick_idle {s : State} (h : s.asleep = true ∨ s.sec.halted = true) : Completes .tick s fun t => s.sameBut [] t := by
  refine ⟨s, congrArg Host.Outcome.next (if_pos ?_), (Kept.refl s).sameBut_mask⟩
  obtain h | h := h <;> simp [h]

/-- The tick count has risen, and no thread has woken yet. -/
def State.ticked (s : State) : State := s.withScheduler fun d => { d with ticks := d.ticks + 1 }

section
variable {s : State} (hawake : s.asleep = false) (hhalt : s.sec.halted = false) (hticks : s.sched.ticks + 1 < 2 ^ 64)
include hawake hhalt hticks

theorem exec_tick : exec .tick s = .next s.ticked.wakeTicks := by
  have hticked : (s.withScheduler fun d => { d with ticks := (d.ticks + 1) % 2 ^ 64 }) = s.ticked :=
    congrArg (fun n => { s with sched := { s.sched with ticks := n } }) (Nat.mod_eq_of_lt hticks)
  show execTick s = _
  rw [execTick, hawake, hhalt, hticked]
  rfl

theorem tick_none_due (h : ∀ e ∈ s.sched.tickList, s.sched.ticks + 1 < e.1) : Completes .tick s fun t =>
    t.sched = { s.sched with ticks := s.sched.ticks + 1 } ∧ s.sameBut [.sched] t := by
  have he := exec_tick hawake hhalt hticks
  rw [State.wakeTicks_of_none_due (s := s.ticked) h] at he
  exact ⟨_, he, rfl, (s.withScheduler_kept _).up.sameBut_mask⟩

theorem tick_wakes (hw : s.ThreadsCanonical) {k n : Nat} (h : s.sched.tickList = [(k, n)]) (hdue : k ≤ s.sched.ticks + 1) :
    Completes .tick s fun t => t.sched.ticks = s.sched.ticks + 1 ∧ t.sched.tickList = [] ∧
      ((t.thread n).state = .ready ∨ (t.thread n).state = .running) ∧
      (t.thread n).reason = (if (s.thread n).state = .waiting then 2 else 3) := by
  have he := exec_tick hawake hhalt hticks
  rw [State.wakeTicks_of_one (s := s.ticked) h hdue] at he
  obtain ⟨hstate, hreason, hlist, hcount⟩ := State.wakeDue_effect (s := s.ticked) hw 3 n
  refine ⟨_, he, hcount, hlist.trans ?_, hstate, hreason⟩
  show s.sched.tickList.filter (fun e => e.2 != n) = []
  simp [h]

end

/-! ### CORE_RELEASE_WRITE (R295) -/

theorem State.releaseCore_countsTrace (s : State) {c : Nat} (h : c < 32) : s.CountsTrace (s.releaseCore c) := by
  unfold State.releaseCore
  split
  · exact .refl s
  · exact .ite ((s.wakeCore_countsTrace h).trans (.of_kept (State.withCore_kept ..))) (.refl s)

/-- A core in reset runs from `pc` in machine mode, awake. -/
def Core.released (pc : Nat) (x : Core) : Core :=
  if x.state = .reset then { x with state := .running, asleep := false, priv := 3, pc := pc } else x

theorem State.releaseCore_cores (s : State) (c : Nat) : (s.releaseCore c).cores = s.cores.modify c (Core.released s.startAddress) := by
  unfold releaseCore
  split
  case h_1 hc => rw [List.modify_eq_self (List.getElem?_eq_none_iff.1 hc)]
  case h_2 x hx =>
    split
    case isTrue hreset =>
      dsimp only
      rw [cores_withCore, wakeCore_cores, List.modify_modify_eq]
      refine List.ext_getElem? fun m => ?_
      rw [List.getElem?_modify, List.getElem?_modify]
      by_cases hm : c = m
      · subst hm
        simp [hx, Core.released, hreset]
      · simp [hm]
    case isFalse hnot =>
      refine List.ext_getElem? fun m => ?_
      rw [List.getElem?_modify]
      by_cases hm : c = m
      · subst hm
        simp [hx, Core.released, hnot]
      · simp [hm]

theorem coreReleaseWrite_starts {s : State} {req v : Nat} (hd : s.DictCanonical) (h : s.mayWrite req 0x2C1103 = true) (hv : v < 2 ^ 32)
    (hawake : s.asleep = false) (hhalt : s.sec.halted = false) (hlength : s.cores.length = 32) :
    Completes (.coreReleaseWrite req v) s fun t => t.entry 0x2C1103 = v ∧ t.answer = .ok 0 ∧
      t.cores = s.cores.mapIdx (fun i c => if bit v i = true ∧ bit (s.entry 0x2C1103) i = false ∧ c.state = .reset then
        { c with state := .running, asleep := false, priv := 3, pc := s.entry 0x2C1101 + s.entry 0x2C1102 % 2 ^ 12 * 2 ^ 32 } else c) ∧
      s.sameBut [.answer, .mgmtClock, .dict, .cores, .trace, .log] t := by
  obtain ⟨e, hentry, htype, hrule⟩ : ∃ e, entryOf 0x2C1103 = some e ∧ e.type = .u32 ∧ e.rule = .any := by decide +kernel
  let p := s.putEntry 0x2C1103 v
  let new (i : Nat) : Bool := bit v i && !bit (s.entry 0x2C1103) i
  let op (w : State) (i : Nat) : State := if new i = true then w.releaseCore i else w
  let q := (List.range 32).foldl op p
  have hp : p.DictCanonical := Sparse.set_wf _ _ _ _ hd
  have hpc : p.startAddress = s.startAddress := by
    unfold State.startAddress
    rw [State.entry_putEntry_ne _ _ hd (by decide), State.entry_putEntry_ne _ _ hd (by decide)]
  have hkept : Kept 0x1200042 p q := Kept.foldl (fun w i => Kept.ite (w.releaseCore_kept i) (.refl w)) (.refl p)
  have hcounts : ∀ w, ∀ i < 32, p.CountsTrace w → p.CountsTrace (op w i) := fun w i hi hw =>
    hw.trans (.ite (w.releaseCore_countsTrace hi) (.refl w))
  have hop : ∀ w, ∀ i < 32, p.CountsTrace w →
      (op w i).cores = w.cores.modify i fun x => if new i = true then x.released s.startAddress else x := by
    intro w i _ hw
    have hsame : w.startAddress = s.startAddress := by
      rw [← hpc]
      unfold State.startAddress
      rw [(hw.keeps hp).2 0x2C1101 (by decide), (hw.keeps hp).2 0x2C1102 (by decide)]
    unfold op
    split
    · rw [State.releaseCore_cores, hsame]
    · exact (List.modify_id ..).symm
  obtain ⟨hcount, hcores⟩ := State.cores_foldl_range hcounts hop (.refl p) (Nat.le_refl 32)
  have he : exec (.coreReleaseWrite req v) s = .next q.accept := by
    refine congrArg Host.Outcome.next ((State.writingValue_eq h hentry (by rw [hrule]; rfl) _).trans ?_)
    rw [htype, show v % 2 ^ EntryType.u32.width = v from Nat.mod_eq_of_lt hv]
    dsimp only
    rw [show (s.putEntry 0x2C1103 v).asleep = false from hawake, show (s.putEntry 0x2C1103 v).sec.halted = false from hhalt]
    rfl
  refine ⟨_, he, ?_, rfl, ?_, ?_⟩
  · exact ((hcount.keeps hp).2 0x2C1103 (by decide)).trans (State.entry_putEntry_same _ _ hd)
  · refine hcores.trans (List.ext_getElem? fun i => ?_)
    rw [State.putEntry_cores, List.getElem?_mapIdx, List.getElem?_mapIdx]
    refine Option.map_congr fun x hx => ?_
    have hi : i < 32 := hlength ▸ (List.getElem?_eq_some_iff.1 hx).1
    rw [if_pos hi]
    unfold new Core.released
    cases bit v i <;> cases bit (s.entry 0x2C1103) i <;> simp [State.startAddress]
  · exact Kept.sameBut_mask ((s.putEntry_kept ..).up.trans (hkept.up.trans q.accept_kept.up))

/-! ### Bits of a number -/

theorem bit_setBit (x k j : Nat) : bit (setBit x k true) j = (decide (j = k) || bit x j) := by
  unfold setBit bit
  by_cases hjk : j = k
  · subst hjk
    split
    case isTrue hset => simpa using hset
    case isFalse hclear => simp [Nat.testBit_xor, Nat.testBit_two_pow_self, Bool.not_eq_true _ ▸ hclear]
  · split
    · simp [hjk]
    · simp [Nat.testBit_xor, hjk, Ne.symm hjk]

/-! ### HOST_EVENT (R296) -/

theorem Core.interrupt_eq (x : Core) (time : Nat) : ∃ st res, x.interrupt time = { x with state := st, result := res } := by
  unfold interrupt
  split
  · exact ⟨_, _, rfl⟩
  · exact ⟨x.state, x.result, rfl⟩

theorem Core.event_sevpend (x : Core) (line time : Nat) : (x.event line time).sevpend = setBit x.sevpend line true := by
  obtain ⟨st, res, h⟩ := Core.interrupt_eq { x with sevpend := setBit x.sevpend line true } time
  rw [event, h]

theorem Core.event_hpmCounter (x : Core) (line time : Nat) : (x.event line time).hpmCounter = x.hpmCounter := by
  obtain ⟨st, res, h⟩ := Core.interrupt_eq { x with sevpend := setBit x.sevpend line true } time
  rw [event, h]

/-- Raise the line of each bit of `v` below `n` in turn: bit k stands for line 24 + k. -/
def State.raiseLines (s : State) (v n : Nat) : State :=
  (List.range n).foldl (fun s k => if bit v k then s.raiseLine (24 + k) else s) s

theorem State.raiseLines_succ (s : State) (v n : Nat) : s.raiseLines v (n + 1) =
    if bit v n then (s.raiseLines v n).raiseLine (24 + n) else s.raiseLines v n := by
  rw [raiseLines, List.range_succ, List.foldl_append]
  rfl

theorem State.raiseLines_kept (s : State) (v n : Nat) : Kept 0x400200000 s (s.raiseLines v n) :=
  Kept.foldl (fun s _ => Kept.ite (s.raiseLine_kept _) (.refl s)) (.refl s)

theorem State.raiseLines_sevpend (s : State) (v n : Nat) :
    ∀ x ∈ (s.raiseLines v n).cores, ∀ k < n, bit v k = true → bit x.sevpend (24 + k) = true := by
  induction n with
  | zero => exact fun _ _ _ hk => absurd hk (Nat.not_lt_zero _)
  | succ n ih =>
    rw [raiseLines_succ]
    intro x hx k hk hbit
    split at hx
    case isTrue =>
      obtain ⟨y, hy, rfl⟩ := List.mem_map.1 hx
      rw [Core.event_sevpend, bit_setBit]
      by_cases hkn : k = n
      · simp [hkn]
      · simp [ih y hy k (by omega) hbit]
    case isFalse hnot =>
      exact ih x hx k (Nat.lt_of_le_of_ne (Nat.le_of_lt_succ hk) fun heq => hnot (heq ▸ hbit)) hbit

theorem State.raiseLines_vectors (s : State) (v n : Nat) :
    (s.raiseLines v n).host.vectors = s.host.vectors ++ ((List.range n).filter (bit v)).map (24 + ·) := by
  induction n with
  | zero => exact (List.append_nil _).symm
  | succ n ih =>
    rw [raiseLines_succ, List.range_succ, List.filter_append, List.map_append, ← List.append_assoc, ← ih]
    cases hbit : bit v n <;> simp [hbit, raiseLine]

theorem hostEvent_raises {s : State} {req v : Nat} (h : s.mayWrite req 0x2C0501 = true) (hv : v < 2 ^ 32) :
    Completes (.hostEvent req v) s fun t => t.answer = .ok 0 ∧
      (t.cores.all fun c => (List.range 32).all fun k => !bit v k || bit c.sevpend (24 + k)) = true ∧
      t.host.vectors = s.host.vectors ++ ((List.range 32).filter (bit v)).map (24 + ·) ∧
      s.sameBut [.answer, .mgmtClock, .cores, .host] t := by
  obtain ⟨e, hentry, htype, hrule⟩ : ∃ e, entryOf 0x2C0501 = some e ∧ e.type = .u32 ∧ e.rule = .any := by decide +kernel
  have he : exec (.hostEvent req v) s = .next (s.raiseLines v 32).accept := by
    refine congrArg Host.Outcome.next ((State.writingValue_eq h hentry (by rw [hrule]; rfl) _).trans ?_)
    rw [htype, show v % 2 ^ EntryType.u32.width = v from Nat.mod_eq_of_lt hv]
    rfl
  refine ⟨_, he, rfl, ?_, s.raiseLines_vectors v 32, Kept.sameBut_mask ((s.raiseLines_kept v 32).up.trans (State.accept_kept _).up)⟩
  rw [State.accept_cores, List.all_eq_true]
  intro x hx
  rw [List.all_eq_true]
  intro k hk
  cases hbit : bit v k with
  | false => rfl
  | true => simpa using s.raiseLines_sevpend v 32 x hx k (List.mem_range.1 hk) hbit

/-! ### MACHINE_TIMER_INTERRUPT (R293, R302) -/

theorem Core.bit_pending_timer (x : Core) (time : Nat) : bit (x.pending time) 7 = decide (x.mtimecmp ≤ time) := by
  have hfields : ∀ a b c d e : Bool, bit (b2n a * 2 ^ 1 + b2n b * 2 ^ 5 + b2n c * 2 ^ 7 + b2n d * 2 ^ 9 + b2n e * 2 ^ 16) 7 = c := by decide
  exact hfields ..

/-- `mip` (0x344) reads the pending interrupts. -/
theorem State.readCsr_mip {s : State} {c : Nat} {x : Core} (h : s.cores[c]? = some x) : s.readCsr c 0x344 = some (x.pending s.coreTime) := by
  unfold readCsr
  rw [h]
  rfl

theorem machineTimerInterrupt_effect {s : State} {c : Nat} {k : Core} (hk : s.cores[c]? = some k) :
    Completes (.machineTimerInterrupt c) s fun t =>
      t.cores[c]? = some (if k.mtimecmp ≤ s.coreTime ∧ k.state = .blocked ∧ k.interrupted s.coreTime = true then
        { k with state := .running, result := 2 ^ 62 } else k) ∧
      (t.readCsr c 0x344).map (fun v => bit v 7) = some (decide (k.mtimecmp ≤ s.coreTime)) ∧
      (∀ m, m ≠ c → t.cores[m]? = s.cores[m]?) ∧ s.sameBut [.cores] t := by
  let f (x : Core) : Core := if x.mtimecmp ≤ s.coreTime then x.interrupt s.coreTime else x
  have hcore : (s.withCore c f).cores[c]? = some (f k) := by rw [State.core_withCore_same, hk, Option.map_some]
  have htimer : (f k).mtimecmp = k.mtimecmp := by
    obtain ⟨st, res, hinterrupt⟩ := k.interrupt_eq s.coreTime
    unfold f
    rw [hinterrupt]
    split <;> rfl
  refine ⟨s.withCore c f, rfl, ?_, ?_, fun m hm => s.core_withCore_ne f hm, (s.withCore_kept c f).up.sameBut_mask⟩
  · rw [hcore]
    unfold f Core.interrupt
    by_cases hdue : k.mtimecmp ≤ s.coreTime <;> simp [hdue]
  · rw [State.readCsr_mip hcore, Option.map_some, Core.bit_pending_timer, htimer]
    rfl

end Sys2Proof.Machine
end

section
/-! Sleeps, wakes and counter overflows of the cores (R388, R390 to R392). -/

set_option Elab.async false

namespace Sys2Proof.Machine

@[simp] theorem State.flushFlow_cores (s : State) (c : Nat) : (s.flushFlow c).cores = s.cores := (s.flushFlow_kept c).agree .cores
@[simp] theorem State.offerAlways_cores (s : State) (src kind payload : Nat) : (s.offerAlways src kind payload).cores = s.cores :=
  (s.offerAlways_kept ..).agree .cores

/-! ### CORE_SLEEP (R388) -/

/-- An awake core that enters sleep is asleep, and its sleep is counted. -/
theorem State.sleepCore_effect {s : State} (hd : s.DictCanonical) {c : Nat} {k : Core} (hk : s.cores[c]? = some k) (hc : c < 32)
    (hawake : k.asleep = false) :
    (s.sleepCore c).cores[c]? = some { k with asleep := true } ∧
      (s.sleepCore c).entry (keyOf 0x2A24 (c + 1)) = sat32 (s.entry (keyOf 0x2A24 (c + 1))) 1 := by
  let key := keyOf 0x2A24 (c + 1)
  have hkey : 0x2A23 < key / 256 := by
    unfold key keyOf
    omega
  let p := k.state.sleepReason * 2 ^ 64 + s.trace.tc % 2 ^ 64
  let t := ((s.flushFlow c).offer c 2 p).offer (c + 32) 2 p
  have hsleep : s.sleepCore c = (t.bump key).withCore c fun x => { x with asleep := true } := by
    unfold State.sleepCore
    rw [hk]
    dsimp only
    rw [hawake]
    rfl
  obtain ⟨ht, hentry⟩ : t.DictCanonical ∧ t.entry key = s.entry key := by
    have hcount := (s.flushFlow_countsTrace (Nat.lt_trans hc (by decide))).trans
      ((State.offer_countsTrace _ (Nat.lt_trans hc (by decide)) 2 p).trans (State.offer_countsTrace _ (src := c + 32) (by omega) 2 p))
    exact (hcount.keeps hd).imp id fun h => h key (.inr hkey)
  rw [hsleep]
  constructor
  · rw [State.core_withCore_same]
    simp [t, hk]
  · calc ((t.bump key).withCore c _).entry key
        _ = (t.bump key).entry key := (State.withCore_kept ..).setting_eq key
        _ = sat32 (t.entry key) 1 := State.entry_putEntry_same _ _ ht
        _ = sat32 (s.entry key) 1 := by rw [hentry]

theorem coreSleep_effect {s : State} (hd : s.DictCanonical) {c : Nat} {k : Core} (hk : s.cores[c]? = some k) (hc : c < 32)
    (hawake : k.asleep = false) (hlocked : k.state ≠ .lockedUp) : Completes (.coreSleep c) s fun t =>
      (t.cores[c]?).map (fun x => (x.asleep, x.state)) = some (true, if k.state = .running then .wfi else k.state) ∧
      t.entry (keyOf 0x2A24 (c + 1)) = sat32 (s.entry (keyOf 0x2A24 (c + 1))) 1 := by
  by_cases hrun : k.state = .running
  case pos =>
    let wfi (x : Core) : Core := { x with state := .wfi }
    have hkept := s.withCore_kept c wfi
    have hcore : (s.withCore c wfi).cores[c]? = some (wfi k) := by rw [State.core_withCore_same, hk, Option.map_some]
    have he : exec (.coreSleep c) s = .next ((s.withCore c wfi).sleepCore c) := by
      show execCoreSleep c s = _
      rw [execCoreSleep, List.getElem?_map, hk, Option.map_some, hrun]
    obtain ⟨hasleep, hcount⟩ := State.sleepCore_effect (hkept.dict hd) hcore hc hawake
    refine ⟨_, he, ?_, ?_⟩
    · rw [hasleep, if_pos hrun]
      rfl
    · rw [hcount, hkept.setting_eq]
  case neg =>
    have he : exec (.coreSleep c) s = .next (s.sleepCore c) := by
      show execCoreSleep c s = _
      rw [execCoreSleep, List.getElem?_map, hk, Option.map_some]
      cases hstate : k.state
      case running => exact absurd hstate hrun
      case lockedUp => exact absurd hstate hlocked
      all_goals rfl
    obtain ⟨hasleep, hcount⟩ := State.sleepCore_effect hd hk hc hawake
    refine ⟨_, he, ?_, hcount⟩
    rw [hasleep, if_neg hrun]
    rfl

/-! ### CORE_WAKE (R388) -/

theorem coreWake_effect {s : State} {c : Nat} {k : Core} (hk : s.cores[c]? = some k) (h : k.state = .wfi ∨ k.state = .running) :
    Completes (.coreWake c) s fun t => t.cores[c]? = some { k with asleep := false, state := .running } := by
  have hwake : (s.wakeCore c).cores[c]? = some { k with asleep := false } := by
    rw [State.wakeCore_cores, List.getElem?_modify, hk]
    simp
  obtain hwfi | hrun := h
  · have he : exec (.coreWake c) s = .next ((s.wakeCore c).withCore c fun x => { x with state := .running }) := by
      show execCoreWake c s = _
      rw [execCoreWake, List.getElem?_map, hk, Option.map_some, hwfi]
    have hcore := (s.wakeCore c).core_withCore_same c fun x => { x with state := .running }
    exact ⟨_, he, by rwa [hwake] at hcore⟩
  · have he : exec (.coreWake c) s = .next (s.wakeCore c) := by
      show execCoreWake c s = _
      rw [execCoreWake, List.getElem?_map, hk, Option.map_some, hrun]
    exact ⟨_, he, hrun ▸ hwake⟩

/-! ### CORE_COUNTER_OVERFLOW (R390, R391) -/

theorem State.core_raiseLine (s : State) (line c : Nat) : (s.raiseLine line).cores[c]? = (s.cores[c]?).map (Core.event line s.coreTime) :=
  List.getElem?_map

/-- Raising a line where it is asked changes no counter of a core, and sends the line's vector. -/
theorem State.raiseLine_if (s : State) (b : Bool) (line : Nat) {t : State} (ht : t = if b then s.raiseLine line else s) (c : Nat) :
    (t.cores[c]?).map (·.hpmCounter) = (s.cores[c]?).map (·.hpmCounter) ∧ t.host.vectors = s.host.vectors ++ (if b then [line] else []) ∧
      Kept 0x400200000 s t := by
  subst ht
  cases b
  case false => exact ⟨rfl, (List.append_nil _).symm, .refl s⟩
  case true =>
    refine ⟨?_, rfl, s.raiseLine_kept line⟩
    rw [if_pos rfl, core_raiseLine, Option.map_map]
    exact Option.map_congr fun x _ => x.event_hpmCounter line _

theorem coreCounterOverflow_effect {s : State} (hd : s.DictCanonical) {c n : Nat} {k : Core} (r : RetiredInstr) (hk : s.cores[c]? = some k)
    (hc : c < 32) (hlow : 3 ≤ n) (hhigh : n ≤ 10) : Completes (.coreCounterOverflow c n r) s fun t =>
      (t.cores[c]?).map (fun x => x.hpmCounter) = some (listSet k.hpmCounter (n - 3) 0) ∧
      (bit (t.entry (keyOf 0x2B01 (c + 1))) n) = true ∧
      t.host.vectors = s.host.vectors ++ (if bit r.selector 62 then [18] else []) := by
  let key := keyOf 0x2B01 (c + 1)
  have hkey : 0x2A23 < key / 256 := by
    unfold key keyOf
    omega
  let zero (x : Core) : Core :=
    { x with hpmCounter := listSet x.hpmCounter (n - 3) 0, hpmEvent := listSet x.hpmEvent (n - 3) r.selector }
  let u := s.withCore c zero
  have hu : u.DictCanonical := (s.withCore_kept c zero).dict hd
  let v := u.putEntry key (setBit (u.entry key) n true)
  have hv : v.DictCanonical := Sparse.set_wf _ _ _ _ hu
  obtain ⟨w, hw⟩ : ∃ w, w = if bit r.selector 62 then v.raiseLine 18 else v := ⟨_, rfl⟩
  obtain ⟨t, ht⟩ : ∃ t, t = if bit r.selector 63 then (w.flushFlow c).offerAlways c 9 (samplePayload w.part.grade n r) else w := ⟨_, rfl⟩
  have he : exec (.coreCounterOverflow c n r) s = .next t := by
    rw [ht, hw]
    exact congrArg Host.Outcome.next (if_pos (And.intro hc ⟨hlow, hhigh⟩))
  obtain ⟨hcores, hvectors, hline⟩ := v.raiseLine_if _ 18 hw c
  have hsample : Kept 0x1000042 w t := by
    rw [ht]
    exact .ite ((w.flushFlow_kept c).trans (State.offerAlways_kept ..)) (.refl w)
  have hcounts : w.CountsTrace t := by
    have hc' : c < 128 := Nat.lt_trans hc (by decide)
    rw [ht]
    exact .ite ((w.flushFlow_countsTrace hc').trans (State.offerAlways_countsTrace _ hc' ..)) (.refl w)
  refine ⟨t, he, ?_, ?_, ?_⟩
  · rw [show t.cores = w.cores from hsample.agree .cores, hcores, State.putEntry_cores, State.core_withCore_same, hk]
    rfl
  · rw [(hcounts.keeps (hline.dict hv)).2 key (.inr hkey), hline.setting_eq, State.entry_putEntry_same _ _ hu, bit_setBit]
    simp
  · rw [show t.host = w.host from hsample.agree .host, hvectors]
    rfl

/-! ### MODULE_COUNTER_WRAP (R392) -/

theorem moduleCounterWrap_effect {s : State} (hd : s.DictCanonical) {n : Nat} (hn : n < 16) (hon : bit (s.entry 0x2B0001) n = true)
    (hselect : s.entry (keyOf (0x2B10 + n) 1) ≠ 0) : Completes (.moduleCounterWrap n) s fun t =>
      t.entry (keyOf (0x2B10 + n) 3) = 0 ∧ bit (t.entry 0x2B0002) n = true ∧
      t.host.vectors = s.host.vectors ++ (if bit (s.entry 0x2B0003) n then [18] else []) ∧ s.sameBut [.dict, .cores, .host] t := by
  let key := keyOf (0x2B10 + n) 3
  have hkey : key ≠ 0x2B0002 ∧ key ≠ 0x2B0003 := by
    unfold key keyOf
    omega
  let u := s.putEntry key 0
  have hu : u.DictCanonical := Sparse.set_wf _ _ _ _ hd
  let v := u.putEntry 0x2B0002 (setBit (s.entry 0x2B0002) n true)
  obtain ⟨t, ht⟩ : ∃ t, t = if bit (v.entry 0x2B0003) n then v.raiseLine 18 else v := ⟨_, rfl⟩
  have he : exec (.moduleCounterWrap n) s = .next t := by
    rw [ht]
    exact congrArg Host.Outcome.next (if_pos ⟨hn, hon, hselect⟩)
  have hasked : v.entry 0x2B0003 = s.entry 0x2B0003 := by
    rw [State.entry_putEntry_ne _ _ hu (by decide), State.entry_putEntry_ne _ _ hd hkey.2.symm]
  obtain ⟨-, hvectors, hline⟩ := v.raiseLine_if _ 18 ht 0
  refine ⟨t, he, ?_, ?_, ?_, Kept.sameBut_mask ((s.putEntry_kept ..).up.trans ((u.putEntry_kept ..).up.trans hline.up))⟩
  · rw [hline.setting_eq, State.entry_putEntry_ne _ _ hu hkey.1, State.entry_putEntry_same _ _ hd]
  · rw [hline.setting_eq, State.entry_putEntry_same _ _ hu, bit_setBit]
    simp
  · rw [hvectors, hasked]
    rfl

end Sys2Proof.Machine

open Sys2Proof Sys2Proof.Machine

/-- Settles O37: each event by the lemma about its command. What trace records count is in no setting the clauses name
(`CountsTrace`). -/
theorem coreEventsTakeEffect : Obligations.CoreEventsTakeEffect := fun _ hthreads hd =>
  ⟨tick_idle,
    fun hawake hhalt hticks => ⟨tick_none_due hawake hhalt hticks, fun _ _ h hdue => tick_wakes hawake hhalt hticks hthreads h hdue⟩,
    fun _ _ h hv hawake hhalt hlength => coreReleaseWrite_starts hd h hv hawake hhalt hlength,
    fun _ _ h hv => hostEvent_raises h hv,
    fun _ _ hk => machineTimerInterrupt_effect hk,
    fun _ _ hk hc hawake hlocked => coreSleep_effect hd hk hc hawake hlocked,
    fun _ _ hk h => coreWake_effect hk h,
    fun _ _ _ r hk hc hlow hhigh _ => coreCounterOverflow_effect hd r hk hc hlow hhigh,
    fun _ hn hon hselect => moduleCounterWrap_effect hd hn hon hselect⟩
end

section
/-! Channels (R310 to R315): what an operation changes of a channel without waiters, and the live channels after creation and
destruction. -/

set_option Elab.async false

namespace Sys2Proof.Machine

/-! ### Channels without waiters -/

section
variable {s : State} {slot : Nat} {d : Channel}

theorem State.wakeWaiters_of_no_waiters (h : s.channel slot = some d) (hw : d.waiters = []) (cond reason : Nat) :
    s.wakeWaiters slot cond reason = s := by
  unfold wakeWaiters
  rw [h]
  dsimp only
  rw [hw]
  rfl

/-- A channel for which nothing waits changes, and no thread wakes. -/
theorem State.updateChannel_of_no_waiters (h : s.channel slot = some d) {new : Channel} (hw : new.waiters = []) :
    s.updateChannel slot d new = s.setChannel slot new := by
  have hwake := wakeWaiters_of_no_waiters (channel_setChannel h new) hw
  unfold updateChannel
  simp only [hwake, ite_self]

end

theorem Channel.freeReleased_waiters (d : Channel) (l : List SlotState) : (d.freeReleased l).waiters = d.waiters := by
  induction l generalizing d with
  | nil => rfl
  | cons x l ih => cases x with
    | released => exact ih _
    | reserved | posted | received => rfl

/-- The oldest entries that are released are freed (R313). -/
theorem Channel.freeReleased_slots {d : Channel} {l : List SlotState} (h : d.slots = l) :
    (d.freeReleased l).slots = l.dropWhile fun x => x == .released := by
  induction l generalizing d with
  | nil => exact h
  | cons x l ih => cases x with
    | released => exact ih rfl
    | reserved | posted | received => exact h

/-! ### Creation and destruction (R312) -/

theorem find?_insertChannel_same (slot : Nat) (d : Channel) (l : List (Nat × Channel)) :
    (insertChannel slot d l).find? (fun x => x.1 == slot) = some (slot, d) := by
  induction l with
  | nil => simp [insertChannel]
  | cons x l ih =>
    unfold insertChannel
    split
    · rw [List.find?_cons_of_neg (by simp; omega), ih]
    · simp

theorem find?_insertChannel_ne {slot m : Nat} (hm : m ≠ slot) (d : Channel) (l : List (Nat × Channel)) :
    (insertChannel slot d l).find? (fun x => x.1 == m) = l.find? fun x => x.1 == m := by
  induction l with
  | nil => simp [insertChannel, Ne.symm hm]
  | cons x l ih =>
    unfold insertChannel
    split
    · rw [List.find?_cons, List.find?_cons, ih]
    · rw [List.find?_cons_of_neg (by simp [Ne.symm hm])]

theorem State.addChannel_chan (s : State) (core slot : Nat) (d : Channel) :
    (s.addChannel core slot d).chan = { s.chan with live := insertChannel slot d s.chan.live } := decision_chan ..

theorem State.channel_addChannel_same (s : State) (core slot : Nat) (d : Channel) : (s.addChannel core slot d).channel slot = some d := by
  unfold channel
  rw [addChannel_chan, find?_insertChannel_same]
  rfl

theorem State.channel_addChannel_ne (s : State) (core : Nat) {slot m : Nat} (hm : m ≠ slot) (d : Channel) :
    (s.addChannel core slot d).channel m = s.channel m := by
  unfold channel
  rw [addChannel_chan, find?_insertChannel_ne hm]

/-- The slot holds no channel any more, and goes to its next generation. -/
def State.closeSlot (s : State) (slot : Nat) : State :=
  { s with chan := { s.chan with live := s.chan.live.filter fun x => x.1 != slot
                                 gens := Sparse.set (fun _ => 1) s.chan.gens slot (nextGen (s.chan.gen slot)) } }

theorem State.channel_closeSlot (s : State) (slot : Nat) : (s.closeSlot slot).channel slot = none := by
  simp [channel, closeSlot]

theorem State.channel_destroyChannel (s : State) (core slot : Nat) (d : Channel) : (s.destroyChannel core slot d).channel slot = none :=
  channel_closeSlot ..

section
variable {s : State} {slot : Nat} {d : Channel} (h : s.channel slot = some d) (hw : d.waiters = []) (core : Nat)
include h hw

/-- The destruction of a channel for which nothing waits counts its messages, is traced, and closes the slot. -/
theorem State.destroyChannel_eq {t : State} (ht : t = s.bumpBy 0x2C0303 d.occupied) :
    s.destroyChannel core slot d = (t.decision 6 core 0 0 0 (t.handleOf slot d)).closeSlot slot := by
  have hchannel : t.channel slot = some d := ht ▸ h
  have hnone : (t.wakeWaiters slot 0 6).wakeWaiters slot 1 6 = t := by
    rw [wakeWaiters_of_no_waiters hchannel hw, wakeWaiters_of_no_waiters hchannel hw]
  subst ht
  show (State.decision _ 6 core 0 0 0 (State.handleOf _ slot d)).closeSlot slot = _
  rw [hnone]

/-- Its slot goes to the next generation. -/
theorem State.destroyChannel_gens :
    (s.destroyChannel core slot d).chan.gens = Sparse.set (fun _ => 1) s.chan.gens slot (nextGen (s.chan.gen slot)) := by
  rw [destroyChannel_eq h hw core rfl, closeSlot, decision_chan]
  rfl

theorem State.destroyChannel_gen (hg : Sparse.wf (fun _ => 1) s.chan.gens = true) :
    (s.destroyChannel core slot d).chan.gen slot = nextGen (s.chan.gen slot) := by
  unfold Channels.gen
  rw [destroyChannel_gens h hw, Sparse.get_set_same _ _ _ _ hg]
  rfl

/-- Its messages are counted as discarded. -/
theorem State.destroyChannel_discards (hd : s.DictCanonical) :
    (s.destroyChannel core slot d).entry 0x2C0303 = sat32 (s.entry 0x2C0303) d.occupied := by
  obtain ⟨t, ht⟩ : ∃ t, t = s.bumpBy 0x2C0303 d.occupied := ⟨_, rfl⟩
  have hcanonical : t.DictCanonical := ht ▸ (s.bumpBy_kept ..).dict hd
  have hdecision : t.CountsTrace (t.decision 6 core 0 0 0 (t.handleOf slot d)) := by
    unfold State.decision
    exact .ite (t.offer_countsTrace (by decide) ..) (.refl t)
  rw [destroyChannel_eq h hw core ht]
  calc (State.closeSlot (t.decision ..) slot).entry 0x2C0303
    _ = (t.decision 6 core 0 0 0 (t.handleOf slot d)).entry 0x2C0303 := rfl
    _ = t.entry 0x2C0303 := (hdecision.keeps hcanonical).2 _ (.inr (by decide))
    _ = sat32 (s.entry 0x2C0303) d.occupied := ht ▸ State.entry_putEntry_same _ _ hd

end

end Sys2Proof.Machine
end

section
/-! The operations on channels (R299, R310 to R313), for a CSRRW that the mode allows on a running core. -/

set_option Elab.async false

namespace Sys2Proof.Machine

theorem State.csrResult_chan (s : State) (c v : Nat) : (s.csrResult c v).chan = s.chan := rfl

theorem State.channel_csrResult (s : State) (c v slot : Nat) : (s.csrResult c v).channel slot = s.channel slot := rfl

theorem State.entry_csrResult (s : State) (c v key : Nat) : (s.csrResult c v).entry key = s.entry key := rfl

/-- The channel that the handle names takes the operation. -/
theorem State.onChannel_eq {s : State} {v slot : Nat} {d : Channel} (h : s.lookup (v % 2 ^ 32) = .inr (slot, d)) {types : List Nat}
    (htype : types.contains d.type = true) (op : Nat → Channel → ChanResult) : s.onChannel v types op = op slot d := by
  unfold onChannel
  rw [h]
  exact if_pos htype

/-- The handle names no live channel of its generation. -/
theorem State.onChannel_stale {s : State} {v : Nat} (h : s.lookup (v % 2 ^ 32) = .inl 2) (types : List Nat) (op : Nat → Channel → ChanResult) :
    s.onChannel v types op = .inl 2 := by
  unfold onChannel
  rw [h]

/-- The entry that the operand names is that of position `p`, in the state that the operation asks for. -/
theorem Channel.slot_named {d : Channel} {e p : Nat} {x : SlotState} (he : e < d.depth) (hp : p = d.position e) (hx : d.slots[p]? = some x) :
    e < d.depth ∧ d.slots[d.position e]? = some x := ⟨he, hp ▸ hx⟩

theorem Channel.unused_eq_zero_iff {d : Channel} : d.unused = 0 ↔ d.depth ≤ d.slots.length := Nat.sub_eq_zero_iff_le

namespace CsrAccess

/-- The core that runs is one of the module's. -/
theorem exists_core {s r : State} {c : Nat} {u : CsrUse} {v : Nat} (hrun : (s.cores[c]?).map Core.state = some .running)
    (hr : r = s.useCore c u) (hv : v = u.operand % 2 ^ 64) : ∃ k, CsrAccess s r c u k v := by
  have hstate := s.useCore_state c u c
  rw [← hr, hrun] at hstate
  obtain ⟨k, hk, -⟩ := Option.map_eq_some_iff.1 hstate
  exact ⟨k, hrun, hr, hk, hv⟩

variable {s r : State} {c : Nat} {u : CsrUse} {k : Core} {v slot : Nat} {d : Channel} (h : CsrAccess s r c u k v) (hcsr : u.csrrw = true)
include h hcsr

section
variable (hmode : u.priv ≠ 0 ∨ k.uch = true)
include hmode

theorem chanOp_ok {op : State → Nat → ChanResult} {t : State} {x : Nat} (hop : op r v = .inr (t, x)) :
    s.chanOp c u op = t.csrResult c x := by
  unfold State.chanOp
  rw [h.csrOp_eq hcsr (hmode.imp_right (.intro rfl)), hop]

theorem chanOp_fails {op : State → Nat → ChanResult} {status : Nat} (hop : op r v = .inl status) :
    s.chanOp c u op = r.csrFail c status := by
  unfold State.chanOp
  rw [h.csrOp_eq hcsr (hmode.imp_right (.intro rfl)), hop]

/-- An operation that changes the channel of one slot. -/
theorem chanOp_sets {op : State → Nat → ChanResult} {i : Instr} (hi : exec i s = .next (s.chanOp c u op)) {new : Channel} {x : Nat}
    (hlookup : r.lookup (v % 2 ^ 32) = .inr (slot, d)) (hop : op r v = .inr (r.setChannel slot new, x)) :
    Completes i s fun t => t.answer = .ok x ∧ t.channel slot = some new ∧ r.sameBut [.answer, .mgmtClock, .cores, .chan] t := by
  refine ⟨_, hi.trans (congrArg Host.Outcome.next (h.chanOp_ok hcsr hmode hop)), rfl, ?_, ?_⟩
  · rw [State.channel_csrResult, State.channel_setChannel (State.channel_of_lookup hlookup)]
  · exact Kept.sameBut_mask ((r.setChannel_kept slot new).up.trans (State.csrResult_kept ..).up)

/-- An operation that fails leaves every channel. -/
theorem chanOp_keeps {op : State → Nat → ChanResult} {i : Instr} (hi : exec i s = .next (s.chanOp c u op)) {status : Nat}
    (hop : op r v = .inl status) : Completes i s fun t => t.answer = .ok (2 ^ 63 + status) ∧ t.chan = r.chan :=
  ⟨_, hi.trans (congrArg Host.Outcome.next (h.chanOp_fails hcsr hmode hop)), rfl, rfl⟩

section
variable (hlookup : r.lookup (v % 2 ^ 32) = .inr (slot, d)) (hv : v < 2 ^ 32)
include hlookup hv

/-! ### chrecv and chreserve (R313) -/

theorem chrecv_returns (htype : d.type = 1 ∨ d.type = 3) {p : Nat} (hp : d.unreceived = some p) : Completes (.chrecv c u) s fun t =>
    t.answer = .ok (d.buffer + (d.head + p) % d.depth * d.bytes + (d.head + p) % d.depth * 2 ^ 44) ∧
      t.channel slot = some { d with slots := listSet d.slots p .received } ∧ r.sameBut [.answer, .mgmtClock, .cores, .chan] t := by
  refine h.chanOp_sets hcsr hmode rfl hlookup ?_
  unfold State.chrecv
  rw [State.onChannel_eq hlookup (by simpa using htype), if_neg (Nat.not_le.2 hv), hp]
  rfl

theorem chrecv_empty (htype : d.type = 1 ∨ d.type = 3) (hnone : d.unreceived = none) :
    Completes (.chrecv c u) s fun t => t.answer = .ok (2 ^ 63 + 4) ∧ t.chan = r.chan := by
  refine h.chanOp_keeps hcsr hmode rfl ?_
  unfold State.chrecv
  rw [State.onChannel_eq hlookup (by simpa using htype), if_neg (Nat.not_le.2 hv), hnone]

theorem chreserve_takes (htype : d.type = 2 ∨ d.type = 3) (hroom : d.slots.length < d.depth) : Completes (.chreserve c u) s fun t =>
    t.answer = .ok (d.buffer + (d.head + d.slots.length) % d.depth * d.bytes + (d.head + d.slots.length) % d.depth * 2 ^ 44) ∧
      t.channel slot = some { d with slots := d.slots ++ [.reserved] } ∧ r.sameBut [.answer, .mgmtClock, .cores, .chan] t := by
  refine h.chanOp_sets hcsr hmode rfl hlookup ?_
  unfold State.chreserve
  rw [State.onChannel_eq hlookup (by simpa using htype), if_neg (Nat.not_le.2 hv), if_neg (mt Channel.unused_eq_zero_iff.1 (Nat.not_le.2 hroom))]
  rfl

theorem chreserve_full (htype : d.type = 2 ∨ d.type = 3) (hfull : d.depth ≤ d.slots.length) :
    Completes (.chreserve c u) s fun t => t.answer = .ok (2 ^ 63 + 5) ∧ t.chan = r.chan := by
  refine h.chanOp_keeps hcsr hmode rfl ?_
  unfold State.chreserve
  rw [State.onChannel_eq hlookup (by simpa using htype), if_neg (Nat.not_le.2 hv), if_pos (Channel.unused_eq_zero_iff.2 hfull)]

/-! ### chcount (R299) -/

theorem chcount_counts (hlow : 1 ≤ d.type) (hhigh : d.type ≤ 3) : Completes (.chcount c u) s fun t =>
    t.answer = .ok (d.occupied + d.free * 2 ^ 32) ∧ r.sameBut [.answer, .mgmtClock, .cores] t := by
  have htype : [1, 2, 3].contains d.type = true := by
    rw [List.contains_iff_mem]
    simp only [List.mem_cons, List.not_mem_nil, or_false]
    omega
  have hop : r.chcount v = .inr (r, d.occupied + d.free * 2 ^ 32) := by
    unfold State.chcount
    rw [State.onChannel_eq hlookup htype, if_neg (Nat.not_le.2 hv)]
  exact ⟨_, congrArg Host.Outcome.next (h.chanOp_ok hcsr hmode hop), rfl, (r.csrResult_kept ..).up.sameBut_mask⟩

end

/-! ### chrelease and chpost (R313) -/

section
variable (hlookup : r.lookup (v % 2 ^ 32) = .inr (slot, d)) (hw : d.waiters = []) (hv : v < 2 ^ 48) (hentry : bits v 32 16 < d.depth) {p : Nat}
  (hp : p = d.position (bits v 32 16))
include hlookup hw hv hentry hp

theorem chrelease_frees (htype : d.type = 1 ∨ d.type = 3) (hreceived : d.slots[p]? = some .received) : Completes (.chrelease c u) s fun t =>
    t.answer = .ok 0 ∧ (t.channel slot).map (fun e => e.slots) = some ((listSet d.slots p .released).dropWhile fun x => x == .released) ∧
      r.sameBut [.answer, .mgmtClock, .cores, .chan] t := by
  have hwaiters : (d.release p).waiters = [] := (Channel.freeReleased_waiters ..).trans hw
  have hop : r.chrelease v = .inr (r.setChannel slot (d.release p), 0) := by
    unfold State.chrelease
    rw [State.onChannel_eq hlookup (by simpa using htype)]
    dsimp only
    rw [if_neg (Nat.not_le.2 hv), if_pos (Channel.slot_named hentry hp hreceived), ← hp,
      State.updateChannel_of_no_waiters (State.channel_of_lookup hlookup) hwaiters]
  obtain ⟨t, ht, hanswer, hchannel, hsame⟩ := h.chanOp_sets hcsr hmode (i := .chrelease c u) rfl hlookup hop
  refine ⟨t, ht, hanswer, ?_, hsame⟩
  rw [hchannel, Option.map_some, Channel.release, Channel.freeReleased_slots rfl]

theorem chpost_posts (htype : d.type = 2 ∨ d.type = 3) (hreserved : d.slots[p]? = some .reserved) : Completes (.chpost c u) s fun t =>
    t.answer = .ok 0 ∧ t.channel slot = some { d with slots := listSet d.slots p .posted, posted := sat32 d.posted 1 } ∧
      r.sameBut [.answer, .mgmtClock, .cores, .chan] t := by
  refine h.chanOp_sets hcsr hmode rfl hlookup ?_
  unfold State.chpost
  rw [State.onChannel_eq hlookup (by simpa using htype)]
  dsimp only
  rw [if_neg (Nat.not_le.2 hv), if_pos (Channel.slot_named hentry hp hreserved), ← hp,
    State.updateChannel_of_no_waiters (State.channel_of_lookup hlookup) (by exact hw)]

end

end

/-! ### chcreate and chdestroy (R312) -/

variable (hpriv : u.priv ≠ 0)
include hpriv

theorem chcreate_adds (hreserved : bits v 29 3 = 0) (htype : bits v 0 4 = 3)
    (hbuffer : r.bufferValid (bits v 32 32 * 4096) ((bits v 4 16 + 1) * ((bits v 20 9 + 1) * 8)) = true) (hslot : r.freeSlot = some slot) :
    Completes (.chcreate c u) s fun t => t.answer = .ok (3 * 2 ^ 28 + r.chan.gen slot * 2 ^ 16 + slot) ∧
      t.channel slot = some (Channel.fresh 3 false (bits v 4 16 + 1) ((bits v 20 9 + 1) * 8) (bits v 32 32 * 4096) none) ∧
      ∀ m, m ≠ slot → t.channel m = r.channel m := by
  let new := Channel.fresh 3 false (bits v 4 16 + 1) ((bits v 20 9 + 1) * 8) (bits v 32 32 * 4096) none
  let t := r.addChannel c slot new
  have hgen : t.chan.gen slot = r.chan.gen slot := by
    unfold Channels.gen
    rw [r.addChannel_chan c slot new]
  have he : exec (.chcreate c u) s = .next (t.csrResult c (3 * 2 ^ 28 + t.chan.gen slot * 2 ^ 16 + slot)) := by
    refine (h.exec_eq hcsr hpriv rfl).trans ?_
    dsimp only
    rw [if_neg (not_not_intro hreserved), if_neg (not_not_intro htype), hbuffer, hslot]
    rfl
  refine ⟨_, he, ?_, ?_, fun m hm => ?_⟩
  · rw [← hgen]
    rfl
  · rw [State.channel_csrResult, State.channel_addChannel_same]
  · rw [State.channel_csrResult, State.channel_addChannel_ne _ _ hm]

section
variable (hlookup : r.lookup (v % 2 ^ 32) = .inr (slot, d)) (hv : v < 2 ^ 32) (hown : d.declared = false)
include hlookup hv hown

theorem exec_chdestroy : exec (.chdestroy c u) s = .next ((r.destroyChannel c slot d).csrResult c 0) := by
  rw [Nat.mod_eq_of_lt hv] at hlookup
  refine (h.exec_eq hcsr hpriv rfl).trans ?_
  rw [if_neg (Nat.not_le.2 hv), hlookup]
  exact congrArg Host.Outcome.next (if_neg (by simp [hown]))

/-- With settings and generations in their canonical form, `chdestroy` does all that its clause says. -/
theorem chdestroy_discards (hw : d.waiters = []) (hd : r.DictCanonical) (hg : Sparse.wf (fun _ => 1) r.chan.gens = true) :
    Completes (.chdestroy c u) s fun t => t.answer = .ok 0 ∧ t.channel slot = none ∧
      t.entry 0x2C0303 = sat32 (r.entry 0x2C0303) d.occupied ∧
      t.chan.gen slot = (if r.chan.gen slot = 4095 then 1 else r.chan.gen slot + 1) := by
  have hchannel := State.channel_of_lookup hlookup
  refine ⟨_, h.exec_chdestroy hcsr hpriv hlookup hv hown, rfl, ?_, ?_, ?_⟩
  · rw [State.channel_csrResult, State.channel_destroyChannel]
  · rw [State.entry_csrResult, State.destroyChannel_discards hchannel hw c hd]
  · rw [State.csrResult_chan, State.destroyChannel_gen hchannel hw c hg, nextGen]

end

/-- An operation on a stale handle fails with status 2 (R311). -/
theorem staleHandle_fails (hstale : r.lookup (v % 2 ^ 32) = .inl 2) (hv : v < 2 ^ 32) :
    ∀ i ∈ [Instr.chrecv, .chrelease, .chreserve, .chpost, .chcount, .chdestroy],
      Completes (i c u) s fun t => t.answer = .ok (2 ^ 63 + 2) ∧ t.chan = r.chan := by
  have hop (types op) : r.onChannel v types op = .inl 2 := State.onChannel_stale hstale types op
  have hchdestroy : exec (.chdestroy c u) s = .next (r.csrFail c 2) := by
    rw [Nat.mod_eq_of_lt hv] at hstale
    refine (h.exec_eq hcsr hpriv rfl).trans ?_
    rw [if_neg (Nat.not_le.2 hv), hstale]
  intro i hi
  simp only [List.mem_cons, List.not_mem_nil, or_false] at hi
  obtain rfl | rfl | rfl | rfl | rfl | rfl := hi
  case inr.inr.inr.inr.inr => exact ⟨_, hchdestroy, rfl, rfl⟩
  all_goals exact h.chanOp_keeps hcsr (.inl hpriv) rfl (hop ..)

end CsrAccess

/-! ### CHANNEL_DESTROY (R312) -/

section
variable {s : State} {req slot : Nat} {d : Channel} (h : s.mayWrite req 0x400201 = true)
  (hlookup : s.lookup (Sparse.get (fun _ => 0) s.chan.selects req) = .inr (slot, d))
include h hlookup

theorem channelDestroy_discards (hown : d.declared = false) :
    Completes (.channelDestroy req) s fun t => t.answer = .ok 0 ∧ t.channel slot = none := by
  have he : exec (.channelDestroy req) s = .next (s.destroyChannel 0 slot d).accept := by
    refine congrArg Host.Outcome.next ((State.writing_eq h _).trans ?_)
    rw [hlookup]
    exact if_neg (by simp [hown])
  exact ⟨_, he, rfl, s.channel_destroyChannel 0 slot d⟩

theorem channelDestroy_refuses (hdeclared : d.declared = true) :
    Completes (.channelDestroy req) s fun t => s.logged t 0x9011 srcHub (accessArg req 0x400201) ∧ t.chan = s.chan := by
  have he : exec (.channelDestroy req) s = .next (s.refuse req 0x400201 0x9011) := by
    refine congrArg Host.Outcome.next ((State.writing_eq h _).trans ?_)
    rw [hlookup]
    exact if_pos hdeclared
  exact ⟨_, he, (s.refuse_9011 req 0x400201).1, (s.refuse_kept req 0x400201 0x9011).agree .chan⟩

end

/-! ### A slot listed twice -/

/-- An empty internal channel. -/
def emptyChannel : Channel := Channel.fresh 3 false 4 64 0x1000 none

/-- A module after reset whose cores run, with one internal channel. The list of generations names its slot twice, which is not its
canonical form. -/
def twiceListed : State := { State.reset with
  cores := State.reset.cores.map fun x => { x with state := .running }
  chan := { State.reset.chan with live := [(4, emptyChannel)], gens := [(4, 4095), (4, 7)] } }

/-- The use of `chdestroy` with the channel's handle, in supervisor mode. -/
def destroyUse : CsrUse := ⟨[], 1, true, 0x3FFF0004⟩

theorem twiceListed_running : (twiceListed.cores[0]?).map Core.state = some .running := by decide +kernel

theorem twiceListed_lookup : (twiceListed.useCore 0 destroyUse).lookup (0x3FFF0004 % 2 ^ 32) = .inr (4, emptyChannel) := by decide +kernel

theorem twiceListed_inv : twiceListed.Inv :=
  ⟨by decide +kernel, ⟨by decide +kernel, by decide +kernel, by decide +kernel⟩, by decide +kernel⟩

end Sys2Proof.Machine

open Sys2Proof Sys2Proof.Machine

/-- Refutes O36: its clause on chdestroy names the generation that the slot has afterwards, for any list of generations, without the
canonical form that makes a write readable. Where the list names the slot twice, the generation 1 that follows 4,095 removes the first
of the two, and the slot reads the second. With the canonical form of generations and settings the clause holds
(`CsrAccess.chdestroy_discards`), and the other clauses hold as they stand, by the theorems on `chrecv` to `chcreate` and on stale
handles of `CsrAccess` and by `channelDestroy_…`. -/
theorem not_channelOperationsTakeEffect : ¬ Obligations.ChannelOperationsTakeEffect := by
  intro hall
  obtain ⟨hoperations, -, -⟩ := hall
  obtain ⟨k, h⟩ := CsrAccess.exists_core twiceListed_running (u := destroyUse) rfl rfl
  have hchannel := State.channel_of_lookup twiceListed_lookup
  obtain ⟨-, -, hdestroy⟩ := hoperations twiceListed _ 0 destroyUse k _ 4 emptyChannel h.running rfl h.core rfl rfl (.inl (by decide))
    twiceListed_lookup rfl
  obtain ⟨t, ht, -, -, -, hclaimed⟩ := hdestroy (by decide) (by decide) rfl
  have hexec := h.exec_chdestroy rfl (by decide) twiceListed_lookup (by decide) rfl
  obtain rfl := Host.Outcome.next.inj (ht.symm.trans hexec)
  have hgens : ((twiceListed.useCore 0 destroyUse).destroyChannel 0 4 emptyChannel).chan.gens = [(4, 7)] :=
    State.destroyChannel_gens hchannel rfl 0
  have hgen : ((twiceListed.useCore 0 destroyUse).destroyChannel 0 4 emptyChannel).chan.gen 4 = 7 := by
    rw [Channels.gen, hgens]
    rfl
  exact absurd (hgen.symm.trans hclaimed) (by decide)

end

section
/-! Die-link bundles (R335 to R340): weak lanes and lost lanes of a bundle in service, and a retraining. -/

set_option Elab.async false

namespace Sys2Proof.Machine

/-! ### Bundles in their list -/

theorem State.bundle_setBundle_same {s : State} {b : Nat} (hb : b < s.bundles.length) (x : Bundle) : (s.setBundle b x).bundle b = x := by
  show (listSet s.bundles b x).getD b _ = x
  rw [listSet_eq_set, List.getD_eq_getElem?_getD, List.getElem?_set_self hb, Option.getD_some]

theorem State.bundle_setBundle_ne (s : State) {b c : Nat} (hc : c ≠ b) (x : Bundle) : (s.setBundle b x).bundle c = s.bundle c := by
  show (listSet s.bundles b x).getD c _ = s.bundles.getD c _
  rw [listSet_eq_set, List.getD_eq_getElem?_getD, List.getElem?_set_ne hc.symm, List.getD_eq_getElem?_getD]

theorem State.setBundle_bundles_length (s : State) (b : Nat) (x : Bundle) : (s.setBundle b x).bundles.length = s.bundles.length := by
  show (listSet s.bundles b x).length = _
  rw [listSet_eq_set, List.length_set]

theorem Kept.bundle_eq {m : Nat} {s t : State} (h : Kept m s t) (b : Nat) (hm : ¬ m.testBit Component.bundles.bit = true := by decide) :
    t.bundle b = s.bundle b := congrArg (List.getD · b _) (h.agree .bundles hm)

/-- A bundle changes and 0x6201 names a lane of it: no other bundle changes, and nothing else. -/
theorem State.setBundle_noted {s : State} {b : Nat} (hb : b < s.bundles.length) (x : Bundle) (arg : Nat) {t : State}
    (ht : t = (s.setBundle b x).logAs 0x6201 .note (srcDie (b % 8)) arg) :
    t.bundle b = x ∧ (∀ c, c ≠ b → t.bundle c = s.bundle c) ∧ s.logged t 0x6201 (srcDie (b % 8)) arg ∧ s.sameBut [.bundles, .log] t := by
  have hlog := (s.setBundle b x).logAs_quiet 0x6201 .note (srcDie (b % 8)) arg
  rw [ht]
  refine ⟨?_, fun c hc => ?_, ?_, ((s.setBundle_kept b x).up.trans hlog.up).sameBut_mask⟩
  · rw [hlog.bundle_eq, bundle_setBundle_same hb]
  · rw [hlog.bundle_eq, s.bundle_setBundle_ne hc]
  · exact ((s.setBundle b x).logAs_logged 0x6201 .note (srcDie (b % 8)) arg).of rfl rfl

/-! ### The argument of 0x6201 (Table 21-9) -/

theorem laneArg_replaced (b l : Nat) : laneArg b l false false = b * 2 ^ 16 + l := by simp [laneArg, b2n]
theorem laneArg_no_spare (b l : Nat) : laneArg b l true false = 2 ^ 31 + b * 2 ^ 16 + l := by simp [laneArg, b2n]
theorem laneArg_spare (b l : Nat) : laneArg b l false true = 2 ^ 30 + b * 2 ^ 16 + l := by simp [laneArg, b2n]

/-! ### A lane in service -/

theorem State.laneInService_of {s : State} {b l : Nat} (hfit : s.bundleFitted b = true) (hl : l < 544)
    (hup : (s.bundle b).state = 1 ∨ (s.bundle b).state = 2) (hin : (s.bundle b).failed.contains l = false) : s.laneInService b l = true := by
  have hup : (s.bundle b).up = true := by simpa [Bundle.up] using hup
  have hl : l < bundleLanes := hl
  rw [laneInService, hfit, hup, hin]
  simp [hl]

section
variable {s : State} {b l : Nat} (hin : s.laneInService b l = true)
include hin

theorem exec_laneMarginLow_carrier {p : Nat} (hp : (s.bundle b).lanes.findIdx? (fun m => m == l) = some p) :
    exec (.laneMarginLow b l) s = .next (s.weakLane b l p) := by
  show execLaneMarginLow b l s = _
  rw [execLaneMarginLow, hin, hp]
  rfl

theorem exec_laneMarginLow_spare (hp : (s.bundle b).lanes.findIdx? (fun m => m == l) = none) :
    exec (.laneMarginLow b l) s = .next (s.withdrawSpare b l) := by
  show execLaneMarginLow b l s = _
  rw [execLaneMarginLow, hin, hp]
  rfl

theorem exec_dieLaneLost_spare (hp : (s.bundle b).lanes.findIdx? (fun m => m == l) = none) (n : Nat) :
    exec (.dieLaneLost b l n) s = .next (s.withdrawSpare b l) := by
  show execDieLaneLost b l n s = _
  rw [execDieLaneLost, hin, hp]
  rfl

/-- Where the array runs on from the step of the loss, the lane is lost in that step. -/
theorem exec_dieLaneLost_carrier {p n : Nat} (hp : (s.bundle b).lanes.findIdx? (fun m => m == l) = some p) {o : State}
    (ho : o = if s.canReach n then s.runTo n else s) (hrun : o.arr.sched.run = .running) :
    exec (.dieLaneLost b l n) s = .next (o.loseLane b l p n) := by
  show execDieLaneLost b l n s = _
  rw [execDieLaneLost, hin, hp]
  simp only [← ho, hrun, Bool.not_true, Bool.false_eq_true, if_false, if_true]

end

/-! ### Weak lanes (R336) -/

theorem State.weakLane_moving {s : State} {b p : Nat} (h : (s.bundle b).moving.any (fun m => m.1 == p) = true) (l : Nat) :
    s.weakLane b l p = s := by
  simp only [weakLane, h, if_true]

theorem State.weakLane_no_spare {s : State} {b p : Nat} (h : (s.bundle b).moving.any (fun m => m.1 == p) = false)
    (hfree : (s.bundle b).free = []) (l : Nat) :
    s.weakLane b l p = s.logAs 0x6201 .note (srcDie (b % 8)) (2 ^ 31 + b * 2 ^ 16 + l) := by
  simp only [weakLane, h, hfree, laneArg_no_spare, if_neg Bool.false_ne_true]

/-- The spare `f` is to take position `p`. -/
def Bundle.replaces (x : Bundle) (p f : Nat) : Bundle := { x with moving := x.moving ++ [(p, f, 2)], repaired := sat32 x.repaired 1 }

theorem State.weakLane_replaces {s : State} {b p f : Nat} (h : (s.bundle b).moving.any (fun m => m.1 == p) = false)
    (hfree : (s.bundle b).free.head? = some f) (l : Nat) :
    s.weakLane b l p = (s.setBundle b (if s.arr.sched.run = .running then (s.bundle b).replaces p f
      else ((s.bundle b).replaces p f).takeAll)).logAs 0x6201 .note (srcDie (b % 8)) (b * 2 ^ 16 + l) := by
  obtain ⟨fs, hfree⟩ := List.head?_eq_some_iff.1 hfree
  rw [weakLane, h, hfree, laneArg_replaced]
  rfl

/-- A replacement that nothing delays: the weak lane is out of service and the spare carries its position. -/
theorem Bundle.takeAll_replaces {x : Bundle} {l p : Nat} (hp : x.lanes.findIdx? (fun m => m == l) = some p) (hmoving : x.moving = [])
    (f : Nat) : (x.replaces p f).takeAll = { x with
      lanes := listSet x.lanes p f, dead := x.dead.filter (fun q => q != p), failed := l :: x.failed, repaired := sat32 x.repaired 1 } := by
  obtain ⟨hlt, hlane, -⟩ := List.findIdx?_eq_some_iff_getElem.1 hp
  have hweak : x.lanes.getD p 0 = l := by
    rw [List.getD_eq_getElem?_getD, List.getElem?_eq_getElem hlt]
    exact beq_iff_eq.1 hlane
  rw [Bundle.takeAll, Bundle.replaces, hmoving, ← hweak]
  rfl

section
variable {s : State} {b l p : Nat} (hb : b < s.bundles.length) (hin : s.laneInService b l = true)
  (hp : (s.bundle b).lanes.findIdx? (fun m => m == l) = some p)
include hin hp

theorem laneMarginLow_moving (hmoving : (s.bundle b).moving.any (fun m => m.1 == p) = true) :
    Completes (.laneMarginLow b l) s fun t => s.sameBut [] t :=
  ⟨s, (exec_laneMarginLow_carrier hin hp).trans (congrArg Host.Outcome.next (State.weakLane_moving hmoving l)), (Kept.refl s).sameBut_mask⟩

theorem laneMarginLow_keeps (hnot : (s.bundle b).moving.any (fun m => m.1 == p) = false) (hfree : (s.bundle b).free = []) :
    Completes (.laneMarginLow b l) s fun t =>
      s.logged t 0x6201 (srcDie (b % 8)) (2 ^ 31 + b * 2 ^ 16 + l) ∧ s.sameBut [.log] t :=
  ⟨_, (exec_laneMarginLow_carrier hin hp).trans (congrArg Host.Outcome.next (State.weakLane_no_spare hnot hfree l)),
    s.logAs_logged .., (s.logAs_quiet ..).up.sameBut_mask⟩

include hb

/-- A weak lane with a spare: `y` is the bundle with the replacement under way, or done where the array does not run. -/
theorem laneMarginLow_replaces {f : Nat} (hnot : (s.bundle b).moving.any (fun m => m.1 == p) = false)
    (hfree : (s.bundle b).free.head? = some f) {y : Bundle}
    (hy : (if s.arr.sched.run = .running then (s.bundle b).replaces p f else ((s.bundle b).replaces p f).takeAll) = y) :
    Completes (.laneMarginLow b l) s fun t => t.bundle b = y ∧ (∀ c, c ≠ b → t.bundle c = s.bundle c) ∧
      s.logged t 0x6201 (srcDie (b % 8)) (b * 2 ^ 16 + l) ∧ s.sameBut [.bundles, .log] t := by
  have he := (exec_laneMarginLow_carrier hin hp).trans (congrArg Host.Outcome.next (State.weakLane_replaces hnot hfree l))
  rw [hy] at he
  exact ⟨_, he, State.setBundle_noted hb _ _ rfl⟩

end

/-- A spare that carries no position is withdrawn. -/
theorem State.withdrawSpare_effect {s : State} {b : Nat} (hb : b < s.bundles.length) (l : Nat) :
    (s.withdrawSpare b l).bundle b = { s.bundle b with
      failed := l :: (s.bundle b).failed, moving := (s.bundle b).moving.filter (fun m => m.2.1 != l), lost := sat32 (s.bundle b).lost 1 } ∧
      (∀ c, c ≠ b → (s.withdrawSpare b l).bundle c = s.bundle c) ∧
      s.logged (s.withdrawSpare b l) 0x6201 (srcDie (b % 8)) (2 ^ 30 + b * 2 ^ 16 + l) ∧
      s.sameBut [.bundles, .log] (s.withdrawSpare b l) := by
  rw [← laneArg_spare]
  exact setBundle_noted hb _ _ rfl

/-! ### Lost lanes (R337 to R339) -/

/-- A cause raised while the array runs waits for its boundary (R120). -/
theorem State.raiseStopAt_running {s : State} (h : s.arr.sched.run = .running) (bit cycle st die fault : Nat) :
    (s.raiseStopAt bit cycle st die fault).arr.sched = { s.arr.sched with
      stops := s.arr.sched.stops ++ [⟨bit, max (stopCycle s.L s.lead cycle st) s.arr.sched.cycle, cycle, st, die, fault⟩] } := by
  unfold raiseStopAt
  split
  · simp only [h, withSched]
    rfl
  · simp only [h, withSched]

/-- The bundle that has lost lane `l` in the cycle: position `p` is dead. -/
def Bundle.loses (x : Bundle) (l p cycle : Nat) : Bundle :=
  { x.keep p with failed := l :: x.failed, dead := p :: x.dead, lost := sat32 x.lost 1, firstCycle := some (x.firstCycle.getD cycle) }

/-- Bundle `b` is `x`, 0x6202 has been logged, and a stop declared two steps after step `st` (R337). -/
def State.laneLostIn (s : State) (b : Nat) (x : Bundle) (l st : Nat) : State :=
  ((s.setBundle b x).logAs 0x6202 .stop (srcDie (b % 8)) (laneArg b l false false)).raiseStopAt 7 s.arr.sched.cycle (st + 2) (b % 8) 0x6202

theorem State.laneLostIn_effect {s : State} {b : Nat} (hb : b < s.bundles.length) (x : Bundle) (l st : Nat) :
    (s.laneLostIn b x l st).bundle b = x ∧ (s.laneLostIn b x l st).log.active.any (fun a => a.code == 0x6202) = true := by
  have hstop := State.raiseStopAt_kept ((s.setBundle b x).logAs 0x6202 .stop (srcDie (b % 8)) (laneArg b l false false)) 7 s.arr.sched.cycle
    (st + 2) (b % 8) 0x6202
  constructor
  · exact (hstop.bundle_eq b).trans ((((s.setBundle b x).logAs_kept ..).bundle_eq b).trans (bundle_setBundle_same hb x))
  · unfold laneLostIn
    rw [hstop.agree .log]
    exact State.logAs_active (row := ⟨0x6202, .error, .stop⟩) (by decide +kernel) rfl _ _ _

section
variable {s : State} {b : Nat} (hrun : s.arr.sched.run = .running)
include hrun

theorem State.laneLostIn_sched (x : Bundle) (l st : Nat) : ∃ q : PendingStop, q.bit = 7 ∧ q.raisedStep = st + 2 ∧ q.fault = 0x6202 ∧
    (s.laneLostIn b x l st).arr.sched = { s.arr.sched with stops := s.arr.sched.stops ++ [q] } := by
  unfold laneLostIn
  rw [State.raiseStopAt_running (by simpa [setBundle] using hrun), State.logAs_arr]
  exact ⟨_, rfl, rfl, rfl, rfl⟩

/-- With a spare left, the dead position waits for it. -/
theorem State.loseLane_spare {p : Nat} (hspare : ((s.bundle b).keep p).spareLeft = true) (l st : Nat) :
    s.loseLane b l p st = s.laneLostIn b ((s.bundle b).loses l p s.arr.sched.cycle) l st := by
  obtain ⟨q, -, -, -, hsched⟩ := laneLostIn_sched hrun (b := b) ((s.bundle b).loses l p s.arr.sched.cycle) l st
  have hruns : (s.laneLostIn b ((s.bundle b).loses l p s.arr.sched.cycle) l st).arr.sched.run = .running := by rw [hsched, ← hrun]
  rw [loseLane]
  dsimp only
  rw [hspare]
  exact if_pos hruns

/-- With none, a full-width bundle falls to half width at the boundary (R338): a second stop. -/
theorem State.loseLane_half {p : Nat} (hspare : ((s.bundle b).keep p).spareLeft = false) (hfull : (s.bundle b).state = 1) (l st : Nat) :
    s.loseLane b l p st = (s.laneLostIn b { (s.bundle b).loses l p s.arr.sched.cycle with half := true } l st).raiseStopAt 9
      s.arr.sched.cycle (st + 2) (b % 8) 0 := by
  let x := { (s.bundle b).loses l p s.arr.sched.cycle with half := true }
  obtain ⟨q, -, -, -, hsched⟩ := laneLostIn_sched hrun (b := b) x l st
  have hlost : (s.laneLostIn b x l st).arr.sched.run = .running := by rw [hsched, ← hrun]
  have hruns : ((s.laneLostIn b x l st).raiseStopAt 9 s.arr.sched.cycle (st + 2) (b % 8) 0).arr.sched.run = .running := by
    rw [State.raiseStopAt_running hlost, ← hlost]
  have hkeep : ((s.bundle b).keep p).state = 1 := hfull
  rw [loseLane]
  dsimp only
  rw [hspare, if_neg Bool.false_ne_true, if_neg Bool.false_ne_true, if_pos hkeep, if_pos hkeep]
  exact if_pos hruns

/-- And a half-width one fails (R339). -/
theorem State.loseLane_fails {p : Nat} (hspare : ((s.bundle b).keep p).spareLeft = false) (hhalf : (s.bundle b).state = 2) (l st : Nat) :
    s.loseLane b l p st = (s.laneLostIn b { (s.bundle b).loses l p s.arr.sched.cycle with state := 3, half := false } l st).bundleFailed b
      s.arr.sched.cycle (st + 2) := by
  let x := { (s.bundle b).loses l p s.arr.sched.cycle with state := 3, half := false }
  obtain ⟨q, -, -, -, hsched⟩ := laneLostIn_sched hrun (b := b) x l st
  have hlost : (s.laneLostIn b x l st).arr.sched.run = .running := by rw [hsched, ← hrun]
  have hruns : ((s.laneLostIn b x l st).bundleFailed b s.arr.sched.cycle (st + 2)).arr.sched.run = .running := by
    unfold bundleFailed
    rw [State.raiseStopAt_running (by rwa [State.logAs_arr]), State.logAs_arr, ← hlost]
  have hkeep : ¬ ((s.bundle b).keep p).state = 1 := fun h => absurd (hhalf.symm.trans h) (by decide)
  rw [loseLane]
  dsimp only
  rw [hspare, if_neg Bool.false_ne_true, if_neg Bool.false_ne_true, if_neg hkeep, if_neg hkeep]
  exact if_pos hruns

end

section
variable {s o : State} {b l p n : Nat} {y : Bundle} (hb : b < s.bundles.length) (hin : s.laneInService b l = true)
  (hp : (s.bundle b).lanes.findIdx? (fun m => m == l) = some p) (hy : y = (s.bundle b).keep p)
  (ho : o = if s.canReach n then s.runTo n else s) (hsame : o.bundles = s.bundles) (hrun : o.arr.sched.run = .running)
include hb hin hp hy ho hsame hrun

theorem dieLaneLost_spare_left (hspare : y.dead.length < y.free.length) : Completes (.dieLaneLost b l n) s fun t =>
    t.bundle b = (s.bundle b).loses l p o.arr.sched.cycle ∧ t.log.active.any (fun a => a.code == 0x6202) = true ∧
      t.arr.sched.stops.any (fun q => q.bit == 7 && q.raisedStep == n + 2 && q.fault == 0x6202) = true := by
  have hbundle : o.bundle b = s.bundle b := congrArg (List.getD · b _) hsame
  have hleft : ((o.bundle b).keep p).spareLeft = true := by rw [hbundle, ← hy, Bundle.spareLeft, decide_eq_true hspare]
  have he := exec_dieLaneLost_carrier hin hp ho hrun
  rw [State.loseLane_spare hrun hleft, hbundle] at he
  obtain ⟨hlost, hactive⟩ := State.laneLostIn_effect (hsame ▸ hb) ((s.bundle b).loses l p o.arr.sched.cycle) l n
  obtain ⟨q, hbit, hstep, hfault, hsched⟩ := State.laneLostIn_sched hrun (b := b) ((s.bundle b).loses l p o.arr.sched.cycle) l n
  refine ⟨_, he, hlost, hactive, ?_⟩
  rw [hsched]
  simp [hbit, hstep, hfault]

theorem dieLaneLost_half_width (hnone : y.free.length ≤ y.dead.length) (hfull : (s.bundle b).state = 1) :
    Completes (.dieLaneLost b l n) s fun t => (t.bundle b).half = true ∧ (t.bundle b).state = 1 ∧
      t.arr.sched.stops.any (fun q => q.bit == 9 && q.raisedStep == n + 2) = true := by
  have hbundle : o.bundle b = s.bundle b := congrArg (List.getD · b _) hsame
  have hleft : ((o.bundle b).keep p).spareLeft = false := by
    rw [hbundle, ← hy, Bundle.spareLeft, decide_eq_false (Nat.not_lt.2 hnone)]
  let x := { (s.bundle b).loses l p o.arr.sched.cycle with half := true }
  have he := exec_dieLaneLost_carrier hin hp ho hrun
  rw [State.loseLane_half hrun hleft (hbundle ▸ hfull), hbundle] at he
  obtain ⟨hlost, -⟩ := State.laneLostIn_effect (hsame ▸ hb) x l n
  obtain ⟨q, -, -, -, hsched⟩ := State.laneLostIn_sched hrun (b := b) x l n
  have hstop := State.raiseStopAt_kept (o.laneLostIn b x l n) 9 o.arr.sched.cycle (n + 2) (b % 8) 0
  have hstays : ((o.laneLostIn b x l n).raiseStopAt 9 o.arr.sched.cycle (n + 2) (b % 8) 0).bundle b = x := (hstop.bundle_eq b).trans hlost
  refine ⟨_, he, congrArg Bundle.half hstays, (congrArg Bundle.state hstays).trans hfull, ?_⟩
  rw [State.raiseStopAt_running (by rw [hsched, ← hrun])]
  simp

theorem dieLaneLost_fails (hnone : y.free.length ≤ y.dead.length) (hhalf : (s.bundle b).state = 2) :
    Completes (.dieLaneLost b l n) s fun t => (t.bundle b).state = 3 ∧ t.log.active.any (fun a => a.code == 0x6204) = true := by
  have hbundle : o.bundle b = s.bundle b := congrArg (List.getD · b _) hsame
  have hleft : ((o.bundle b).keep p).spareLeft = false := by
    rw [hbundle, ← hy, Bundle.spareLeft, decide_eq_false (Nat.not_lt.2 hnone)]
  have he := exec_dieLaneLost_carrier hin hp ho hrun
  rw [State.loseLane_fails hrun hleft (hbundle ▸ hhalf), hbundle] at he
  obtain ⟨hlost, -⟩ := State.laneLostIn_effect (hsame ▸ hb)
    { (s.bundle b).loses l p o.arr.sched.cycle with state := 3, half := false } l n
  refine ⟨_, he, congrArg Bundle.state (((State.bundleFailed_kept ..).bundle_eq b).trans hlost), ?_⟩
  unfold State.bundleFailed
  rw [(State.raiseStopAt_kept ..).agree .log]
  exact State.logAs_active (row := ⟨0x6204, .error, .blocked⟩) (by decide +kernel) rfl _ _ _

end

/-! ### Retraining (R335, R340) -/

theorem mapPositions_nil (ps spares : List Nat) : mapPositions [] ps spares = ps := by
  induction ps with
  | nil => rfl
  | cons p ps ih => exact congrArg (p :: ·) ih

/-- A training in which no lane fails: full width, every position on its own lane. -/
theorem Bundle.train_nil (x : Bundle) : x.train [] =
    { x with state := 1, half := false, lanes := List.range 512, failed := [], dead := [], moving := [] } := by
  have hworking : ((List.range bundleLanes).filter fun l => !([] : List Nat).contains l) = List.range bundleLanes :=
    List.filter_eq_self.2 fun _ _ => rfl
  unfold Bundle.train
  dsimp only
  rw [hworking, mapPositions_nil, if_pos (by rw [List.length_range]; decide)]
  rfl

/-- The fitted bundles below `n` have trained without a failing lane. -/
def State.trained (s : State) (n : Nat) : State :=
  (List.range n).foldl (fun s b => if s.bundleFitted b then s.setBundle b ((s.bundle b).train []) else s) s

theorem State.trained_succ (s : State) (n : Nat) : s.trained (n + 1) =
    if (s.trained n).bundleFitted n then (s.trained n).setBundle n (((s.trained n).bundle n).train []) else s.trained n := by
  rw [trained, List.range_succ, List.foldl_append]
  rfl

theorem State.trained_kept (s : State) (n : Nat) : Kept 0x20000 s (s.trained n) :=
  Kept.foldl (fun s _ => Kept.ite (s.setBundle_kept ..) (.refl s)) (.refl s)

theorem State.bundleFitted_trained (s : State) (n b : Nat) : (s.trained n).bundleFitted b = s.bundleFitted b := by
  rw [bundleFitted, (s.trained_kept n).part]
  rfl

theorem State.bundle_trained {s : State} {n : Nat} (hn : n ≤ s.bundles.length) : (s.trained n).bundles.length = s.bundles.length ∧
    ∀ b, (s.trained n).bundle b = if b < n ∧ s.bundleFitted b = true then (s.bundle b).train [] else s.bundle b := by
  induction n with
  | zero => exact ⟨rfl, fun b => (if_neg fun h => absurd h.1 (Nat.not_lt_zero b)).symm⟩
  | succ n ih =>
    obtain ⟨hlength, hbundle⟩ := ih (Nat.le_of_succ_le hn)
    have hsame : (s.trained n).bundle n = s.bundle n := (hbundle n).trans (if_neg fun h => Nat.lt_irrefl n h.1)
    rw [trained_succ, bundleFitted_trained, hsame]
    cases hfit : s.bundleFitted n with
    | false =>
      refine ⟨hlength, fun b => (hbundle b).trans ?_⟩
      by_cases hb : b = n
      · simp [hb, hfit]
      · simp [show b < n ↔ b < n + 1 by omega]
    | true =>
      refine ⟨(State.setBundle_bundles_length ..).trans hlength, fun b => ?_⟩
      by_cases hb : b = n
      · subst hb
        rw [if_pos rfl, bundle_setBundle_same (by omega), if_pos ⟨Nat.lt_succ_self b, hfit⟩]
      · rw [if_pos rfl, State.bundle_setBundle_ne _ hb, hbundle]
        simp [show b < n ↔ b < n + 1 by omega]

theorem State.trainBundles_nil {s : State} (hlength : s.bundles.length = 16) :
    s.trainBundles [] = (s.trained 16).endCodeClass 0x6204 .blocked := by
  have hgood : ((List.range 16).filter fun b => (s.trained 16).bundleFitted b && ((s.trained 16).bundle b).state == 3) = [] := by
    refine List.filter_eq_nil_iff.2 fun b hb => ?_
    rw [bundleFitted_trained, (bundle_trained (Nat.le_of_eq hlength.symm)).2 b]
    cases hfit : s.bundleFitted b with
    | false => simp
    | true =>
      rw [if_pos ⟨List.mem_range.1 hb, rfl⟩, Bundle.train_nil]
      exact Bool.false_ne_true
  unfold trainBundles
  simp only [List.filter_nil, List.map_nil]
  rw [← trained, hgood]
  rfl

theorem State.endCodeClass_active (s : State) (code : Nat) (cls : FaultClass) :
    (s.endCodeClass code cls).log.active.any (fun a => a.code == code && a.cls == cls) = false := by
  show (s.log.active.filter _).any _ = false
  rw [List.any_eq_false]
  intro a ha
  have hnot := (List.mem_filter.1 ha).2
  rwa [Bool.not_eq_true', ← Bool.not_eq_true] at hnot

theorem bundleRetrain_begins {s : State} {req : Nat} (h : s.mayWrite req 0x2D0501 = true) :
    Completes (.bundleRetrain req) s fun t => t.answer = .ok 0 ∧
      t.bundles = (List.range 16).map (fun b => if s.bundleFitted b then { s.bundle b with state := 4 } else Bundle.unfitted) ∧
      s.sameBut [.answer, .mgmtClock, .bundles] t :=
  ⟨_, congrArg Host.Outcome.next (State.writing_eq h _), rfl, rfl,
    (s.beginTraining_kept.up.trans (State.accept_kept _).up).sameBut_mask⟩

theorem bundleRetrainComplete_maps {s : State} (hlength : s.bundles.length = 16)
    (htraining : s.bundles.any (fun y => y.state == 4) = true) : Completes (.bundleRetrainComplete []) s fun t =>
      (∀ b : Nat, b < 16 → t.bundle b = if s.bundleFitted b then { s.bundle b with
        state := 1, half := false, lanes := List.range 512, failed := [], dead := [], moving := [] } else s.bundle b) ∧
      t.log.active.any (fun a => a.code == 0x6204 && a.cls == .blocked) = false ∧ s.sameBut [.bundles, .log] t := by
  have hend := (s.trained 16).endCodeClass_kept 0x6204 .blocked
  refine ⟨_, congrArg Host.Outcome.next ((if_pos htraining).trans (State.trainBundles_nil hlength)), fun b hb => ?_,
    State.endCodeClass_active .., ((s.trained_kept 16).up.trans hend.up).sameBut_mask⟩
  rw [hend.bundle_eq, (State.bundle_trained (Nat.le_of_eq hlength.symm)).2, Bundle.train_nil]
  simp [hb]

end Sys2Proof.Machine

open Sys2Proof Sys2Proof.Machine

/-- Settles O40: each event by the lemma of its outcome, for a lane that carries a position, for a spare, and for the bundles that
train. -/
theorem bundleEventsTakeEffect : Obligations.BundleEventsTakeEffect := by
  intro s hlength
  refine ⟨fun b l x hb hfit hl hx hup hfailed => ?_, fun _ => bundleRetrain_begins, bundleRetrainComplete_maps hlength⟩
  subst hx
  have hlt : b < s.bundles.length := hlength ▸ hb
  have hin := State.laneInService_of hfit hl hup hfailed
  refine ⟨fun p f hp hfree hnot => ⟨fun hmoving hstands => ?replaced, fun hrun => ?replacing⟩, fun p hp => laneMarginLow_moving hin hp,
    fun p hp hfree hnot => laneMarginLow_keeps hin hp hnot hfree, fun hp => ⟨?spare, fun n => ?spareLost⟩,
    fun p n o y hp hy hrun ho hsame hruns => ⟨?left, ?half, ?fails⟩⟩
  case replaced =>
    exact laneMarginLow_replaces hlt hin hp hnot hfree ((if_neg hstands).trans (Bundle.takeAll_replaces hp hmoving f))
  case replacing => exact laneMarginLow_replaces hlt hin hp hnot hfree (if_pos hrun)
  case spare => exact ⟨_, exec_laneMarginLow_spare hin hp, State.withdrawSpare_effect hlt l⟩
  case spareLost =>
    obtain ⟨hbundle, -, hlogged, hframe⟩ := State.withdrawSpare_effect hlt l
    exact ⟨_, exec_dieLaneLost_spare hin hp n, hbundle, hlogged, hframe⟩
  case left =>
    intro hspare
    obtain ⟨t, he, hbundle, hrest⟩ := dieLaneLost_spare_left hlt hin hp hy ho hsame hruns hspare
    exact ⟨t, he, hbundle.trans (hy ▸ rfl), hrest⟩
  case half => exact dieLaneLost_half_width hlt hin hp hy ho hsame hruns
  case fails => exact dieLaneLost_fails hlt hin hp hy ho hsame hruns

end

section
/-! Packets on the rings (R324 to R333): the check of a header, the queues and the link of a stop, and what a packet finds at its
destination. -/

set_option Elab.async false

namespace Sys2Proof.Machine

/-! ### Settings that count, and a logged fault -/

/-- A counter that is an entry rises by one, and no other setting changes. -/
theorem State.entry_bump_same {s : State} (hd : s.DictCanonical) (key : Nat) : (s.bump key).entry key = sat32 (s.entry key) 1 :=
  entry_putEntry_same _ _ hd

theorem State.entry_bump_ne {s : State} (hd : s.DictCanonical) {key k : Nat} (hk : k ≠ key) : (s.bump key).entry k = s.entry k :=
  entry_putEntry_ne _ _ hd hk

/-- With every module counter off, nothing is counted (R392). -/
theorem State.countEvent_off {s : State} (h : s.entry 0x2B0001 = 0) (code unit n : Nat) : s.countEvent code unit n = s := if_pos (.inl h)

/-- A serious fault becomes active under its code and source (R495). -/
theorem State.logAs_active_source {code : Nat} {cls : FaultClass} {row : FaultRow} (hrow : faultRow code cls = some row)
    (h : row.severity.serious = true) (s : State) (source arg : Nat) :
    (s.logAs code cls source arg).log.active.any (fun a => a.code == code && a.source == source) = true := by
  unfold State.logAs State.logRow
  simp only [hrow, h, if_true, State.logSerious_active, List.any_eq_true]
  exact ⟨_, mem_activate .., by simp [faultRow_code hrow]⟩

/-! ### The header check (R326) -/

theorem headerCheck_clean {fl : Nat} (h : bitsWrong fl = 0) (hdr : Nat) : headerCheck hdr fl = .clean := if_pos h

theorem headerCheck_corrected {fl : Nat} (h : bitsWrong fl = 1) (hdr : Nat) : headerCheck hdr fl = .corrected := by
  rw [headerCheck, h]
  rfl

theorem headerCheck_uncorrectable {fl : Nat} (h : bitsWrong fl = 2) (hdr : Nat) : headerCheck hdr fl = .uncorrectable := by
  rw [headerCheck, h]
  rfl

theorem bitsWrong_zero : bitsWrong 0 = 0 := by decide

/-! ### RING_PACKET -/

/-- A packet that has joined the injection queue of its source. -/
def Transit.atSource (r st : Nat) (q : RingPacket) : Transit := ⟨r, st, 0, true, 0, q⟩

/-- A packet between two stops of the grade, on the ring of its direction and parity, at stop `st` of `o`, whose ring loop runs. -/
structure RingRoute (s : State) (n r st : Nat) (o : StopOwner) (q : RingPacket) : Prop where
  stops : n = s.part.grade.stops.length
  owner : s.part.grade.stops[st]? = some o
  clocked : s.ringHeld o.loopDie = false
  source : hdrSrc q.header < n
  dest : hdrDest q.header < n
  apart : hdrSrc q.header ≠ hdrDest q.header
  type : hdrType q.header ≤ 9
  ring : r = ringOf n (hdrSrc q.header) (hdrDest q.header)

section
variable {s : State} {n r st : Nat} {o : StopOwner} {p q : RingPacket} (h : RingRoute s n r st o q) (hp : q = packetSent p)
include h hp

omit hp in
/-- Nothing of the route turns the packet away. -/
theorem RingRoute.accepted : ¬ (n ≤ hdrSrc q.header ∨ n ≤ hdrDest q.header ∨ hdrSrc q.header = hdrDest q.header ∨
    r ≠ ringOf n (hdrSrc q.header) (hdrDest q.header) ∨ 9 < hdrType q.header ∨ s.ringHeld o.loopDie = true) := by
  simp only [h.clocked, Bool.false_eq_true, or_false]
  rintro (hsource | hdest | happart | hring | htype)
  · exact Nat.not_le.2 h.source hsource
  · exact Nat.not_le.2 h.dest hdest
  · exact h.apart happart
  · exact hring h.ring
  · exact Nat.not_lt.2 h.type htype

theorem RingRoute.exec_present {t : State} {x : Transit} (hpresent : s.present r st q = (t, some x)) (fl : Nat) :
    exec (.ringPacket r st ⟨p, fl⟩) s = .next (t.passStop n o x fl) := by
  show execRingPacket r st ⟨p, fl⟩ s = _
  unfold execRingPacket
  simp only [← hp, h.owner, ← h.stops, if_neg h.accepted, hpresent]

/-- A packet that waits at the stop is the one that passes it. -/
theorem RingRoute.exec_waiting {x : Transit}
    (hx : s.rings.transit.find? (fun y => y.ring == r && y.stop == st && y.packet == q) = some x) (fl : Nat) :
    exec (.ringPacket r st ⟨p, fl⟩) s = .next (s.passStop n o x fl) := by
  refine h.exec_present hp ?_ fl
  rw [State.present, hx]

/-- At its source a packet that does not wait there joins the injection queue. -/
theorem RingRoute.exec_source
    (hnone : s.rings.transit.any (fun y => y.ring == r && y.stop == st && y.packet == q) = false)
    (hst : st = hdrSrc q.header) (fl : Nat) :
    exec (.ringPacket r st ⟨p, fl⟩) s =
      .next ((s.inject (.atSource r st q)).passStop n o (.atSource r st q) fl) := by
  have hfind : s.rings.transit.find? (fun y => y.ring == r && y.stop == st && y.packet == q) = none := by
    simpa only [List.find?_eq_none, List.any_eq_false] using hnone
  have hwaiting : packetWaiting s.part.grade.stops.length q = .atSource r st q := by
    rw [packetWaiting, ← h.stops, ← h.ring, ← hst]
    rfl
  refine h.exec_present hp ?_ fl
  rw [State.present, hfind]
  dsimp only
  rw [hwaiting, if_pos hst]

end

/-! ### The head of a queue at a stop (R326, R329) -/

section
variable {s : State} {n : Nat} {o : StopOwner} {x : Transit} {fl : Nat}

theorem State.passStop_behind (hhead : s.isHead x = false) : s.passStop n o x fl = s := by
  simp only [passStop, hhead, Bool.not_false, if_true]

section
variable (hhead : s.isHead x = true)
include hhead

theorem State.passStop_discards (hcheck : headerCheck x.packet.header fl = .uncorrectable) : s.passStop n o x fl = s.discardPacket o x := by
  simp only [passStop, hhead, hcheck, Bool.not_true, Bool.false_eq_true, if_false, if_true]

theorem State.passStop_ejects (hcheck : headerCheck x.packet.header fl = .clean) (hdest : hdrDest x.packet.header = x.stop) :
    s.passStop n o x fl = (s.leaveStop x).eject x.stop o x.packet := by
  simp [passStop, hhead, hcheck, hdest]

theorem State.passStop_waits (hcheck : headerCheck x.packet.header fl = .clean) (hdest : hdrDest x.packet.header ≠ x.stop)
    (hloses : s.linkWinner n x.ring x.stop ≠ some x) : s.passStop n o x fl = s := by
  simp [passStop, hhead, hcheck, hdest, hloses]

/-- Before the link of a stop carries a packet, its stop has corrected and counted a single error. -/
def State.headerCounted (s : State) (fl : Nat) : State := if bitsWrong fl = 0 then s else s.bump 0x2D0401

theorem State.passStop_moves (hflips : bitsWrong fl ≤ 1) (hdest : hdrDest x.packet.header ≠ x.stop)
    (hwins : s.linkWinner n x.ring x.stop = some x) :
    s.passStop n o x fl = ((s.headerCounted fl).carry n x).countEvent 1 x.stop (hdrFlits x.packet.header) := by
  obtain hclean | hone : bitsWrong fl = 0 ∨ bitsWrong fl = 1 := by omega
  · simp [passStop, hhead, headerCheck_clean hclean, hdest, hwins, headerCounted, hclean]
  · simp [passStop, hhead, headerCheck_corrected hone, hdest, hwins, headerCounted, hone]

end

end

/-! ### The link of a stop (R329, R330) -/

theorem State.candidates_of_rings {s t : State} (h : t.rings = s.rings) (n r st : Nat) : t.candidates n r st = s.candidates n r st := by
  unfold candidates isHead hasCredit
  rw [h]

theorem State.starving_of_rings {s t : State} (h : t.rings = s.rings) (n r st : Nat) : t.starving n r st = s.starving n r st := by
  unfold starving linkTurn
  rw [candidates_of_rings h, h]

theorem State.withRings_withRings (s : State) (f g : Rings → Rings) : (s.withRings f).withRings g = s.withRings fun r => g (f r) := rfl

/-- What the link leaves of the rings as it carries a packet: credits, and the packet at the next stop. -/
theorem State.carry_rings (s : State) (n : Nat) (x : Transit) :
    (s.carry n x).rings.returned = s.rings.returned + x.credits ∧ (s.carry n x).rings.granted = s.rings.granted + hdrFlits x.packet.header ∧
      (s.carry n x).rings.outstanding = s.rings.outstanding ∧
      (s.carry n x).rings.transit = (s.rings.transit.erase x).map (fun y =>
        if (s.candidates n x.ring x.stop).contains y then { y with waited := y.waited + hdrFlits x.packet.header } else y) ++
          [{ x with stop := nextStop n x.ring x.stop, channel := x.nextChannel n, injecting := false, waited := 0 }] := by
  have hkept (b : Bool) : (if b then (s.bump 0x2D0405).countEvent 2 x.stop 1 else s).rings = s.rings := by
    cases b
    · rfl
    · exact (State.countEvent_kept ..).agree .rings
  refine ⟨?_, ?_, ?_, ?_⟩ <;> simp only [carry, leaveStop, withRings, hkept]

/-- The link has counted a starvation grant. -/
def State.linkCounted (s : State) (n : Nat) (x : Transit) : State :=
  if s.starving n x.ring x.stop = some x then s.bump 0x2D0405 else s

/-- With the module counters off, the link counts nothing else. -/
theorem State.carry_counts {s : State} (hd : s.DictCanonical) (hoff : s.entry 0x2B0001 = 0) (n : Nat) (x : Transit) :
    ∃ f, s.carry n x = (s.linkCounted n x).withRings f := by
  have hcount : (if (s.starving n x.ring x.stop == some x) = true then (s.bump 0x2D0405).countEvent 2 x.stop 1 else s) =
      s.linkCounted n x := by
    rw [countEvent_off ((entry_bump_ne hd (by decide)).trans hoff)]
    simp only [beq_iff_eq, linkCounted]
  unfold carry leaveStop
  dsimp only
  rw [hcount]
  exact ⟨_, State.withRings_withRings ..⟩

theorem State.headerCounted_rings (s : State) (fl : Nat) : (s.headerCounted fl).rings = s.rings := by
  unfold headerCounted
  split <;> rfl

theorem State.headerCounted_kept (s : State) (fl : Nat) : Kept 0x2 s (s.headerCounted fl) := Kept.ite (.refl s) (s.bump_kept _)

theorem State.linkCounted_kept (s : State) (n : Nat) (x : Transit) : Kept 0x2 s (s.linkCounted n x) := Kept.ite (s.bump_kept _) (.refl s)

/-- The counters of both: corrected headers and starvation grants. -/
theorem State.entry_counted {s : State} (hd : s.DictCanonical) (fl n : Nat) (x : Transit) :
    ((s.headerCounted fl).linkCounted n x).entry 0x2D0401 = (if bitsWrong fl = 0 then s.entry 0x2D0401 else sat32 (s.entry 0x2D0401) 1) ∧
      ((s.headerCounted fl).linkCounted n x).entry 0x2D0405 =
        (if s.starving n x.ring x.stop = some x then sat32 (s.entry 0x2D0405) 1 else s.entry 0x2D0405) := by
  have hheader : (s.headerCounted fl).DictCanonical := (s.headerCounted_kept fl).dict hd
  have hcorrected : (s.headerCounted fl).entry 0x2D0401 = if bitsWrong fl = 0 then s.entry 0x2D0401 else sat32 (s.entry 0x2D0401) 1 := by
    unfold headerCounted
    split
    · rfl
    · exact entry_bump_same hd _
  have hother : (s.headerCounted fl).entry 0x2D0405 = s.entry 0x2D0405 := by
    unfold headerCounted
    split
    · rfl
    · exact entry_bump_ne hd (by decide)
  unfold linkCounted
  rw [starving_of_rings (s.headerCounted_rings fl)]
  split
  · exact ⟨(entry_bump_ne hheader (by decide)).trans hcorrected, (entry_bump_same hheader _).trans (congrArg (sat32 · 1) hother)⟩
  · exact ⟨hcorrected, hother⟩

/-- The head of a queue that its link's arbiter grants moves on, and with the module counters off only the two entries count. -/
theorem State.passStop_carried {s : State} (hd : s.DictCanonical) (hoff : s.entry 0x2B0001 = 0) {n fl : Nat} {o : StopOwner} {x : Transit}
    (hhead : s.isHead x = true) (hflips : bitsWrong fl ≤ 1) (hdest : hdrDest x.packet.header ≠ x.stop)
    (hwins : s.linkWinner n x.ring x.stop = some x) {t : State} (ht : t = s.passStop n o x fl) :
    (∃ f, t = ((s.headerCounted fl).linkCounted n x).withRings f) ∧
      t.rings.returned = s.rings.returned + x.credits ∧ t.rings.granted = s.rings.granted + hdrFlits x.packet.header ∧
      t.rings.outstanding = s.rings.outstanding ∧
      t.rings.transit = (s.rings.transit.erase x).map (fun y =>
        if (s.candidates n x.ring x.stop).contains y then { y with waited := y.waited + hdrFlits x.packet.header } else y) ++
          [{ x with stop := nextStop n x.ring x.stop, channel := x.nextChannel n, injecting := false, waited := 0 }] := by
  have hrings := s.headerCounted_rings fl
  have hoff' : (s.headerCounted fl).entry 0x2B0001 = 0 := by
    unfold headerCounted
    split
    · exact hoff
    · exact (entry_bump_ne hd (by decide)).trans hoff
  have hheader : (s.headerCounted fl).DictCanonical := (s.headerCounted_kept fl).dict hd
  obtain ⟨f, hcarry⟩ := carry_counts hheader hoff' n x
  have hlink : (((s.headerCounted fl).linkCounted n x).withRings f).entry 0x2B0001 = 0 := by
    show ((s.headerCounted fl).linkCounted n x).entry 0x2B0001 = 0
    unfold linkCounted
    split
    · exact (entry_bump_ne hheader (by decide)).trans hoff'
    · exact hoff'
  have hmoves := (s.headerCounted fl).carry_rings n x
  rw [hcarry, hrings, candidates_of_rings hrings] at hmoves
  rw [passStop_moves hhead hflips hdest hwins, hcarry, countEvent_off hlink] at ht
  rw [ht]
  exact ⟨⟨f, rfl⟩, hmoves⟩

/-! ### A packet at its source -/

section
variable {s : State} {n r st : Nat} {q : RingPacket}

/-- The injection queue of the source holds nothing else: the packet heads it. -/
theorem State.isHead_inject (hfree : s.rings.transit.any (fun y => y.ring == r && (y.stop == st || y.stop == nextStop n r st)) = false) :
    (s.inject (Transit.atSource r st q)).isHead (Transit.atSource r st q) = true := by
  have hnone : s.rings.transit.find? (Transit.sameQueue (Transit.atSource r st q)) = none := by
    rw [List.find?_eq_none]
    intro y hy hsame
    have hout := List.any_eq_false.1 hfree y hy
    simp only [Transit.sameQueue, Bool.and_eq_true, beq_iff_eq] at hsame
    simp [← hsame.1.1.1.1, ← hsame.1.1.1.2, Transit.atSource] at hout
  show ((s.rings.transit ++ [_]).find? _ == some _) = true
  rw [List.find?_append, hnone]
  simp [Transit.sameQueue]

/-- With the next stop free as well, the link has that one candidate. -/
theorem State.candidates_inject (hfree : s.rings.transit.any (fun y => y.ring == r && (y.stop == st || y.stop == nextStop n r st)) = false)
    (hdest : hdrDest q.header ≠ st) : (s.inject (Transit.atSource r st q)).candidates n r st = [(Transit.atSource r st q)] := by
  have hflits : hdrFlits q.header ≤ 8 := Nat.succ_le_of_lt (Nat.mod_lt _ (by decide))
  have hroom : (s.rings.transit ++ [(Transit.atSource r st q)]).filter (Transit.sameQueue
      ⟨r, nextStop n r st, Transit.nextChannel n (Transit.atSource r st q), false, 0, q⟩) = [] := by
    rw [List.filter_eq_nil_iff]
    intro y hy hsame
    simp only [Transit.sameQueue, Bool.and_eq_true, beq_iff_eq] at hsame
    obtain ⟨⟨⟨⟨hring, hstop⟩, -⟩, hinjecting⟩, -⟩ := hsame
    rcases List.mem_append.1 hy with hy | hy
    · have hout := List.any_eq_false.1 hfree y hy
      simp [← hring, ← hstop] at hout
    · rw [List.mem_singleton.1 hy] at hinjecting
      exact Bool.false_ne_true hinjecting
  have hcredit : (s.inject (Transit.atSource r st q)).hasCredit n (Transit.atSource r st q) = true :=
     (congrArg (fun l => decide (List.foldl (fun k z => k + Transit.credits z) (hdrFlits q.header) l ≤ 8)) hroom).trans
      (decide_eq_true hflits)
  have hothers : (s.rings.transit.filter fun y => y.ring == r && y.stop == st && hdrDest y.packet.header != st &&
      (s.inject (Transit.atSource r st q)).isHead y && (s.inject (Transit.atSource r st q)).hasCredit n y) = [] := by
    rw [List.filter_eq_nil_iff]
    intro y hy hwants
    have hout := List.any_eq_false.1 hfree y hy
    simp only [Bool.and_eq_true, beq_iff_eq] at hwants
    simp [hwants.1.1.1.1, hwants.1.1.1.2] at hout
  show (s.rings.transit ++ [_]).filter _ = _
  rw [List.filter_append, hothers, List.nil_append, List.filter_cons_of_pos, List.filter_nil]
  rw [isHead_inject hfree, hcredit, Bool.and_true, Bool.and_true]
  simpa [Transit.atSource] using hdest

/-- The link takes its only candidate, which starves nothing. -/
theorem State.linkWinner_of_candidates {n : Nat} {x : Transit} (hone : s.candidates n r st = [x]) (hfresh : x.waited = 0) :
    s.linkWinner n r st = some x ∧ s.starving n r st = none := by
  have hstarving : s.starving n r st = none := by
    unfold starving
    rw [hone]
    simp [hfresh]
  refine ⟨?_, hstarving⟩
  unfold linkWinner
  rw [hstarving, hone]
  simp only [List.all_cons, List.all_nil, Bool.and_true, Nat.le_refl, decide_true, List.filter_cons_of_pos, List.filter_nil]
  rw [List.find?_singleton]
  by_cases hturn : (x.injecting != (s.linkTurn r st).injected) = true
  · rw [if_pos hturn]
  · rw [if_neg hturn]
    rfl

end

theorem State.inject_outstanding (s : State) (r st : Nat) (q : RingPacket) :
    (s.inject (.atSource r st q)).rings.outstanding = s.rings.outstanding ++
      (if isRequest q.header then [⟨hdrTag q.header, hdrRequester q.header, q.address⟩] else []) := by
  show (if isRequest q.header then _ else _) = _
  split
  · rfl
  · exact (List.append_nil _).symm

/-! ### What RING_PACKET does: injection, the link, a header that cannot be corrected -/

section
variable {s : State} {n r st : Nat} {o : StopOwner} {p q : RingPacket} (h : RingRoute s n r st o q) (hp : q = packetSent p)
include h hp

theorem RingRoute.injects_behind (hst : st = hdrSrc q.header)
    (hqueue : s.rings.transit.any (Transit.sameQueue (.atSource r st q)) = true)
    (hnone : s.rings.transit.any (fun y => y.ring == r && y.stop == st && y.packet == q) = false) :
    Completes (.ringPacket r st ⟨p, 0⟩) s fun t => t = s.inject (.atSource r st q) := by
  have hbehind : (s.inject (.atSource r st q)).isHead (.atSource r st q) = false := by
    obtain ⟨y, hfind⟩ := Option.isSome_iff_exists.1 (List.find?_isSome.2 (List.any_eq_true.1 hqueue))
    have hother : y ≠ .atSource r st q := by
      rintro rfl
      have hout := List.any_eq_false.1 hnone _ (List.mem_of_find?_eq_some hfind)
      simp [Transit.atSource] at hout
    show ((s.rings.transit ++ [_]).find? _ == some _) = false
    rw [List.find?_append, hfind]
    simpa using hother
  exact ⟨_, (h.exec_source hp hnone hst 0).trans (congrArg Host.Outcome.next (State.passStop_behind hbehind)), rfl⟩

theorem RingRoute.injects_and_moves (hd : s.DictCanonical) (hoff : s.entry 0x2B0001 = 0) (hst : st = hdrSrc q.header)
    (hfree : s.rings.transit.any (fun y => y.ring == r && (y.stop == st || y.stop == nextStop n r st)) = false) :
    Completes (.ringPacket r st ⟨p, 0⟩) s fun t =>
      t.rings.transit = s.rings.transit ++ [⟨r, nextStop n r st, if st = (if r < 2 then n - 1 else 0) then 1 else 0, false, 0, q⟩] ∧
      t.rings.granted = s.rings.granted + hdrFlits q.header ∧
      t.rings.outstanding = (s.inject (.atSource r st q)).rings.outstanding ∧
      t.rings.returned = s.rings.returned ∧ s.sameBut [.rings] t := by
  let x : Transit := .atSource r st q
  have hdest : hdrDest q.header ≠ st := hst ▸ h.apart.symm
  have hone := State.candidates_inject hfree hdest
  obtain ⟨hwins, hstarving⟩ := State.linkWinner_of_candidates hone rfl
  have hnone : s.rings.transit.any (fun y => y.ring == r && y.stop == st && y.packet == q) = false := by
    rw [List.any_eq_false] at hfree ⊢
    intro y hy hsame
    have hout := hfree y hy
    simp only [Bool.and_eq_true] at hsame
    simp [hsame.1.1, hsame.1.2] at hout
  have hnew : x ∉ s.rings.transit := fun hx => by simpa [x, Transit.atSource] using List.any_eq_false.1 hfree x hx
  obtain ⟨⟨f, hframe⟩, hreturned, hgranted, houtstanding, htransit⟩ := State.passStop_carried (s := s.inject x) hd hoff
    (State.isHead_inject hfree) (by decide) hdest hwins (o := o) (fl := 0) rfl
  have hcounted : ((s.inject x).headerCounted 0).linkCounted n x = s.inject x := by
    have hheader : (s.inject x).headerCounted 0 = s.inject x := if_pos bitsWrong_zero
    rw [hheader, State.linkCounted, if_neg]
    rw [show (s.inject x).starving n x.ring x.stop = none from hstarving]
    exact Option.some_ne_none x ∘ Eq.symm
  refine ⟨_, h.exec_source hp hnone hst 0, ?_, hgranted, houtstanding, hreturned, ?_⟩
  · have herase : (s.inject x).rings.transit.erase x = s.rings.transit := by
      show (s.rings.transit ++ [x]).erase x = _
      rw [List.erase_append_right _ hnew, List.erase_cons_head, List.append_nil]
    rw [htransit, herase, show (s.inject x).candidates n x.ring x.stop = [x] from hone, List.map_congr_left (g := id), List.map_id]
    · rfl
    · intro y hy
      refine if_neg fun hmem => ?_
      have hyx : y = x := by simpa using hmem
      exact hnew (hyx ▸ hy)
  · rw [hframe, hcounted]
    exact ((s.inject_kept x).trans (State.withRings_kept ..)).up.sameBut_mask

end

/-! ### What a packet at the head of its queue does (R326, R329) -/

section
variable {s : State} {n : Nat} {o : StopOwner} {p : RingPacket} {x : Transit} (h : RingRoute s n x.ring x.stop o x.packet) (hp : x.packet = packetSent p)
  (hx : s.rings.transit.find? (fun y => y.ring == x.ring && y.stop == x.stop && y.packet == x.packet) = some x)
  (hhead : s.isHead x = true)
include h hp hx hhead

/-- A packet whose header cannot be corrected goes no further. -/
theorem RingRoute.discarded (hd : s.DictCanonical) {fl : Nat} (hflips : bitsWrong fl = 2) :
    Completes (.ringPacket x.ring x.stop ⟨p, fl⟩) s fun t => t.entry 0x2D0402 = sat32 (s.entry 0x2D0402) 1 ∧
      t.rings = { s.rings with returned := s.rings.returned + x.credits, transit := s.rings.transit.erase x } ∧
      t.log.active.any (fun f => f.code == 0x6102 && f.source == o.source) = true ∧ t.mem = s.mem := by
  have he := (h.exec_waiting hp hx fl).trans (congrArg Host.Outcome.next (State.passStop_discards hhead (headerCheck_uncorrectable hflips _)))
  let arg := Config.packArg 0x6102 [x.stop, x.ring]
  have hlog := ((s.leaveStop x).bump 0x2D0402).logAs_kept 0x6102 .stop o.source arg
  have hstop := (((s.leaveStop x).bump 0x2D0402).logAs 0x6102 .stop o.source arg).raiseStop_kept 7 hubUnit 0x6102
  refine ⟨_, he, ?_, ?_, ?_, (s.discardPacket_kept o x).mem_eq⟩
  · exact (hstop.setting_eq _).trans ((hlog.setting_eq _).trans (State.entry_bump_same (s := s.leaveStop x) hd _))
  · exact (hstop.agree .rings).trans ((hlog.agree .rings).trans rfl)
  · unfold State.discardPacket
    rw [hstop.agree .log]
    exact State.logAs_active_source (row := ⟨0x6102, .error, .stop⟩) (by decide +kernel) rfl _ _ _

theorem RingRoute.waits (hdest : x.stop ≠ hdrDest x.packet.header) (hloses : s.linkWinner n x.ring x.stop ≠ some x) :
    Completes (.ringPacket x.ring x.stop ⟨p, 0⟩) s fun t => s.sameBut [] t :=
  ⟨s, (h.exec_waiting hp hx 0).trans (congrArg Host.Outcome.next
    (State.passStop_waits hhead (headerCheck_clean bitsWrong_zero _) (hdest.symm) hloses)), (Kept.refl s).sameBut_mask⟩

theorem RingRoute.moves (hd : s.DictCanonical) (hoff : s.entry 0x2B0001 = 0) {fl : Nat} (hdest : x.stop ≠ hdrDest x.packet.header)
    (hwins : s.linkWinner n x.ring x.stop = some x) (hflips : bitsWrong fl ≤ 1) :
    Completes (.ringPacket x.ring x.stop ⟨p, fl⟩) s fun t =>
      t.rings.returned = s.rings.returned + x.credits ∧ t.rings.granted = s.rings.granted + hdrFlits x.packet.header ∧
      t.rings.outstanding = s.rings.outstanding ∧
      t.rings.transit = (s.rings.transit.erase x).map (fun y =>
        if (s.candidates n x.ring x.stop).contains y then { y with waited := y.waited + hdrFlits x.packet.header } else y) ++
          [{ x with stop := nextStop n x.ring x.stop, channel := x.nextChannel n, injecting := false, waited := 0 }] ∧
      t.entry 0x2D0401 = (if bitsWrong fl = 0 then s.entry 0x2D0401 else sat32 (s.entry 0x2D0401) 1) ∧
      t.entry 0x2D0405 = (if s.starving n x.ring x.stop = some x then sat32 (s.entry 0x2D0405) 1 else s.entry 0x2D0405) ∧
      s.sameBut [.rings, .dict] t := by
  obtain ⟨⟨f, hframe⟩, hreturned, hgranted, houtstanding, htransit⟩ :=
    State.passStop_carried hd hoff hhead hflips (hdest.symm) hwins (o := o) rfl
  obtain ⟨hcorrected, hgrants⟩ := State.entry_counted hd fl n x
  refine ⟨_, h.exec_waiting hp hx fl, hreturned, hgranted, houtstanding, htransit, ?_, ?_, ?_⟩
  · rw [hframe]
    exact hcorrected
  · rw [hframe]
    exact hgrants
  · rw [hframe]
    exact (((s.headerCounted_kept fl).trans (State.linkCounted_kept ..)).up.trans (State.withRings_kept ..).up).sameBut_mask

end

/-! ### The destination (R325, R327, R332, R333) -/

/-- Nothing turns a packet away at a stop that is powered and whose domain is awake. -/
theorem State.eject_delivers {s : State} {o : StopOwner} (hawake : s.asleep = false)
    (hdomain : ∀ d, o.domain = some d → s.domainAsleep d = false) (stop : Nat) (p : RingPacket) : s.eject stop o p = s.deliver stop p := by
  unfold eject
  rw [hawake]
  cases hd : o.domain with
  | none => rfl
  | some d => simp [hdomain d hd]

theorem State.eject_holds {s : State} {o : StopOwner} (hawake : s.asleep = false) {d : Nat} (hd : o.domain = some d)
    (hdomain : s.domainAsleep d = true) (stop : Nat) (p : RingPacket) : s.eject stop o p = s.holdFor d (.packet p) := by
  unfold eject
  rw [hawake, hd]
  simp [hdomain]

/-- An answer that comes for anything but the debug port only joins the completions. -/
theorem State.complete_of_ne {req : Nat} (hreq : req ≠ 2) (s : State) (a : Answer) :
    s.complete req a = s.withRings fun r => { r with completions := r.completions ++ [(req, a)] } := if_neg hreq

theorem State.sendAnswer_ejected (s : State) (stop : Nat) (p : RingPacket) (a : Answer) :
    (s.sendAnswer stop p a).rings.ejected = s.rings.ejected := rfl

/-- The request that an answer names waits no longer. -/
theorem State.answered_found {s : State} {hdr : Nat} {y : Outstanding} (hreq : y.requester ≠ 2)
    (hy : s.rings.outstanding.find? (fun z => z.tag == hdrTag hdr && z.requester == hdrRequester hdr) = some y) (a : Answer) :
    s.answered hdr a = s.withRings fun r =>
      { r with outstanding := r.outstanding.erase y, completions := r.completions ++ [(y.requester, a)] } := by
  unfold answered
  rw [hy]
  exact complete_of_ne hreq _ a

section
variable {s : State} {n : Nat} {o : StopOwner} {p : RingPacket} {x : Transit} (h : RingRoute s n x.ring x.stop o x.packet) (hp : x.packet = packetSent p)
  (hx : s.rings.transit.find? (fun y => y.ring == x.ring && y.stop == x.stop && y.packet == x.packet) = some x)
  (hhead : s.isHead x = true) (hdest : x.stop = hdrDest x.packet.header)
include h hp hx hhead hdest

theorem RingRoute.exec_ejects :
    exec (.ringPacket x.ring x.stop ⟨p, 0⟩) s = .next ((s.leaveStop x).eject x.stop o x.packet) := by
  rw [h.exec_waiting hp hx, State.passStop_ejects hhead (headerCheck_clean bitsWrong_zero _) (hdest.symm)]

theorem RingRoute.delivered (hawake : s.asleep = false) (hdomain : ∀ d, o.domain = some d → s.domainAsleep d = false)
    (hanswer : isAnswer x.packet.header = false) (hrequest : isRequest x.packet.header = false) :
    Completes (.ringPacket x.ring x.stop ⟨p, 0⟩) s fun t =>
      t.rings = { s.rings with returned := s.rings.returned + x.credits, transit := s.rings.transit.erase x
                               ejected := s.rings.ejected ++ [(x.stop, x.packet.header)] } ∧ s.sameBut [.rings] t := by
  have hleave := s.withRings_kept fun r => { r with
    returned := r.returned + x.credits, transit := r.transit.erase x, ejected := r.ejected ++ [(x.stop, x.packet.header)] }
  have he := h.exec_ejects hp hx hhead hdest
  rw [State.eject_delivers (s := s.leaveStop x) hawake hdomain, State.deliver] at he
  simp only [hanswer, hrequest, Bool.false_and, Bool.false_eq_true, if_false] at he
  exact ⟨_, he, rfl, hleave.up.sameBut_mask⟩

theorem RingRoute.answers (hawake : s.asleep = false) (hdomain : ∀ d, o.domain = some d → s.domainAsleep d = false)
    (hanswer : isAnswer x.packet.header = true) {y : Outstanding} (hreq : y.requester ≠ 2)
    (hy : s.rings.outstanding.find? (fun z => z.tag == hdrTag x.packet.header && z.requester == hdrRequester x.packet.header) =
      some y) :
    Completes (.ringPacket x.ring x.stop ⟨p, 0⟩) s fun t => t.rings.outstanding = s.rings.outstanding.erase y ∧
      t.rings.completions = s.rings.completions ++
        [(y.requester, if hdrType x.packet.header = 9 then .error else .ok x.packet.data)] ∧
      t.rings.ejected = s.rings.ejected ++ [(x.stop, x.packet.header)] ∧ s.sameBut [.rings] t := by
  let u := (s.leaveStop x).withRings fun r => { r with ejected := r.ejected ++ [(x.stop, x.packet.header)] }
  have he := h.exec_ejects hp hx hhead hdest
  rw [State.eject_delivers (s := s.leaveStop x) hawake hdomain, State.deliver] at he
  simp only [hanswer, if_true] at he
  have hu : Kept 0x10000000 s u := (s.leaveStop_kept x).trans (State.withRings_kept ..)
  exact ⟨_, he.trans (congrArg Host.Outcome.next (State.answered_found (s := u) hreq hy _)), rfl, rfl, rfl,
    (hu.trans (State.withRings_kept ..)).up.sameBut_mask⟩

theorem RingRoute.heldForWake {d : Nat} (hawake : s.asleep = false) (hd : o.domain = some d) (hdomain : s.domainAsleep d = true) :
    Completes (.ringPacket x.ring x.stop ⟨p, 0⟩) s fun t => t.rings.held = s.rings.held ++ [(d, .packet x.packet)] ∧
      t.rings.ejected = s.rings.ejected ∧ s.sameBut [.rings, .dict] t := by
  have he := h.exec_ejects hp hx hhead hdest
  rw [State.eject_holds (s := s.leaveStop x) hawake hd hdomain] at he
  have hrings : (if (s.leaveStop x).rings.held.any fun h => h.1 == d then s.leaveStop x else (s.leaveStop x).bump 0x2D0403).rings =
      (s.leaveStop x).rings := by split <;> rfl
  refine ⟨_, he, ?_, ?_, ((s.leaveStop_kept x).up.trans (State.holdFor_kept ..).up).sameBut_mask⟩
  · show (if _ then _ else _ : State).rings.held ++ _ = _
    rw [hrings]
    rfl
  · show (if _ then _ else _ : State).rings.ejected = _
    rw [hrings]
    rfl

theorem RingRoute.poweredOff (hasleep : s.asleep = true) (hoff : o.sleepsOff = true) :
    Completes (.ringPacket x.ring x.stop ⟨p, 0⟩) s fun t => s.logged t 0x6111 o.source 0 ∧ t.rings.ejected = s.rings.ejected := by
  have he := h.exec_ejects hp hx hhead hdest
  have heject : (s.leaveStop x).eject x.stop o x.packet = if isRequest x.packet.header then
      ((s.leaveStop x).poweredOff o).sendAnswer x.stop x.packet .error else (s.leaveStop x).poweredOff o := by
    unfold State.eject
    rw [show (s.leaveStop x).asleep = true from hasleep, hoff, Bool.and_self, if_pos rfl]
  have hrings : ((s.leaveStop x).poweredOff o).rings = (s.leaveStop x).rings := (State.poweredOff_kept ..).agree .rings
  have hejected : ((s.leaveStop x).poweredOff o).rings.ejected = s.rings.ejected := (congrArg Rings.ejected hrings).trans rfl
  have hlogged : s.logged ((s.leaveStop x).poweredOff o) 0x6111 o.source 0 := by
    unfold State.poweredOff
    exact ((s.leaveStop x).log1_logged 0x6111 o.source 0).of rfl rfl
  rw [heject] at he
  refine ⟨_, he, ?_⟩
  split
  · exact ⟨hlogged.of rfl rfl, (State.sendAnswer_ejected ..).trans hejected⟩
  · exact ⟨hlogged, hejected⟩

end

/-! ### Sleep and timeouts (R327, R332, R333) -/

theorem domainSleep_sleeps {s : State} {d : Nat} (hfitted : s.controllerFitted d = true) (hhalt : s.sec.halted = false)
    (hmode : s.modeIn quietModes = true) (hawake : s.domainAsleep d = false) (hidle : d < 4 ∨ s.ddrBusy = false) :
    Completes (.domainSleep d) s fun t => t.rings.sleeping = s.rings.sleeping ++ [d] ∧ s.sameBut [.rings] t := by
  have hidle : (decide (d < 4) || !s.ddrBusy) = true := by simpa using hidle
  refine ⟨s.withRings fun r => { r with sleeping := r.sleeping ++ [d] }, congrArg Host.Outcome.next (if_pos ?_), rfl,
    (s.withRings_kept _).up.sameBut_mask⟩
  rw [hfitted, hhalt, hmode, hawake, hidle]
  rfl

theorem domainWakeTimeout_fails {s : State} (hd : s.DictCanonical) {d : Nat} {x : SysAccess}
    (hheld : s.rings.held.filter (fun h => h.1 == d) = [(d, .access x)]) (hreq : x.req ≠ 2) :
    Completes (.domainWakeTimeout d) s fun t => t.rings.held = s.rings.held.filter (fun h => h.1 != d) ∧
      t.rings.completions = s.rings.completions ++ [(x.req, errorAnswer x.req false)] ∧ s.logged t 0x6110 (domainSource d) 0 ∧
      t.entry 0x2D0404 = sat32 (s.entry 0x2D0404) 1 ∧ t.mem = s.mem := by
  let f (r : Rings) : Rings := { r with
    held := r.held.filter fun h => h.1 != d, completions := r.completions ++ [(x.req, errorAnswer x.req false)] }
  have he : exec (.domainWakeTimeout d) s = .next (((s.withRings f).log1 0x6110 (domainSource d) 0).bump 0x2D0404) := by
    show execDomainWakeTimeout d s = _
    unfold execDomainWakeTimeout
    rw [hheld]
    refine congrArg (fun t => Host.Outcome.next ((State.log1 t 0x6110 (domainSource d) 0).bump 0x2D0404)) ?_
    exact State.complete_of_ne hreq _ _
  have hlog := (s.withRings f).log1_quiet 0x6110 (domainSource d) 0
  have hrings := hlog.agree .rings
  refine ⟨_, he, congrArg Rings.held hrings, congrArg Rings.completions hrings, ?_, ?_, ?_⟩
  · exact ((s.withRings f).log1_logged 0x6110 (domainSource d) 0).of rfl rfl
  · exact (State.entry_bump_same (hlog.dict hd) _).trans (congrArg (sat32 · 1) (hlog.setting_eq _))
  · exact ((s.withRings_kept f).up.trans (hlog.up.trans (State.bump_kept ..).up) : Kept 0x10000042 _ _).mem_eq

theorem requestTimeout_answers {s : State} (hd : s.DictCanonical) {tag : Nat} {x : Outstanding}
    (hx : s.rings.outstanding.find? (fun y => y.tag == tag) = some x) (hreq : x.requester ≠ 2) :
    Completes (.requestTimeout tag) s fun t => t.rings.outstanding = s.rings.outstanding.erase x ∧
      t.entry 0x2D0406 = sat32 (s.entry 0x2D0406) 1 ∧
      t.rings.completions = s.rings.completions ++ [(x.requester, timeoutAnswer x.requester)] ∧
      (s.run.timeoutLogged.contains x.requester = false → s.logged t 0x6104 srcHub (addressArg x.requester x.address)) ∧
      (s.run.timeoutLogged.contains x.requester = true → t.log = s.log) ∧ t.run.mode = s.run.mode ∧ t.mem = s.mem := by
  let u := (s.withRings fun r => { r with outstanding := r.outstanding.erase x }).bump 0x2D0406
  have hcount : u.entry 0x2D0406 = sat32 (s.entry 0x2D0406) 1 :=
    State.entry_bump_same (s := s.withRings fun r => { r with outstanding := r.outstanding.erase x }) hd _
  have hu : Kept 0x10000002 s u := (State.withRings_kept ..).up.trans (State.bump_kept ..).up
  have hlog := u.logDetail_quiet 0x6104 .refused srcHub (addressArg x.requester x.address) x.address 0
  let v := u.logDetail 0x6104 .refused srcHub (addressArg x.requester x.address) x.address 0
  have he : exec (.requestTimeout tag) s = .next ((if s.run.timeoutLogged.contains x.requester then u
      else { v with run := { s.run with timeoutLogged := x.requester :: s.run.timeoutLogged } }).withRings fun r =>
        { r with completions := r.completions ++ [(x.requester, timeoutAnswer x.requester)] }) := by
    show execRequestTimeout tag s = _
    unfold execRequestTimeout
    rw [hx]
    exact congrArg Host.Outcome.next (State.complete_of_ne hreq _ _)
  cases hseen : s.run.timeoutLogged.contains x.requester with
  | true =>
    rw [hseen] at he
    exact ⟨_, he, rfl, hcount, rfl, fun hnot => absurd hnot Bool.noConfusion, fun _ => rfl, rfl, rfl⟩
  | false =>
    rw [hseen] at he
    have hrings : v.rings = u.rings := hlog.agree .rings
    refine ⟨_, he, congrArg Rings.outstanding hrings, (hlog.setting_eq _).trans hcount, ?_, fun _ => ?_,
      fun hyes => absurd hyes Bool.noConfusion, rfl, (hu.up.trans hlog.up : Kept 0x10000042 _ _).mem_eq⟩
    · show v.rings.completions ++ _ = s.rings.completions ++ _
      rw [hrings]
      rfl
    · exact (u.logDetail_logged 0x6104 .refused srcHub (addressArg x.requester x.address) x.address 0).of rfl rfl

end Sys2Proof.Machine

open Sys2Proof Sys2Proof.Machine

/-- Settles O39: a packet by the lemma of what it does at its source, at the head of its queue and at its destination, once its route is
known; the three other commands by their own. -/
theorem ringAndDomainEventsTakeEffect : Obligations.RingAndDomainEventsTakeEffect := by
  intro s a b n next st r ch p q hd hoff hn hq ha hb han hbn hab htype hr hnext
  subst ha hb hnext
  refine ⟨fun o howner hclock => ?_, fun _ => domainSleep_sleeps, fun _ _ _ => domainWakeTimeout_fails hd,
    fun _ _ => requestTimeout_answers hd⟩
  have hroute : RingRoute s n r st o q := ⟨hn, howner, hclock, han, hbn, hab, htype, hr⟩
  refine ⟨fun hst hch => ⟨fun hfree => ?moves, fun hqueue hnone => ?queues⟩, fun x hx hhead => ?head⟩
  case moves =>
    subst hst hch
    rw [← State.inject_outstanding s r (hdrSrc q.header)]
    exact hroute.injects_and_moves hq hd hoff rfl hfree
  case queues =>
    obtain ⟨t, he, rfl⟩ := hroute.injects_behind hq hst hqueue hnone
    rw [← State.inject_outstanding s r st]
    exact ⟨_, he, rfl, (s.inject_kept _).up.sameBut_mask⟩
  case head =>
    obtain ⟨rfl, rfl, rfl⟩ : x.ring = r ∧ x.stop = st ∧ x.packet = q := by simpa [and_assoc] using List.find?_some hx
    exact ⟨hroute.waits hq hx hhead, fun _ => hroute.moves hq hx hhead hd hoff, fun _ => hroute.discarded hq hx hhead hd,
      fun hdest hawake hdomain => ⟨hroute.delivered hq hx hhead hdest hawake hdomain,
        fun _ hanswer hreq => hroute.answers hq hx hhead hdest hawake hdomain hanswer hreq⟩,
      fun _ hdest => hroute.heldForWake hq hx hhead hdest, hroute.poweredOff hq hx hhead⟩

end

section
/-! The guest die behind its firewall (R343 to R350): the accesses of its windows, the aperture, the link, its power, and the windows. -/

set_option Elab.async false

namespace Sys2Proof.Machine

/-! ### Accesses to the scratchpad -/

theorem State.controllers_below {s : State} {addr : Nat} (h : addr < hbmStart) (len : Nat) : s.controllers addr len = [] := if_pos (.inl h)

/-- Every control region lies in DDR5 (R468). -/
theorem State.ddrStart_le_of_mem_controlRegions {s : State} {r : Nat × Nat} (h : r ∈ s.controlRegions) : ddrStart ≤ r.1 := by
  unfold controlRegions at h
  split at h
  · cases h
  · simp only [List.mem_cons, List.not_mem_nil, or_false] at h
    obtain rfl | rfl | rfl | rfl | rfl | rfl := h
    all_goals simp only; omega

theorem State.tagged_below {s : State} {addr len : Nat} (h : addr + len ≤ ddrStart) : s.tagged addr len = false := by
  refine List.any_eq_false.2 fun r hr => ?_
  have := s.ddrStart_le_of_mem_controlRegions hr
  rw [decide_eq_true_eq]
  omega

/-- An access to the scratchpad below the secure part meets no controller and no tag: its bytes move. -/
theorem State.memoryAccess_scratchpad {s : State} {a : SysAccess} (hend : a.addr + accessLen a ≤ secureBase)
    (hwipe : s.sec.wiping = false) : s.memoryAccess a = s.moveBytes a := by
  have hhbm : a.addr < hbmStart := Nat.lt_of_le_of_lt (Nat.le_of_add_right_le hend) (by decide)
  have htag : s.tagged a.addr (accessLen a) = false := State.tagged_below (Nat.le_trans hend (by decide))
  unfold memoryAccess performMemory
  simp only [hwipe, State.controllers_below hhbm, countSystem, htag, Bool.false_and, Bool.false_eq_true, if_false]

theorem State.byteAt_writeBytes_inside {s : State} (hm : Sparse.wf zeroByte s.mem.bytes = true) (addr : Nat) {bs : List Byte} {i : Nat}
    (hi : i < bs.length) : (s.writeBytes addr bs).byteAt (addr + i) = bs.getD i 0 :=
  (Sparse.get_setRun_in zeroByte _ _ _ _ hm hi).trans (List.getElem_eq_getD (h := hi) 0)

theorem State.byteAt_writeBytes_outside {s : State} (hm : Sparse.wf zeroByte s.mem.bytes = true) {addr z : Nat} {bs : List Byte}
    (hz : z < addr ∨ addr + bs.length ≤ z) : (s.writeBytes addr bs).byteAt z = s.byteAt z :=
  Sparse.get_setRun_out zeroByte _ _ _ _ hm hz

/-! ### The firewall -/

/-- An access that its window and the guest's rights grant, at the mapped address `y` in the scratchpad, with no rate limit. -/
structure ScratchAccess (s : State) (a : GuestAccess) (w y : Nat) : Prop where
  window : s.windowOfAccess a = some w
  mapped : y = (s.guestWindow w).moduleBase + (a.addr - (s.guestWindow w).guestBase)
  grants : (s.guestWindow w).grants a = true
  rate : (s.guestWindow w).rate = 0
  permits : s.permits guestRequester y a.data.length a.op = true
  inside : y + a.data.length ≤ secureBase
  stands : s.sec.wiping = false

section
variable {s : State} (hup : s.guest.state = 3) (hrun : s.sec.halted = false)
include hup hrun

theorem State.guest_reached : (!s.guestUp || s.sec.halted) = false := by simp [guestUp, hup, hrun]

theorem exec_guestAccess_inside {a : GuestAccess} {w : Nat} (hw : s.windowOfAccess a = some w) :
    exec (.guestAccess a) s = .next (if (s.guestWindow w).grants a then s.guestRate w a else s.guestDenied w) := by
  show execGuestAccess a s = _
  unfold execGuestAccess
  simp only [State.guest_reached hup hrun, hw, Bool.false_eq_true, if_false]

theorem exec_guestAccess_outside {a : GuestAccess} (hw : s.windowOfAccess a = none) :
    exec (.guestAccess a) s = .next (if s.guestAperture = 0 ∨ s.inAperture a.addr = false then s.guestDenied 8
      else if a.op = .read ∧ a.data.length = 8 then s.apertureRead a.addr else s.reply .error) := by
  show execGuestAccess a s = _
  unfold execGuestAccess
  simp only [State.guest_reached hup hrun, hw, Bool.false_eq_true, if_false]

section
variable {a : GuestAccess} {w y : Nat} (h : ScratchAccess s a w y)
include h

theorem ScratchAccess.exec_eq : exec (.guestAccess a) s = .next (s.moveBytes ⟨guestRequester, a.op, y, a.data, true⟩) := by
  obtain ⟨hw, rfl, hgrants, hrate, hpermits, hend, hwipe⟩ := h
  rw [exec_guestAccess_inside hup hrun hw, if_pos hgrants, State.guestRate, if_pos hrate, State.guestMemory, if_pos hpermits,
    State.memoryAccess_scratchpad hend hwipe]

theorem ScratchAccess.writes (hm : Sparse.wf zeroByte s.mem.bytes = true) (hop : a.op = .write) :
    Completes (.guestAccess a) s fun t => t.answer = .ok 0 ∧ (∀ i < a.data.length, t.byteAt (y + i) = a.data.getD i 0) ∧
      (∀ z : Nat, z < y ∨ y + a.data.length ≤ z → t.byteAt z = s.byteAt z) ∧
      s.sameBut [.answer, .mgmtClock, .memBytes, .dict, .cores, .host] t := by
  have he := h.exec_eq hup hrun
  rw [State.moveBytes, hop] at he
  exact ⟨(s.writeBytes y a.data).reply (.ok 0), he, rfl, fun _ => State.byteAt_writeBytes_inside hm y,
    fun _ => State.byteAt_writeBytes_outside hm, ((s.writeBytes_kept y a.data).up.trans (State.reply_kept ..).up).sameBut_mask⟩

theorem ScratchAccess.reads (hop : a.op = .read) :
    Completes (.guestAccess a) s fun t => t.answer = .ok (ofBytes (s.readBytes y a.data.length)) ∧
      s.sameBut [.answer, .mgmtClock, .dict, .cores, .host] t := by
  have he := h.exec_eq hup hrun
  rw [State.moveBytes, hop] at he
  exact ⟨s.reply (.ok (ofBytes (s.readBytes y a.data.length))), he, rfl, (s.reply_kept _).up.sameBut_mask⟩

end

/-- An access for which its window has too few tokens waits, and is counted (R347). -/
theorem guestAccess_waits (hd : s.DictCanonical) {a : GuestAccess} {w : Nat} (hw : s.windowOfAccess a = some w)
    (hgrants : (s.guestWindow w).grants a = true) (hrate : (s.guestWindow w).rate ≠ 0)
    (hfew : s.guest.tokens.getD w 0 < a.data.length * 1000) :
    Completes (.guestAccess a) s fun t => t.answer = .waiting ∧
      t.guest = { s.guest with waiting := s.guest.waiting ++ [(w, a)] } ∧ t.entry 0x381802 = sat32 (s.entry 0x381802) 1 ∧
      t.mem = s.mem := by
  have he : exec (.guestAccess a) s = .next (((s.withGuest fun g => { g with waiting := g.waiting ++ [(w, a)] }).bump 0x381802).reply
      .waiting) := by
    rw [exec_guestAccess_inside hup hrun hw, if_pos hgrants, State.guestRate, if_neg hrate,
      if_neg fun h => Nat.not_le.2 hfew h.1]
  exact ⟨_, he, rfl, rfl,
    State.entry_bump_same (s := s.withGuest fun g => { g with waiting := g.waiting ++ [(w, a)] }) hd _, rfl⟩

end

/-- A denied access is an error, is counted, and is logged once per window. -/
theorem State.guestDenied_effect {s : State} (hd : s.DictCanonical) (w : Nat) :
    (s.guestDenied w).answer = .error ∧ (s.guestDenied w).entry 0x381801 = sat32 (s.entry 0x381801) 1 ∧
      (s.guest.logged.contains w = false →
        s.logged (s.guestDenied w) 0x7401 srcGuest 0 ∧ (s.guestDenied w).guest.logged = w :: s.guest.logged) ∧
      (s.guest.logged.contains w = true → (s.guestDenied w).log = s.log) ∧ (s.guestDenied w).mem = s.mem := by
  have hcount : (s.bump 0x381801).entry 0x381801 = sat32 (s.entry 0x381801) 1 := State.entry_bump_same hd _
  have hmem := (s.guestDenied_kept w).mem_eq
  cases hseen : s.guest.logged.contains w with
  | true =>
    have heq : s.guestDenied w = (s.bump 0x381801).reply .error := congrArg (State.reply · .error) (if_pos hseen)
    rw [heq] at hmem ⊢
    exact ⟨rfl, hcount, fun h => absurd h Bool.noConfusion, fun _ => rfl, hmem⟩
  | false =>
    let t := (s.bump 0x381801).logAs 0x7401 .refused srcGuest 0
    have hlog : Kept 0x40 (s.bump 0x381801) t := State.logAs_quiet ..
    have heq : s.guestDenied w = ({ t with guest := { t.guest with logged := w :: t.guest.logged } } : State).reply .error :=
      congrArg (State.reply · .error) (if_neg (Bool.eq_false_iff.1 hseen))
    rw [heq] at hmem ⊢
    refine ⟨rfl, (hlog.setting_eq _).trans hcount, fun _ => ⟨?_, ?_⟩, fun h => absurd h Bool.noConfusion, hmem⟩
    · exact ((s.bump 0x381801).logAs_logged 0x7401 .refused srcGuest 0).of rfl rfl
    · exact congrArg (w :: Guest.logged ·) (hlog.agree .guest)

/-- A denied access: outside every window and a placed aperture, or without its right. -/
theorem guestAccess_denied {s : State} (hd : s.DictCanonical) (hup : s.guest.state = 3) (hrun : s.sec.halted = false) {a : GuestAccess}
    {w : Nat} (hw : s.windowOfAccess a = none ∧ (s.guestAperture = 0 ∨ s.inAperture a.addr = false) ∧ w = 8 ∨
      s.windowOfAccess a = some w ∧ (s.guestWindow w).grants a = false) :
    Completes (.guestAccess a) s fun t => t.answer = .error ∧ t.entry 0x381801 = sat32 (s.entry 0x381801) 1 ∧
      (s.guest.logged.contains w = false → s.logged t 0x7401 srcGuest 0 ∧ t.guest.logged = w :: s.guest.logged) ∧
      (s.guest.logged.contains w = true → t.log = s.log) ∧ t.mem = s.mem := by
  refine ⟨s.guestDenied w, ?_, State.guestDenied_effect hd w⟩
  obtain ⟨hnone, hout, rfl⟩ | ⟨hsome, hright⟩ := hw
  · rw [exec_guestAccess_outside hup hrun hnone, if_pos hout]
  · rw [exec_guestAccess_inside hup hrun hsome, hright]
    rfl

/-! ### The aperture (R348) -/

/-- In a placed aperture, all but an 8-byte read is an error. -/
theorem guestAccess_aperture_error {s : State} (hup : s.guest.state = 3) (hrun : s.sec.halted = false) {a : GuestAccess}
    (hw : s.windowOfAccess a = none) (hplaced : s.guestAperture ≠ 0) (hin : s.inAperture a.addr = true)
    (hother : a.op ≠ .read ∨ a.data.length ≠ 8) :
    Completes (.guestAccess a) s fun t => t.answer = .error ∧ s.sameBut [.answer, .mgmtClock] t := by
  refine ⟨s.reply .error, ?_, rfl, (s.reply_kept _).up.sameBut_mask⟩
  rw [exec_guestAccess_outside hup hrun hw, if_neg (by simp [hplaced, hin]), if_neg fun h => hother.elim (· h.1) (· h.2)]

/-- The address in the aperture of operation `op` with operand `v`. -/
def State.apertureAddress (s : State) (op v : Nat) : Nat := s.guestAperture + op * 2 ^ 51 + v * 8

section
variable {s : State} {op v : Nat} (hv : v < 2 ^ 48)
include hv

theorem State.inAperture_apertureAddress (hop : op < 8) : s.inAperture (s.apertureAddress op v) = true := by
  unfold inAperture apertureAddress
  rw [decide_eq_true_eq]
  omega

theorem State.apertureAddress_op : (s.apertureAddress op v - s.guestAperture) / 2 ^ 51 = op := by
  unfold apertureAddress
  omega

theorem State.apertureAddress_operand : (s.apertureAddress op v - s.guestAperture) % 2 ^ 51 / 8 = v := by
  unfold apertureAddress
  omega

theorem exec_guestApertureRead (hup : s.guest.state = 3) (hrun : s.sec.halted = false) (hop : op < 8) :
    exec (.guestApertureRead (s.apertureAddress op v)) s = .next (s.apertureRead (s.apertureAddress op v)) := by
  show execGuestApertureRead _ s = _
  unfold execGuestApertureRead
  simp only [State.guest_reached hup hrun, State.inAperture_apertureAddress hv hop, Bool.not_true, Bool.or_self, Bool.false_eq_true,
    if_false]

theorem State.apertureRead_error (hop : 5 ≤ op) : s.apertureRead (s.apertureAddress op v) = s.reply .error := by
  unfold apertureRead
  simp only [State.apertureAddress_op hv, hop, if_true]

theorem State.apertureRead_closed (hop : op < 5) (hclosed : s.guestHandle (v % 2 ^ 32) = false) :
    s.apertureRead (s.apertureAddress op v) = (s.bump 0x381801).reply (.ok (2 ^ 63 + 1)) := by
  unfold apertureRead
  simp only [State.apertureAddress_op hv, State.apertureAddress_operand hv, Nat.not_le.2 hop, hclosed, Bool.not_false, if_true, if_false]

/-- The operation on an open handle succeeds. -/
theorem State.apertureRead_performs (hop : op < 5) (hopen : s.guestHandle (v % 2 ^ 32) = true) {t : State} {r : Nat}
    (hdone : s.channelOp op v = .inr (t, r)) : s.apertureRead (s.apertureAddress op v) = t.reply (.ok r) := by
  unfold apertureRead
  simp only [State.apertureAddress_op hv, State.apertureAddress_operand hv, Nat.not_le.2 hop, hopen, hdone, Bool.not_true,
    Bool.false_eq_true, if_false]

end

/-- `chcount` of a channel of any type (R299). -/
theorem State.chcount_eq {s : State} {v slot : Nat} {d : Channel} (h : s.lookup (v % 2 ^ 32) = .inr (slot, d)) (hv : v < 2 ^ 32)
    (hlow : 1 ≤ d.type) (hhigh : d.type ≤ 3) : s.chcount v = .inr (s, d.occupied + d.free * 2 ^ 32) := by
  have htype : [1, 2, 3].contains d.type = true := by simp; omega
  unfold chcount
  rw [State.onChannel_eq h htype, if_neg (Nat.not_le.2 hv)]

/-- `chreserve` of a channel that takes messages and has an unused entry (R313). -/
theorem State.chreserve_eq {s : State} {v slot : Nat} {d : Channel} (h : s.lookup (v % 2 ^ 32) = .inr (slot, d)) (hv : v < 2 ^ 32)
    (hlow : 2 ≤ d.type) (hhigh : d.type ≤ 3) (hroom : d.slots.length < d.depth) :
    s.chreserve v = .inr (s.setChannel slot { d with slots := d.slots ++ [.reserved] }, entryResult d d.nextFree) := by
  have htype : [2, 3].contains d.type = true := by simp; omega
  unfold chreserve
  rw [State.onChannel_eq h htype, if_neg (Nat.not_le.2 hv), if_neg fun h => Nat.not_le.2 hroom (Channel.unused_eq_zero_iff.1 h)]

section
variable {s : State} (hup : s.guest.state = 3) (hrun : s.sec.halted = false) {op v : Nat} (hv : v < 2 ^ 48)
include hup hrun hv

theorem guestApertureRead_error (hop : op < 8) (herror : 5 ≤ op) :
    Completes (.guestApertureRead (s.apertureAddress op v)) s fun t => t.answer = .error ∧ s.sameBut [.answer, .mgmtClock] t :=
  ⟨s.reply .error, by rw [exec_guestApertureRead hv hup hrun hop, State.apertureRead_error hv herror], rfl,
    (s.reply_kept _).up.sameBut_mask⟩

theorem guestApertureRead_closed (hd : s.DictCanonical) (hop : op < 5) (hclosed : s.guestHandle (v % 2 ^ 32) = false) :
    Completes (.guestApertureRead (s.apertureAddress op v)) s fun t => t.answer = .ok (2 ^ 63 + 1) ∧
      t.entry 0x381801 = sat32 (s.entry 0x381801) 1 ∧ t.chan = s.chan :=
  ⟨(s.bump 0x381801).reply (.ok (2 ^ 63 + 1)),
    by rw [exec_guestApertureRead hv hup hrun (Nat.lt_of_lt_of_le hop (by decide)), State.apertureRead_closed hv hop hclosed],
    rfl, State.entry_bump_same hd _, rfl⟩

theorem exec_guestApertureRead_performs (hop : op < 5) (hopen : s.guestHandle (v % 2 ^ 32) = true) {t : State} {r : Nat}
    (hdone : s.channelOp op v = .inr (t, r)) : exec (.guestApertureRead (s.apertureAddress op v)) s = .next (t.reply (.ok r)) := by
  rw [exec_guestApertureRead hv hup hrun (Nat.lt_of_lt_of_le hop (by decide)), State.apertureRead_performs hv hop hopen hdone]

variable (hopen : s.guestHandle (v % 2 ^ 32) = true) {slot : Nat} {d : Channel} (hlookup : s.lookup (v % 2 ^ 32) = .inr (slot, d))
  (hshort : v < 2 ^ 32) (hhigh : d.type ≤ 3)
include hopen hlookup hshort hhigh

theorem guestApertureRead_counts (hlow : 1 ≤ d.type) :
    Completes (.guestApertureRead (s.apertureAddress 4 v)) s fun t =>
      t.answer = .ok (d.occupied + d.free * 2 ^ 32) ∧ s.sameBut [.answer, .mgmtClock] t :=
  ⟨_, exec_guestApertureRead_performs hup hrun hv (by decide) hopen (State.chcount_eq hlookup hshort hlow hhigh), rfl,
    (s.reply_kept _).up.sameBut_mask⟩

theorem guestApertureRead_reserves (hlow : 2 ≤ d.type) (hroom : d.slots.length < d.depth) :
    Completes (.guestApertureRead (s.apertureAddress 2 v)) s fun t =>
      t.channel slot = some { d with slots := d.slots ++ [.reserved] } ∧ s.sameBut [.answer, .mgmtClock, .chan] t :=
  ⟨_, exec_guestApertureRead_performs hup hrun hv (by decide) hopen (State.chreserve_eq hlookup hshort hlow hhigh hroom),
    State.channel_setChannel (State.channel_of_lookup hlookup) _, ((s.setChannel_kept ..).up.trans (State.reply_kept ..).up).sameBut_mask⟩

end

/-! ### What the link leaves (R343, R344, R350) -/

/-- Erasing from a list its elements that meet `p`, one after another, leaves those that do not. -/
theorem foldl_erase_filter {α : Type} [DecidableEq α] (p : α → Bool) (l : List α) :
    (l.filter p).foldl List.erase l = l.filter fun x => !p x := by
  suffices h : ∀ k : List α, (∀ x ∈ k, p x = false) →
      (l.filter p).foldl List.erase (k ++ l) = k ++ l.filter fun x => !p x from h [] fun _ hx => nomatch hx
  induction l with
  | nil => exact fun _ _ => rfl
  | cons x l ih =>
    intro k hk
    cases hx : p x with
    | true =>
      have hnot : x ∉ k := fun hmem => Bool.noConfusion ((hk x hmem).symm.trans hx)
      simp only [List.filter_cons, hx, if_true, List.foldl_cons, List.erase_append_right _ hnot, List.erase_cons_head, Bool.not_true,
        Bool.false_eq_true, if_false]
      exact ih k hk
    | false =>
      have h := ih (k ++ [x]) fun y hy => (List.mem_append.1 hy).elim (hk y) fun hy => List.mem_singleton.1 hy ▸ hx
      simpa [List.filter_cons, hx] using h

theorem State.complete_outstanding (s : State) (req : Nat) (a : Answer) : (s.complete req a).rings.outstanding = s.rings.outstanding := by
  unfold complete capture
  dsimp only
  split
  · split <;> rfl
  · rfl

/-- Requests that are answered with an error leave the timer, and no other does. -/
theorem State.foldl_error_outstanding (l : List Outstanding) (s : State) :
    (l.foldl (fun s o => (s.withRings fun r => { r with outstanding := r.outstanding.erase o }).complete o.requester .error) s).rings.outstanding =
      l.foldl List.erase s.rings.outstanding := by
  induction l generalizing s with
  | nil => rfl
  | cons o l ih => rw [List.foldl_cons, ih, State.complete_outstanding]; rfl

theorem hdrType_ringHeader (dest src prio type flits tag requester : Nat) (design : Bool) :
    hdrType (ringHeader dest src prio type flits tag requester design) = type % 2 ^ 4 := by
  have hdesign : b2n design ≤ 1 := by cases design <;> decide
  unfold hdrType bits ringHeader
  rw [Nat.shiftRight_eq_div_pow]
  omega

theorem hdrType_packetSent (p : RingPacket) : hdrType (packetSent p).header = hdrType p.header :=
  (hdrType_ringHeader ..).trans (Nat.mod_mod _ _)

/-- An error completion is no request. -/
theorem isRequest_packetSent_error {p : RingPacket} (h : hdrType p.header = 9) : isRequest (packetSent p).header = false := by
  unfold isRequest
  rw [hdrType_packetSent, h]
  exact Bool.and_false _

/-- A packet that is no request starts no timer. -/
theorem State.inject_untimed (s : State) {x : Transit} (h : isRequest x.packet.header = false) :
    (s.inject x).rings.outstanding = s.rings.outstanding := if_neg (Bool.eq_false_iff.1 h)

theorem State.sendAnswer_error_outstanding (s : State) (stop : Nat) (p : RingPacket) :
    (s.sendAnswer stop p .error).rings.outstanding = s.rings.outstanding := by
  unfold sendAnswer
  exact s.inject_untimed (isRequest_packetSent_error (hdrType_ringHeader ..))

theorem State.failHeld_outstanding (s : State) (x : Held) : (s.failHeld x).rings.outstanding = s.rings.outstanding := by
  cases x with
  | packet p =>
    unfold failHeld
    dsimp only
    split
    · exact s.sendAnswer_error_outstanding ..
    · rfl
  | access a => exact s.complete_outstanding ..

theorem State.foldl_failHeld_outstanding (l : List Held) (s : State) :
    (l.foldl State.failHeld s).rings.outstanding = s.rings.outstanding := by
  induction l generalizing s with
  | nil => rfl
  | cons x l ih => rw [List.foldl_cons, ih, State.failHeld_outstanding]

/-- The link goes down: no request to the guest is timed any longer. -/
theorem State.guestDrop_outstanding (s : State) (n : Nat) :
    (s.guestDrop n).rings.outstanding = s.rings.outstanding.filter fun x => decide (x.address < guestStart) := by
  unfold guestDrop
  refine (State.foldl_failHeld_outstanding ..).trans ((State.foldl_error_outstanding ..).trans ((foldl_erase_filter ..).trans ?_))
  exact List.filter_congr fun x _ => by rw [← decide_not]; exact decide_eq_decide.2 Nat.not_le

/-- The link goes down: the guest's own requests are discarded. -/
theorem State.guestDrop_guest (s : State) (n : Nat) :
    (s.guestDrop n).guest = { s.guest with state := n, linkRate := 0, waiting := [] } := by
  unfold guestDrop
  refine congrArg (fun g : Guest => { g with state := n, linkRate := 0, waiting := [] }) (Kept.agree (m := 0x12000000) ?_ .guest)
  exact .foldl (fun _ _ => State.failHeld_kept ..)
    ((Kept.foldl (fun _ _ => (State.withRings_kept ..).up.trans (State.complete_kept ..)) (.refl s)).trans (State.withRings_kept ..).up)

theorem guestDescriptorReceived_stores {s : State} (hup : s.guest.state = 3) {bs : List Byte} (hlength : bs.length = 256) :
    Completes (.guestDescriptorReceived bs) s fun t => t.guest = { s.guest with descriptor := bs } ∧ s.sameBut [.guest] t :=
  ⟨_, congrArg Host.Outcome.next (if_pos ⟨by simp [State.guestUp, hup], hlength⟩), rfl, (s.withGuest_kept _).up.sameBut_mask⟩

theorem guestSleepRequest_sleeps {s : State} (hup : s.guest.state = 3) (hwaiting : s.guest.waiting = []) (hheld : s.rings.held = [])
    (houtstanding : s.rings.outstanding = []) : Completes .guestSleepRequest s fun t =>
      t.guest = { s.guest with state := 4 } ∧ t.rings = { s.rings with sleeping := s.rings.sleeping ++ [8] } ∧
        s.sameBut [.guest, .rings] t :=
  ⟨_, congrArg Host.Outcome.next (if_pos (by simp [State.guestUp, hup, hwaiting, hheld, houtstanding])), rfl, rfl,
    ((s.withGuest_kept _).up.trans (State.withRings_kept ..).up).sameBut_mask⟩

theorem guestLinkLost_drops {s : State} (hlink : s.guest.state = 3 ∨ s.guest.state = 4) : Completes .guestLinkLost s fun t =>
    t.guest.state = 2 ∧ t.guest.linkRate = 0 ∧ t.guest.waiting = [] ∧ t.log.active.any (fun f => f.code == 0x6401) = true ∧
      t.rings.outstanding = s.rings.outstanding.filter (fun x => decide (x.address < guestStart)) ∧ t.mem = s.mem := by
  let u := (s.guestDrop 2).logAs 0x6401 .stop srcGuest 0
  have hlog : Kept 0x400200450 (s.guestDrop 2) u := State.logAs_kept ..
  have hstop : Kept 0x100000080100 u (if u.usesGuest then u.raiseStop 7 hubUnit 0x6401 else u) :=
    Kept.ite (u.raiseStop_kept ..) (.refl u)
  have he : exec .guestLinkLost s = .next (if u.usesGuest then u.raiseStop 7 hubUnit 0x6401 else u) :=
    congrArg Host.Outcome.next (if_pos hlink)
  have hguest := (hstop.agree .guest).trans ((hlog.agree .guest).trans (s.guestDrop_guest 2))
  refine ⟨_, he, congrArg Guest.state hguest, congrArg Guest.linkRate hguest, congrArg Guest.waiting hguest, ?_, ?_, ?_⟩
  · rw [show Log.active _ = _ from congrArg Log.active (hstop.agree .log)]
    exact State.logAs_active (row := ⟨0x6401, .error, .stop⟩) (by decide +kernel) rfl _ _ _
  · exact (congrArg Rings.outstanding ((hstop.agree .rings).trans (hlog.agree .rings))).trans (s.guestDrop_outstanding 2)
  · exact hstop.mem_eq.trans (hlog.mem_eq.trans (s.guestDrop_kept 2).mem_eq)

theorem guestLinkUp_trains {s : State} (htrains : s.guest.state = 2) {r : Nat} (hr : r ∈ [4, 8, 12, 16]) :
    Completes (.guestLinkUp r) s fun t => t.guest = { s.guest with state := 3, linkRate := r } ∧
      t.log.active = s.log.active.filter (fun f => !(f.code == 0x6402)) ∧ s.sameBut [.guest, .log] t :=
  ⟨_, congrArg Host.Outcome.next (if_pos ⟨htrains, List.contains_iff_mem.2 hr⟩), rfl, rfl,
    ((s.withGuest_kept _).up.trans (State.endCode_kept ..).up).sameBut_mask⟩

/-! ### Power (R349) -/

/-- A cut removes the guest's supply, and 0x1411 is active. -/
theorem State.cutGuest_effect (s : State) : s.cutGuest.guest.state = 5 ∧ s.cutGuest.guest.cut = true ∧
    s.cutGuest.log.active.any (fun f => f.code == 0x1411) = true := by
  have hguest : s.cutGuest.guest = { s.guest with state := 5, linkRate := 0, waiting := [], cut := true, zeroWritten := false } :=
    (State.logAs_guest ..).trans (congrArg (fun g : Guest => { g with cut := true, zeroWritten := false }) (s.guestDrop_guest 5))
  exact ⟨congrArg Guest.state hguest, congrArg Guest.cut hguest,
    State.logAs_active (row := ⟨0x1411, .fatal, .blocked⟩) (by decide +kernel) rfl _ _ _⟩

section
variable {s : State} (hsupplied : 2 ≤ s.guest.state) (hnotcut : s.guest.state < 5) {p : Nat}
include hsupplied hnotcut

/-- The guest is supplied: neither absent nor cut. -/
theorem State.guest_supplied : ¬ (s.guest.state < 2 ∨ s.guest.state = 5) := by omega

theorem guestPowerReport_tenMilliseconds_over (h : s.guestLimit < p) : Completes (.guestPowerReport .tenMilliseconds p) s fun t =>
    t.log.active.any (fun f => f.code == 0x1410) = true ∧ t.guest = s.guest := by
  let u := s.logAs 0x1410 .stop srcHub 0
  have hstop : Kept 0x100000080100 u (u.raiseStop 7 hubUnit 0x1410) := u.raiseStop_kept ..
  refine ⟨_, congrArg Host.Outcome.next ((if_neg (State.guest_supplied hsupplied hnotcut)).trans (if_pos h)), ?_,
    (hstop.agree .guest).trans (State.logAs_guest ..)⟩
  rw [show Log.active _ = _ from congrArg Log.active (hstop.agree .log)]
  exact State.logAs_active (row := ⟨0x1410, .error, .stop⟩) (by decide +kernel) rfl _ _ _

theorem guestPowerReport_tenMilliseconds_within (h : p ≤ s.guestLimit) : Completes (.guestPowerReport .tenMilliseconds p) s fun t =>
    s.sameBut [] t :=
  ⟨_, congrArg Host.Outcome.next ((if_neg (State.guest_supplied hsupplied hnotcut)).trans (if_neg (Nat.not_lt.2 h))),
    (Kept.refl s).sameBut_mask⟩

theorem guestPowerReport_oneMillisecond_within (h : 4 * p ≤ 5 * s.guestLimit) : Completes (.guestPowerReport .oneMillisecond p) s fun t =>
    t.guest = { s.guest with power := p % 2 ^ 16 } ∧ s.sameBut [.guest] t :=
  ⟨s.withGuest fun g => { g with power := p % 2 ^ 16 },
    congrArg Host.Outcome.next ((if_neg (State.guest_supplied hsupplied hnotcut)).trans (if_neg (Nat.not_lt.2 h))), rfl,
    (s.withGuest_kept _).up.sameBut_mask⟩

theorem guestPowerReport_oneMillisecond_over (h : 5 * s.guestLimit < 4 * p) : Completes (.guestPowerReport .oneMillisecond p) s fun t =>
    t.guest.state = 5 ∧ t.guest.cut = true ∧ t.log.active.any (fun f => f.code == 0x1411) = true :=
  ⟨(s.withGuest fun g => { g with power := p % 2 ^ 16 }).cutGuest,
    congrArg Host.Outcome.next ((if_neg (State.guest_supplied hsupplied hnotcut)).trans (if_pos h)), State.cutGuest_effect _⟩

theorem guestPowerReport_tenMicroseconds_over (h : 275 < p) : Completes (.guestPowerReport .tenMicroseconds p) s fun t =>
    t.guest.state = 5 ∧ t.guest.cut = true ∧ t.log.active.any (fun f => f.code == 0x1411) = true :=
  ⟨s.cutGuest, congrArg Host.Outcome.next ((if_neg (State.guest_supplied hsupplied hnotcut)).trans (if_pos h)),
    State.cutGuest_effect s⟩

end

theorem State.endCode_active (s : State) (code : Nat) : (s.endCode code).log.active.any (fun a => a.code == code) = false := by
  show (s.log.active.filter _).any _ = false
  rw [List.any_eq_false]
  intro a ha
  have hnot := (List.mem_filter.1 ha).2
  rwa [Bool.not_eq_true', ← Bool.not_eq_true] at hnot

/-- What a write of the power enable leaves of a cut: a 0 is noted, and a 1 after it ends the cut and 0x1411. -/
def State.cutAnswered (s : State) (v : Nat) : State :=
  if s.guest.cut then
    if v = 0 then s.withGuest fun g => { g with zeroWritten := true }
    else if s.guest.zeroWritten then (s.withGuest fun g => { g with cut := false, zeroWritten := false }).endCode 0x1411
    else s
  else s

theorem exec_guestPowerEnableWrite {s : State} {req : Nat} (h : s.mayWrite req guestEnableKey = true) {v : Nat} (hv : v < 2) :
    exec (.guestPowerEnableWrite req v) s = .next (((s.putEntry guestEnableKey v).cutAnswered v).supplyGuest.accept) := by
  obtain ⟨e, hentry, htype, hrule⟩ : ∃ e, entryOf guestEnableKey = some e ∧ e.type = .bool ∧ e.rule = .any := by decide +kernel
  refine congrArg Host.Outcome.next ((State.writingValue_eq h hentry (by rw [hrule]; rfl) _).trans ?_)
  rw [htype, show v % 2 ^ EntryType.bool.width = v from Nat.mod_eq_of_lt hv]
  rfl

section
variable {s : State} (hfitted : s.part.guest = true) (hcut : s.guest.cut = false)
include hfitted hcut

/-- The entry reads 1: a guest without supply gets it, and its link trains. -/
theorem State.supplyGuest_on (hawake : s.asleep = false) (hon : s.entry guestEnableKey = 1)
    (hoff : s.guest.state = 1 ∨ s.guest.state = 5) : s.supplyGuest = s.withGuest fun g => { g with state := 2 } := by
  unfold supplyGuest
  simp only [hfitted, hcut, Bool.not_true, Bool.or_self, Bool.false_eq_true, if_false]
  rw [if_pos ⟨hon, hawake⟩, if_pos hoff]

/-- The entry reads 0: a guest with supply loses it. -/
theorem State.supplyGuest_off (hoff : s.entry guestEnableKey = 0) (hon : 1 < s.guest.state) : s.supplyGuest = s.guestDrop 1 := by
  unfold supplyGuest
  simp only [hfitted, hcut, Bool.not_true, Bool.or_self, Bool.false_eq_true, if_false]
  rw [if_neg fun h => Nat.zero_ne_one (hoff.symm.trans h.1), if_neg (Nat.ne_of_gt hon)]

end

section
variable {s : State} (hd : s.DictCanonical) {req : Nat} (h : s.mayWrite req guestEnableKey = true) (hfitted : s.part.guest = true)
include hd h hfitted

theorem guestPowerEnableWrite_on (hawake : s.asleep = false) (hcut : s.guest.cut = false) (hoff : s.guest.state = 1) :
    Completes (.guestPowerEnableWrite req 1) s fun t => t.entry guestEnableKey = 1 ∧ t.guest.state = 2 ∧ t.answer = .ok 0 := by
  let u := s.putEntry guestEnableKey 1
  have hentry : u.entry guestEnableKey = 1 := State.entry_putEntry_same _ _ hd
  have he := exec_guestPowerEnableWrite h (v := 1) (by decide)
  rw [show u.cutAnswered 1 = u from if_neg (Bool.eq_false_iff.1 hcut),
    State.supplyGuest_on (s := u) hfitted hcut hawake hentry (.inl hoff)] at he
  exact ⟨_, he, hentry, rfl, rfl⟩

theorem guestPowerEnableWrite_off (hcut : s.guest.cut = false) (hon : 1 < s.guest.state) :
    Completes (.guestPowerEnableWrite req 0) s fun t => t.entry guestEnableKey = 0 ∧ t.guest.state = 1 ∧ t.answer = .ok 0 := by
  let u := s.putEntry guestEnableKey 0
  have hentry : u.entry guestEnableKey = 0 := State.entry_putEntry_same _ _ hd
  have he := exec_guestPowerEnableWrite h (v := 0) (by decide)
  rw [show u.cutAnswered 0 = u from if_neg (Bool.eq_false_iff.1 hcut), State.supplyGuest_off (s := u) hfitted hcut hentry hon] at he
  exact ⟨_, he, ((u.guestDrop_kept 1).setting_eq _).trans hentry, congrArg Guest.state (u.guestDrop_guest 1), rfl⟩

theorem guestPowerEnableWrite_ends_cut (hawake : s.asleep = false) (hcut : s.guest.cut = true) (hzero : s.guest.zeroWritten = true)
    (hoff : s.guest.state = 5) : Completes (.guestPowerEnableWrite req 1) s fun t => t.guest.cut = false ∧ t.guest.state = 2 ∧
      t.log.active.any (fun f => f.code == 0x1411) = false := by
  let u := s.putEntry guestEnableKey 1
  let v := (u.withGuest fun g => { g with cut := false, zeroWritten := false }).endCode 0x1411
  have hentry : u.entry guestEnableKey = 1 := State.entry_putEntry_same _ _ hd
  have hanswered : u.cutAnswered 1 = v := (if_pos hcut).trans ((if_neg Nat.one_ne_zero).trans (if_pos hzero))
  have he := exec_guestPowerEnableWrite h (v := 1) (by decide)
  rw [hanswered, State.supplyGuest_on (s := v) hfitted rfl hawake hentry (.inr hoff)] at he
  exact ⟨_, he, rfl, rfl, State.endCode_active _ _⟩

end

/-! ### GUEST_WINDOW_WRITE (R346) -/

/-- Width in bits of an entry of a window. -/
def guestWidth (sub : Nat) : Nat := if sub ≤ 5 then 32 else if sub = 6 then 8 else 16

/-- What a window's entry stores of a value: the bits that are not reserved. -/
def guestStored (sub v : Nat) : Nat :=
  if sub = 4 then v % 2 ^ 12 else if sub = 6 then v % 2 ^ 3 else if 7 ≤ sub then v % 2 ^ 16 else v % 2 ^ 32

theorem entryOf_guestKey {w sub : Nat} (hw : w < 8) (hlow : 1 ≤ sub) (hhigh : sub ≤ 8) :
    ∃ e, entryOf (guestKey w sub) = some e ∧ e.type.width = guestWidth sub := by
  have hall : ∀ w < 8, ∀ k < 8, (entryOf (guestKey w (k + 1))).map (fun e => e.type.width) = some (guestWidth (k + 1)) := by
    decide +kernel
  have := hall w hw (sub - 1) (by omega)
  rw [Nat.sub_add_cancel hlow] at this
  exact Option.map_eq_some_iff.1 this

theorem guestStored_eq (sub v : Nat) : (if sub = 4 then v % 2 ^ guestWidth sub % 2 ^ 12
    else if sub = 6 then v % 2 ^ guestWidth sub % 2 ^ 3 else v % 2 ^ guestWidth sub) = guestStored sub v := by
  unfold guestStored
  by_cases h4 : sub = 4
  · subst h4; exact Nat.mod_mod_of_dvd v (by decide : 2 ^ 12 ∣ 2 ^ 32)
  by_cases h6 : sub = 6
  · subst h6; exact Nat.mod_mod_of_dvd v (by decide : 2 ^ 3 ∣ 2 ^ 8)
  rw [if_neg h4, if_neg h6, if_neg h4, if_neg h6]
  unfold guestWidth
  by_cases h5 : sub ≤ 5
  · rw [if_pos h5, if_neg (by omega)]
  · rw [if_neg h5, if_neg h6, if_pos (by omega)]

section
variable {s : State} {req w sub v : Nat} (hw : w < 8) (h : s.mayWrite req (guestKey w sub) = true)
  (hv : inRange (guestKey w sub) v = true) (hlow : 1 ≤ sub) (hhigh : sub ≤ 8)
include hw h hv hlow hhigh

theorem exec_guestWindowWrite {t : State} (ht : t = s.putEntry (guestKey w sub) (guestStored sub v)) :
    exec (.guestWindowWrite req w sub v) s = .next (if t.windowsOk w then
        (t.withGuest fun g => { g with tokens := listSet g.tokens w (t.guestWindow w).full }).accept
      else s.refuse req (guestKey w sub) 0x9011) := by
  obtain ⟨e, hentry, hwidth⟩ := entryOf_guestKey hw hlow hhigh
  simp only [inRange, hentry] at hv
  refine congrArg Host.Outcome.next ((if_neg (Nat.not_le.2 hw)).trans ((State.writingValue_eq h hentry hv _).trans ?_))
  subst ht
  simp only [hwidth, guestStored_eq]

theorem guestWindowWrite_stores (hd : s.DictCanonical) {t : State} (ht : t = s.putEntry (guestKey w sub) (guestStored sub v))
    (hok : t.windowsOk w = true) : Completes (.guestWindowWrite req w sub v) s fun r => r.answer = .ok 0 ∧
      r.entry (guestKey w sub) = guestStored sub v ∧ r.guest.tokens = listSet s.guest.tokens w (t.entry (guestKey w 8) * 1024000) ∧
      s.sameBut [.answer, .mgmtClock, .dict, .guest] r := by
  have he := exec_guestWindowWrite hw h hv hlow hhigh ht
  rw [if_pos hok] at he
  have hstored : t.entry (guestKey w sub) = guestStored sub v := ht ▸ State.entry_putEntry_same _ _ hd
  have hguest : t.guest = s.guest := ht ▸ rfl
  have hkept : Kept 0x2 s t := ht ▸ s.putEntry_kept ..
  refine ⟨_, he, rfl, hstored, ?_, (hkept.up.trans ((t.withGuest_kept _).up.trans (State.accept_kept _).up)).sameBut_mask⟩
  show listSet t.guest.tokens w (t.entry (guestKey w 8) * 1024 * 1000) = _
  rw [hguest, Nat.mul_assoc]

theorem guestWindowWrite_refused {t : State} (ht : t = s.putEntry (guestKey w sub) (guestStored sub v)) (hbad : t.windowsOk w = false) :
    Completes (.guestWindowWrite req w sub v) s fun r => s.logged r 0x9011 srcHub (accessArg req (guestKey w sub)) ∧
      r.answer = refusedAnswer req ∧ r.dict = s.dict ∧ r.guest = s.guest := by
  have he := exec_guestWindowWrite hw h hv hlow hhigh ht
  rw [if_neg (Bool.eq_false_iff.1 hbad)] at he
  obtain ⟨hlogged, hanswer, -, -, hsame⟩ := s.refuse_9011 req (guestKey w sub)
  exact ⟨_, he, hlogged, hanswer, hsame .dict (by decide), hsame .guest (by decide)⟩

end

end Sys2Proof.Machine

open Sys2Proof Sys2Proof.Machine

/-- Settles O41: an access by the lemma of what its window or the aperture answers, and each other command by the lemma of its outcome. -/
theorem guestCommandsTakeEffect : Obligations.GuestCommandsTakeEffect := by
  intro s hd hm
  refine ⟨fun hup hrun => ⟨fun a w x y hw hx hy hgrants => ?window, fun _ _ => guestAccess_denied hd hup hrun,
      fun _ => guestAccess_aperture_error hup hrun, fun op v hop hv => ?aperture, fun _ => guestDescriptorReceived_stores hup,
      guestSleepRequest_sleeps hup⟩,
    guestLinkLost_drops, fun htrains _ => guestLinkUp_trains htrains, fun hsupplied hnotcut p => ?power,
    fun req h hfitted hawake => ⟨guestPowerEnableWrite_on hd h hfitted hawake, guestPowerEnableWrite_off hd h hfitted,
      guestPowerEnableWrite_ends_cut hd h hfitted hawake⟩, fun req w sub v u hw h hv hlow hhigh hu => ?write⟩
  case window =>
    subst hx
    refine ⟨fun hrate _ hpermits hend hwipe _ => ?_, guestAccess_waits hup hrun hd hw hgrants⟩
    have hscratch : ScratchAccess s a w y := ⟨hw, hy, hgrants, hrate, hpermits, hend, hwipe⟩
    exact ⟨hscratch.writes hup hrun hm, hscratch.reads hup hrun⟩
  case aperture =>
    refine ⟨guestApertureRead_error hup hrun hv hop, guestApertureRead_closed hup hrun hv hd,
      fun slot d hopen hlookup hshort hlow hhigh => ⟨?_, ?_⟩⟩
    · rintro rfl
      exact guestApertureRead_counts hup hrun hv hopen hlookup hshort hhigh hlow
    · rintro rfl
      exact guestApertureRead_reserves hup hrun hv hopen hlookup hshort hhigh
  case power =>
    exact ⟨guestPowerReport_tenMilliseconds_over hsupplied hnotcut, guestPowerReport_tenMilliseconds_within hsupplied hnotcut,
      guestPowerReport_oneMillisecond_within hsupplied hnotcut, guestPowerReport_oneMillisecond_over hsupplied hnotcut,
      guestPowerReport_tenMicroseconds_over hsupplied hnotcut⟩
  case write =>
    subst hu
    exact ⟨guestWindowWrite_stores hw h hv hlow hhigh hd rfl, guestWindowWrite_refused hw h hv hlow hhigh rfl⟩

end
